-- ==== Sys2Proof/Word.lean ====
section
/-!
DEFINITION. The word of the register bus and the bytes of the windows (R65), and the plainest arithmetic on them.
-/
namespace Sys2Proof

/-- A register is accessed only as a whole 32-bit word (R65). -/
abbrev Word := BitVec 32
abbrev Byte := BitVec 8

/-- `v` brought into the range `lo` to `hi`: "stored as the nearer limit" (R94, R114, R232 and others). -/
def clamp (lo hi v : Nat) : Nat := if v < lo then lo else if hi < v then hi else v

/-- The two's complement reading of the low `w` bits of `v`. -/
def signed (w v : Nat) : Int := if v % 2 ^ w < 2 ^ (w - 1) then (v % 2 ^ w : Int) else (v % 2 ^ w : Int) - 2 ^ w

/-- The low `w` bits of an integer, two's complement. -/
def unsigned (w : Nat) (i : Int) : Nat := (i % (2 ^ w : Int)).toNat

/-- `i` brought into the range `lo` to `hi`. -/
def clampInt (lo hi i : Int) : Int := if i < lo then lo else if hi < i then hi else i

/-- One more, saturating at the largest value of `w` bits. -/
def satInc (w v : Nat) : Nat := if v + 1 < 2 ^ w then v + 1 else 2 ^ w - 1

/-- Bit `n` of `v`. -/
def bitOf (v n : Nat) : Bool := v / 2 ^ n % 2 == 1

/-- `v` with bit `n` set to `b`. -/
def withBit (v n : Nat) (b : Bool) : Nat := v - (v / 2 ^ n % 2) * 2 ^ n + (if b then 2 ^ n else 0)

def b2n (b : Bool) : Nat := if b then 1 else 0

/-- Number of bits set among the low 32. -/
def popcount (v : Nat) : Nat := ((List.range 32).filter fun n => bitOf v n).length

/-- `n / d` rounded to nearest, ties away from zero. -/
def rndDiv (n : Int) (d : Nat) : Int :=
  if 0 ≤ n then ((2 * n.toNat + d) / (2 * d) : Nat) else -(((2 * (-n).toNat + d) / (2 * d) : Nat) : Int)

/-- The count kept for `k`, 0 where there is none. -/
def countOf (l : List (Nat × Nat)) (k : Nat) : Nat := ((l.find? fun p => p.1 == k).map Prod.snd).getD 0

/-- `l` with the count for `k` set to `n`. -/
def setCount (l : List (Nat × Nat)) (k n : Nat) : List (Nat × Nat) := (k, n) :: l.filter fun p => p.1 != k

end Sys2Proof
end

