-- ==== Sys2Proof/Syntax.lean ====
section
/-!
DEFINITION. The commands and events of the block: one constructor per row of spec/opcode_table.json, with the operands the
spec gives them (a key, a value written, a reading of the environment, a packet's contents).
-/
namespace Sys2Proof

/-- A published frame (R243): flags as R244, samples as 16-bit codes (R242, R245), channel 0 first. -/
structure Frame where
  epoch : Nat
  index : Nat
  flags : Nat
  samples : List Nat
  deriving DecidableEq, Repr

/-- A phasor: real and imaginary part. -/
structure Phasor where
  re : Int
  im : Int
  deriving DecidableEq, Repr

/-- A control packet (R351): destination, source, kind, SEQ, data blocks of 64 bits, and the tag block of an authenticated kind (R353), 0
without one. -/
structure Pkt where
  dst : Nat
  src : Nat
  kind : Nat
  seq : Nat
  data : List Nat
  tag : Nat
  deriving DecidableEq, Repr

/-- Who makes an access to a register: firmware of a service core, the host over xSPI or over I2C, or a mirror packet of the ring with
the session level it carries (R376). -/
inductive Src where
  | core
  | xspi
  | i2c
  | ring (level : Fin 4)
  deriving DecidableEq, Repr

/-- The commands and events of spec/opcode_table.json, one constructor per row, in the table's order. -/
inductive Instr where
  /-- AON_POWER_UP (R98). -/
  | aonPowerUp (vsys vbkup role testen a0 : Bool)
  /-- VSYS_RISE_THRESHOLD (R98). -/
  | vsysRiseThreshold (role testen a0 : Bool)
  /-- VSYS_FALL_THRESHOLD (R10). -/
  | vsysFallThreshold
  /-- INTERNAL_MONITOR_FALL (R117). -/
  | internalMonitorFall (k : Fin 6) (role testen a0 : Bool)
  /-- VBKUP_AVAILABLE (R10). -/
  | vbkupAvailable
  /-- VBKUP_UNAVAILABLE (R10). -/
  | vbkupUnavailable
  /-- ROOT_MISSING_EDGE (R19). -/
  | rootMissingEdge
  /-- ROOT_MEAS_WINDOW_END (R19). -/
  | rootMeasWindowEnd (freq : Nat)
  /-- MPLL_REACQUIRED (R19). -/
  | mpllReacquired
  /-- MPLL_LOCK (R16). -/
  | mpllLock
  /-- ROOT_START_TIMEOUT (R591). -/
  | rootStartTimeout
  /-- LPLL_LOCK (R16). -/
  | lpllLock
  /-- MPLL_UNLOCK (R24). -/
  | mpllUnlock
  /-- LPLL_UNLOCK (R24). -/
  | lpllUnlock
  /-- ROOT_RETRY (R20). -/
  | rootRetry (src : Src) (key : BitVec 16)
  /-- ROOT_RETRY_SUCCESS (R20). -/
  | rootRetrySuccess
  /-- ROOT_RETRY_FAIL (R20). -/
  | rootRetryFail
  /-- LFXO_QUALIFIED (R21). -/
  | lfxoQualified
  /-- LFXO_LOSS (R21). -/
  | lfxoLoss
  /-- CLK_LF_CFG_WRITE (R21). -/
  | clkLfCfgWrite (src : Src) (w : Word)
  /-- CLK_STEER_WRITE (R17). -/
  | clkSteerWrite (src : Src) (w : Word)
  /-- REGISTER_WRITE (R7). -/
  | registerWrite (src : Src) (a : BitVec 18) (w : Word)
  /-- SHADOW_WRITE (R56). -/
  | shadowWrite (src : Src) (page : Fin 40) (w : Word)
  /-- LOCK_WRITE (R54). -/
  | lockWrite (src : Src) (page : Fin 40) (key : BitVec 16) (lock : Bool)
  /-- STG_REGISTER_WRITE (R61). -/
  | stgRegisterWrite (src : Src) (a : BitVec 18) (w : Word)
  /-- STAGE_DISCARD (R59). -/
  | stageDiscard (src : Src) (page : Fin 40) (view : Bool)
  /-- STAGE_VIEW (R59). -/
  | stageView (src : Src) (page : Fin 40) (view : Bool)
  /-- MODE_REQ_PIN (R83). -/
  | modeReqPin (src : Src) (t : Fin 5)
  /-- MODE_REQ_SERVICE (R83). -/
  | modeReqService (src : Src)
  /-- MODE_REQ_SAFEHOLD (R83). -/
  | modeReqSafehold (src : Src)
  /-- MODE_REQ_FACTORY (R83). -/
  | modeReqFactory (src : Src)
  /-- MODE_REQ_AUTO (R83). -/
  | modeReqAuto (src : Src)
  /-- MODE_LTOL_WRITE (R79). -/
  | modeLtolWrite (src : Src) (n : Fin 8) (w : Word)
  /-- MODE_ATT_PER_WRITE (R94). -/
  | modeAttPerWrite (src : Src) (w : Word)
  /-- MODE_DORM_PER_WRITE (R94). -/
  | modeDormPerWrite (src : Src) (w : Word)
  /-- MODE_CFG_WRITE (R93). -/
  | modeCfgWrite (src : Src) (w : Word)
  /-- MODE_IDLE_I_WRITE (R82). -/
  | modeIdleIWrite (src : Src) (w : Word)
  /-- ASCENT_DONE (R85). -/
  | ascentDone
  /-- DWELL_EXPIRY (R84). -/
  | dwellExpiry
  /-- DESCENT_DONE (R85). -/
  | descentDone
  /-- WAKE_PIN_RISE (R87). -/
  | wakePinRise
  /-- STACK_WAKE (R87). -/
  | stackWake
  /-- WAKE_HOLD_EXPIRY (R87). -/
  | wakeHoldExpiry
  /-- DORMANT_CHECK_TIMER (R86). -/
  | dormantCheckTimer
  /-- DORMANT_CHECK_DONE (R86). -/
  | dormantCheckDone (hit : Bool)
  /-- RESET_N_FALL (R100). -/
  | resetNFall
  /-- RESET_N_ACCEPT (R100). -/
  | resetNAccept
  /-- RESET_N_RISE (R100). -/
  | resetNRise
  /-- RST_CMD_SYS (R112). -/
  | rstCmdSys (src : Src) (key : BitVec 16)
  /-- RST_CMD_CORE (R102). -/
  | rstCmdCore (src : Src) (key : BitVec 16) (cores : Fin 8)
  /-- FIXED_RAIL_STEP (R133). -/
  | fixedRailStep
  /-- VSYS_QUALIFICATION_END (R133). -/
  | vsysQualificationEnd
  /-- FIXED_RAILS_SETTLED (R133). -/
  | fixedRailsSettled
  /-- FIXED_RAIL_TIMEOUT (R133). -/
  | fixedRailTimeout
  /-- FIXED_RAIL_RETRY (R133). -/
  | fixedRailRetry
  /-- OTP_LOAD_DONE (R104). -/
  | otpLoadDone
  /-- FILL_DONE (R525). -/
  | fillDone (us : Nat)
  /-- PATCH_VERIFY_DONE (R562). -/
  | patchVerifyDone (core : Fin 3)
  /-- CORE_RELEASE (R104). -/
  | coreRelease (rb : BitVec 25)
  /-- REG_BK_VSET_WRITE (R119). -/
  | regBkVsetWrite (src : Src) (w : Word)
  /-- REG_LD_VSET_WRITE (R119). -/
  | regLdVsetWrite (src : Src) (n : Fin 3) (w : Word)
  /-- REG_RAMP_DONE (R119). -/
  | regRampDone (k : Fin 10)
  /-- BUCK_ILIM_PERSIST (R115). -/
  | buckIlimPersist (n : Fin 4) (cycles : Nat)
  /-- LDO_ILIM_PERSIST (R116). -/
  | ldoIlimPersist (n : Fin 6) (us : Nat)
  /-- SV_CFG_WRITE (R124). -/
  | svCfgWrite (src : Src) (n : Fin 16) (w : Word)
  /-- SV_FAULT (R124). -/
  | svFault (n : Fin 16) (uv clks : Nat)
  /-- SV_CONDITION_CLEAR (R124). -/
  | svConditionClear (n : Fin 16) (uv : Nat) (expiry : Bool)
  /-- SV_SHUTDOWN_TIMER (R124). -/
  | svShutdownTimer (n : Fin 16)
  /-- SEQ_GO (R148). -/
  | seqGo (src : Src) (key : BitVec 16)
  /-- SEQ_STOP (R148). -/
  | seqStop (src : Src) (key : BitVec 16)
  /-- SEQ_SLOT_ON (R147). -/
  | seqSlotOn (src : Src) (key : BitVec 16) (n : Fin 32)
  /-- SEQ_SLOT_OFF (R147). -/
  | seqSlotOff (src : Src) (key : BitVec 16) (n : Fin 32)
  /-- SEQ_CLEAR (R152). -/
  | seqClear (src : Src) (key : BitVec 16)
  /-- SEQ_SLOT_START (R138). -/
  | seqSlotStart (n : Fin 19)
  /-- SEQ_SLOT_UP (R139). -/
  | seqSlotUp (n : Fin 19)
  /-- SEQ_UP_TIMEOUT (R143). -/
  | seqUpTimeout (n : Fin 19)
  /-- SEQ_SLOT_STOP (R141). -/
  | seqSlotStop (n : Fin 19)
  /-- SEQ_SLOT_DOWN (R141). -/
  | seqSlotDown (n : Fin 19) (uv : Nat)
  /-- SEQ_SLOT_STUCK (R141). -/
  | seqSlotStuck (n : Fin 19)
  /-- SEQ_STUCK_CLEAR (R142). -/
  | seqStuckClear (n : Fin 19) (uv : Nat)
  /-- SEQ_MIN_OFF_ELAPSED (R148). -/
  | seqMinOffElapsed
  /-- VSYS_SLOT_RETRY (R134). -/
  | vsysSlotRetry
  /-- PHC_REENABLE (R173). -/
  | phcReenable (src : Src) (key : BitVec 16) (n : Fin 8)
  /-- PHC_RAIL_VSET_WRITE (R163). -/
  | phcRailVsetWrite (src : Src) (r : Fin 4) (w : Word)
  /-- RAIL_RAMP_DONE (R163). -/
  | railRampDone (r : Fin 4)
  /-- RAIL_POWER_GOOD (R164). -/
  | railPowerGood (r : Fin 4) (fb k : Nat)
  /-- RAIL_PG_LOSS (R164). -/
  | railPgLoss (r : Fin 4) (fb : Nat)
  /-- CYCLE_LIMIT_TRIP (R166). -/
  | cycleLimitTrip (n : Fin 8) (uv t : Nat)
  /-- PHASE_ILIM_PERSIST (R167). -/
  | phaseIlimPersist (n : Fin 8) (k : Nat)
  /-- UNDERSHOOT_DETECT (R169). -/
  | undershootDetect (r : Fin 4) (fb : Nat)
  /-- UNDERSHOOT_END (R169). -/
  | undershootEnd (r : Fin 4) (fb t : Nat) (trips : BitVec 8) (d : Nat)
  /-- OVERSHOOT_DETECT (R169). -/
  | overshootDetect (r : Fin 4) (fb : Nat)
  /-- OVERSHOOT_END (R169). -/
  | overshootEnd (r : Fin 4) (fb d : Nat)
  /-- UST_HOLDOFF_END (R169). -/
  | ustHoldoffEnd (r : Fin 4) (k : Nat)
  /-- CONT_ARM_WINDOW_END (R170). -/
  | contArmWindowEnd
  /-- PHASE_LOSS (R172). -/
  | phaseLoss (r : Fin 4) (cs : List (Nat × Nat × Nat)) (k : Nat)
  /-- FEED_IN_LIMITS (R181). -/
  | feedInLimits (n : Fin 2) (v : Nat)
  /-- FEED_VALID (R181). -/
  | feedValid (n : Fin 2)
  /-- FEED_INVALID (R181). -/
  | feedInvalid (n : Fin 2) (v : Nat)
  /-- ORING_REVERSE (R182). -/
  | oringReverse (n : Fin 2)
  /-- ORING_REDRIVE (R182). -/
  | oringRedrive (n : Fin 2)
  /-- START_LOGIC_POWER_UP (R183). -/
  | startLogicPowerUp
  /-- PRECHARGE_DONE (R184). -/
  | prechargeDone (vpb : Nat)
  /-- PC_GATE_OFF_DELAY (R184). -/
  | pcGateOffDelay
  /-- PRECHARGE_TIMEOUT (R184). -/
  | prechargeTimeout
  /-- PRECHARGE_COOL_END (R184). -/
  | prechargeCoolEnd
  /-- EFUSE_TIMED_TRIP (R185). -/
  | efuseTimedTrip (i : BitVec 16) (t : Nat)
  /-- EFUSE_FAST_TRIP (R185). -/
  | efuseFastTrip (i : BitVec 16)
  /-- EFUSE_COOL_END (R185). -/
  | efuseCoolEnd
  /-- EFUSE_TRIP_COUNT_RESET (R185). -/
  | efuseTripCountReset
  /-- FET_CHECK_FINDING (R186). -/
  | fetCheckFinding (k : Fin 6)
  /-- HANDOVER_COMPLETE (R188). -/
  | handoverComplete
  /-- PACK_LOW (R192). -/
  | packLow (mv : Nat)
  /-- PACK_PRESENT (R193). -/
  | packPresent (mv : Nat)
  /-- PACK_ABSENT (R193). -/
  | packAbsent (mv : Nat)
  /-- SUPPLEMENT_START (R191). -/
  | supplementStart
  /-- SUPPLEMENT_END (R191). -/
  | supplementEnd
  /-- FEED_EF_ON (R203). -/
  | feedEfOn (src : Src) (key : BitVec 16)
  /-- FEED_EF_OFF (R187). -/
  | feedEfOff (src : Src) (key : BitVec 16)
  /-- FEED_FET_CLEAR (R186). -/
  | feedFetClear (src : Src) (key : BitVec 16)
  /-- CHG_START (R196). -/
  | chgStart (src : Src) (key : BitVec 16)
  /-- CHG_STOP (R196). -/
  | chgStop (src : Src) (key : BitVec 16)
  /-- CHG_CLEAR (R196). -/
  | chgClear (src : Src) (key : BitVec 16)
  /-- CLEAR_LOCKOUT (R190). -/
  | clearLockout (src : Src) (key : BitVec 16)
  /-- KEEPALIVE (R199). -/
  | keepalive (src : Src) (key : BitVec 16)
  /-- PATH_FET_CLEAR (R186). -/
  | pathFetClear (src : Src) (key : BitVec 16)
  /-- CHG_PACK_WRITE (R195). -/
  | chgPackWrite (src : Src) (w : Word)
  /-- CHG_ELIGIBLE (R196). -/
  | chgEligible (vpb : Nat)
  /-- CHG_DETECT_DONE (R196). -/
  | chgDetectDone (mv : Nat)
  /-- CHG_PRECOND_DONE (R196). -/
  | chgPrecondDone (mv : Nat)
  /-- CHG_CV_ENTRY (R196). -/
  | chgCvEntry (mv : Nat)
  /-- CHG_TERMINATE (R196). -/
  | chgTerminate (ma : Nat)
  /-- CHG_TOPOFF_DONE (R196). -/
  | chgTopoffDone
  /-- CHG_RECHARGE (R196). -/
  | chgRecharge (mv : Nat)
  /-- CHG_SAFETY_TIMER (R198). -/
  | chgSafetyTimer (t8 : Nat)
  /-- CHG_OVERVOLT (R196). -/
  | chgOvervolt (mv : Nat)
  /-- CHG_SUSPEND (R197). -/
  | chgSuspend
  /-- CHG_RESUME (R197). -/
  | chgResume
  /-- HOST_CONTACT_TIMEOUT (R199). -/
  | hostContactTimeout (sec : Nat)
  /-- CONT_CLOSE (R209). -/
  | contClose (src : Src) (key : BitVec 16)
  /-- CONT_OPEN (R211). -/
  | contOpen (src : Src) (key : BitVec 16)
  /-- FT_CLEAR (R212). -/
  | ftClear (src : Src) (key : BitVec 16)
  /-- WELD_CLEAR (R213). -/
  | weldClear (src : Src) (key : BitVec 16)
  /-- LOOP_CLEAR (R215). -/
  | loopClear (src : Src) (key : BitVec 16)
  /-- CONT_NEG_SENSED (R210). -/
  | contNegSensed (p0 p1 p2 : Nat)
  /-- CONT_PULL_TIMEOUT (R210). -/
  | contPullTimeout
  /-- CONT_PRECHARGE_REACHED (R210). -/
  | contPrechargeReached (p0 p1 p2 : Nat)
  /-- CONT_PC_TIMEOUT (R210). -/
  | contPcTimeout
  /-- CONT_POS_TIME (R210). -/
  | contPosTime
  /-- CONT_RELEASE_CHECK (R210). -/
  | contReleaseCheck (p0 p1 p2 : Nat)
  /-- CONT_SAG_FAULT (R210). -/
  | contSagFault (p0 p1 p2 : Nat)
  /-- CONT_OPEN_DELAY_END (R211). -/
  | contOpenDelayEnd
  /-- CONT_NEG_DELAY_END (R211). -/
  | contNegDelayEnd
  /-- CONT_CHECK_ENTRY (R211). -/
  | contCheckEntry
  /-- WELD_EVALUATION (R213). -/
  | weldEvaluation (p0 p1 p2 : Nat)
  /-- COIL_HOLD_START (R208). -/
  | coilHoldStart (n : Fin 3)
  /-- COIL_OPEN_FAULT (R208). -/
  | coilOpenFault (n : Fin 3)
  /-- COIL_SHORT_FAULT (R208). -/
  | coilShortFault (n : Fin 3)
  /-- FAST_DISCONNECT_TRIP (R212). -/
  | fastDisconnectTrip (mag : Nat)
  /-- FT_BLANKING_END (R212). -/
  | ftBlankingEnd (pos : Bool)
  /-- FLOOP_INPUT_LOST (R215). -/
  | floopInputLost
  /-- FLOOP_INPUT_OK (R214). -/
  | floopInputOk
  /-- FLOOP_RESUME (R214). -/
  | floopResume
  /-- REF_READY (R226). -/
  | refReady
  /-- OW_START (R234). -/
  | owStart (src : Src) (key : BitVec 16)
  /-- PATH_START (R237). -/
  | pathStart (src : Src) (key : BitVec 16)
  /-- DIAG_ABORT (R233). -/
  | diagAbort (src : Src) (key : BitVec 16)
  /-- OW_AUTO_TIMER (R233). -/
  | owAutoTimer
  /-- OW_SHUTTLE_FREE (R236). -/
  | owShuttleFree
  /-- OW_BUSY_TIMEOUT (R236). -/
  | owBusyTimeout
  /-- OW_PHASE_END (R234). -/
  | owPhaseEnd
  /-- OW_BLEED_RESUME (R234). -/
  | owBleedResume
  /-- PATH_TEST_CHANNEL (R237). -/
  | pathTestChannel (zero scale : Int)
  /-- AFE_CAL_U_WRITE (R232). -/
  | afeCalUWrite (src : Src) (ch : Fin 32) (w : Word)
  /-- AFE_CFG_WRITE (R232). -/
  | afeCfgWrite (src : Src) (w : Word)
  /-- FRAME_STRIKE (R246). -/
  | frameStrike
  /-- CONVERSION_WINDOW_END (R251). -/
  | conversionWindowEnd
  /-- FRAME_PUBLISH (R247). -/
  | framePublish (raw : List Int) (poison : BitVec 32)
  /-- TRIP_REQUEST (R250). -/
  | tripRequest (ch : Fin 32) (ps : Nat) (codes : List Int)
  /-- DIRECT_RESULT_READY (R248). -/
  | directResultReady (trip : Bool) (code : Int) (poison : Bool)
  /-- SCAN_REQ_GO (R254). -/
  | scanReqGo (src : Src) (key : BitVec 16) (fw : Option (Bool × Word))
  /-- SCAN_REQUEST_COMPLETE (R254). -/
  | scanRequestComplete (entry : Nat)
  /-- BURST_DONE (R253). -/
  | burstDone (codes : List Int)
  /-- BAL_START (R279). -/
  | balStart (src : Src) (key : BitVec 16)
  /-- BAL_STOP (R279). -/
  | balStop (src : Src) (key : BitVec 16)
  /-- BAL_UNLOCK (R278). -/
  | balUnlock (src : Src) (key : BitVec 16)
  /-- BAL_LEASE (R279). -/
  | balLease (src : Src) (key : BitVec 16)
  /-- BAL_SEL_WRITE (R273). -/
  | balSelWrite (src : Src) (key : BitVec 16) (cell : Fin 32)
  /-- BAL_BLEED_WRITE (R282). -/
  | balBleedWrite (src : Src) (w : Word)
  /-- BAL_SH_I_WRITE (R272). -/
  | balShIWrite (src : Src) (w : Word)
  /-- SH_RAMP_DOWN_DONE (R275). -/
  | shRampDownDone
  /-- SH_NODES_OFF (R276). -/
  | shNodesOff
  /-- SH_STUCK_ON (R276). -/
  | shStuckOn (rb : BitVec 25)
  /-- SH_BBM_END (R276). -/
  | shBbmEnd
  /-- SH_PAIR_CLOSED (R275). -/
  | shPairClosed
  /-- SH_FAIL_TO_CLOSE (R276). -/
  | shFailToClose (rb : BitVec 25)
  /-- SH_RAMP_UP_DONE (R276). -/
  | shRampUpDone (i : BitVec 16)
  /-- SH_INTERLOCK (R277). -/
  | shInterlock (rb on : BitVec 25) (us : Nat)
  /-- SH_OVERCURRENT (R272). -/
  | shOvercurrent (i : BitVec 16) (us : Nat)
  /-- BLEED_OPEN (R270). -/
  | bleedOpen (cell : Fin 24) (ma : BitVec 16) (ms : Nat)
  /-- BLEED_BUDGET_RETURN (R269). -/
  | bleedBudgetReturn (cell : Fin 24)
  /-- POLICY_LEASE_LAPSE (R279). -/
  | policyLeaseLapse (ms : Nat)
  /-- HOST_LEASE_LAPSE (R279). -/
  | hostLeaseLapse (ms : Nat)
  /-- BAL_POLICY_TICK (R283). -/
  | balPolicyTick
  /-- BAL_SLOT_END (R283). -/
  | balSlotEnd (us : Nat)
  /-- SHUTTLE_REQUEST (R285). -/
  | shuttleRequest
  /-- SHUTTLE_RELEASE (R285). -/
  | shuttleRelease
  /-- EIS_START (R304). -/
  | eisStart (src : Src) (key : BitVec 16)
  /-- EIS_STOP (R304). -/
  | eisStop (src : Src) (key : BitVec 16)
  /-- EIS_ONE (R304). -/
  | eisOne (src : Src) (key : BitVec 16) (kind : Fin 4) (cell : Fin 32)
  /-- EIS_TREF (R307). -/
  | eisTref (src : Src) (key : BitVec 16) (cell : Fin 32)
  /-- EIS_SLOT_DUE (R302). -/
  | eisSlotDue
  /-- EIS_EXCITATION_START (R302). -/
  | eisExcitationStart
  /-- EIS_WINDOW_START (R302). -/
  | eisWindowStart
  /-- EIS_MEASURE_END (R302). -/
  | eisMeasureEnd (cur : List Int)
  /-- EIS_SLOT_RELEASE (R302). -/
  | eisSlotRelease
  /-- EIS_SPECTRUM_STORED (R306). -/
  | eisSpectrumStored
  /-- EIS_VIEW_WRITE (R308). -/
  | eisViewWrite (src : Src) (w : Word)
  /-- RIPPLE_WINDOW_END (R299). -/
  | rippleWindowEnd
  /-- RIPPLE_RX (R300). -/
  | rippleRx (port : Fin 2) (p : Pkt)
  /-- RIPPLE_PACKET_MISSING (R300). -/
  | ripplePacketMissing
  /-- EST_UPDATE (R319). -/
  | estUpdate
  /-- EST_CURRENT_LOST (R318). -/
  | estCurrentLost (ms : Nat)
  /-- EST_ACCEPT (R327). -/
  | estAccept (src : Src) (key : BitVec 16)
  /-- EST_RESTORE (R326). -/
  | estRestore (src : Src) (key : BitVec 16)
  /-- EST_CKPT (R328). -/
  | estCkpt (src : Src) (key : BitVec 16)
  /-- EST_FORGET (R330). -/
  | estForget (src : Src) (key : BitVec 16)
  /-- EST_RENEW (R327). -/
  | estRenew (src : Src) (key : BitVec 16)
  /-- CHECKPOINT_DONE (R328). -/
  | checkpointDone (poison : Bool) (err : Option Nat)
  /-- EST_SUMMARY_SEND (R331). -/
  | estSummarySend
  /-- SUMMARY_RX (R354). -/
  | summaryRx (port : Fin 2) (p : Pkt)
  /-- RACK_AGGREGATION (R332). -/
  | rackAggregation
  /-- PORT_SEEK (R341). -/
  | portSeek (port : Fin 2) (training : Bool)
  /-- PORT_ALIGN (R341). -/
  | portAlign (port : Fin 2) (inv : Bool)
  /-- PORT_UP (R343). -/
  | portUp (port : Fin 2) (rtt : List Nat) (turn : BitVec 16)
  /-- PORT_ALIGN_TIMEOUT (R341). -/
  | portAlignTimeout (port : Fin 2)
  /-- PORT_DOWN (R342). -/
  | portDown (port : Fin 2) (bad : Fin 65) (ns : Nat)
  /-- RING_RETRAIN (R362). -/
  | ringRetrain (src : Src) (key : BitVec 16) (port : Fin 2)
  /-- BEACON_SEND (R344). -/
  | beaconSend (port : Fin 2) (type : Fin 2)
  /-- BEACON_RX (R344). -/
  | beaconRx (port : Fin 2) (bits : BitVec 56)
  /-- RING_ENUM (R345). -/
  | ringEnum (src : Src) (key : BitVec 16)
  /-- AUTO_ENUM_START (R346). -/
  | autoEnumStart
  /-- ENUM_BLOCK_RX (R345). -/
  | enumBlockRx (port : Fin 2) (count : Fin 64) (fin : Bool) (origin : Fin 2)
  /-- ENUM_BLOCK_RETURN (R345). -/
  | enumBlockReturn (port : Fin 2) (count : Fin 64) (fin : Bool) (origin : Fin 2)
  /-- ENUM_SET_RX (R345). -/
  | enumSetRx (port : Fin 2) (p : Pkt)
  /-- ENUM_DONE (R345). -/
  | enumDone
  /-- KEY_OFFER_RX (R563). -/
  | keyOfferRx (port : Fin 2) (p : Pkt) (uid : BitVec 64)
  /-- KEY_REPLY_RX (R563). -/
  | keyReplyRx (port : Fin 2) (p : Pkt) (uid : BitVec 64)
  /-- KEY_GROUP_RX (R563). -/
  | keyGroupRx (port : Fin 2) (p : Pkt)
  /-- KEY_CONFIRM_RX (R563). -/
  | keyConfirmRx (port : Fin 2) (p : Pkt)
  /-- KEY_STEP_TIMEOUT (R564). -/
  | keyStepTimeout (worker : Fin 33)
  /-- STREAM_FRAME_RX (R348). -/
  | streamFrameRx (port : Fin 2) (worker : Fin 64) (e14 : BitVec 14) (flags : BitVec 10) (samples : List Nat) (crc : BitVec 32)
  /-- FRAME_TRANSMIT (R349). -/
  | frameTransmit
  /-- FRAME_AGED (R349). -/
  | frameAged
  /-- FRAME_MISSING (R350). -/
  | frameMissing (worker : Fin 33) (e : BitVec 48)
  /-- ARMS_RX (R355). -/
  | armsRx (port : Fin 2) (p : Pkt)
  /-- ARMS_APPLY (R355). -/
  | armsApply
  /-- RACK_I_SEND (R354). -/
  | rackISend
  /-- RACK_I_RX (R318). -/
  | rackIRx (port : Fin 2) (p : Pkt)
  /-- DIGEST_SEND (R353). -/
  | digestSend
  /-- DIGEST_RX (R353). -/
  | digestRx (port : Fin 2) (p : Pkt)
  /-- EPOCH_BLOCK_SEND (R356). -/
  | epochBlockSend
  /-- EPOCH_BLOCK_RX (R368). -/
  | epochBlockRx (port : Fin 2) (floor : Fin 8) (co : Bool) (e : BitVec 48) (phi : Int)
  /-- SYNC_HOLDOVER_TIMEOUT (R370). -/
  | syncHoldoverTimeout
  /-- BREAK_RX (R357). -/
  | breakRx (port : Fin 2) (link : Fin 64) (heal : Bool)
  /-- ARM_MOVE (R357). -/
  | armMove
  /-- LINK_HEAL (R358). -/
  | linkHeal (port : Fin 2)
  /-- EPOCH_NOW_LO_READ (R364). -/
  | epochNowLoRead (src : Src)
  /-- PATH_DELAY_UPDATE (R367). -/
  | pathDelayUpdate
  /-- BRK_OPEN (R373). -/
  | brkOpen (src : Src) (key : BitVec 16)
  /-- BRK_CLOSE (R375). -/
  | brkClose (src : Src) (key : BitVec 16)
  /-- BRACKET_LATCH (R372). -/
  | bracketLatch
  /-- BRACKET_TIMEOUT (R375). -/
  | bracketTimeout
  /-- SNAP (R379). -/
  | snap (src : Src) (key : BitVec 16)
  /-- SNAP_PERIOD (R379). -/
  | snapPeriod
  /-- SNAP_GATHER_DONE (R379). -/
  | snapGatherDone
  /-- SNAP_DEADLINE (R379). -/
  | snapDeadline
  /-- CM_PREPARE (R382). -/
  | cmPrepare (src : Src) (key : BitVec 16)
  /-- CM_ABORT (R384). -/
  | cmAbort (src : Src) (key : BitVec 16)
  /-- CM_RECONCILE (R388). -/
  | cmReconcile (src : Src) (key : BitVec 16)
  /-- PREPARE_RX (R383). -/
  | prepareRx (port : Fin 2) (p : Pkt)
  /-- ACK_RX (R387). -/
  | ackRx (port : Fin 2) (p : Pkt)
  /-- COMMIT_DECISION (R384). -/
  | commitDecision
  /-- COMMIT_RX (R385). -/
  | commitRx (port : Fin 2) (p : Pkt)
  /-- ABORT_RX (R385). -/
  | abortRx (port : Fin 2) (p : Pkt)
  /-- COMMIT_APPLY (R385). -/
  | commitApply
  /-- QUERY_RX (R386). -/
  | queryRx (port : Fin 2) (p : Pkt)
  /-- COMMIT_QUERY_TIMER (R386). -/
  | commitQueryTimer
  /-- COMMIT_INDOUBT (R386). -/
  | commitIndoubt
  /-- INDOUBT_HOLD_END (R386). -/
  | indoubtHoldEnd
  /-- COMMIT_REPORT_DEADLINE (R387). -/
  | commitReportDeadline
  /-- REG_RD_RX (R376). -/
  | regRdRx (port : Fin 2) (p : Pkt) (ecc : List Nat)
  /-- REG_WR_RX (R376). -/
  | regWrRx (port : Fin 2) (p : Pkt)
  /-- REG_RSP_RX (R376). -/
  | regRspRx (port : Fin 2) (p : Pkt)
  /-- MIRROR_TIMEOUT (R377). -/
  | mirrorTimeout (tid : BitVec 16)
  /-- STATUS_SEND (R395). -/
  | statusSend
  /-- STATUS_RX (R396). -/
  | statusRx (port : Fin 2) (p : Pkt)
  /-- ROSTER_STALE (R396). -/
  | rosterStale (worker : Fin 33)
  /-- ROSTER_BLIND (R397). -/
  | rosterBlind
  /-- ROSTER_READMIT (R398). -/
  | rosterReadmit (src : Src) (key : BitVec 16) (worker : Fin 64)
  /-- ROSTER_ADOPT (R398). -/
  | rosterAdopt (src : Src) (key : BitVec 16) (worker : Fin 64)
  /-- RACK_RESULT (R399). -/
  | rackResult
  /-- ARC_BLOCK_EVAL (R402). -/
  | arcBlockEval (hfe : Nat)
  /-- ARC_CTRL_WRITE (R405). -/
  | arcCtrlWrite (src : Src) (w : Word)
  /-- ARC_CLEAR (R405). -/
  | arcClear (src : Src) (key : BitVec 16)
  /-- ARC_RELEARN (R403). -/
  | arcRelearn (src : Src) (key : BitVec 16)
  /-- ISO_CTRL_WRITE (R408). -/
  | isoCtrlWrite (src : Src) (w : Word)
  /-- ISO_HALF_END (R409). -/
  | isoHalfEnd (m80 m90 : Int) (limit : Bool)
  /-- CAP_ARM (R413). -/
  | capArm (src : Src) (key : BitVec 16)
  /-- CAP_FORCE (R412). -/
  | capForce (src : Src) (key : BitVec 16)
  /-- CAP_RELEASE (R413). -/
  | capRelease (src : Src) (key : BitVec 16)
  /-- CAP_ABORT (R413). -/
  | capAbort (src : Src) (key : BitVec 16)
  /-- CAP_POST_COMPLETE (R413). -/
  | capPostComplete
  /-- CAP_SETTLE_END (R413). -/
  | capSettleEnd
  /-- XSPI_READ (R428). -/
  | xspiRead (a : BitVec 32) (n : Nat) (ecc : List Nat)
  /-- XSPI_WRITE (R428). -/
  | xspiWrite (a : BitVec 32) (words : List Word) (cut : Bool)
  /-- XSPI_READ_STATUS (R430). -/
  | xspiReadStatus (n : Nat)
  /-- XSPI_STREAM_READ (R437). -/
  | xspiStreamRead (n : Nat)
  /-- XSPI_BAD_OPCODE (R428). -/
  | xspiBadOpcode
  /-- MIRROR_READY_EXPIRY (R433). -/
  | mirrorReadyExpiry
  /-- HOST_DESCENT_WAIT_END (R441). -/
  | hostDescentWaitEnd (a : BitVec 32) (words : List Word)
  /-- EXP_START (R435). -/
  | expStart (src : Src) (key : BitVec 16)
  /-- EXP_STOP (R435). -/
  | expStop (src : Src) (key : BitVec 16)
  /-- EXP_FLUSH (R436). -/
  | expFlush (src : Src) (key : BitVec 16)
  /-- I2C_WRITE (R438). -/
  | i2cWrite (dev : BitVec 7) (a : BitVec 32) (words : List Word) (cut : Bool)
  /-- I2C_READ (R438). -/
  | i2cRead (dev : BitVec 7) (a : BitVec 32) (n : Nat) (ecc : List Nat)
  /-- GPIO_OUT_WRITE (R444). -/
  | gpioOutWrite (src : Src) (w : Word)
  /-- GPIO_OUT_SET (R446). -/
  | gpioOutSet (src : Src) (w : Word)
  /-- GPIO_OUT_CLR (R446). -/
  | gpioOutClr (src : Src) (w : Word)
  /-- GPIO_CFG_WRITE (R444). -/
  | gpioCfgWrite (src : Src) (n : Fin 16) (w : Word)
  /-- GPIO_LEVEL_CHANGE (R445). -/
  | gpioLevelChange (n : Fin 16) (high : Bool)
  /-- ICU_LINE_DELIVER (R457). -/
  | icuLineDeliver (line : Fin 256)
  /-- ICU_LINE_WITHDRAW (R458). -/
  | icuLineWithdraw (line : Fin 256)
  /-- ICU_CLAIM (R456). -/
  | icuClaim (src : Src) (t : Fin 5)
  /-- ICU_DONE (R456). -/
  | icuDone (src : Src) (t : Fin 5) (line : BitVec 8)
  /-- ICU_SWI_WRITE (R453). -/
  | icuSwiWrite (src : Src) (w : Word)
  /-- ICU_LINE_WRITE (R458). -/
  | icuLineWrite (src : Src) (line : Fin 256) (w : Word)
  /-- ICU_MOD_TIMEOUT (R459). -/
  | icuModTimeout (t : Fin 5)
  /-- ICU_STARTUP_ROUTING_END (R457). -/
  | icuStartupRoutingEnd
  /-- FAULT_MESSAGE (R466). -/
  | faultMessage
  /-- QUIET_PERIOD_END (R472). -/
  | quietPeriodEnd
  /-- FLT_RELEASE (R473). -/
  | fltRelease (src : Src) (key : BitVec 16)
  /-- FLT_CLEAR_REC (R472). -/
  | fltClearRec (src : Src) (key : BitVec 16)
  /-- FLT_PEND_CLEAR (R471). -/
  | fltPendClear (src : Src) (w : Word)
  /-- FLT_FIRST_CLEAR (R468). -/
  | fltFirstClear (src : Src) (w : Word)
  /-- FLT_INJECT (R475). -/
  | fltInject (src : Src) (w : Word)
  /-- WDG_SERVICE_WRITE (R482). -/
  | wdgServiceWrite (src : Src) (n : Fin 4) (w : Word)
  /-- WDG_KEY_ARRIVAL (R483). -/
  | wdgKeyArrival (n : Fin 4)
  /-- WDG_ARM_EXPIRY (R483). -/
  | wdgArmExpiry (n : Fin 4)
  /-- WDG_EXPIRY (R484). -/
  | wdgExpiry (n : Fin 4)
  /-- WDG_CLK_STOP (R480). -/
  | wdgClkStop (n : Fin 4) (cnt : Nat)
  /-- WDG_CFG_WRITE (R485). -/
  | wdgCfgWrite (src : Src) (n : Fin 4) (w : Word)
  /-- TM_CHECKIN (R487). -/
  | tmCheckin (src : Src) (key : BitVec 16) (slot : Fin 16)
  /-- TM_PERIOD_END (R487). -/
  | tmPeriodEnd
  /-- LOCKSTEP_MISMATCH (R489). -/
  | lockstepMismatch (pc0 pc1 : Word)
  /-- KEEPER_RESTART (R491). -/
  | keeperRestart
  /-- KEEPER_HANDBACK (R491). -/
  | keeperHandback
  /-- KEEPER_ATTEMPTS_RESET (R491). -/
  | keeperAttemptsReset
  /-- KEEP_RELEASE (R492). -/
  | keepRelease (src : Src) (key : BitVec 16)
  /-- THM_WARN (R500). -/
  | thmWarn (ts : List (List Int))
  /-- THM_LEVEL_CHANGE (R501). -/
  | thmLevelChange (ts : List (List Int))
  /-- SKIP_FACTOR_APPLY (R502). -/
  | skipFactorApply
  /-- THM_SENSOR_FAULT (R499). -/
  | thmSensorFault (ts : List (List Int))
  /-- THM_SHUTDOWN (R504). -/
  | thmShutdown (ts : List (List Int))
  /-- THM_SHUTDOWN_RELEASE (R505). -/
  | thmShutdownRelease (ts : List (List Int))
  /-- RTC_SECOND (R510). -/
  | rtcSecond
  /-- RTC_PERIODIC_WAKE (R515). -/
  | rtcPeriodicWake
  /-- RTC_CALIBRATE (R510). -/
  | rtcCalibrate
  /-- RTC_TIME_READ (R511). -/
  | rtcTimeRead (src : Src) (r : Fin 4)
  /-- RTC_FREEZE_END (R511). -/
  | rtcFreezeEnd (src : Src)
  /-- RTC_SET (R512). -/
  | rtcSet (src : Src) (key : BitVec 16)
  /-- PWRON_CLR (R516). -/
  | pwronClr (src : Src) (key : BitVec 16)
  /-- RTC_ALARM_WRITE (R514). -/
  | rtcAlarmWrite (src : Src) (cfg : Bool) (w : Word)
  /-- RTC_PWRON_WRITE (R516). -/
  | rtcPwronWrite (src : Src) (w : Word)
  /-- PWRON_PULSE_END (R516). -/
  | pwronPulseEnd
  /-- CE_WINDOW_EXPIRY (R523). -/
  | ceWindowExpiry
  /-- POISON_CONSUMED (R524). -/
  | poisonConsumed (off : BitVec 22)
  /-- REC_RECORD_DONE (R528). -/
  | recRecordDone (poison : Bool) (err : Option Nat)
  /-- REC_CLR_EVT (R532). -/
  | recClrEvt (src : Src) (key : BitVec 16)
  /-- REC_CLR_THERM (R532). -/
  | recClrTherm (src : Src) (key : BitVec 16)
  /-- OTP_READ (R542). -/
  | otpRead (src : Src) (key : BitVec 16) (margin : Fin 4)
  /-- OTP_PROG (R542). -/
  | otpProg (src : Src) (key : BitVec 16) (margin : Fin 4)
  /-- OTP_REPAIR (R542). -/
  | otpRepair (src : Src) (key : BitVec 16) (margin : Fin 4)
  /-- OTP_FINALISE (R542). -/
  | otpFinalise (src : Src) (key : BitVec 16) (margin : Fin 4) (region : Fin 8)
  /-- OTP_BURN_ATTEMPT_DONE (R542). -/
  | otpBurnAttemptDone (fail : Word)
  /-- LC_ADVANCE (R551). -/
  | lcAdvance (src : Src) (key : BitVec 16)
  /-- LC_DECOM (R551). -/
  | lcDecom (src : Src) (key : BitVec 16)
  /-- REKEY (R564). -/
  | rekey (src : Src) (key : BitVec 16) (worker : Fin 64)
  /-- RNG_RESTART (R565). -/
  | rngRestart (src : Src) (key : BitVec 16)
  /-- RNG_HEALTH_FAIL (R565). -/
  | rngHealthFail (apt : Bool)
  /-- SVC_CHALLENGE (R555). -/
  | svcChallenge (src : Src) (key : BitVec 16) (level : Fin 4)
  /-- SVC_RESPOND (R555). -/
  | svcRespond (src : Src) (key : BitVec 16)
  /-- SVC_PASSWORD (R556). -/
  | svcPassword (src : Src) (key : BitVec 16) (level : Fin 4)
  /-- SVC_DROP (R558). -/
  | svcDrop (src : Src) (key : BitVec 16)
  /-- SVC_DEBUG_OPEN (R560). -/
  | svcDebugOpen (src : Src) (key : BitVec 16)
  /-- SVC_DEBUG_CLOSE (R560). -/
  | svcDebugClose (src : Src) (key : BitVec 16)
  /-- NONCE_EXPIRY (R555). -/
  | nonceExpiry
  /-- LOCKOUT_END (R557). -/
  | lockoutEnd
  /-- SESSION_LAPSE (R558). -/
  | sessionLapse
  /-- BOUNCE_WINDOW_EXPIRY (R187). -/
  | bounceWindowExpiry
  /-- STREAM_FRAME_FORWARD (R348). -/
  | streamFrameForward (port : Fin 2) (worker : Fin 64) (e14 : BitVec 14) (flags : BitVec 10) (samples : List Nat) (crc : BitVec 32)
  /-- INVALID_BLOCK_RX (R339). -/
  | invalidBlockRx (port : Fin 2) (hdr : Fin 4) (w : BitVec 64)
  /-- CONTACTOR_SENSED_CHANGE (R207). -/
  | contactorSensedChange (p0 p1 p2 : Nat)
  /-- RNG_STARTUP_TEST_DONE (R565). -/
  | rngStartupTestDone (ok : Bool)
  deriving DecidableEq, Repr

end Sys2Proof
end

