-- ==== Sys2Proof/Config.lean ====
section
/-!
DEFINITION. What an implementation fixes and the values the spec leaves open: constants with no body, so that no proof can
see what they are.  Each has a row in notes/assumptions.
-/
namespace Sys2Proof.Config

/-- Stream of open values: `State.free` counts how many a run has drawn (see notes/assumptions/1.md). -/
opaque freeNat : Nat → Nat

/-- ROM firmware revision, bits [15:0] of IDENT_REV (R70). -/
opaque romRevision : BitVec 16

/-- Frame period in FACTORY, in microseconds: "as the test sets" (R74, R246). -/
opaque testPeriod : Nat

/-- The argument of a phasor of 0, in 0.01°: R307 states none. -/
opaque phaseOfZero : Int

/-- The code that an estimate takes for a channel before its first measurement: R245 gives none. -/
opaque noSample : Nat → Int

/-- A port's own fixed turnaround, by port, and the timestamp of its TRAIN blocks, by model time (R343). -/
opaque turnaround : Nat → BitVec 16
opaque linkTime : Nat → BitVec 32

/-- Vendor trims: the word that a register (by its local address) loads from the sealed rows of OTP region 0, whose layout the spec
does not give (R231, R232, R539). -/
opaque vendorTrim : List Nat → Nat → BitVec 32

end Sys2Proof.Config
end

