-- ==== Sys2Proof/Machine/Engines.lean ====
section
/-!
DEFINITION. The state of each block that no register shows: what its sequencer, counters and buffers hold between events.
-/
namespace Sys2Proof.Machine

/-- A fault message held by its page (R463, R464); `inj` marks an injected one (R475). -/
structure Msg where
  src : Nat
  inst : Nat
  kind : Nat
  detail : Nat
  inj : Bool := false
  deriving DecidableEq, Repr

/-- The fault collector (R464, R466): held messages in order of arrival, the page served last, and the times (model
time, microseconds) of the counted messages of each (SRC, KIND) pair. -/
structure FltEng where
  held : List Msg := []
  lastPage : Nat := 0
  counts : List (Nat × Nat × List Nat) := []
  /-- Model time at which the quiet period last restarted, if it runs (R472). -/
  quietFrom : Option Nat := none
  /-- The collector has evaluated since core release: FAULT_N follows R471 and no longer R109. -/
  evaluated : Bool := false
  deriving DecidableEq, Repr

/-- The mode controller (R79, R84-R87). -/
structure ModeEng where
  /-- Target of the last evaluation (R79, R83). -/
  target : Nat := 3
  /-- A wake event holds the target at ATTEND or above (R87). -/
  wakeHold : Bool := false
  /-- The transition in progress returns from an abandoned descent (R84). -/
  aborted : Bool := false
  /-- MODE_LAST_TRANS.CAUSE of the transition in progress or of the dwell. -/
  cause : Nat := 0
  /-- DORMANT check (R86): 0 none, 1 ascending, 2 in ATTEND, 3 descending. -/
  check : Nat := 0
  /-- A limit was crossed during the check. -/
  checkHit : Bool := false
  /-- The contactors-open flag the worker last received (R81). -/
  rackOpen : Bool := true
  /-- First AUX1 result at or below 80% of the idle threshold in the present run of such results (R82). -/
  belowSince : Option Nat := none
  deriving DecidableEq, Repr

/-- A commit under way at the device that started it (R382-R387). -/
structure CmRun where
  id : Nat
  e : Nat
  pages : Nat
  rack : Bool
  mem : List Nat
  abort : Bool
  decided : Bool
  deriving DecidableEq, Repr

/-- Pages held for a commit (R383-R386): its identifier, epoch and page mask; whether it came over the ring; the epoch at which they
apply and the report that follows, once decided; in doubt; the epoch of its last QUERY. -/
structure CmHold where
  id : Nat
  e : Nat
  pages : Nat
  rack : Bool
  apply : Option (Nat × Nat)
  doubt : Bool
  asked : Option Nat
  deriving DecidableEq, Repr

/-- A REG_RD or REG_WR awaiting REG_RSP (R376): its TID, worker (0 for a broadcast), local address, words, and what it serves:
0 the host's mirror access, 1 a bracket, 2 image `j` of a snapshot, 3 a path delay, 4 the delay measured at port `j`; `at0` is when it was sent;
`dead`: Weld's reset leaves it to its timeout (R441). -/
structure MirReq where
  tid : Nat
  worker : Nat
  addr : Nat
  count : Nat
  use : Nat
  j : Nat
  at0 : Nat
  dead : Bool := false
  deriving DecidableEq, Repr

/-- The epoch unit (R363). -/
structure EpochEng where
  /-- The 48-bit count of microseconds; it runs once the main PLL has locked at bring-up. -/
  count : Nat := 0
  running : Bool := false
  /-- Bracket (R372-R375): 0 none, 1 waiting for its latch, 2 latched; its epoch, its pages (bit p), and whether a snapshot
  holds it. -/
  brk : Nat := 0
  brkE : Nat := 0
  brkPages : Nat := 0
  brkSnap : Bool := false
  /-- Pages that completed a result tagged at or after the bracket's epoch: their SHD registers as they stood before (R372). -/
  older : List (Nat × List (Nat × Word)) := []
  /-- Worker: LOCKED since its arm's port last reached UP (R369); consecutive blocks within 1 ns and beyond 4 ns (R370). -/
  lockedUp : Bool := false
  near : Nat := 0
  far : Nat := 0
  /-- The bracket was opened at rack scope (R373). -/
  brkRack : Bool := false
  /-- Snapshot gathering (R379): its epoch, buffer, members wanted, and per member the images gathered and whether poisoned. -/
  snapE : Option Nat := none
  snapBuf : Nat := 0
  snapWant : List Nat := []
  snapGot : List (Nat × Nat × Bool) := []
  snapSeq : Nat := 0
  /-- The commit this device started (R382), the decision recorded last (R384): identifier, epoch, COMMIT; and the pages held. -/
  cm : Option CmRun := none
  lastDec : Option (Nat × Nat × Bool) := none
  /-- A decision that Weld is still to send (R384). -/
  decWait : Bool := false
  /-- The epoch of the last periodic snapshot (R379), and when the last EPOCH block came in on the arm's port (R370). -/
  snapAt : Option Nat := none
  blockAt : Nat := 0
  holds : List CmHold := []
  /-- Manager: the link delays read for R367, by port and worker, and whether they are to be read anew. -/
  links : List ((Nat × Nat) × Nat) := []
  pathDue : Bool := false
  /-- The identifier of the last PREPARE that named this device (R383, R387). -/
  named : Option Nat := none
  /-- Mirror packets awaiting their answer, and the next TID (R376, R377). -/
  mir : List MirReq := []
  tid : Nat := 0
  deriving DecidableEq, Repr

/-- A ramp in progress (R118, R163): regulator 0-9 (BK0-BK3, LD0-LD5) or 10 + r for rail EXTr, the value it left in
5 mV steps, and the model time it left it; `dn` marks the ramp to 0 V of a rail that is discharged (R141). -/
structure Ramp where
  k : Nat
  fromV : Nat
  at0 : Nat
  dn : Bool := false
  deriving DecidableEq, Repr

/-- A rail of the phase controller while its slot is on (R156-R174): the words it started with, and its loop. -/
structure RailEng where
  /-- PHASES, CFG, PERIOD, RATIO and TIMING in effect since the rail's start (R174). -/
  phases : Nat := 0
  cfg : Nat := 0
  period : Nat := 0
  ratio : Nat := 0
  timing : Nat := 0
  /-- The rail is being discharged by its phases (R141). -/
  dis : Bool := false
  /-- CLK_PWM counts since the period start, and the length of this period. -/
  pos : Nat := 0
  len : Nat := 0
  /-- DONE has occurred for the present ramp, and the periods within the window since (R164). -/
  done : Bool := false
  good : Nat := 0
  /-- e[k-1] and e[k-2]; u and y in sixteenths of the Q16 duty (R160). -/
  e1 : Int := 0
  e2 : Int := 0
  u : Int := 0
  y : Int := 0
  /-- Periods left of the suspension of R171, and periods since the last response ended, counted to 8 (R169). -/
  susp : Nat := 0
  since : Nat := 8
  /-- PHC_RAIL_UST in effect since the last period start (R174). -/
  ust : Nat := 0
  deriving DecidableEq, Repr

/-- A phase (R157-R171). -/
structure PhaseEng where
  /-- RSENSE in effect since its rail's start, CL_THR since the last period start (R174). -/
  rsense : Nat := 0
  cl : Nat := 0
  /-- Its pulse of this period: start and on-time in counts from the period start (R157, R162); PHn_LG stays low after it. -/
  start : Nat := 0
  width : Nat := 0
  zero : Bool := false
  /-- A response has ended and the next period has yet to start (R169). -/
  idle : Bool := false
  /-- Its limit has ended the pulse that runs, of the period or of a response; the limit has tripped in this period (R166, R169, R178). -/
  tripped : Bool := false
  limited : Bool := false
  /-- The duty of this period in Q16, as its limit leaves it (R178). -/
  duty : Nat := 0
  /-- Its CS samples at the start, the middle and the end of this period's on-time (R159). -/
  cs : Nat × Nat × Nat := (0, 0, 0)
  /-- The rail that it joins at that rail's next period start (R173). -/
  rejoin : Option Nat := none
  /-- Average current mode: d in sixteenths of the Q16 duty, and ei[k-1] (R161). -/
  d : Int := 0
  ei : Int := 0
  /-- The duty of skipped pulses, carried into the next period (R162). -/
  carry : Nat := 0
  /-- Consecutive periods of share deviation and of sense failure (R171). -/
  share : Nat := 0
  flat : Nat := 0
  deriving DecidableEq, Repr

/-- Regulators, supervisors, phase controller. -/
structure PowerEng where
  ramps : List Ramp := []
  /-- Supervisors that have left TRIPPED and wait for their named slot, or the sequence, to be up again (R123). -/
  svWait : List Nat := []
  /-- The model time at which SUP_FIRST was written (R131). -/
  supAt : Nat := 0
  /-- Regulators whose limit has acted of late, with the model time it last did (R128). -/
  limAt : List (Nat × Nat) := []
  rails : List RailEng := List.replicate 4 {}
  phs : List PhaseEng := List.replicate 8 {}
  /-- Model time of the coil pull-in whose window on EXT0 runs (R170). -/
  armAt : Option Nat := none
  /-- Fixed-rail sequence (R133): row of the table in progress, 0 when none runs; a failure waits out its 10 ms. -/
  fixedRow : Nat := 0
  fixedFailed : Bool := false
  deriving DecidableEq, Repr

/-- Why a power-down of the sequence runs (R143, R144, R135). -/
inductive DnWhy where
  | stop | failure | partialDn | resume | shelf | shelfVsys
  deriving DecidableEq, Repr

/-- The sequencer (R132-R149). -/
structure SeqEng where
  why : DnWhy := .stop
  /-- The step at which an interrupted power-up resumes (R144). -/
  resumeAt : Nat := 0
  /-- Slots of the running power-down that are not yet down or STUCK. -/
  dnSet : List Nat := []
  /-- Slots of a single power-down (R146, R147) that are not yet down. -/
  side : List Nat := []
  /-- Slots that the running sequence treats as not wanted (R146). -/
  drop : List Nat := []
  /-- Slots that the last system reset kept up (R149). -/
  kept : List Nat := []
  /-- A GO while a sequence runs, and SLOT_ONs then or while their slot goes down, are latched (R145, R147, R148). -/
  goLatched : Bool := false
  slotOn : List Nat := []
  /-- Slots that a partial power-up starts once the partial power-down, or the power-up that runs, has ended (R135). -/
  addNext : List Nat := []
  /-- The slots that the running partial power-up is for; `none` for one of every wanted slot (R135). -/
  only : Option (List Nat) := none
  /-- A retry is pending in OFF_WAIT (R143). -/
  retry : Bool := false
  /-- The VSYS source slot failed and is retried after 10 ms (R134). -/
  vsysRetry : Bool := false
  deriving DecidableEq, Repr

/-- Contactors and fault loop (R208, R212, R214). -/
structure ContEng where
  /-- The blanking windows of FT_THR: after an FDG rising edge, after a CT0 pull-in start (R212). -/
  blankFd : Bool := false
  blankPos : Bool := false
  /-- Coils that a reset still drives, and since when: they switch off 100 µs after FDG (R101). -/
  tail : Nat := 0
  tailAt : Nat := 0
  /-- Worker: its loop input is OK, and it sources its output (R214). -/
  loopIn : Bool := false
  loopOut : Bool := false
  deriving DecidableEq, Repr

/-- Feeds, power path and charger (R181-R199). -/
structure FeedEng where
  /-- Feeds A and B stand within their limits: their 50 ms counts run, or have ended (R181). -/
  inA : Bool := false
  inB : Bool := false
  /-- PC_G is on (R184). -/
  pcGate : Bool := false
  /-- The 5 s after a failed pre-charge run (R184). -/
  pcCool : Bool := false
  /-- Trips since the e-fuse last held ON for 10 s without one (R185). -/
  trips : Nat := 0
  /-- DSG_G is held off after an entry to SHELF (R194). -/
  shipped : Bool := false
  /-- CHG_START was written in IDLE (R196), and the phase that SUSPEND left. -/
  startReq : Bool := false
  phaseLeft : Nat := 0
  /-- FET_CLEAR has been written on the FEED and on the PATH page since the charge fault FET (R196). -/
  clrFeed : Bool := false
  clrPath : Bool := false
  /-- Model time from which the host-contact timer counts, and whether a KEEPALIVE started it (R199). -/
  contactAt : Nat := 0
  alive : Bool := false
  /-- ELAPSED beyond CHG_ELAPSED.T8, in milliseconds (R198). -/
  part : Rat := 0
  /-- The voltages as the block's comparators last saw them: feeds A and B and the protected bus in 20 mV, the pack in mV (R181-R193); the
  registers show them on their grid. -/
  vA : Nat := 0
  vB : Nat := 0
  vpb : Nat := 0
  pack : Nat := 0
  deriving DecidableEq, Repr

/-- Clocks (R16-R21, R591). -/
structure ClkEng where
  /-- The oscillator start of bring-up or of an ascent from DORMANT waits for lock (R591). -/
  startWait : Bool := false
  /-- A retry runs (R20). -/
  retry : Bool := false
  /-- The link PLL has been started (R16, R20). -/
  lpllOn : Bool := false
  /-- An LFXO attempt is permitted (R21), and the AON domain runs from LFXO (kept through system reset). -/
  lfTry : Bool := false
  lfXo : Bool := false
  /-- Manager: the trim in force, in 0.001 ppm, on its way to CLK_STEER (R17). -/
  trim : Int := 0
  /-- VSYS, VBKUP available to the AON domain (R10). -/
  vsys : Bool := false
  vbkup : Bool := false
  deriving DecidableEq, Repr

/-- Sampling front end (R222, R227-R237). -/
structure AfeEng where
  /-- VREF has settled since its buffer last started from off (R226). -/
  vref : Bool := false
  /-- FINE as the epoch unit asks for it (R224, R368). -/
  fine : Nat := 0
  /-- AFE_FIRST holds nothing from before the frame being judged (R240). -/
  sameFrame : Bool := false
  /-- Consecutive frames: reference beyond and within, offset beyond and within, sum mismatch (R222, R227). -/
  refBad : Nat := 0
  refOk : Nat := 0
  zeroBad : Nat := 0
  zeroOk : Nat := 0
  sum : Nat := 0
  /-- Consecutive frames with an absent channel beyond 50 mV, by channel (R221). -/
  absent : List (Nat × Nat) := []
  /-- Multiplexers A and B (R229): input selected (16 for none) and the epoch at which it was. -/
  muxA : Nat := 16
  muxB : Nat := 16
  selA : Nat := 0
  selB : Nat := 0
  /-- Consecutive open or short readings by input (R230). -/
  bad : List (Nat × Nat) := []
  /-- Open-wire test: epoch of the phase's start, sums and counts of the phase by channel, means of BASE and of the two
  sinking phases (R234); bleeding is held off until 1 ms after the verdicts (R236). -/
  phase : Nat := 0
  sums : List (Nat × Int × Nat) := []
  base : List (Nat × Int × Nat) := []
  odd : List (Nat × Int × Nat) := []
  even : List (Nat × Int × Nat) := []
  owHold : Bool := false
  /-- Path test: frames of the present channel so far (R237), and every channel's last sample from before it was held. -/
  pathFrames : Nat := 0
  last : List Nat := []
  deriving DecidableEq, Repr

/-- A frame struck and not yet published (R247, R250). -/
structure Flight where
  epoch : Nat
  flags : Nat
  /-- FINE of its strike (R224), and the period in force at it (R246, R349). -/
  fine : Nat := 0
  per : Nat := 1
  deriving DecidableEq, Repr

/-- A queued or granted scan request (R248-R254). -/
structure ScanReq where
  entry : Nat
  /-- Madder 0 or Woad 1, whose request it is; 3 for the host. -/
  core : Nat
  cls : Nat
  kind : Nat
  ch : Nat
  count : Nat
  age : Nat
  granted : Bool
  /-- Epoch of the tick that serves it, once known. -/
  at? : Option Nat
  /-- The result, once ready: value and poison. -/
  ready : Option (Nat × Bool)
  deriving DecidableEq, Repr

/-- An open window (R255): W, P, its index, frames counted, flags, the epoch of its last frame, and for each channel the sum,
count, minimum and maximum of its samples. -/
structure Win where
  w : Nat
  p : Nat
  idx : Nat
  nfr : Nat
  flags : Nat
  lastE : Nat
  sum : List Int
  cnt : List Nat
  mn : List Int
  mx : List Int
  /-- Its last scheduled frame is published; it is closed (R256). -/
  last : Bool := false
  closed : Bool := false
  deriving DecidableEq, Repr

/-- Scan scheduler and result windows (R246-R258, R502). -/
structure ScanEng where
  flight : List Flight := []
  /-- The period in force at the strike of the frame last published (R349). -/
  per : Nat := 1
  /-- Trip intervals still of interest, in picoseconds of the epoch, and whether ADC1 takes them (R250). -/
  trips : List ((Nat × Nat) × Bool) := []
  lastTick : Option Nat := none
  reqs : List ScanReq := []
  /-- An abandoned frame awaits its rerun (R250). -/
  rerun : Bool := false
  /-- Trip conversions not yet ready (R250). -/
  tripRun : Nat := 0
  /-- Burst in progress: ticks left to take. -/
  burst : Nat := 0
  /-- K of R502 in force, and the one waiting for its tick. -/
  skipK : Nat := 1
  skipNext : Option Nat := none
  cell : Option Win := none
  aux : Option Win := none
  /-- Consecutive samples over OV, under UV and within, by cell (R257); the same by thermistor input (R258). -/
  ov : List (Nat × Nat) := []
  uv : List (Nat × Nat) := []
  within : List (Nat × Nat) := []
  ot : List (Nat × Nat) := []
  ut : List (Nat × Nat) := []
  tWithin : List (Nat × Nat) := []
  deriving DecidableEq, Repr

/-- Balancing (R269, R270, R276, R283-R286). -/
structure BalEng where
  /-- Switches removed by the dissipation limit, and those found open (bit c). -/
  removed : Nat := 0
  openOff : Nat := 0
  /-- Channel whose pair is being closed, 31 for none. -/
  closing : Nat := 31
  /-- The policy's hysteresis (R283), bit c. -/
  need : Nat := 0
  /-- The balancing slot in progress: its channel and the model time at which it ends; its length in microseconds. -/
  slot : Option (Nat × Nat) := none
  slotLen : Nat := 0
  /-- The slot recorded by a yield: channel and remaining microseconds (R285); it is being resumed. -/
  yielded : Option (Nat × Nat) := none
  resuming : Bool := false
  /-- The impedance engine's request: channel asked for; it is being selected for it (R284). -/
  eisAsk : Option Nat := none
  forEis : Bool := false
  /-- A stop of R280 holds the shuttle's current at 0: for the connected cell's bit in CELL_OV_MAP, or in CELL_UV_MAP. -/
  stopOv : Bool := false
  stopUv : Bool := false
  /-- Polarity of the secondary as last set: the ODD bus is positive (R271). -/
  oddPos : Option Bool := none
  /-- Bleed mask as it stood when ownership passed to the impedance engine (R286). -/
  heldMask : Nat := 0
  /-- Model time at which the lease of the policy or of the host was last refreshed (R279). -/
  leaseAt : Nat := 0
  /-- Microseconds with each switch on and charge in 10 nC moved into each cell, beyond the registers (R290). -/
  onUs : List Nat := []
  q : List Int := []
  deriving DecidableEq, Repr

/-- A stored spectrum (R308): its epoch, END, flags (bit 2 SCALED, 1 THROTTLED, 0 GAPS), MISS, and its points: grid index, real
and imaginary part in 0.1 µΩ, quality word. -/
structure Spectrum where
  epoch : Nat
  fin : Nat
  flags : Nat
  miss : Nat
  pts : List (Nat × Int × Int × Nat)
  deriving DecidableEq, Repr

/-- What the windows of one point give in sum (R295, R300): windows, S_VI, S_II, |V|² and the noise bins of R298. -/
structure Cross where
  n : Nat := 0
  re : Int := 0
  im : Int := 0
  ii : Nat := 0
  vv : Nat := 0
  nn : Nat := 0
  deriving DecidableEq, Repr

/-- An impedance slot (R301, R302): kind, cell, END once known, what its plan and windows gave. -/
structure EisSlot where
  kind : Nat
  cell : Nat
  sched : Bool
  fin : Option Nat := none
  scaled : Bool := false
  throttled : Bool := false
  miss : Nat := 0
  clip : Bool := false
  nonlin : Bool := false
  /-- Epoch of the last frame of the last window. -/
  tag : Nat := 0
  /-- What the plan took at t0 (R301): the points excited, all points, W, SNR_MIN, VRESP_MAX; the epoch of the first window. -/
  tones : List Nat := []
  pts : List Nat := []
  wn : Nat := 0
  snrMin : Nat := 0
  vresp : Nat := 0
  e0 : Nat := 0
  /-- RMS of the plan in mA, and its scale factor (R296). -/
  rms : Nat := 0
  scale : Rat := 1
  /-- A window misses more than 0.1% of its samples (R294). -/
  gaps : Bool := false
  /-- The demodulated points: grid point, Z in 0.1 µΩ, SNR in 0.01 dB (R295, R298). -/
  zs : List (Nat × Int × Int × Nat) := []
  deriving DecidableEq, Repr

/-- Impedance engine (R294-R308). -/
structure EisEng where
  /-- The schedule runs; next cell of the FAST and of the FULL rotation; a FULL slot is due in MIXED (R304). -/
  on : Bool := false
  fast : Nat := 0
  full : Nat := 0
  fullDue : Bool := false
  one : Option (Nat × Nat) := none
  slot : Option EisSlot := none
  /-- A slot released whose spectrum is not yet stored. -/
  done : Option EisSlot := none
  /-- Stored spectra by cell × 3 + kind. -/
  spectra : List (Nat × Spectrum) := []
  /-- Ripple windows counted and, by cell × 48 + point, their sums (R300). -/
  ripN : Nat := 0
  rip : List (Nat × Cross) := []
  /-- By cell, the most samples that one of these windows missed (R294). -/
  ripMiss : List (Nat × Nat) := []
  /-- Model time at which the last slot ended (R304). -/
  freeAt : Nat := 0
  /-- Frames kept for the windows open, the newest first (R294). -/
  hist : List Frame := []
  deriving DecidableEq, Repr

/-- What the estimator holds of one cell (R313, R317-R325): voltages in mV, resistances in 0.1 µΩ, Q in mAh, TPOL in µs, charge
in mA·µs; `p` is the covariance, row by row. -/
structure EstCell where
  /-- The values of R325, or restored ones, have been taken. -/
  known : Bool := false
  unrest : Bool := true
  z : Rat := 0
  v1 : Rat := 0
  h : Rat := 0
  q : Rat := 0
  rser : Rat := 0
  rpol : Rat := 0
  tpol : Rat := 0
  soc : Rat := 0
  p : List Rat := []
  cutoff : Bool := false
  disagree : Bool := false
  learned : Bool := false
  held : Bool := false
  innov : Rat := 0
  /-- Consecutive corrected updates beyond DIS_THR, and within half of it (R324). -/
  above : Nat := 0
  under : Nat := 0
  /-- Microseconds at rest; the rest point of this rest has been taken; the last rest point; whether anything since forbids
  learning from it (R321). -/
  rest : Nat := 0
  restDone : Bool := false
  point : Option (Rat × Rat) := none
  broken : Bool := false
  /-- Charge since the last update and in all; samples counted since the last update: their sum of codes and their number. -/
  chg : Rat := 0
  total : Rat := 0
  vsum : Int := 0
  vcnt : Nat := 0
  deriving DecidableEq, Repr

/-- A worker's summary as the manager holds it (R331, R332). -/
structure Summary where
  worker : Nat
  epoch : Nat
  d : Nat
  c : Nat
  lo : Nat
  loCell : Nat
  hi : Nat
  hiCell : Nat
  flags : Nat
  deriving DecidableEq, Repr

/-- Estimator (R313-R332). -/
structure EstEng where
  cells : List EstCell := List.replicate 24 {}
  /-- String current in mA last known, and the last RACK_I value (R318). -/
  str : Rat := 0
  rack : Int := 0
  /-- Epoch up to which RACK_I values have been counted, and the model time at which the last one arrived (R318). -/
  rackTo : Option Nat := none
  rackAt : Nat := 0
  /-- Committed staged values that wait for the next update (R334). -/
  next : List (Nat × BitVec 32) := []
  /-- Epoch up to which charge is accumulated, and each cell's current from there on (R317). -/
  accT : Option Nat := none
  cur : List Rat := []
  lastUpd : Option Nat := none
  /-- An ACCEPT (2), RESTORE (1) or RENEW (3) waiting for its update, with each cell's seven words (R326, R327). -/
  pend : Option (Nat × List (Nat × List Nat)) := none
  sums : List Summary := []
  deriving DecidableEq, Repr

/-- Work of the record store writer (R528): kind 1 thermal, 2 checkpoint, 3 event; its slot; the words its source gave. -/
structure RecJob where
  kind : Nat
  slot : Nat
  words : List Nat
  deriving DecidableEq, Repr

/-- Record store writer and SRAM checks (R523, R528-R530). -/
structure RecEng where
  cur : Option RecJob := none
  queue : List RecJob := []
  lastDrop : Option Nat := none
  /-- SEQ of the next event and of the next thermal record. -/
  evtSeq : Nat := 1
  thmSeq : Nat := 1
  /-- Times of corrections by bank (R523). -/
  ces : List (Nat × Nat) := []
  /-- Raw words that uncorrectable errors have left behind registers (R521). -/
  raw : List (Nat × Word) := []
  deriving DecidableEq, Repr

/-- What a command hands to the ring's transmitters: port 0 (A), 1 (B) or 2 (both), and a packet, a stream frame, a block of R339
(type and content), or a beacon's 56 bits. -/
inductive Tx where
  | pkt (port : Nat) (p : Pkt)
  | frame (port : Nat) (f : Frame) (crc : Nat)
  | block (port type content : Nat)
  | beacon (port bits : Nat)
  deriving DecidableEq, Repr

/-- A packet that Weld is to originate at its release (R360): one that takes its sequence number then, or one without. -/
inductive Owed where
  | pkt (dst kind : Nat) (data : List Nat)
  | raw (x : Tx)
  deriving DecidableEq, Repr

/-- Ring link (R337-R362). -/
structure RingEng where
  /-- What the last command handed to the transmitters (the model's own field). -/
  tx : List Tx := []
  /-- Session keys in force by peer, 0 the manager, and the ring group key (R353, R563). -/
  sess : List (Nat × Nat) := []
  group : Nat := 0
  /-- Own sequence number under each key, by destination (0x3F the group key), and the last one accepted from each sender, broadcasts
  under 64 + the sender (R351, R353, R564). -/
  seqOut : List (Nat × Nat) := []
  seqIn : List (Nat × Nat) := []
  /-- A worker's own control packets and stream frames waiting for room; it owes the RERUN of a VOID frame it sent; the epoch from which its
  D is in force, and the log2 D before (R349). -/
  ctl : List Pkt := []
  own : List Frame := []
  owe : Bool := false
  decWas : Nat × Nat := (0, 0)
  /-- Packets that wait for Weld (R360). -/
  owed : List Owed := []
  /-- Broken links known (R357). -/
  brk : List Nat := []
  /-- A worker is cut off (R357). -/
  cut : Bool := false
  /-- A received ARMS waiting for its epoch: E, arm, log2 D, lost; and the arm the last one gave. -/
  arms : Option (Nat × Nat × Nat × Bool) := none
  lastArm : Nat := 0
  /-- A break has been learned that the next frame boundary acts on (R357). -/
  armDue : Bool := false
  /-- Manager: what each ARMS sent says, the last first: E, log2 D of arms A and B, arm map (R350, R355). -/
  decs : List (Nat × Nat × Nat × Nat) := []
  /-- Manager: RING_MAP_LOST by the epoch from which it stood, the last first (R350). -/
  losts : List (Nat × Nat) := []
  /-- By port: RING_P_CFG as its last training took it, the blocks still due of the packet that comes in, and the sequence of its next TRAIN
  (R338-R340, R343). -/
  line : List Nat := [0xA461, 0xA461]
  inPkt : List Nat := [0, 0]
  train : List Nat := [0, 0]
  /-- By port: when it last reached UP, when it last reached ALIGN or took a TRAIN there, and when it last received a beacon (R341, R346,
  R358). -/
  upAt : List Nat := [0, 0]
  alignAt : List Nat := [0, 0]
  beaconAt : List (Option Nat) := [none, none]
  /-- Weld is still to issue the ENUM of AUTO_ENUM (R346). -/
  autoDue : Bool := false
  /-- Manager: ENUM blocks that have not returned, the count of each side, and the workers whose keys are in force. -/
  enumOut : Nat := 0
  enumA : Nat := 0
  enumB : Nat := 0
  chain : Bool := false
  keys : List Nat := []
  /-- Worker: COUNT and port of arrival of the last ENUM block (R345). -/
  enumCount : Nat := 0
  enumPort : Nat := 0
  /-- When a frame of its own was last discarded for its age (R349). -/
  lastAged : Option Nat := none
  /-- Own frames sent, by epoch and CRC-32; the frames accepted, by worker, epoch and CRC-32, and those found missing; of the last 8 ms
  (R350, R353). -/
  sent : List (Nat × Nat) := []
  rx : List (Nat × Nat × Nat) := []
  missed : List (Nat × Nat) := []
  /-- Frames received by port in the present millisecond. -/
  loadA : Nat := 0
  loadB : Nat := 0
  deriving DecidableEq, Repr

/-- Samples of a frame that the arc balance keeps (R402): epoch, worker (0 the manager), STACK and AUX1 codes, usable. -/
structure ArcSample where
  e : Nat
  w : Nat
  v : Int
  i : Int
  ok : Bool
  deriving DecidableEq, Repr

/-- Roster, rack means and limits, arc detector, insulation (R395-R409). -/
structure RackEng where
  /-- UNENUM STATUS seen: UID, port, position, epoch (R398); the worker being re-admitted. -/
  seen : List (Nat × Nat × Nat) := []
  readmit : Option Nat := none
  /-- A re-admission that waits for Weld (R416). -/
  readmitWait : Option Nat := none
  /-- When the roster was emptied, and when STATUS last came from each worker (R396). -/
  clearAt : Nat := 0
  statusAt : List (Nat × Nat) := []
  /-- When the present stretch of R397 began. -/
  blindAt : Option Nat := none
  /-- Worker: when it last sent STATUS, and block 0 bits [15:0], block 1 bits [1:0] and P as sent (R395). -/
  statusSent : Option (Nat × List Nat) := none
  /-- Milliseconds whose RACK_I and results are out: the next one (R354, R399). -/
  iNext : Nat := 0
  resNext : Nat := 0
  /-- The next block of the arc balance (R402). -/
  blockNext : Nat := 0
  /-- 1 ms sums by worker and millisecond: STACK sum and count, AUX1 sum and count (R399). -/
  sums : List (Nat × Nat × Int × Nat × Int × Nat) := []
  /-- Consecutive results beyond and within each of the five limits (R400). -/
  hits : List Nat := [0, 0, 0, 0, 0]
  clears : List Nat := [0, 0, 0, 0, 0]
  /-- Arc balance (R402-R406): samples, learned resistances in ohm, blocks learned from, HFB in mA, start of the first block of the
  present run of qualifying ones, time of the last blind block, DECIDED. -/
  arc : List ArcSample := []
  rEnd : Rat := 0
  rSeg : List Rat := []
  learnt : Nat := 0
  hfb : Rat := 0
  runStart : Nat := 0
  lastBlind : Option Nat := none
  decided : Bool := false
  /-- Insulation: means of the positive half in µV, or that it was unsettled or at the limit (R409). -/
  isoPos : Option (Int × Bool × Bool) := none
  /-- When the present half began (R408). -/
  isoAt : Nat := 0
  deriving DecidableEq, Repr

/-- Capture (R410-R413). -/
structure CapEng where
  members : List Nat := []
  slots : Nat := 0
  stride : Nat := 1
  post : Nat := 0
  en : Nat := 0
  /-- Newest slot entered; the trigger slot; the level trigger's previous code. -/
  top : Nat := 0
  trig : Nat := 0
  prev : Option Int := none
  /-- The epoch at which SETTLE began (R413). -/
  settleAt : Nat := 0
  deriving DecidableEq, Repr

/-- Host port (R428-R439). -/
structure HostEng where
  /-- xSPI and I²C transactions completed since reset (R430). -/
  seq : Nat := 0
  i2cSeq : Nat := 0
  /-- Mirror channel (R432-R434): TID awaited, words and outcome of a READY buffer, when it became READY. -/
  mirTid : Nat := 0
  mirWords : List Nat := []
  mirCode : Nat := 0
  mirAt : Nat := 0
  mirAddr : Nat := 0
  /-- Export FIFO (R435-R437): frames with the drops that came before them, drops since the last one queued, VOID frames exported
  whose RERUN is owed. -/
  fifo : List (Frame × Nat) := []
  dropped : Nat := 0
  voids : List Nat := []
  deriving DecidableEq, Repr

/-- Interrupt controller (R454-R459); targets 0 Madder, 1 Woad, 2 Weld, 3 HOST0, 4 HOST1. -/
structure IcuEng where
  /-- Pending lines with their targets; each target's stack of claimed lines and priorities, top first. -/
  pend : List (Nat × Nat) := []
  claims : List (List (Nat × Nat)) := [[], [], [], [], []]
  /-- The last recipient of each line that has had one. -/
  last : List (Nat × Nat) := []
  /-- Moderation gates: open, presenting, deliveries since the gate closed. -/
  gate : List Bool := [false, false, false, false, false]
  shown : List Bool := [false, false, false, false, false]
  since : List Nat := [0, 0, 0, 0, 0]
  /-- Model time of the first of those deliveries. -/
  firstAt : List Nat := [0, 0, 0, 0, 0]
  /-- START_UP routing is in force, and model time from which it is (R457). -/
  startUp : Bool := false
  startAt : Nat := 0
  deriving DecidableEq, Repr

/-- Reset and bring-up (R97-R108). -/
structure BootEng where
  /-- The device is held in reset: bit 0 by RESET_N, bit 1 after a thermal shutdown (R100, R505). -/
  hold : Nat := 0
  /-- RESET_N is low and not yet accepted (R100). -/
  pinLow : Bool := false
  /-- Model time at which the bring-up in progress started. -/
  start : Nat := 0
  /-- Cores that run: Madder, Woad, Weld. -/
  cores : List Bool := [false, false, false]
  /-- Cores whose patch image waits for its verification (R104, R102). -/
  verify : List Nat := []
  /-- The SRAM fill of this bring-up has ended. -/
  filled : Bool := false
  /-- Model time at which the fill in progress started. -/
  fillAt : Nat := 0
  /-- TESTEN was high at power-on reset; role and I2C address as sampled then (R39, R40, R438). -/
  testen : Bool := false
  role : Bool := false
  addr : Bool := false
  /-- A power-on reset whose OTP load and role check are still to come; one that cleared the AON domain. -/
  fresh : Bool := false
  freshAon : Bool := false
  /-- Step 1 has ended since the device rails were last off (R104). -/
  railsDone : Bool := false
  /-- A power-on reset whose fixed rails have not yet settled: PFW_N is low (R109). -/
  por : Bool := true
  /-- The RST_CAUSE bit of the last system reset and the model time at which it came (R99). -/
  cause : Nat × Nat := (0, 0)
  deriving DecidableEq, Repr

/-- A service write that awaits its synchronisation (R482): watchdog, value, model time of the write. -/
structure WdgSync where
  n : Nat
  v : Nat
  t : Nat
  deriving DecidableEq, Repr

/-- Watchdogs, task monitor and keeper (R479-R491). -/
structure WdgEng where
  /-- Writes awaiting synchronisation, oldest first. -/
  sync : List WdgSync := []
  /-- Watchdogs that were running when last looked at. -/
  run : List Bool := [false, false, false, false]
  /-- Model time at which each count was last set. -/
  at0 : List Nat := [0, 0, 0, 0]
  /-- Count at which key A last armed each. -/
  armed : List Nat := [0, 0, 0, 0]
  /-- The task monitor was running when last looked at; the check-ins that took COUNT above MAX in this period, oldest first. -/
  tm : Bool := false
  above : List Nat := []
  /-- Model time at which the task monitor's period began, and at which the keeper took its state or Madder was last released (R487, R491). -/
  tmAt : Nat := 0
  keepAt : Nat := 0
  deriving DecidableEq, Repr

/-- A condition of R500: whether it holds, and the consecutive samples that speak for its change. -/
structure ThmCond where
  on : Bool := false
  run : Nat := 0
  deriving DecidableEq, Repr

/-- Thermal block (R499-R505): consecutive samples of each sensor that speak for a change of its FAULT; the conditions WARN_F, WARN_L,
level 1, level 2 and shutdown; microseconds of the present second at level 1 or above. -/
structure ThmEng where
  odd : List Nat := [0, 0, 0, 0, 0, 0]
  conds : List ThmCond := [{}, {}, {}, {}, {}]
  us : Nat := 0
  /-- Model time from which every valid sensor has read at or below SHUT - HYS in the hold of a shutdown. -/
  cool : Option Nat := none
  /-- A shutdown message waits for core release: sensor (R505). -/
  shut : Option Nat := none
  deriving DecidableEq, Repr

/-- A frozen shadow of the time group (R511): path 0 cores, 1 xSPI, 2 I²C; SUB and SEC; model time at which it froze. -/
structure RtcFreeze where
  path : Nat
  sub : Nat
  sec : Nat
  t : Nat
  deriving DecidableEq, Repr

/-- Real-time clock (R510-R516). -/
structure RtcEng where
  frozen : List RtcFreeze := []
  /-- Model time at which SUB last was 0. -/
  subAt : Nat := 0
  /-- What was over at `subAt`, 10^13 to one count of SUB. -/
  carry : Nat := 0
  /-- A PWRON pulse runs, model time at which it ends, PWRON is latched high (R516). -/
  pulse : Bool := false
  pulseTo : Nat := 0
  latched : Bool := false
  /-- The LFRC can be calibrated, and model time from which the present 10 s count (R510). -/
  canCal : Bool := false
  calAt : Nat := 0
  /-- The count of 1/256 s that was last compared with RTC_PER (R515). -/
  perAt : Nat := 0
  deriving DecidableEq, Repr

/-- An OTP command in progress (R542): 2 PROG, 3 REPAIR, 4 FINALISE; for a lifecycle transition 5, with region 7 behind it 6.
Rows still to burn with their data, the first of them in progress; retries of that row and the most any row took; the row a PROG
or a REPAIR names; the region of a FINALISE, or the entry of a REPAIR. -/
structure OtpJob where
  op : Nat
  rows : List (Nat × Nat)
  retries : Nat := 0
  most : Nat := 0
  row : Nat := 0
  region : Nat := 0
  deriving DecidableEq, Repr

/-- One-time-programmable memory. -/
structure OtpEng where
  job : Option OtpJob := none
  deriving DecidableEq, Repr

/-- A key setup (R563, R564): the worker (0 at a worker itself), the step awaited (2 REPLY, 3 GROUP, 4 CONFIRM), the tries so far, the
generation, the own ephemeral private key, the session key agreed, and model time from which the answer is awaited. -/
structure KeySetup where
  w : Nat
  await : Nat
  tries : Nat
  gen : Nat
  d : Nat
  ks : Nat
  t : Nat
  deriving DecidableEq, Repr

/-- Security (R555-R565). -/
structure SecEng where
  /-- A nonce is live, its level in SVC_STATUS.CHAL_LEVEL; model time at which it was drawn. -/
  nonce : Bool := false
  nonceAt : Nat := 0
  /-- Model time of the last xSPI transaction, and of the start of the lockout. -/
  lastAt : Nat := 0
  lockAt : Nat := 0
  /-- Key setups in progress (R563, R564). -/
  setups : List KeySetup := []
  /-- Workers whose old key is still accepted while a new one is being agreed. -/
  rekey : List Nat := []
  deriving DecidableEq, Repr

/-- Every block's own state. -/
structure Engines where
  flt : FltEng := {}
  mode : ModeEng := {}
  epoch : EpochEng := {}
  pwr : PowerEng := {}
  seq : SeqEng := {}
  cont : ContEng := {}
  feed : FeedEng := {}
  clk : ClkEng := {}
  afe : AfeEng := {}
  scan : ScanEng := {}
  bal : BalEng := {}
  eis : EisEng := {}
  est : EstEng := {}
  recs : RecEng := {}
  ring : RingEng := {}
  rack : RackEng := {}
  cap : CapEng := {}
  host : HostEng := {}
  icu : IcuEng := {}
  boot : BootEng := {}
  wdg : WdgEng := {}
  thm : ThmEng := {}
  rtc : RtcEng := {}
  otp : OtpEng := {}
  sec : SecEng := {}
  deriving DecidableEq, Repr

end Sys2Proof.Machine
end

