-- ==== Sys2Proof/Machine/RegMap.lean ====
section
/-!
DEFINITION. The register map: every register of every page (R68 and the page map of each block's chapter), its address,
its access code (R7), the bits a write can change, its reset value and whether it is held in the AON domain.
Read from the page maps of the chapters; each page's list names the rule of its map.
-/
namespace Sys2Proof.Machine

/-- Access codes of R7 (`w1s` occurs only as a field of SHADOW and STAGE, which `Machine/Access.lean` writes);
`rwMgr` is "RW (manager), RO (worker)" (R22, R90). -/
inductive Acc where
  | ro | rw | rwl | w1c | wo | wk | stg | shd | rwMgr
  deriving DecidableEq, Repr

/-- One row of a page map: `count` registers from `base` (offset within the page), `stride` apart. -/
structure RegRow where
  base : Nat
  stride : Nat
  count : Nat
  acc : Acc
  mask : Nat
  resets : List Nat
  aon : Bool
  deriving DecidableEq, Repr

/-- Page 0x00 IDENT (R69). -/
def rows_IDENT : List RegRow := [
  ⟨0x40, 0x0, 1, .ro, 0x0, [0x7724], false⟩,
  ⟨0x44, 0x0, 1, .ro, 0x0, [0x2000000], false⟩,
  ⟨0x48, 0x0, 1, .ro, 0x0, [0x18B0], false⟩,
  ⟨0x4C, 0x0, 1, .ro, 0x0, [0x0], false⟩,
  ⟨0x50, 0x0, 1, .ro, 0x0, [0x0], false⟩,
  ⟨0x54, 0x0, 1, .ro, 0x0, [0x0], false⟩,
  ⟨0x58, 0x0, 1, .ro, 0x0, [0x28], false⟩]

/-- Page 0x01 MODE (R90). -/
def rows_MODE : List RegRow := [
  ⟨0x8, 0x0, 1, .ro, 0x0, [0x3], false⟩,
  ⟨0xC, 0x0, 1, .w1c, 0x3F, [0x0], false⟩,
  ⟨0x40, 0x0, 1, .ro, 0x0, [0x33], false⟩,
  ⟨0x44, 0x0, 1, .rw, 0xF, [0xF], true⟩,
  ⟨0x48, 0x0, 1, .ro, 0x0, [0x0], false⟩,
  ⟨0x4C, 0x0, 1, .rwl, 0xFFFF00C1, [0x3E800C0], true⟩,
  ⟨0x50, 0x0, 1, .rw, 0xFFFF, [0x3E8], true⟩,
  ⟨0x54, 0x0, 1, .rw, 0x1FFFF, [0xA], true⟩,
  ⟨0x58, 0x0, 1, .rwMgr, 0xFFFF, [0xC8], true⟩,
  ⟨0x60, 0x4, 8, .rw, 0xFFFFFFFF, [0xA, 0x41A, 0x3E8, 0x3E8, 0xFFFFFFFF, 0xFFFFFFFF, 0x64, 0x3E8], true⟩,
  ⟨0x80, 0x0, 1, .ro, 0x0, [0x0], false⟩,
  ⟨0x84, 0x0, 1, .ro, 0x0, [0x0], false⟩,
  ⟨0x88, 0x0, 1, .ro, 0x0, [0x0], false⟩,
  ⟨0x8C, 0x0, 1, .ro, 0x0, [0x33], false⟩,
  ⟨0x90, 0x0, 1, .ro, 0x0, [0x0], false⟩,
  ⟨0x94, 0x0, 1, .w1c, 0x7F, [0x0], true⟩]

/-- Page 0x02 CLK (R22). -/
def rows_CLK : List RegRow := [
  ⟨0x8, 0x0, 1, .ro, 0x0, [0x1], false⟩,
  ⟨0xC, 0x0, 1, .w1c, 0x1F, [0x0], false⟩,
  ⟨0x40, 0x0, 1, .rwl, 0xF0, [0xA0], false⟩,
  ⟨0x44, 0x0, 1, .rw, 0x1, [0x0], true⟩,
  ⟨0x48, 0x0, 1, .ro, 0x0, [0x0], false⟩,
  ⟨0x4C, 0x0, 1, .rwMgr, 0xFFFFF, [0x0], false⟩,
  ⟨0x50, 0x0, 1, .wk, 0x1, [0x0], false⟩,
  ⟨0x54, 0x0, 1, .ro, 0x0, [0x0], false⟩]

/-- Page 0x03 RST (R110). -/
def rows_RST : List RegRow := [
  ⟨0xC, 0x0, 1, .w1c, 0x7, [0x0], false⟩,
  ⟨0x40, 0x0, 1, .w1c, 0xFE000FF0, [0x0], false⟩,
  ⟨0x44, 0x0, 1, .ro, 0x0, [0x0], false⟩,
  ⟨0x48, 0x0, 1, .wk, 0x107, [0x0], false⟩,
  ⟨0x4C, 0x0, 1, .ro, 0x0, [0x0], false⟩,
  ⟨0x50, 0x0, 1, .ro, 0x0, [0x0], false⟩,
  ⟨0x54, 0x0, 1, .ro, 0x0, [0x0], true⟩]

/-- Page 0x04 OTP (R548). -/
def rows_OTP : List RegRow := [
  ⟨0x8, 0x0, 1, .ro, 0x0, [0x0], false⟩,
  ⟨0xC, 0x0, 1, .w1c, 0xF, [0x0], false⟩,
  ⟨0x40, 0x0, 1, .wk, 0x7C7, [0x0], false⟩,
  ⟨0x44, 0x0, 1, .rw, 0x7FF, [0x0], false⟩,
  ⟨0x48, 0x0, 1, .rw, 0xFFFFFFFF, [0x0], false⟩,
  ⟨0x4C, 0x0, 1, .ro, 0x0, [0x0], false⟩,
  ⟨0x50, 0x0, 1, .ro, 0x0, [0x0], false⟩,
  ⟨0x54, 0x0, 1, .ro, 0x0, [0x0], false⟩,
  ⟨0x58, 0x4, 3, .ro, 0x0, [0x0], false⟩,
  ⟨0x64, 0x0, 1, .ro, 0x0, [0x0], false⟩,
  ⟨0x68, 0x0, 1, .ro, 0x0, [0x0], false⟩,
  ⟨0x6C, 0x0, 1, .ro, 0x0, [0x0], false⟩,
  ⟨0x80, 0x4, 16, .ro, 0x0, [0x0], false⟩]

/-- Page 0x05 SEC (R570). -/
def rows_SEC : List RegRow := [
  ⟨0x8, 0x0, 1, .ro, 0x0, [0x0], false⟩,
  ⟨0xC, 0x0, 1, .w1c, 0xF, [0x0], false⟩,
  ⟨0x40, 0x0, 1, .wk, 0x3F07, [0x0], false⟩,
  ⟨0x44, 0x0, 1, .ro, 0x0, [0x0], false⟩,
  ⟨0x48, 0x0, 1, .ro, 0x0, [0x0], false⟩,
  ⟨0x4C, 0x0, 1, .ro, 0x0, [0x0], false⟩,
  ⟨0x50, 0x0, 1, .ro, 0x0, [0x0], false⟩,
  ⟨0x54, 0x4, 3, .ro, 0x0, [0x0], false⟩,
  ⟨0x60, 0x0, 1, .ro, 0x0, [0x0], false⟩,
  ⟨0x64, 0x0, 1, .ro, 0x0, [0x0], false⟩]

/-- Page 0x06 ICU (R461). -/
def rows_ICU : List RegRow := [
  ⟨0x8, 0x0, 1, .ro, 0x0, [0x58], false⟩,
  ⟨0xC, 0x0, 1, .w1c, 0x3, [0x0], false⟩,
  ⟨0x40, 0x0, 1, .rwl, 0x7, [0x4], false⟩,
  ⟨0x44, 0x0, 1, .rwl, 0xFFFF, [0xC8], false⟩,
  ⟨0x48, 0x0, 1, .rw, 0x1F, [0x0], false⟩,
  ⟨0x50, 0x4, 8, .ro, 0x0, [0x0], false⟩,
  ⟨0x80, 0x20, 3, .ro, 0x0, [0x80010000], false⟩,
  ⟨0xE0, 0x20, 2, .rw, 0x80FFFFFF, [0x80010000], false⟩,
  ⟨0x84, 0x20, 5, .ro, 0x0, [0x0], false⟩,
  ⟨0x88, 0x20, 5, .wo, 0xFF, [0x0], false⟩,
  ⟨0x8C, 0x20, 5, .ro, 0x0, [0x0], false⟩,
  ⟨0x90, 0x20, 5, .ro, 0x0, [0x0], false⟩,
  ⟨0x94, 0x20, 5, .ro, 0x0, [0x0], false⟩,
  ⟨0x140, 0x4, 256, .rw, 0xFF000018, [0x0], false⟩]

/-- Page 0x07 FLT (R477). -/
def rows_FLT : List RegRow := [
  ⟨0x8, 0x0, 1, .ro, 0x0, [0x0], false⟩,
  ⟨0xC, 0x0, 1, .w1c, 0xFF, [0x0], false⟩,
  ⟨0x40, 0x0, 1, .wk, 0x7, [0x0], false⟩,
  ⟨0x44, 0x0, 1, .rwl, 0xFFFFFF87, [0x320383], false⟩,
  ⟨0x48, 0x4, 3, .rwl, 0x80FF3FFF, [0x801003E8, 0x80082710, 0x80042710], false⟩,
  ⟨0x54, 0x0, 1, .w1c, 0xF, [0x0], false⟩,
  ⟨0x58, 0x0, 1, .ro, 0x0, [0x0], false⟩,
  ⟨0x5C, 0x0, 1, .w1c, 0x80000000, [0x0], false⟩,
  ⟨0x60, 0x0, 1, .ro, 0x0, [0x0], false⟩,
  ⟨0x64, 0x0, 1, .ro, 0x0, [0x0], false⟩,
  ⟨0x68, 0x0, 1, .ro, 0x0, [0x0], false⟩,
  ⟨0x6C, 0x0, 1, .ro, 0x0, [0x0], false⟩,
  ⟨0x70, 0x0, 1, .ro, 0x0, [0x0], false⟩,
  ⟨0x74, 0x0, 1, .ro, 0x0, [0x0], false⟩,
  ⟨0x78, 0x0, 1, .ro, 0x0, [0x0], false⟩,
  ⟨0x7C, 0x0, 1, .wo, 0xFFFFFFFF, [0x0], false⟩,
  ⟨0x80, 0x8, 16, .rwl, 0x80FF3F00, [0x0], false⟩,
  ⟨0x84, 0x8, 16, .rwl, 0x87FF3FFF, [0x10001], false⟩,
  ⟨0x100, 0x8, 16, .ro, 0x0, [0x0], false⟩,
  ⟨0x104, 0x8, 16, .ro, 0x0, [0x0], false⟩,
  ⟨0x180, 0x0, 1, .ro, 0x0, [0x0], false⟩]

/-- Page 0x08 WDG (R495). -/
def rows_WDG : List RegRow := [
  ⟨0x8, 0x0, 1, .ro, 0x0, [0x0], false⟩,
  ⟨0xC, 0x0, 1, .w1c, 0x3F, [0x0], false⟩,
  ⟨0x40, 0x20, 4, .rwl, 0xFFFFFFFF, [0x380186A0, 0x180186A0, 0x180186A0, 0x8000], false⟩,
  ⟨0x44, 0x20, 4, .wo, 0xFFFFFFFF, [0x0], false⟩,
  ⟨0x48, 0x20, 4, .ro, 0x0, [0x0], false⟩,
  ⟨0x4C, 0x20, 4, .w1c, 0x80000000, [0x0], false⟩,
  ⟨0x50, 0x20, 4, .ro, 0x0, [0x0], false⟩,
  ⟨0x54, 0x20, 4, .ro, 0x0, [0x0], false⟩,
  ⟨0x58, 0x20, 4, .ro, 0x0, [0x0], false⟩,
  ⟨0xC0, 0x0, 1, .rwl, 0xC000FFFF, [0x3E8], false⟩,
  ⟨0xC4, 0x0, 1, .wk, 0xF, [0x0], false⟩,
  ⟨0xC8, 0x0, 1, .ro, 0x0, [0x0], false⟩,
  ⟨0xCC, 0x0, 1, .ro, 0x0, [0x0], false⟩,
  ⟨0xD0, 0x0, 1, .w1c, 0x80000000, [0x0], false⟩,
  ⟨0xD4, 0x0, 1, .ro, 0x0, [0x0], false⟩,
  ⟨0x100, 0x4, 16, .rw, 0x80FFFF00, [0x0], false⟩]

/-- Page 0x09 THM (R508). -/
def rows_THM : List RegRow := [
  ⟨0x8, 0x0, 1, .ro, 0x0, [0x0], false⟩,
  ⟨0xC, 0x0, 1, .w1c, 0x3F, [0x0], false⟩,
  ⟨0x40, 0x0, 1, .rwl, 0x330F3F3F, [0x10050A3F], false⟩,
  ⟨0x44, 0x0, 1, .rwl, 0xFFFFFF, [0x8C786E], false⟩,
  ⟨0x48, 0x4, 6, .ro, 0x0, [0x0], false⟩,
  ⟨0x60, 0x0, 1, .ro, 0x0, [0x0], false⟩,
  ⟨0x64, 0x0, 1, .ro, 0x0, [0x0], false⟩,
  ⟨0x68, 0x0, 1, .ro, 0x0, [0x0], false⟩,
  ⟨0x6C, 0x0, 1, .ro, 0x0, [0x0], true⟩,
  ⟨0x70, 0x0, 1, .ro, 0x0, [0x0], true⟩,
  ⟨0x74, 0x0, 1, .ro, 0x0, [0x0], true⟩]

/-- Page 0x0A SEQ (R150). -/
def rows_SEQ : List RegRow := [
  ⟨0x4, 0x0, 1, .wk, 0x1F07, [0x0], false⟩,
  ⟨0x8, 0x0, 1, .ro, 0x0, [0x0], false⟩,
  ⟨0xC, 0x0, 1, .w1c, 0x3FF, [0x0], false⟩,
  ⟨0x40, 0x20, 3, .ro, 0x0, [0xA00FE000], false⟩,
  ⟨0xA0, 0x20, 16, .rwl, 0xEFFFFEFF, [0x211F8000, 0x211F8000, 0x211F8000, 0x211F8000, 0x211F8000, 0x211F8000, 0x211F8000, 0x211F8000, 0x211F8000, 0x211F8001, 0x211F8002, 0x211F8003, 0x211F8004, 0x211F8005, 0x211F8006, 0x211F8007], false⟩,
  ⟨0x44, 0x20, 3, .ro, 0x0, [0x0], false⟩,
  ⟨0xA4, 0x20, 16, .rwl, 0x7FFFF, [0x0], false⟩,
  ⟨0x48, 0x20, 3, .ro, 0x0, [0x0], false⟩,
  ⟨0xA8, 0x20, 16, .rwl, 0xFFFFFFFF, [0x640000], false⟩,
  ⟨0x4C, 0x20, 3, .ro, 0x0, [0x0], false⟩,
  ⟨0xAC, 0x20, 16, .rwl, 0xFFFFFFFF, [0x640000], false⟩,
  ⟨0x50, 0x20, 3, .ro, 0x0, [0x0], false⟩,
  ⟨0xB0, 0x20, 16, .rwl, 0xFFF, [0x28], false⟩,
  ⟨0x54, 0x20, 19, .ro, 0x0, [0x3, 0x3, 0x3, 0x0, 0x0, 0x0, 0x0, 0x0, 0x0, 0x0, 0x0, 0x0, 0x0, 0x0, 0x0, 0x0, 0x0, 0x0, 0x0], false⟩,
  ⟨0x58, 0x20, 19, .ro, 0x0, [0x0], false⟩,
  ⟨0x2A0, 0x0, 1, .rwl, 0xFFF005F, [0x64001F], false⟩,
  ⟨0x2A4, 0x0, 1, .w1c, 0x80000000, [0x0], false⟩,
  ⟨0x2A8, 0x0, 1, .rwl, 0x7, [0x2], false⟩,
  ⟨0x2AC, 0x0, 1, .ro, 0x0, [0x7], false⟩,
  ⟨0x2B0, 0x0, 1, .ro, 0x0, [0x0], false⟩,
  ⟨0x2B4, 0x0, 1, .ro, 0x0, [0x0], false⟩,
  ⟨0x2B8, 0x0, 1, .ro, 0x0, [0x0], false⟩,
  ⟨0x2BC, 0x0, 1, .ro, 0x0, [0x0], false⟩]

/-- Page 0x0B SUP (R130). -/
def rows_SUP : List RegRow := [
  ⟨0xC, 0x0, 1, .w1c, 0x7, [0x0], false⟩,
  ⟨0x40, 0x10, 16, .rwl, 0xF3F03E3F, [0xF1E0140F, 0x1F00000, 0x1F00000, 0x1F00000, 0x1F00000, 0x1F00000, 0x1F00000, 0x1F00000, 0x1F00000, 0x1F00000, 0x1F00000, 0x1F00000, 0x1F00000, 0x1F00000, 0x1F00000, 0x1F00000], false⟩,
  ⟨0x44, 0x10, 16, .rwl, 0xFFF0FFF, [0x2BC01C2, 0x0, 0x0, 0x0, 0x0, 0x0, 0x0, 0x0, 0x0, 0x0, 0x0, 0x0, 0x0, 0x0, 0x0, 0x0], false⟩,
  ⟨0x48, 0x10, 16, .rwl, 0x3FF, [0xA], false⟩,
  ⟨0x4C, 0x10, 16, .ro, 0x0, [0x0], false⟩,
  ⟨0x140, 0x0, 1, .ro, 0x0, [0x0], false⟩,
  ⟨0x144, 0x0, 1, .ro, 0x0, [0x0], false⟩,
  ⟨0x148, 0x0, 1, .w1c, 0x80000000, [0x0], false⟩,
  ⟨0x14C, 0x0, 1, .ro, 0x0, [0x0], false⟩]

/-- Page 0x0C REG (R127). -/
def rows_REG : List RegRow := [
  ⟨0xC, 0x0, 1, .w1c, 0xFFFFF, [0x0], false⟩,
  ⟨0x40, 0x20, 3, .ro, 0x0, [0xA0, 0xF0, 0x294], false⟩,
  ⟨0xA0, 0x20, 1, .rw, 0x3FF, [0x294], false⟩,
  ⟨0x44, 0x20, 3, .ro, 0x0, [0x7], false⟩,
  ⟨0xA4, 0x20, 1, .rw, 0x7, [0x3], false⟩,
  ⟨0x48, 0x20, 3, .ro, 0x0, [0x6], false⟩,
  ⟨0xA8, 0x20, 1, .rw, 0xF, [0x6], false⟩,
  ⟨0x4C, 0x20, 4, .ro, 0x0, [0x0], false⟩,
  ⟨0x50, 0x20, 4, .ro, 0x0, [0x0], false⟩,
  ⟨0x54, 0x20, 4, .ro, 0x0, [0x0], false⟩,
  ⟨0xC0, 0x10, 3, .ro, 0x0, [0xB4, 0x258, 0x168], false⟩,
  ⟨0xF0, 0x10, 3, .rw, 0x3FF, [0x294], false⟩,
  ⟨0xC4, 0x10, 3, .ro, 0x0, [0x72], false⟩,
  ⟨0xF4, 0x10, 3, .rw, 0x73, [0x32], false⟩,
  ⟨0xC8, 0x10, 6, .ro, 0x0, [0x0], false⟩,
  ⟨0xCC, 0x10, 6, .ro, 0x0, [0x0], false⟩,
  ⟨0x120, 0x0, 1, .rwl, 0x13, [0x1], false⟩,
  ⟨0x124, 0x0, 1, .ro, 0x0, [0x0], false⟩,
  ⟨0x128, 0x0, 1, .ro, 0x0, [0x0], false⟩]

/-- Page 0x0D PHC (R175). -/
def rows_PHC : List RegRow := [
  ⟨0x8, 0x0, 1, .ro, 0x0, [0x10], false⟩,
  ⟨0xC, 0x0, 1, .w1c, 0xFFFFFFFF, [0x0], false⟩,
  ⟨0x40, 0x0, 1, .wk, 0x707, [0x0], false⟩,
  ⟨0x44, 0x0, 1, .ro, 0x0, [0x0], false⟩,
  ⟨0x48, 0x0, 1, .w1c, 0x80000000, [0x0], false⟩,
  ⟨0x4C, 0x0, 1, .ro, 0x0, [0x0], false⟩,
  ⟨0x80, 0x80, 4, .rwl, 0xFFF0, [0x80], false⟩,
  ⟨0x84, 0x80, 4, .rw, 0x3FFF, [0x960], false⟩,
  ⟨0x88, 0x80, 4, .rw, 0x7, [0x3], false⟩,
  ⟨0x8C, 0x80, 4, .rwl, 0x1FFF, [0x500], false⟩,
  ⟨0x90, 0x80, 4, .rwl, 0xFFFF, [0x1000], false⟩,
  ⟨0x94, 0x80, 4, .rw, 0xFFFF, [0x3E8], false⟩,
  ⟨0x98, 0x80, 4, .rwl, 0xEFF000FF, [0xA6600014], false⟩,
  ⟨0x9C, 0x80, 4, .rwl, 0xF0FFF, [0x50010], false⟩,
  ⟨0xA0, 0x80, 4, .rwl, 0xFFFFFFFF, [0x2000010], false⟩,
  ⟨0xA4, 0x80, 4, .rwl, 0xFFFF00FF, [0x0], false⟩,
  ⟨0xA8, 0x80, 4, .rwl, 0xFFFFFFFF, [0x1000008], false⟩,
  ⟨0xAC, 0x80, 4, .rwl, 0x3F3F3FFF, [0xD0D2004], false⟩,
  ⟨0xB0, 0x80, 4, .rwl, 0xFFFF00FF, [0x640008], false⟩,
  ⟨0xB4, 0x80, 4, .ro, 0x0, [0x0], false⟩,
  ⟨0xB8, 0x80, 4, .ro, 0x0, [0x0], false⟩,
  ⟨0xBC, 0x80, 4, .ro, 0x0, [0x0], false⟩,
  ⟨0xC0, 0x80, 4, .ro, 0x0, [0x0], false⟩,
  ⟨0xC4, 0x80, 4, .ro, 0x0, [0x0], false⟩,
  ⟨0xC8, 0x80, 4, .ro, 0x0, [0x0], false⟩,
  ⟨0x280, 0x20, 8, .rwl, 0xFFFF, [0x64], false⟩,
  ⟨0x284, 0x20, 8, .rwl, 0xFF, [0x3C], false⟩,
  ⟨0x288, 0x20, 8, .ro, 0x0, [0x700], false⟩,
  ⟨0x28C, 0x20, 8, .ro, 0x0, [0x0], false⟩,
  ⟨0x290, 0x20, 8, .ro, 0x0, [0x0], false⟩,
  ⟨0x294, 0x20, 8, .ro, 0x0, [0x0], false⟩]

/-- Page 0x0E PATH (R204). -/
def rows_PATH : List RegRow := [
  ⟨0x8, 0x0, 1, .ro, 0x0, [0x0], false⟩,
  ⟨0xC, 0x0, 1, .w1c, 0x1FF, [0x0], false⟩,
  ⟨0x40, 0x0, 1, .wk, 0x7, [0x0], false⟩,
  ⟨0x44, 0x0, 1, .rwl, 0x3, [0x3], false⟩,
  ⟨0x48, 0x0, 1, .ro, 0x0, [0x0], false⟩,
  ⟨0x4C, 0x0, 1, .ro, 0x0, [0x0], false⟩,
  ⟨0x50, 0x0, 1, .ro, 0x0, [0x0], false⟩,
  ⟨0x54, 0x0, 1, .rwl, 0x800703FF, [0x80000064], false⟩,
  ⟨0x58, 0x0, 1, .rw, 0x1FFF, [0x1068], false⟩,
  ⟨0x5C, 0x0, 1, .rw, 0xFFFF00FF, [0x140A000A], false⟩,
  ⟨0x60, 0x0, 1, .rw, 0x7FFFFFF, [0x4B33540], false⟩,
  ⟨0x64, 0x0, 1, .rw, 0xF7F003F, [0x41E000A], false⟩,
  ⟨0x68, 0x0, 1, .rw, 0x8FFFFFFF, [0x2D0A00], false⟩,
  ⟨0x6C, 0x0, 1, .rwl, 0xFFFFFFFF, [0x2580A0A], false⟩,
  ⟨0x70, 0x0, 1, .ro, 0x0, [0x0], false⟩,
  ⟨0x74, 0x0, 1, .ro, 0x0, [0x0], false⟩,
  ⟨0x78, 0x0, 1, .ro, 0x0, [0x0], false⟩]

/-- Page 0x0F FEED (R202). -/
def rows_FEED : List RegRow := [
  ⟨0x8, 0x0, 1, .ro, 0x0, [0x0], false⟩,
  ⟨0xC, 0x0, 1, .w1c, 0xFF, [0x0], false⟩,
  ⟨0x40, 0x0, 1, .wk, 0x7, [0x0], false⟩,
  ⟨0x44, 0x0, 1, .rwl, 0xFFF0FFF, [0xBB801C2], false⟩,
  ⟨0x48, 0x0, 1, .rwl, 0x3F3F, [0x140A], false⟩,
  ⟨0x4C, 0x0, 1, .rwl, 0x73FF00FF, [0x30320032], false⟩,
  ⟨0x50, 0x0, 1, .rwl, 0xFF, [0x32], false⟩,
  ⟨0x54, 0x0, 1, .rwl, 0xFFFF, [0x1F4], false⟩,
  ⟨0x58, 0x0, 1, .ro, 0x0, [0x0], false⟩,
  ⟨0x5C, 0x0, 1, .ro, 0x0, [0x0], false⟩,
  ⟨0x60, 0x0, 1, .ro, 0x0, [0x0], false⟩,
  ⟨0x64, 0x0, 1, .ro, 0x0, [0x0], false⟩,
  ⟨0x68, 0x0, 1, .ro, 0x0, [0x0], false⟩,
  ⟨0x6C, 0x0, 1, .w1c, 0x80000000, [0x0], false⟩,
  ⟨0x70, 0x0, 1, .ro, 0x0, [0x0], false⟩]

/-- Page 0x10 CONT (R217). -/
def rows_CONT : List RegRow := [
  ⟨0x8, 0x0, 1, .ro, 0x0, [0x0], false⟩,
  ⟨0xC, 0x0, 1, .w1c, 0x3FF, [0x0], false⟩,
  ⟨0x40, 0x0, 1, .wk, 0x7, [0x0], false⟩,
  ⟨0x44, 0x0, 1, .rwl, 0xFFFFFFFF, [0xA051432], false⟩,
  ⟨0x48, 0x0, 1, .rwl, 0xFFFFFFFF, [0x3E85F32], false⟩,
  ⟨0x4C, 0x0, 1, .rwl, 0xFFFF0000, [0x641E0000], false⟩,
  ⟨0x50, 0x0, 1, .rwl, 0xFFFFFFFF, [0x5A0A010A], false⟩,
  ⟨0x54, 0x0, 1, .rwl, 0xFFFFFFFF, [0xC814A0], false⟩,
  ⟨0x58, 0x0, 1, .rwl, 0x800000FF, [0x80000005], false⟩,
  ⟨0x5C, 0x0, 1, .ro, 0x0, [0x0], false⟩,
  ⟨0x60, 0x4, 3, .ro, 0x0, [0x0], false⟩,
  ⟨0x6C, 0x4, 3, .ro, 0x0, [0x0], false⟩,
  ⟨0x78, 0x0, 1, .w1c, 0x80000000, [0x0], false⟩,
  ⟨0x7C, 0x0, 1, .ro, 0x0, [0x0], false⟩,
  ⟨0x80, 0x4, 3, .ro, 0x0, [0x0], false⟩,
  ⟨0x8C, 0x0, 1, .ro, 0x0, [0x0], false⟩,
  ⟨0x90, 0x0, 1, .ro, 0x0, [0x0], false⟩]

/-- Page 0x11 RTC (R518). -/
def rows_RTC : List RegRow := [
  ⟨0x8, 0x0, 1, .ro, 0x0, [0x4], false⟩,
  ⟨0xC, 0x0, 1, .w1c, 0xF, [0x0], false⟩,
  ⟨0x40, 0x0, 1, .ro, 0x0, [0x0], false⟩,
  ⟨0x44, 0x0, 1, .ro, 0x0, [0x0], false⟩,
  ⟨0x48, 0x0, 1, .ro, 0x0, [0x7D010806], false⟩,
  ⟨0x4C, 0x0, 1, .ro, 0x0, [0x0], false⟩,
  ⟨0x50, 0x0, 1, .rw, 0xFFFFFFFF, [0x0], false⟩,
  ⟨0x54, 0x0, 1, .wk, 0x7, [0x0], false⟩,
  ⟨0x58, 0x0, 1, .rw, 0xFFFF, [0x0], false⟩,
  ⟨0x5C, 0x0, 1, .rw, 0xFFFFFFFF, [0x0], false⟩,
  ⟨0x60, 0x0, 1, .rw, 0x80000000, [0x0], false⟩,
  ⟨0x64, 0x0, 1, .rw, 0x81FFFFFF, [0x100], false⟩,
  ⟨0x68, 0x0, 1, .rw, 0xC000FFFF, [0xC00003E8], false⟩,
  ⟨0x6C, 0x0, 1, .ro, 0x0, [0x0], false⟩]

/-- Page 0x12 MEM (R535). -/
def rows_MEM : List RegRow := [
  ⟨0x8, 0x0, 1, .ro, 0x0, [0x0], false⟩,
  ⟨0xC, 0x0, 1, .w1c, 0x1F, [0x0], false⟩,
  ⟨0x40, 0x0, 1, .rwl, 0xFFFFFFFF, [0x100E10], false⟩,
  ⟨0x44, 0x0, 1, .ro, 0x0, [0x0], false⟩,
  ⟨0x48, 0x0, 1, .ro, 0x0, [0x0], false⟩,
  ⟨0x4C, 0x0, 1, .ro, 0x0, [0x0], false⟩,
  ⟨0x50, 0x0, 1, .ro, 0x0, [0x0], false⟩,
  ⟨0x80, 0x4, 16, .ro, 0x0, [0x0], false⟩]

/-- Page 0x13 AFE (R239). -/
def rows_AFE : List RegRow := [
  ⟨0x8, 0x0, 1, .ro, 0x0, [0x0], false⟩,
  ⟨0xC, 0x0, 1, .w1c, 0x7FF, [0x0], false⟩,
  ⟨0x40, 0x0, 1, .rwl, 0xFF101F, [0x321000], false⟩,
  ⟨0x44, 0x0, 1, .ro, 0x0, [0x0], false⟩,
  ⟨0x48, 0x0, 1, .ro, 0x0, [0x0], false⟩,
  ⟨0x4C, 0x0, 1, .rwl, 0xFFFFFFFF, [0x3E80000], false⟩,
  ⟨0x50, 0x0, 1, .rwl, 0x1, [0x0], false⟩,
  ⟨0x54, 0x0, 1, .rwl, 0xFFFF, [0x64], false⟩,
  ⟨0x58, 0x0, 1, .wk, 0x7, [0x0], false⟩,
  ⟨0x5C, 0x0, 1, .rwl, 0xFFFFCFFF, [0x14028258], false⟩,
  ⟨0x60, 0x0, 1, .ro, 0x0, [0x0], false⟩,
  ⟨0x64, 0x0, 1, .ro, 0x0, [0x0], false⟩,
  ⟨0x68, 0x0, 1, .ro, 0x0, [0x0], false⟩,
  ⟨0x6C, 0x0, 1, .w1c, 0x80000000, [0x0], false⟩,
  ⟨0x70, 0x0, 1, .ro, 0x0, [0x0], false⟩,
  ⟨0x80, 0x4, 32, .ro, 0x0, [0x0], false⟩,
  ⟨0x100, 0x4, 32, .rw, 0xFFFFFFFF, [0x0], false⟩,
  ⟨0x180, 0x4, 16, .rwl, 0xFFFFFFFF, [0xD6B03E8], false⟩,
  ⟨0x1C0, 0x4, 25, .ro, 0x0, [0xC0000000], false⟩]

/-- Page 0x14 ADC (R260). -/
def rows_ADC : List RegRow := [
  ⟨0x8, 0x0, 1, .ro, 0x0, [0x0], false⟩,
  ⟨0xC, 0x0, 1, .w1c, 0x7, [0x0], false⟩,
  ⟨0x40, 0x0, 1, .rwl, 0x1, [0x1], false⟩,
  ⟨0x44, 0x0, 1, .ro, 0x0, [0x0], false⟩,
  ⟨0x48, 0x0, 1, .ro, 0x0, [0x0], false⟩,
  ⟨0x4C, 0x0, 1, .ro, 0x0, [0x0], false⟩,
  ⟨0x50, 0x0, 1, .ro, 0x0, [0x0], false⟩,
  ⟨0x54, 0x0, 1, .ro, 0x0, [0x0], false⟩]

/-- Page 0x15 SCAN (R261). -/
def rows_SCAN : List RegRow := [
  ⟨0x8, 0x0, 1, .ro, 0x0, [0x0], false⟩,
  ⟨0xC, 0x0, 1, .w1c, 0x1F, [0x0], false⟩,
  ⟨0x40, 0x0, 1, .rw, 0xFFFF, [0x40], false⟩,
  ⟨0x44, 0x0, 1, .rw, 0xF03F0FFF, [0x90000001], false⟩,
  ⟨0x48, 0x0, 1, .wk, 0x1, [0x0], false⟩,
  ⟨0x4C, 0x0, 1, .ro, 0x0, [0x0], false⟩,
  ⟨0x50, 0x0, 1, .ro, 0x0, [0x0], false⟩,
  ⟨0x54, 0x0, 1, .ro, 0x0, [0x0], false⟩,
  ⟨0x58, 0x0, 1, .ro, 0x0, [0x0], false⟩,
  ⟨0x5C, 0x0, 1, .ro, 0x0, [0x0], false⟩,
  ⟨0x60, 0x0, 1, .ro, 0x0, [0x0], false⟩,
  ⟨0x64, 0x0, 1, .ro, 0x0, [0x0], false⟩,
  ⟨0x68, 0x0, 1, .ro, 0x0, [0x0], false⟩,
  ⟨0x6C, 0x0, 1, .ro, 0x0, [0x0], false⟩,
  ⟨0x80, 0x8, 16, .ro, 0x0, [0x0], false⟩,
  ⟨0x84, 0x8, 16, .ro, 0x0, [0x0], false⟩]

/-- Page 0x16 CELL (R263). -/
def rows_CELL : List RegRow := [
  ⟨0x8, 0x0, 1, .ro, 0x0, [0x0], false⟩,
  ⟨0xC, 0x0, 1, .w1c, 0x7, [0x0], false⟩,
  ⟨0x40, 0x0, 1, .stg, 0xFFFFF, [0x3E8], false⟩,
  ⟨0x44, 0x0, 1, .stg, 0xFFFFFFFF, [0x109A07D0], false⟩,
  ⟨0x48, 0x0, 1, .stg, 0xFFFF, [0x1401], false⟩,
  ⟨0x4C, 0x0, 1, .ro, 0x0, [0x0], false⟩,
  ⟨0x50, 0x0, 1, .ro, 0x0, [0x0], false⟩,
  ⟨0x54, 0x0, 1, .shd, 0x0, [0x0], false⟩,
  ⟨0x58, 0x0, 1, .shd, 0x0, [0x0], false⟩,
  ⟨0x5C, 0x0, 1, .shd, 0x0, [0x0], false⟩,
  ⟨0x80, 0x4, 24, .shd, 0x0, [0x0], false⟩,
  ⟨0x100, 0x4, 24, .shd, 0x0, [0x0], false⟩,
  ⟨0x180, 0x4, 24, .shd, 0x0, [0x0], false⟩]

/-- Page 0x17 AUX (R265). -/
def rows_AUX : List RegRow := [
  ⟨0x8, 0x0, 1, .ro, 0x0, [0x0], false⟩,
  ⟨0xC, 0x0, 1, .w1c, 0x7, [0x0], false⟩,
  ⟨0x40, 0x0, 1, .stg, 0xFFFFF, [0x3E8], false⟩,
  ⟨0x44, 0x0, 1, .rwl, 0xFFFFFFFF, [0x1F401F4], false⟩,
  ⟨0x48, 0x0, 1, .stg, 0xFFFFFFFF, [0x3CEC0502], false⟩,
  ⟨0x4C, 0x0, 1, .ro, 0x0, [0x0], false⟩,
  ⟨0x50, 0x0, 1, .shd, 0x0, [0x0], false⟩,
  ⟨0x54, 0x0, 1, .shd, 0x0, [0x0], false⟩,
  ⟨0x58, 0x0, 1, .shd, 0x0, [0x0], false⟩,
  ⟨0x5C, 0x0, 1, .shd, 0x0, [0x0], false⟩,
  ⟨0x60, 0x0, 1, .shd, 0x0, [0x0], false⟩,
  ⟨0x64, 0x0, 1, .shd, 0x0, [0x0], false⟩,
  ⟨0x68, 0x0, 1, .shd, 0x0, [0x0], false⟩,
  ⟨0x6C, 0x0, 1, .shd, 0x0, [0x0], false⟩,
  ⟨0x70, 0x0, 1, .shd, 0x0, [0x0], false⟩,
  ⟨0x74, 0x0, 1, .shd, 0x0, [0x0], false⟩,
  ⟨0x80, 0x4, 16, .shd, 0x0, [0xC0000000], false⟩]

/-- Page 0x18 BAL (R289). -/
def rows_BAL : List RegRow := [
  ⟨0x8, 0x0, 1, .ro, 0x0, [0x0], false⟩,
  ⟨0xC, 0x0, 1, .w1c, 0xFFF, [0x0], false⟩,
  ⟨0x40, 0x0, 1, .wk, 0x7, [0x0], false⟩,
  ⟨0x44, 0x0, 1, .stg, 0xFFFFFF1F, [0xA7D0A08], false⟩,
  ⟨0x48, 0x0, 1, .stg, 0xFFFFFFFF, [0x64001E], false⟩,
  ⟨0x4C, 0x0, 1, .rwl, 0xFFFFFFFF, [0x3C640064], false⟩,
  ⟨0x50, 0x0, 1, .rwl, 0xFFFFFCFF, [0x141E5410], false⟩,
  ⟨0x54, 0x0, 1, .wk, 0x1F, [0x1F], false⟩,
  ⟨0x58, 0x0, 1, .rw, 0xFFFF, [0x0], false⟩,
  ⟨0x5C, 0x0, 1, .rw, 0xFFFFFF, [0x0], false⟩,
  ⟨0x60, 0x0, 1, .ro, 0x0, [0x0], false⟩,
  ⟨0x64, 0x0, 1, .ro, 0x0, [0x0], false⟩,
  ⟨0x68, 0x0, 1, .ro, 0x0, [0x0], false⟩,
  ⟨0x6C, 0x0, 1, .ro, 0x0, [0x1F00], false⟩,
  ⟨0x70, 0x0, 1, .rwl, 0xFFFFFFFF, [0xC803E8], false⟩,
  ⟨0x74, 0x0, 1, .w1c, 0x80000000, [0x0], false⟩,
  ⟨0x78, 0x0, 1, .ro, 0x0, [0x0], false⟩,
  ⟨0x7C, 0x0, 1, .ro, 0x0, [0x0], false⟩,
  ⟨0x80, 0x4, 24, .ro, 0x0, [0x0], false⟩,
  ⟨0x100, 0x4, 24, .ro, 0x0, [0x0], false⟩]

/-- Page 0x19 EIS (R311). -/
def rows_EIS : List RegRow := [
  ⟨0x8, 0x0, 1, .ro, 0x0, [0x1F0000], false⟩,
  ⟨0xC, 0x0, 1, .w1c, 0xFF, [0x0], false⟩,
  ⟨0x40, 0x0, 1, .wk, 0x1F37, [0x0], false⟩,
  ⟨0x44, 0x0, 1, .stg, 0xFF3B, [0x21], false⟩,
  ⟨0x48, 0x0, 1, .stg, 0xFFFFFFFF, [0xC8280000], false⟩,
  ⟨0x4C, 0x0, 1, .stg, 0xFFFF000F, [0x1F40001], false⟩,
  ⟨0x50, 0x0, 1, .stg, 0xFFFF000F, [0xEA600002], false⟩,
  ⟨0x54, 0x0, 1, .stg, 0xFFFFFFFF, [0xFFFFFFFF], false⟩,
  ⟨0x58, 0x0, 1, .stg, 0xFFFF, [0xFFFF], false⟩,
  ⟨0x5C, 0x0, 1, .stg, 0xFFFFFFFF, [0x14190064], false⟩,
  ⟨0x60, 0x0, 1, .rwl, 0xFFFF003F, [0x1E], false⟩,
  ⟨0x64, 0x0, 1, .rw, 0x31F, [0x0], false⟩,
  ⟨0x68, 0x0, 1, .ro, 0x0, [0x0], false⟩,
  ⟨0x6C, 0x0, 1, .ro, 0x0, [0x0], false⟩,
  ⟨0x70, 0x0, 1, .ro, 0x0, [0x0], false⟩,
  ⟨0x74, 0x0, 1, .shd, 0x0, [0x0], false⟩,
  ⟨0x80, 0x4, 48, .ro, 0x0, [1, 2, 3, 4, 5, 6, 7, 8, 9, 12, 16, 20, 27, 35, 47, 61, 81, 106, 140, 184, 250, 300, 400, 550, 750, 950, 1250, 1650, 2150, 2850, 3750, 4950, 6500, 8600, 11300, 14850, 19550, 25700, 33850, 44500, 58550, 77050, 101400, 133450, 175600, 231050, 304000, 400000], false⟩,
  ⟨0x140, 0x8, 48, .shd, 0x0, [0x0], false⟩,
  ⟨0x144, 0x8, 48, .shd, 0x0, [0x0], false⟩,
  ⟨0x2C0, 0x4, 48, .shd, 0x0, [0x0], false⟩,
  ⟨0x400, 0x20, 24, .ro, 0x0, [0x0], false⟩,
  ⟨0x404, 0x20, 24, .ro, 0x0, [0x0], false⟩,
  ⟨0x408, 0x20, 24, .ro, 0x0, [0x0], false⟩,
  ⟨0x40C, 0x20, 24, .ro, 0x0, [0x0], false⟩,
  ⟨0x410, 0x20, 24, .ro, 0x0, [0x0], false⟩,
  ⟨0x414, 0x20, 24, .ro, 0x0, [0x0], false⟩,
  ⟨0x418, 0x20, 24, .ro, 0x0, [0x0], false⟩,
  ⟨0x700, 0x4, 24, .rw, 0xFFFFFFFF, [0x80000000], false⟩]

/-- Page 0x1A EST (R335). -/
def rows_EST : List RegRow := [
  ⟨0x8, 0x0, 1, .ro, 0x0, [0x8], false⟩,
  ⟨0xC, 0x0, 1, .w1c, 0x7FF, [0x0], false⟩,
  ⟨0x40, 0x0, 1, .wk, 0x7, [0x0], false⟩,
  ⟨0x44, 0x0, 1, .stg, 0x80FF07FF, [0x800A000A], false⟩,
  ⟨0x48, 0x0, 1, .stg, 0xFFFFFFFF, [0xBB83200], false⟩,
  ⟨0x4C, 0x0, 1, .stg, 0xFFFFFFFF, [0x4010119], false⟩,
  ⟨0x50, 0x0, 1, .stg, 0xFFFFFFFF, [0x20401E14], false⟩,
  ⟨0x54, 0x0, 1, .stg, 0xFFFFFFFF, [0x3E80708], false⟩,
  ⟨0x58, 0x0, 1, .stg, 0xFFF0FFFF, [0x80200A32], false⟩,
  ⟨0x5C, 0x0, 1, .stg, 0xFFFFFFFF, [0x9C41464], false⟩,
  ⟨0x60, 0x0, 1, .rwl, 0xFFFFFFFF, [0x64186A0], false⟩,
  ⟨0x64, 0x0, 1, .rwl, 0xFFFFFFFF, [0xC80064], false⟩,
  ⟨0x68, 0x4, 3, .rwl, 0xFFFFFFFF, [0x0], false⟩,
  ⟨0x74, 0x0, 1, .shd, 0x0, [0x0], false⟩,
  ⟨0x78, 0x0, 1, .shd, 0x0, [0x0], false⟩,
  ⟨0x7C, 0x0, 1, .ro, 0x0, [0x0], false⟩,
  ⟨0x80, 0x0, 1, .rw, 0xFFFFFF, [0x0], false⟩,
  ⟨0x84, 0x0, 1, .rw, 0xFFFFFFFF, [0x0], false⟩,
  ⟨0x88, 0x0, 1, .w1c, 0x80000000, [0x0], false⟩,
  ⟨0x8C, 0x0, 1, .ro, 0x0, [0x0], false⟩,
  ⟨0x90, 0x0, 1, .shd, 0x0, [0x0], false⟩,
  ⟨0x94, 0x0, 1, .shd, 0x0, [0x0], false⟩,
  ⟨0x98, 0x0, 1, .shd, 0x0, [0x0], false⟩,
  ⟨0x9C, 0x0, 1, .shd, 0x0, [0x0], false⟩,
  ⟨0xA0, 0x0, 1, .shd, 0x0, [0x0], false⟩,
  ⟨0xA4, 0x0, 1, .shd, 0x0, [0x0], false⟩,
  ⟨0x100, 0x4, 21, .rwl, 0xFFFF, [0x0], false⟩,
  ⟨0x160, 0x4, 21, .rwl, 0xFFFF, [0x0], false⟩,
  ⟨0x1C0, 0x4, 21, .rwl, 0xFFFF, [0x0], false⟩,
  ⟨0x400, 0x20, 24, .shd, 0x0, [0x0], false⟩,
  ⟨0x404, 0x20, 24, .shd, 0x0, [0x0], false⟩,
  ⟨0x408, 0x20, 24, .shd, 0x0, [0x0], false⟩,
  ⟨0x40C, 0x20, 24, .shd, 0x0, [0x0], false⟩,
  ⟨0x410, 0x20, 24, .shd, 0x0, [0x0], false⟩,
  ⟨0x414, 0x20, 24, .shd, 0x0, [0x0], false⟩,
  ⟨0x418, 0x20, 24, .shd, 0x0, [0x0], false⟩,
  ⟨0x41C, 0x20, 24, .shd, 0x0, [0x0], false⟩,
  ⟨0x700, 0x20, 24, .rw, 0x1FFFF, [0x0], false⟩,
  ⟨0x704, 0x20, 24, .rw, 0x1FFFF, [0x0], false⟩,
  ⟨0x708, 0x20, 24, .rw, 0x1FFFFF, [0x0], false⟩,
  ⟨0x70C, 0x20, 24, .rw, 0xFFFFFFFF, [0x0], false⟩,
  ⟨0x710, 0x20, 24, .rw, 0xFFFFFFFF, [0x0], false⟩,
  ⟨0x714, 0x20, 24, .rw, 0xFFFFFFFF, [0x0], false⟩,
  ⟨0x718, 0x20, 24, .rw, 0xFFFF, [0x0], false⟩]

/-- Page 0x1B ARC (R421). -/
def rows_ARC : List RegRow := [
  ⟨0x4, 0x0, 1, .rw, 0x3, [0x0], false⟩,
  ⟨0x8, 0x0, 1, .ro, 0x0, [0x0], false⟩,
  ⟨0xC, 0x0, 1, .w1c, 0x7, [0x0], false⟩,
  ⟨0x40, 0x0, 1, .wk, 0x7, [0x0], false⟩,
  ⟨0x44, 0x0, 1, .stg, 0xFF1FFFFF, [0x32040514], false⟩,
  ⟨0x48, 0x0, 1, .stg, 0xFFFF00FF, [0x1F4000C], false⟩,
  ⟨0x4C, 0x0, 1, .stg, 0xFFFF000F, [0x320006], false⟩,
  ⟨0x50, 0x0, 1, .shd, 0x0, [0x0], false⟩,
  ⟨0x54, 0x0, 1, .shd, 0x0, [0x0], false⟩,
  ⟨0x58, 0x0, 1, .shd, 0x0, [0x0], false⟩,
  ⟨0x5C, 0x0, 1, .ro, 0x0, [0x0], false⟩,
  ⟨0x60, 0x0, 1, .ro, 0x0, [0x0], false⟩,
  ⟨0x64, 0x0, 1, .ro, 0x0, [0x0], false⟩,
  ⟨0x68, 0x0, 1, .ro, 0x0, [0x0], false⟩,
  ⟨0x6C, 0x0, 1, .ro, 0x0, [0x0], false⟩,
  ⟨0x80, 0x4, 32, .ro, 0x0, [0x0], false⟩,
  ⟨0x100, 0x4, 32, .shd, 0x0, [0x0], false⟩]

/-- Page 0x1C ISO (R423). -/
def rows_ISO : List RegRow := [
  ⟨0x4, 0x0, 1, .rw, 0x1, [0x0], false⟩,
  ⟨0x8, 0x0, 1, .ro, 0x0, [0x0], false⟩,
  ⟨0xC, 0x0, 1, .w1c, 0x3F, [0x0], false⟩,
  ⟨0x40, 0x0, 1, .rwl, 0xFFFFFFFF, [0x6403E8], false⟩,
  ⟨0x44, 0x0, 1, .rwl, 0xFFFFFFFF, [0x1F400C8], false⟩,
  ⟨0x48, 0x0, 1, .rw, 0xFFFFFFFF, [0x2EE0096], false⟩,
  ⟨0x4C, 0x0, 1, .shd, 0x0, [0x0], false⟩,
  ⟨0x50, 0x0, 1, .shd, 0x0, [0x0], false⟩,
  ⟨0x54, 0x0, 1, .w1c, 0x80000000, [0x0], false⟩,
  ⟨0x58, 0x0, 1, .ro, 0x0, [0x0], false⟩]

/-- Page 0x1D RING (R361). -/
def rows_RING : List RegRow := [
  ⟨0x8, 0x0, 1, .ro, 0x0, [0x0], false⟩,
  ⟨0xC, 0x0, 1, .w1c, 0x3FF, [0x0], false⟩,
  ⟨0x40, 0x0, 1, .wk, 0x107, [0x0], false⟩,
  ⟨0x44, 0x0, 1, .rwl, 0xFF000301, [0x5A000001], false⟩,
  ⟨0x48, 0x0, 1, .ro, 0x0, [0x0], false⟩,
  ⟨0x4C, 0x0, 1, .ro, 0x0, [0x0], false⟩,
  ⟨0x50, 0x0, 1, .ro, 0x0, [0x0], false⟩,
  ⟨0x54, 0x0, 1, .ro, 0x0, [0x0], false⟩,
  ⟨0x58, 0x0, 1, .ro, 0x0, [0x0], false⟩,
  ⟨0x5C, 0x0, 1, .ro, 0x0, [0x0], false⟩,
  ⟨0x60, 0x0, 1, .ro, 0x0, [0x0], false⟩,
  ⟨0x64, 0x0, 1, .ro, 0x0, [0x0], false⟩,
  ⟨0x68, 0x0, 1, .w1c, 0x80000000, [0x0], false⟩,
  ⟨0x6C, 0x0, 1, .ro, 0x0, [0x0], false⟩,
  ⟨0x70, 0x0, 1, .ro, 0x0, [0x0], false⟩,
  ⟨0x74, 0x0, 1, .ro, 0x0, [0x0], false⟩,
  ⟨0x78, 0x0, 1, .ro, 0x0, [0x0], false⟩,
  ⟨0x80, 0x40, 2, .ro, 0x0, [0x0], false⟩,
  ⟨0x84, 0x40, 2, .rwl, 0xFFF1, [0xA461], false⟩,
  ⟨0x88, 0x40, 2, .ro, 0x0, [0x0], false⟩,
  ⟨0x8C, 0x40, 2, .ro, 0x0, [0x0], false⟩,
  ⟨0x90, 0x40, 2, .ro, 0x0, [0x0], false⟩,
  ⟨0x94, 0x40, 2, .ro, 0x0, [0x0], false⟩,
  ⟨0x98, 0x40, 2, .ro, 0x0, [0x0], false⟩,
  ⟨0x9C, 0x40, 2, .ro, 0x0, [0x0], false⟩]

/-- Page 0x1E EPOCH (R391). -/
def rows_EPOCH : List RegRow := [
  ⟨0x8, 0x0, 1, .ro, 0x0, [0x0], false⟩,
  ⟨0xC, 0x0, 1, .w1c, 0x1FFF, [0x0], false⟩,
  ⟨0x40, 0x0, 1, .ro, 0x0, [0x0], false⟩,
  ⟨0x44, 0x0, 1, .ro, 0x0, [0x0], false⟩,
  ⟨0x48, 0x0, 1, .wk, 0x7, [0x0], false⟩,
  ⟨0x4C, 0x0, 1, .ro, 0x0, [0x0], false⟩,
  ⟨0x50, 0x0, 1, .ro, 0x0, [0x0], false⟩,
  ⟨0x54, 0x0, 1, .ro, 0x0, [0x0], false⟩,
  ⟨0x58, 0x0, 1, .ro, 0x0, [0x0], false⟩,
  ⟨0x5C, 0x0, 1, .ro, 0x0, [0x0], false⟩,
  ⟨0x60, 0x0, 1, .ro, 0x0, [0x0], false⟩,
  ⟨0x64, 0x0, 1, .rw, 0xFFFFFFFF, [0x0], false⟩,
  ⟨0x68, 0x0, 1, .rw, 0xFF, [0x0], false⟩,
  ⟨0x6C, 0x0, 1, .rw, 0xFFFFFFFF, [0x0], false⟩,
  ⟨0x70, 0x0, 1, .rw, 0xBFFFFFFF, [0x640000], false⟩,
  ⟨0x74, 0x0, 1, .ro, 0x0, [0x0], false⟩,
  ⟨0x78, 0x0, 1, .ro, 0x0, [0x0], false⟩,
  ⟨0x7C, 0x0, 1, .rw, 0xFFFF8000, [0x8000], false⟩,
  ⟨0x80, 0x0, 1, .rw, 0xFFFFFF, [0x1A1716], false⟩,
  ⟨0x84, 0x0, 1, .rw, 0xFFFFFFFF, [0x0], false⟩,
  ⟨0x88, 0x0, 1, .ro, 0x0, [0x0], false⟩,
  ⟨0x8C, 0x0, 1, .ro, 0x0, [0x0], false⟩,
  ⟨0x90, 0x0, 1, .ro, 0x0, [0x0], false⟩,
  ⟨0x94, 0x0, 1, .ro, 0x0, [0x0], false⟩,
  ⟨0x98, 0x0, 1, .rw, 0xFFFFFFFF, [0x0], false⟩,
  ⟨0x9C, 0x0, 1, .rw, 0x8000FFFF, [0x0], false⟩,
  ⟨0xA0, 0x0, 1, .rw, 0xFFFFFFFF, [0x0], false⟩,
  ⟨0xA4, 0x0, 1, .rw, 0xFF, [0x0], false⟩,
  ⟨0xA8, 0x0, 1, .rw, 0xFFFFFFFF, [0x0], false⟩,
  ⟨0xAC, 0x0, 1, .ro, 0x0, [0x0], false⟩,
  ⟨0xB0, 0x4, 4, .ro, 0x0, [0x0], false⟩,
  ⟨0xC0, 0x0, 1, .rwl, 0xFFF, [0xA], false⟩,
  ⟨0xC4, 0x0, 1, .rwl, 0x3FF, [0x64], false⟩,
  ⟨0xC8, 0x0, 1, .ro, 0x0, [0x0], false⟩,
  ⟨0xCC, 0x0, 1, .ro, 0x0, [0x0], false⟩,
  ⟨0xD0, 0x0, 1, .ro, 0x0, [0x0], false⟩]

/-- Page 0x1F HOST (R442). -/
def rows_HOST : List RegRow := [
  ⟨0x8, 0x0, 1, .ro, 0x0, [0x0], false⟩,
  ⟨0xC, 0x0, 1, .w1c, 0xFF, [0x0], false⟩,
  ⟨0x40, 0x0, 1, .rwl, 0x803F, [0x8028], false⟩,
  ⟨0x44, 0x0, 1, .ro, 0x0, [0x0], false⟩,
  ⟨0x48, 0x0, 1, .ro, 0x0, [0x0], false⟩,
  ⟨0x4C, 0x0, 1, .ro, 0x0, [0x0], false⟩,
  ⟨0x50, 0x0, 1, .rw, 0x7F, [0x20], false⟩,
  ⟨0x54, 0x0, 1, .ro, 0x0, [0x0], false⟩,
  ⟨0x58, 0x0, 1, .wk, 0x7, [0x0], false⟩,
  ⟨0x5C, 0x0, 1, .rw, 0xFF81000F, [0x20010000], false⟩,
  ⟨0x60, 0x0, 1, .rw, 0xFFFFFFFF, [0x0], false⟩,
  ⟨0x64, 0x0, 1, .ro, 0x0, [0x0], false⟩,
  ⟨0x68, 0x0, 1, .ro, 0x0, [0x0], false⟩,
  ⟨0x6C, 0x0, 1, .ro, 0x0, [0x0], false⟩]

/-- Page 0x20 GPIO (R450). -/
def rows_GPIO : List RegRow := [
  ⟨0xC, 0x0, 1, .w1c, 0xFFFF, [0x0], false⟩,
  ⟨0x40, 0x0, 1, .ro, 0x0, [0x0], false⟩,
  ⟨0x44, 0x0, 1, .rw, 0xFFFF, [0x0], false⟩,
  ⟨0x48, 0x0, 1, .wo, 0xFFFF, [0x0], false⟩,
  ⟨0x4C, 0x0, 1, .wo, 0xFFFF, [0x0], false⟩,
  ⟨0x50, 0x0, 1, .ro, 0x0, [0x0], false⟩,
  ⟨0x80, 0x4, 16, .rwl, 0x737, [0x0], false⟩]

/-- Page 0x21 REC (R537). -/
def rows_REC : List RegRow := [
  ⟨0x8, 0x0, 1, .ro, 0x0, [0x0], false⟩,
  ⟨0xC, 0x0, 1, .w1c, 0x1F, [0x0], false⟩,
  ⟨0x40, 0x0, 1, .wk, 0x7, [0x0], false⟩,
  ⟨0x44, 0x0, 1, .rwl, 0x7, [0x3], false⟩,
  ⟨0x48, 0x0, 1, .ro, 0x0, [0x0], false⟩,
  ⟨0x4C, 0x0, 1, .ro, 0x0, [0x0], false⟩,
  ⟨0x50, 0x0, 1, .ro, 0x0, [0x0], false⟩,
  ⟨0x54, 0x0, 1, .ro, 0x0, [0x0], false⟩]

/-- Page 0x22 CAP (R425). -/
def rows_CAP : List RegRow := [
  ⟨0x8, 0x0, 1, .ro, 0x0, [0x0], false⟩,
  ⟨0xC, 0x0, 1, .w1c, 0xF, [0x0], false⟩,
  ⟨0x40, 0x0, 1, .wk, 0x7, [0x0], false⟩,
  ⟨0x44, 0x0, 1, .rw, 0xFFFFFFFF, [0x100F0], false⟩,
  ⟨0x48, 0x0, 1, .rw, 0xFFFFFFFF, [0x0], false⟩,
  ⟨0x4C, 0x0, 1, .rw, 0x3F, [0x20], false⟩,
  ⟨0x50, 0x0, 1, .rw, 0xFFF0FFFF, [0x0], false⟩,
  ⟨0x54, 0x0, 1, .ro, 0x0, [0x0], false⟩,
  ⟨0x58, 0x0, 1, .ro, 0x0, [0x0], false⟩,
  ⟨0x5C, 0x0, 1, .ro, 0x0, [0x0], false⟩,
  ⟨0x60, 0x0, 1, .ro, 0x0, [0x0], false⟩,
  ⟨0x64, 0x0, 1, .ro, 0x0, [0x0], false⟩]

/-- Page 0x23 SVC (R571). -/
def rows_SVC : List RegRow := [
  ⟨0x8, 0x0, 1, .ro, 0x0, [0x0], false⟩,
  ⟨0xC, 0x0, 1, .w1c, 0x1F, [0x0], false⟩,
  ⟨0x40, 0x0, 1, .wk, 0x307, [0x0], false⟩,
  ⟨0x44, 0x4, 4, .ro, 0x0, [0x0], false⟩,
  ⟨0x54, 0x4, 8, .wo, 0xFFFFFFFF, [0x0], false⟩,
  ⟨0x74, 0x0, 1, .ro, 0x0, [0x0], false⟩,
  ⟨0x78, 0x0, 1, .ro, 0x0, [0x0], true⟩,
  ⟨0x7C, 0x0, 1, .ro, 0x0, [0x0], false⟩,
  ⟨0x80, 0x0, 1, .ro, 0x0, [0x0], false⟩]

/-- Page 0x24 KEEP (R497). -/
def rows_KEEP : List RegRow := [
  ⟨0x8, 0x0, 1, .ro, 0x0, [0x0], false⟩,
  ⟨0xC, 0x0, 1, .w1c, 0x1F, [0x0], false⟩,
  ⟨0x40, 0x0, 1, .wk, 0x7, [0x0], false⟩,
  ⟨0x44, 0x0, 1, .rwl, 0xFFFF, [0x3E8], false⟩,
  ⟨0x48, 0x0, 1, .ro, 0x0, [0x0], false⟩,
  ⟨0x4C, 0x0, 1, .ro, 0x0, [0x0], false⟩,
  ⟨0x50, 0x0, 1, .ro, 0x0, [0x0], false⟩,
  ⟨0x54, 0x4, 2, .ro, 0x0, [0x0], false⟩,
  ⟨0x5C, 0x4, 3, .ro, 0x0, [0x0], false⟩,
  ⟨0x68, 0x0, 1, .ro, 0x0, [0x0], false⟩]

/-- Page 0x25 TEST (R68; TEST is not described). -/
def rows_TEST : List RegRow := [
]

/-- Page 0x26 ROSTER (R417). -/
def rows_ROSTER : List RegRow := [
  ⟨0x8, 0x0, 1, .ro, 0x0, [0x0], false⟩,
  ⟨0xC, 0x0, 1, .w1c, 0x7F, [0x0], false⟩,
  ⟨0x40, 0x0, 1, .wk, 0x3F07, [0x0], false⟩,
  ⟨0x44, 0x0, 1, .rwl, 0xFFFFFF01, [0x13883201], false⟩,
  ⟨0x48, 0x0, 1, .ro, 0x0, [0x0], false⟩,
  ⟨0x4C, 0x0, 1, .ro, 0x0, [0x0], false⟩,
  ⟨0x50, 0x0, 1, .ro, 0x0, [0x0], false⟩,
  ⟨0x54, 0x0, 1, .ro, 0x0, [0x0], false⟩,
  ⟨0x58, 0x0, 1, .w1c, 0x80000000, [0x0], false⟩,
  ⟨0x5C, 0x0, 1, .ro, 0x0, [0x0], false⟩,
  ⟨0x100, 0x20, 32, .ro, 0x0, [0x0], false⟩,
  ⟨0x104, 0x20, 32, .ro, 0x0, [0x0], false⟩,
  ⟨0x108, 0x20, 32, .ro, 0x0, [0x0], false⟩,
  ⟨0x10C, 0x20, 32, .ro, 0x0, [0x0], false⟩,
  ⟨0x110, 0x20, 32, .ro, 0x0, [0x0], false⟩,
  ⟨0x114, 0x20, 32, .ro, 0x0, [0x0], false⟩,
  ⟨0x118, 0x20, 32, .ro, 0x0, [0x0], false⟩,
  ⟨0x11C, 0x20, 32, .ro, 0x0, [0x0], false⟩]

/-- Page 0x27 RACK (R419). -/
def rows_RACK : List RegRow := [
  ⟨0x8, 0x0, 1, .ro, 0x0, [0x0], false⟩,
  ⟨0xC, 0x0, 1, .w1c, 0x7F, [0x0], false⟩,
  ⟨0x40, 0x0, 1, .stg, 0xFFFFFFFF, [0x3A980000], false⟩,
  ⟨0x44, 0x0, 1, .stg, 0xFFFFFFFF, [0x1F401F4], false⟩,
  ⟨0x48, 0x0, 1, .stg, 0x80FFFFFF, [0xA050A], false⟩,
  ⟨0x4C, 0x0, 1, .shd, 0x0, [0x0], false⟩,
  ⟨0x50, 0x0, 1, .shd, 0x0, [0x0], false⟩,
  ⟨0x54, 0x0, 1, .shd, 0x0, [0x0], false⟩,
  ⟨0x58, 0x0, 1, .shd, 0x0, [0x0], false⟩,
  ⟨0x5C, 0x0, 1, .shd, 0x0, [0x0], false⟩,
  ⟨0x60, 0x0, 1, .w1c, 0x80000000, [0x0], false⟩,
  ⟨0x64, 0x0, 1, .ro, 0x0, [0x0], false⟩,
  ⟨0x80, 0x4, 32, .shd, 0x0, [0x0], false⟩,
  ⟨0x100, 0x4, 32, .shd, 0x0, [0x0], false⟩]

/-- The rows of page `p` (R68). -/
def pageRows : Nat → List RegRow
  | 0x0 => rows_IDENT
  | 0x1 => rows_MODE
  | 0x2 => rows_CLK
  | 0x3 => rows_RST
  | 0x4 => rows_OTP
  | 0x5 => rows_SEC
  | 0x6 => rows_ICU
  | 0x7 => rows_FLT
  | 0x8 => rows_WDG
  | 0x9 => rows_THM
  | 0xA => rows_SEQ
  | 0xB => rows_SUP
  | 0xC => rows_REG
  | 0xD => rows_PHC
  | 0xE => rows_PATH
  | 0xF => rows_FEED
  | 0x10 => rows_CONT
  | 0x11 => rows_RTC
  | 0x12 => rows_MEM
  | 0x13 => rows_AFE
  | 0x14 => rows_ADC
  | 0x15 => rows_SCAN
  | 0x16 => rows_CELL
  | 0x17 => rows_AUX
  | 0x18 => rows_BAL
  | 0x19 => rows_EIS
  | 0x1A => rows_EST
  | 0x1B => rows_ARC
  | 0x1C => rows_ISO
  | 0x1D => rows_RING
  | 0x1E => rows_EPOCH
  | 0x1F => rows_HOST
  | 0x20 => rows_GPIO
  | 0x21 => rows_REC
  | 0x22 => rows_CAP
  | 0x23 => rows_SVC
  | 0x24 => rows_KEEP
  | 0x25 => rows_TEST
  | 0x26 => rows_ROSTER
  | 0x27 => rows_RACK
  | _ => []

/-- Registers of page `p`, header and reserved registers included (R68); 0 for the reserved slots 0x28-0x3F. -/
def pageCount : Nat → Nat
  | 0x0 => 24
  | 0x1 => 64
  | 0x2 => 48
  | 0x3 => 40
  | 0x4 => 96
  | 0x5 => 128
  | 0x6 => 352
  | 0x7 => 160
  | 0x8 => 96
  | 0x9 => 48
  | 0xA => 224
  | 0xB => 96
  | 0xC => 112
  | 0xD => 256
  | 0xE => 96
  | 0xF => 64
  | 0x10 => 80
  | 0x11 => 48
  | 0x12 => 64
  | 0x13 => 160
  | 0x14 => 96
  | 0x15 => 192
  | 0x16 => 480
  | 0x17 => 128
  | 0x18 => 224
  | 0x19 => 512
  | 0x1A => 640
  | 0x1B => 192
  | 0x1C => 64
  | 0x1D => 256
  | 0x1E => 96
  | 0x1F => 80
  | 0x20 => 128
  | 0x21 => 64
  | 0x22 => 96
  | 0x23 => 96
  | 0x24 => 48
  | 0x25 => 128
  | 0x26 => 384
  | 0x27 => 160
  | _ => 0

/-- The page numbers, named (R68). -/
abbrev pgIDENT : Nat := 0x0
abbrev pgMODE : Nat := 0x1
abbrev pgCLK : Nat := 0x2
abbrev pgRST : Nat := 0x3
abbrev pgOTP : Nat := 0x4
abbrev pgSEC : Nat := 0x5
abbrev pgICU : Nat := 0x6
abbrev pgFLT : Nat := 0x7
abbrev pgWDG : Nat := 0x8
abbrev pgTHM : Nat := 0x9
abbrev pgSEQ : Nat := 0xA
abbrev pgSUP : Nat := 0xB
abbrev pgREG : Nat := 0xC
abbrev pgPHC : Nat := 0xD
abbrev pgPATH : Nat := 0xE
abbrev pgFEED : Nat := 0xF
abbrev pgCONT : Nat := 0x10
abbrev pgRTC : Nat := 0x11
abbrev pgMEM : Nat := 0x12
abbrev pgAFE : Nat := 0x13
abbrev pgADC : Nat := 0x14
abbrev pgSCAN : Nat := 0x15
abbrev pgCELL : Nat := 0x16
abbrev pgAUX : Nat := 0x17
abbrev pgBAL : Nat := 0x18
abbrev pgEIS : Nat := 0x19
abbrev pgEST : Nat := 0x1A
abbrev pgARC : Nat := 0x1B
abbrev pgISO : Nat := 0x1C
abbrev pgRING : Nat := 0x1D
abbrev pgEPOCH : Nat := 0x1E
abbrev pgHOST : Nat := 0x1F
abbrev pgGPIO : Nat := 0x20
abbrev pgREC : Nat := 0x21
abbrev pgCAP : Nat := 0x22
abbrev pgSVC : Nat := 0x23
abbrev pgKEEP : Nat := 0x24
abbrev pgTEST : Nat := 0x25
abbrev pgROSTER : Nat := 0x26
abbrev pgRACK : Nat := 0x27

end Sys2Proof.Machine
end

