-- ==== Sys2Proof/Machine/RegNames.lean ====
section
/-!
DEFINITION. Names of registers (their local host addresses, R30) and of their fields, as the page maps and field tables of
the chapters give them.  `SEQ_STATUS` is an address; `SEQ_STATUS_STATE` is field STATE of it; arrays take their index.
-/
namespace Sys2Proof.Machine

/-- A field: bits `[lo + wd - 1 : lo]` of the register at local address `reg`. -/
structure Fld where
  reg : Nat
  lo : Nat
  wd : Nat
  deriving DecidableEq, Repr

/-! ### CLK -/
abbrev CLK_STATUS : Nat := 0x2008
def CLK_STATUS_CORE_DIV : Fld := ⟨CLK_STATUS, 6, 2⟩
def CLK_STATUS_TICK_LOCK : Fld := ⟨CLK_STATUS, 5, 1⟩
def CLK_STATUS_LF_XO : Fld := ⟨CLK_STATUS, 4, 1⟩
def CLK_STATUS_LPLL_LOCK : Fld := ⟨CLK_STATUS, 3, 1⟩
def CLK_STATUS_MPLL_LOCK : Fld := ⟨CLK_STATUS, 2, 1⟩
def CLK_STATUS_HOLDOVER : Fld := ⟨CLK_STATUS, 1, 1⟩
def CLK_STATUS_ROOT_RC : Fld := ⟨CLK_STATUS, 0, 1⟩
abbrev CLK_EVT_RAW : Nat := 0x200C
def CLK_EVT_RAW_STEER_LIMIT : Fld := ⟨CLK_EVT_RAW, 4, 1⟩
def CLK_EVT_RAW_LF_FAIL : Fld := ⟨CLK_EVT_RAW, 3, 1⟩
def CLK_EVT_RAW_LPLL_UNLOCK : Fld := ⟨CLK_EVT_RAW, 2, 1⟩
def CLK_EVT_RAW_MPLL_UNLOCK : Fld := ⟨CLK_EVT_RAW, 1, 1⟩
def CLK_EVT_RAW_ROOT_FAIL : Fld := ⟨CLK_EVT_RAW, 0, 1⟩
abbrev CLK_ROOT_CFG : Nat := 0x2040
def CLK_ROOT_CFG_XO_DRIVE : Fld := ⟨CLK_ROOT_CFG, 6, 2⟩
def CLK_ROOT_CFG_MON_TOL : Fld := ⟨CLK_ROOT_CFG, 4, 2⟩
abbrev CLK_LF_CFG : Nat := 0x2044
def CLK_LF_CFG_SEL_RC : Fld := ⟨CLK_LF_CFG, 0, 1⟩
abbrev CLK_MON_MEAS : Nat := 0x2048
def CLK_MON_MEAS_REF_XO : Fld := ⟨CLK_MON_MEAS, 31, 1⟩
def CLK_MON_MEAS_VALID : Fld := ⟨CLK_MON_MEAS, 30, 1⟩
def CLK_MON_MEAS_FREQ : Fld := ⟨CLK_MON_MEAS, 0, 22⟩
abbrev CLK_STEER : Nat := 0x204C
def CLK_STEER_STEER : Fld := ⟨CLK_STEER, 0, 20⟩
abbrev CLK_CMD : Nat := 0x2050
def CLK_CMD_KEY : Fld := ⟨CLK_CMD, 16, 16⟩
def CLK_CMD_ROOT_RETRY : Fld := ⟨CLK_CMD, 0, 1⟩
abbrev CLK_FAIL_CNT : Nat := 0x2054
def CLK_FAIL_CNT_LF_FAILS : Fld := ⟨CLK_FAIL_CNT, 16, 16⟩
def CLK_FAIL_CNT_ROOT_FAILS : Fld := ⟨CLK_FAIL_CNT, 0, 16⟩

/-! ### IDENT -/
abbrev IDENT_PART : Nat := 0x40
abbrev IDENT_REV : Nat := 0x44
def IDENT_REV_SI_MAJOR : Fld := ⟨IDENT_REV, 24, 8⟩
def IDENT_REV_SI_MINOR : Fld := ⟨IDENT_REV, 16, 8⟩
def IDENT_REV_ROM_MAJOR : Fld := ⟨IDENT_REV, 8, 8⟩
def IDENT_REV_ROM_MINOR : Fld := ⟨IDENT_REV, 0, 8⟩
abbrev IDENT_REGCOUNT : Nat := 0x48
abbrev IDENT_ROLE : Nat := 0x4C
def IDENT_ROLE_MISMATCH : Fld := ⟨IDENT_ROLE, 2, 1⟩
def IDENT_ROLE_ROLE : Fld := ⟨IDENT_ROLE, 0, 2⟩
abbrev IDENT_UID_LO : Nat := 0x50
abbrev IDENT_UID_HI : Nat := 0x54
abbrev IDENT_PAGES : Nat := 0x58

/-! ### MODE -/
abbrev MODE_STATUS : Nat := 0x1008
def MODE_STATUS_UNMET : Fld := ⟨MODE_STATUS, 7, 1⟩
def MODE_STATUS_PINNED : Fld := ⟨MODE_STATUS, 6, 1⟩
def MODE_STATUS_FLOOR_HELD : Fld := ⟨MODE_STATUS, 5, 1⟩
def MODE_STATUS_DESCENDING : Fld := ⟨MODE_STATUS, 4, 1⟩
def MODE_STATUS_ASCENDING : Fld := ⟨MODE_STATUS, 3, 1⟩
def MODE_STATUS_ENTERING : Fld := ⟨MODE_STATUS, 0, 3⟩
abbrev MODE_EVT_RAW : Nat := 0x100C
def MODE_EVT_RAW_WAKE : Fld := ⟨MODE_EVT_RAW, 5, 1⟩
def MODE_EVT_RAW_REFUSED : Fld := ⟨MODE_EVT_RAW, 4, 1⟩
def MODE_EVT_RAW_UNMET : Fld := ⟨MODE_EVT_RAW, 3, 1⟩
def MODE_EVT_RAW_FLOOR_RAISED : Fld := ⟨MODE_EVT_RAW, 2, 1⟩
def MODE_EVT_RAW_DESCENT_ABORT : Fld := ⟨MODE_EVT_RAW, 1, 1⟩
def MODE_EVT_RAW_TRANS_DONE : Fld := ⟨MODE_EVT_RAW, 0, 1⟩
abbrev MODE_CUR : Nat := 0x1040
def MODE_CUR_PREV : Fld := ⟨MODE_CUR, 4, 4⟩
def MODE_CUR_MODE : Fld := ⟨MODE_CUR, 0, 3⟩
abbrev MODE_REQ : Nat := 0x1044
def MODE_REQ_TARGET : Fld := ⟨MODE_REQ, 0, 4⟩
abbrev MODE_FLOOR : Nat := 0x1048
def MODE_FLOOR_EFF : Fld := ⟨MODE_FLOOR, 20, 4⟩
def MODE_FLOOR_RACK : Fld := ⟨MODE_FLOOR, 16, 4⟩
def MODE_FLOOR_LOCAL : Fld := ⟨MODE_FLOOR, 12, 4⟩
def MODE_FLOOR_RX_STALE : Fld := ⟨MODE_FLOOR, 4, 1⟩
def MODE_FLOOR_PEND_CHG : Fld := ⟨MODE_FLOOR, 3, 1⟩
def MODE_FLOOR_ARC_CLOSED : Fld := ⟨MODE_FLOOR, 2, 1⟩
def MODE_FLOOR_CUR_ABOVE : Fld := ⟨MODE_FLOOR, 1, 1⟩
def MODE_FLOOR_CONT_CLOSED : Fld := ⟨MODE_FLOOR, 0, 1⟩
abbrev MODE_CFG : Nat := 0x104C
def MODE_CFG_DWELL : Fld := ⟨MODE_CFG, 16, 16⟩
def MODE_CFG_HOST_WAKE : Fld := ⟨MODE_CFG, 7, 1⟩
def MODE_CFG_WAKE_EN : Fld := ⟨MODE_CFG, 6, 1⟩
def MODE_CFG_SHELF_EN : Fld := ⟨MODE_CFG, 0, 1⟩
abbrev MODE_ATT_PER : Nat := 0x1050
def MODE_ATT_PER_PER : Fld := ⟨MODE_ATT_PER, 0, 16⟩
abbrev MODE_DORM_PER : Nat := 0x1054
def MODE_DORM_PER_SEC : Fld := ⟨MODE_DORM_PER, 0, 17⟩
abbrev MODE_IDLE_I : Nat := 0x1058
def MODE_IDLE_I_THR : Fld := ⟨MODE_IDLE_I, 0, 16⟩
abbrev MODE_LTOL (n : Nat) : Nat := 0x1060 + 0x4 * n
abbrev MODE_REFUSE_CNT : Nat := 0x1080
def MODE_REFUSE_CNT_COUNT : Fld := ⟨MODE_REFUSE_CNT, 0, 16⟩
abbrev MODE_REFUSE_LAST : Nat := 0x1084
def MODE_REFUSE_LAST_MODE : Fld := ⟨MODE_REFUSE_LAST, 24, 8⟩
def MODE_REFUSE_LAST_PAGE : Fld := ⟨MODE_REFUSE_LAST, 16, 8⟩
def MODE_REFUSE_LAST_CLASS : Fld := ⟨MODE_REFUSE_LAST, 12, 4⟩
def MODE_REFUSE_LAST_WORD : Fld := ⟨MODE_REFUSE_LAST, 0, 12⟩
abbrev MODE_TRANS_CNT : Nat := 0x1088
def MODE_TRANS_CNT_COUNT : Fld := ⟨MODE_TRANS_CNT, 0, 32⟩
abbrev MODE_LAST_TRANS : Nat := 0x108C
def MODE_LAST_TRANS_CAUSE : Fld := ⟨MODE_LAST_TRANS, 8, 4⟩
def MODE_LAST_TRANS_FROM : Fld := ⟨MODE_LAST_TRANS, 4, 4⟩
def MODE_LAST_TRANS_TO : Fld := ⟨MODE_LAST_TRANS, 0, 4⟩
abbrev MODE_LIMIT : Nat := 0x1090
def MODE_LIMIT_UNMET : Fld := ⟨MODE_LIMIT, 8, 8⟩
def MODE_LIMIT_BOUND : Fld := ⟨MODE_LIMIT, 0, 8⟩
abbrev MODE_WAKE_SRC : Nat := 0x1094
def MODE_WAKE_SRC_CHECK : Fld := ⟨MODE_WAKE_SRC, 6, 1⟩
def MODE_WAKE_SRC_BEACON : Fld := ⟨MODE_WAKE_SRC, 5, 1⟩
def MODE_WAKE_SRC_STACK : Fld := ⟨MODE_WAKE_SRC, 4, 1⟩
def MODE_WAKE_SRC_EVENT : Fld := ⟨MODE_WAKE_SRC, 3, 1⟩
def MODE_WAKE_SRC_HOST : Fld := ⟨MODE_WAKE_SRC, 2, 1⟩
def MODE_WAKE_SRC_RTC : Fld := ⟨MODE_WAKE_SRC, 1, 1⟩
def MODE_WAKE_SRC_PIN : Fld := ⟨MODE_WAKE_SRC, 0, 1⟩

/-! ### RST -/
abbrev RST_EVT_RAW : Nat := 0x300C
def RST_EVT_RAW_CORE_RST : Fld := ⟨RST_EVT_RAW, 2, 1⟩
def RST_EVT_RAW_PATCH_REJ : Fld := ⟨RST_EVT_RAW, 1, 1⟩
def RST_EVT_RAW_BOOT_DONE : Fld := ⟨RST_EVT_RAW, 0, 1⟩
abbrev RST_CAUSE : Nat := 0x3040
def RST_CAUSE_AON_POR : Fld := ⟨RST_CAUSE, 31, 1⟩
def RST_CAUSE_POR : Fld := ⟨RST_CAUSE, 30, 1⟩
def RST_CAUSE_SHELF_EXIT : Fld := ⟨RST_CAUSE, 29, 1⟩
def RST_CAUSE_PIN : Fld := ⟨RST_CAUSE, 28, 1⟩
def RST_CAUSE_SW_SYS : Fld := ⟨RST_CAUSE, 27, 1⟩
def RST_CAUSE_WDG : Fld := ⟨RST_CAUSE, 26, 1⟩
def RST_CAUSE_THERM : Fld := ⟨RST_CAUSE, 25, 1⟩
def RST_CAUSE_ROLE_MM : Fld := ⟨RST_CAUSE, 11, 1⟩
def RST_CAUSE_TESTPIN : Fld := ⟨RST_CAUSE, 10, 1⟩
def RST_CAUSE_OTP_DIGEST : Fld := ⟨RST_CAUSE, 9, 1⟩
def RST_CAUSE_PATCH_REJ : Fld := ⟨RST_CAUSE, 8, 1⟩
def RST_CAUSE_RESTART : Fld := ⟨RST_CAUSE, 7, 1⟩
def RST_CAUSE_CORE_WELD : Fld := ⟨RST_CAUSE, 6, 1⟩
def RST_CAUSE_CORE_WOAD : Fld := ⟨RST_CAUSE, 5, 1⟩
def RST_CAUSE_CORE_MADDER : Fld := ⟨RST_CAUSE, 4, 1⟩
def RST_CAUSE_CORE_SRC : Fld := ⟨RST_CAUSE, 2, 2⟩
abbrev RST_BOOT : Nat := 0x3044
def RST_BOOT_HALTED : Fld := ⟨RST_BOOT, 31, 1⟩
def RST_BOOT_PATCH_OK : Fld := ⟨RST_BOOT, 16, 3⟩
def RST_BOOT_REGION_FAIL : Fld := ⟨RST_BOOT, 8, 8⟩
def RST_BOOT_STEP : Fld := ⟨RST_BOOT, 0, 4⟩
abbrev RST_CMD : Nat := 0x3048
def RST_CMD_KEY : Fld := ⟨RST_CMD, 16, 16⟩
def RST_CMD_SYS : Fld := ⟨RST_CMD, 8, 1⟩
def RST_CMD_CORE : Fld := ⟨RST_CMD, 0, 3⟩
abbrev RST_CNT : Nat := 0x304C
def RST_CNT_SYS_CNT : Fld := ⟨RST_CNT, 16, 16⟩
def RST_CNT_CORE_CNT : Fld := ⟨RST_CNT, 0, 16⟩
abbrev RST_BOOT_TIME : Nat := 0x3050
def RST_BOOT_TIME_US : Fld := ⟨RST_BOOT_TIME, 0, 20⟩
abbrev RST_PREV : Nat := 0x3054

/-! ### REG -/
abbrev REG_EVT_RAW : Nat := 0xC00C
def REG_EVT_RAW_ILIM : Fld := ⟨REG_EVT_RAW, 10, 10⟩
def REG_EVT_RAW_DONE : Fld := ⟨REG_EVT_RAW, 0, 10⟩
abbrev REG_BK_VSET (n : Nat) : Nat := 0xC040 + 0x20 * n
def REG_BK_VSET_VSET (n : Nat) : Fld := ⟨REG_BK_VSET n, 0, 10⟩
abbrev REG_BK_SLEW (n : Nat) : Nat := 0xC044 + 0x20 * n
def REG_BK_SLEW_RATE (n : Nat) : Fld := ⟨REG_BK_SLEW n, 0, 3⟩
abbrev REG_BK_ILIM (n : Nat) : Nat := 0xC048 + 0x20 * n
def REG_BK_ILIM_ILIM (n : Nat) : Fld := ⟨REG_BK_ILIM n, 0, 4⟩
abbrev REG_BK_STATUS (n : Nat) : Nat := 0xC04C + 0x20 * n
def REG_BK_STATUS_LIMITING (n : Nat) : Fld := ⟨REG_BK_STATUS n, 3, 1⟩
def REG_BK_STATUS_RAMPING (n : Nat) : Fld := ⟨REG_BK_STATUS n, 2, 1⟩
def REG_BK_STATUS_AT_SET (n : Nat) : Fld := ⟨REG_BK_STATUS n, 1, 1⟩
def REG_BK_STATUS_ON (n : Nat) : Fld := ⟨REG_BK_STATUS n, 0, 1⟩
abbrev REG_BK_VNOW (n : Nat) : Nat := 0xC050 + 0x20 * n
def REG_BK_VNOW_VNOW (n : Nat) : Fld := ⟨REG_BK_VNOW n, 0, 10⟩
abbrev REG_BK_SUPERSEDE (n : Nat) : Nat := 0xC054 + 0x20 * n
def REG_BK_SUPERSEDE_COUNT (n : Nat) : Fld := ⟨REG_BK_SUPERSEDE n, 0, 16⟩
abbrev REG_LD_VSET (n : Nat) : Nat := 0xC0C0 + 0x10 * n
def REG_LD_VSET_VSET (n : Nat) : Fld := ⟨REG_LD_VSET n, 0, 10⟩
abbrev REG_LD_CFG (n : Nat) : Nat := 0xC0C4 + 0x10 * n
def REG_LD_CFG_RATE (n : Nat) : Fld := ⟨REG_LD_CFG n, 4, 3⟩
def REG_LD_CFG_ILIM (n : Nat) : Fld := ⟨REG_LD_CFG n, 0, 2⟩
abbrev REG_LD_STATUS (n : Nat) : Nat := 0xC0C8 + 0x10 * n
def REG_LD_STATUS_VNOW (n : Nat) : Fld := ⟨REG_LD_STATUS n, 10, 10⟩
def REG_LD_STATUS_STATE (n : Nat) : Fld := ⟨REG_LD_STATUS n, 0, 4⟩
abbrev REG_LD_SUPERSEDE (n : Nat) : Nat := 0xC0CC + 0x10 * n
def REG_LD_SUPERSEDE_COUNT (n : Nat) : Fld := ⟨REG_LD_SUPERSEDE n, 0, 16⟩
abbrev REG_FSW : Nat := 0xC120
def REG_FSW_SPREAD : Fld := ⟨REG_FSW, 4, 1⟩
def REG_FSW_FSW : Fld := ⟨REG_FSW, 0, 2⟩
abbrev REG_INT_MON : Nat := 0xC124
def REG_INT_MON_ABOVE : Fld := ⟨REG_INT_MON, 0, 6⟩
abbrev REG_VSYS : Nat := 0xC128
def REG_VSYS_MV10 : Fld := ⟨REG_VSYS, 0, 16⟩

/-! ### SUP -/
abbrev SUP_EVT_RAW : Nat := 0xB00C
def SUP_EVT_RAW_RIDE_THROUGH : Fld := ⟨SUP_EVT_RAW, 2, 1⟩
def SUP_EVT_RAW_SHUTDOWN : Fld := ⟨SUP_EVT_RAW, 1, 1⟩
def SUP_EVT_RAW_EARLY_WARN : Fld := ⟨SUP_EVT_RAW, 0, 1⟩
abbrev SV_CFG (n : Nat) : Nat := 0xB040 + 0x10 * n
def SV_CFG_EN (n : Nat) : Fld := ⟨SV_CFG n, 31, 1⟩
def SV_CFG_RIDE (n : Nat) : Fld := ⟨SV_CFG n, 30, 1⟩
def SV_CFG_OV_EN (n : Nat) : Fld := ⟨SV_CFG n, 29, 1⟩
def SV_CFG_UV_EN (n : Nat) : Fld := ⟨SV_CFG n, 28, 1⟩
def SV_CFG_SCALE (n : Nat) : Fld := ⟨SV_CFG n, 25, 1⟩
def SV_CFG_SLOT (n : Nat) : Fld := ⟨SV_CFG n, 20, 5⟩
def SV_CFG_FILT (n : Nat) : Fld := ⟨SV_CFG n, 11, 3⟩
def SV_CFG_HYS (n : Nat) : Fld := ⟨SV_CFG n, 9, 2⟩
def SV_CFG_SRC (n : Nat) : Fld := ⟨SV_CFG n, 0, 6⟩
abbrev SV_THR (n : Nat) : Nat := 0xB044 + 0x10 * n
def SV_THR_OV (n : Nat) : Fld := ⟨SV_THR n, 16, 12⟩
def SV_THR_UV (n : Nat) : Fld := ⟨SV_THR n, 0, 12⟩
abbrev SV_TIME (n : Nat) : Nat := 0xB048 + 0x10 * n
def SV_TIME_SDLY (n : Nat) : Fld := ⟨SV_TIME n, 0, 10⟩
abbrev SV_STAT (n : Nat) : Nat := 0xB04C + 0x10 * n
def SV_STAT_FAULTS (n : Nat) : Fld := ⟨SV_STAT n, 16, 16⟩
def SV_STAT_STATE (n : Nat) : Fld := ⟨SV_STAT n, 4, 3⟩
def SV_STAT_OV_NOW (n : Nat) : Fld := ⟨SV_STAT n, 1, 1⟩
def SV_STAT_UV_NOW (n : Nat) : Fld := ⟨SV_STAT n, 0, 1⟩
abbrev SUP_FAULTED : Nat := 0xB140
def SUP_FAULTED_MAP : Fld := ⟨SUP_FAULTED, 0, 16⟩
abbrev SUP_TIMING : Nat := 0xB144
def SUP_TIMING_MAP : Fld := ⟨SUP_TIMING, 0, 16⟩
abbrev SUP_FIRST : Nat := 0xB148
def SUP_FIRST_VALID : Fld := ⟨SUP_FIRST, 31, 1⟩
def SUP_FIRST_OV : Fld := ⟨SUP_FIRST, 4, 1⟩
def SUP_FIRST_SV : Fld := ⟨SUP_FIRST, 0, 4⟩
abbrev SUP_PFW : Nat := 0xB14C
def SUP_PFW_COUNT : Fld := ⟨SUP_PFW, 16, 16⟩
def SUP_PFW_LOW : Fld := ⟨SUP_PFW, 0, 1⟩

/-! ### SEQ -/
abbrev SEQ_CTRL : Nat := 0xA004
def SEQ_CTRL_KEY : Fld := ⟨SEQ_CTRL, 16, 16⟩
def SEQ_CTRL_SLOT : Fld := ⟨SEQ_CTRL, 8, 5⟩
def SEQ_CTRL_OP : Fld := ⟨SEQ_CTRL, 0, 3⟩
abbrev SEQ_STATUS : Nat := 0xA008
def SEQ_STATUS_PARTIAL : Fld := ⟨SEQ_STATUS, 11, 1⟩
def SEQ_STATUS_LATCHED_ON : Fld := ⟨SEQ_STATUS, 10, 1⟩
def SEQ_STATUS_STEP : Fld := ⟨SEQ_STATUS, 4, 4⟩
def SEQ_STATUS_STATE : Fld := ⟨SEQ_STATUS, 0, 4⟩
abbrev SEQ_EVT_RAW : Nat := 0xA00C
def SEQ_EVT_RAW_IGNORED : Fld := ⟨SEQ_EVT_RAW, 9, 1⟩
def SEQ_EVT_RAW_CFG_ERR : Fld := ⟨SEQ_EVT_RAW, 8, 1⟩
def SEQ_EVT_RAW_ON_LATCHED : Fld := ⟨SEQ_EVT_RAW, 7, 1⟩
def SEQ_EVT_RAW_SLOT_FAULT : Fld := ⟨SEQ_EVT_RAW, 6, 1⟩
def SEQ_EVT_RAW_HELD : Fld := ⟨SEQ_EVT_RAW, 5, 1⟩
def SEQ_EVT_RAW_STUCK : Fld := ⟨SEQ_EVT_RAW, 4, 1⟩
def SEQ_EVT_RAW_FAILED : Fld := ⟨SEQ_EVT_RAW, 3, 1⟩
def SEQ_EVT_RAW_RETRY : Fld := ⟨SEQ_EVT_RAW, 2, 1⟩
def SEQ_EVT_RAW_DOWN_DONE : Fld := ⟨SEQ_EVT_RAW, 1, 1⟩
def SEQ_EVT_RAW_UP_DONE : Fld := ⟨SEQ_EVT_RAW, 0, 1⟩
abbrev SEQ_SLOT_CFG (n : Nat) : Nat := 0xA040 + 0x20 * n
def SEQ_SLOT_CFG_EN (n : Nat) : Fld := ⟨SEQ_SLOT_CFG n, 31, 1⟩
def SEQ_SLOT_CFG_HOLD_DEP (n : Nat) : Fld := ⟨SEQ_SLOT_CFG n, 30, 1⟩
def SEQ_SLOT_CFG_DIS_EN (n : Nat) : Fld := ⟨SEQ_SLOT_CFG n, 29, 1⟩
def SEQ_SLOT_CFG_UP_STEP (n : Nat) : Fld := ⟨SEQ_SLOT_CFG n, 24, 4⟩
def SEQ_SLOT_CFG_DN_STEP (n : Nat) : Fld := ⟨SEQ_SLOT_CFG n, 20, 4⟩
def SEQ_SLOT_CFG_MODES (n : Nat) : Fld := ⟨SEQ_SLOT_CFG n, 12, 8⟩
def SEQ_SLOT_CFG_PG_SRC (n : Nat) : Fld := ⟨SEQ_SLOT_CFG n, 10, 2⟩
def SEQ_SLOT_CFG_POL (n : Nat) : Fld := ⟨SEQ_SLOT_CFG n, 9, 1⟩
def SEQ_SLOT_CFG_PG_GPIO (n : Nat) : Fld := ⟨SEQ_SLOT_CFG n, 4, 4⟩
def SEQ_SLOT_CFG_OUT_GPIO (n : Nat) : Fld := ⟨SEQ_SLOT_CFG n, 0, 4⟩
abbrev SEQ_SLOT_DEP (n : Nat) : Nat := 0xA044 + 0x20 * n
def SEQ_SLOT_DEP_DEP (n : Nat) : Fld := ⟨SEQ_SLOT_DEP n, 0, 19⟩
abbrev SEQ_SLOT_UPT (n : Nat) : Nat := 0xA048 + 0x20 * n
def SEQ_SLOT_UPT_TMO (n : Nat) : Fld := ⟨SEQ_SLOT_UPT n, 16, 16⟩
def SEQ_SLOT_UPT_DLY (n : Nat) : Fld := ⟨SEQ_SLOT_UPT n, 0, 16⟩
abbrev SEQ_SLOT_DNT (n : Nat) : Nat := 0xA04C + 0x20 * n
def SEQ_SLOT_DNT_TMO (n : Nat) : Fld := ⟨SEQ_SLOT_DNT n, 16, 16⟩
def SEQ_SLOT_DNT_DLY (n : Nat) : Fld := ⟨SEQ_SLOT_DNT n, 0, 16⟩
abbrev SEQ_SLOT_DIS (n : Nat) : Nat := 0xA050 + 0x20 * n
def SEQ_SLOT_DIS_DIS_LVL (n : Nat) : Fld := ⟨SEQ_SLOT_DIS n, 0, 12⟩
abbrev SEQ_SLOT_STAT (n : Nat) : Nat := 0xA054 + 0x20 * n
def SEQ_SLOT_STAT_ADOPTED (n : Nat) : Fld := ⟨SEQ_SLOT_STAT n, 10, 1⟩
def SEQ_SLOT_STAT_DIS_ON (n : Nat) : Fld := ⟨SEQ_SLOT_STAT n, 9, 1⟩
def SEQ_SLOT_STAT_OVR_OFF (n : Nat) : Fld := ⟨SEQ_SLOT_STAT n, 8, 1⟩
def SEQ_SLOT_STAT_STATE (n : Nat) : Fld := ⟨SEQ_SLOT_STAT n, 0, 4⟩
abbrev SEQ_SLOT_CNT (n : Nat) : Nat := 0xA058 + 0x20 * n
def SEQ_SLOT_CNT_STUCKS (n : Nat) : Fld := ⟨SEQ_SLOT_CNT n, 24, 8⟩
def SEQ_SLOT_CNT_UP_FAILS (n : Nat) : Fld := ⟨SEQ_SLOT_CNT n, 16, 8⟩
def SEQ_SLOT_CNT_STARTS (n : Nat) : Fld := ⟨SEQ_SLOT_CNT n, 0, 16⟩
abbrev SEQ_CFG : Nat := 0xA2A0
def SEQ_CFG_MIN_OFF : Fld := ⟨SEQ_CFG, 16, 12⟩
def SEQ_CFG_AUTO_UP : Fld := ⟨SEQ_CFG, 6, 1⟩
def SEQ_CFG_VSYS_SLOT : Fld := ⟨SEQ_CFG, 0, 5⟩
abbrev SEQ_FIRST : Nat := 0xA2A4
def SEQ_FIRST_VALID : Fld := ⟨SEQ_FIRST, 31, 1⟩
def SEQ_FIRST_KIND : Fld := ⟨SEQ_FIRST, 5, 3⟩
def SEQ_FIRST_SLOT : Fld := ⟨SEQ_FIRST, 0, 5⟩
abbrev SEQ_RETRY : Nat := 0xA2A8
def SEQ_RETRY_COUNT : Fld := ⟨SEQ_RETRY, 16, 3⟩
def SEQ_RETRY_LIMIT : Fld := ⟨SEQ_RETRY, 0, 3⟩
abbrev SEQ_MAP_UP : Nat := 0xA2AC
def SEQ_MAP_UP_MAP : Fld := ⟨SEQ_MAP_UP, 0, 19⟩
abbrev SEQ_MAP_STUCK : Nat := 0xA2B0
def SEQ_MAP_STUCK_MAP : Fld := ⟨SEQ_MAP_STUCK, 0, 19⟩
abbrev SEQ_MAP_HELD : Nat := 0xA2B4
def SEQ_MAP_HELD_MAP : Fld := ⟨SEQ_MAP_HELD, 0, 19⟩
abbrev SEQ_MAP_FAULT : Nat := 0xA2B8
def SEQ_MAP_FAULT_MAP : Fld := ⟨SEQ_MAP_FAULT, 0, 19⟩
abbrev SEQ_CNT : Nat := 0xA2BC
def SEQ_CNT_FAILS : Fld := ⟨SEQ_CNT, 24, 8⟩
def SEQ_CNT_RETRIES : Fld := ⟨SEQ_CNT, 16, 8⟩
def SEQ_CNT_UPS : Fld := ⟨SEQ_CNT, 0, 16⟩

/-! ### PHC -/
abbrev PHC_STATUS : Nat := 0xD008
def PHC_STATUS_CLK_RC : Fld := ⟨PHC_STATUS, 4, 1⟩
def PHC_STATUS_ON : Fld := ⟨PHC_STATUS, 0, 4⟩
abbrev PHC_EVT_RAW : Nat := 0xD00C
def PHC_EVT_RAW_PH_LOSS : Fld := ⟨PHC_EVT_RAW, 24, 8⟩
def PHC_EVT_RAW_ILIM : Fld := ⟨PHC_EVT_RAW, 16, 8⟩
def PHC_EVT_RAW_CFG_ERR : Fld := ⟨PHC_EVT_RAW, 12, 4⟩
def PHC_EVT_RAW_UST : Fld := ⟨PHC_EVT_RAW, 8, 4⟩
def PHC_EVT_RAW_PG_LOSS : Fld := ⟨PHC_EVT_RAW, 4, 4⟩
def PHC_EVT_RAW_DONE : Fld := ⟨PHC_EVT_RAW, 0, 4⟩
abbrev PHC_CMD : Nat := 0xD040
def PHC_CMD_KEY : Fld := ⟨PHC_CMD, 16, 16⟩
def PHC_CMD_PHASE : Fld := ⟨PHC_CMD, 8, 3⟩
def PHC_CMD_OP : Fld := ⟨PHC_CMD, 0, 3⟩
abbrev PHC_PH_DIS : Nat := 0xD044
def PHC_PH_DIS_SENSE : Fld := ⟨PHC_PH_DIS, 8, 8⟩
def PHC_PH_DIS_OPEN : Fld := ⟨PHC_PH_DIS, 0, 8⟩
abbrev PHC_FIRST : Nat := 0xD048
def PHC_FIRST_VALID : Fld := ⟨PHC_FIRST, 31, 1⟩
def PHC_FIRST_KIND : Fld := ⟨PHC_FIRST, 8, 3⟩
def PHC_FIRST_INST : Fld := ⟨PHC_FIRST, 0, 4⟩
abbrev PHC_PG : Nat := 0xD04C
def PHC_PG_PG : Fld := ⟨PHC_PG, 0, 4⟩
abbrev PHC_RAIL_CFG (n : Nat) : Nat := 0xD080 + 0x80 * n
def PHC_RAIL_CFG_PHASES (n : Nat) : Fld := ⟨PHC_RAIL_CFG n, 8, 8⟩
def PHC_RAIL_CFG_DE (n : Nat) : Fld := ⟨PHC_RAIL_CFG n, 7, 1⟩
def PHC_RAIL_CFG_MODE (n : Nat) : Fld := ⟨PHC_RAIL_CFG n, 6, 1⟩
def PHC_RAIL_CFG_VIN_SRC (n : Nat) : Fld := ⟨PHC_RAIL_CFG n, 4, 2⟩
abbrev PHC_RAIL_VSET (n : Nat) : Nat := 0xD084 + 0x80 * n
def PHC_RAIL_VSET_VSET (n : Nat) : Fld := ⟨PHC_RAIL_VSET n, 0, 14⟩
abbrev PHC_RAIL_SLEW (n : Nat) : Nat := 0xD088 + 0x80 * n
def PHC_RAIL_SLEW_RATE (n : Nat) : Fld := ⟨PHC_RAIL_SLEW n, 0, 3⟩
abbrev PHC_RAIL_PERIOD (n : Nat) : Nat := 0xD08C + 0x80 * n
def PHC_RAIL_PERIOD_PERIOD (n : Nat) : Fld := ⟨PHC_RAIL_PERIOD n, 0, 13⟩
abbrev PHC_RAIL_FBDIV (n : Nat) : Nat := 0xD090 + 0x80 * n
def PHC_RAIL_FBDIV_RATIO (n : Nat) : Fld := ⟨PHC_RAIL_FBDIV n, 0, 16⟩
abbrev PHC_RAIL_ILIM (n : Nat) : Nat := 0xD094 + 0x80 * n
def PHC_RAIL_ILIM_ILIM (n : Nat) : Fld := ⟨PHC_RAIL_ILIM n, 0, 16⟩
abbrev PHC_RAIL_UST (n : Nat) : Nat := 0xD098 + 0x80 * n
def PHC_RAIL_UST_UST_EN (n : Nat) : Fld := ⟨PHC_RAIL_UST n, 31, 1⟩
def PHC_RAIL_UST_CONT_ARM (n : Nat) : Fld := ⟨PHC_RAIL_UST n, 30, 1⟩
def PHC_RAIL_UST_OST_EN (n : Nat) : Fld := ⟨PHC_RAIL_UST n, 29, 1⟩
def PHC_RAIL_UST_UST_THR (n : Nat) : Fld := ⟨PHC_RAIL_UST n, 24, 4⟩
def PHC_RAIL_UST_OST_THR (n : Nat) : Fld := ⟨PHC_RAIL_UST n, 20, 4⟩
def PHC_RAIL_UST_MAXON (n : Nat) : Fld := ⟨PHC_RAIL_UST n, 0, 8⟩
abbrev PHC_RAIL_PG (n : Nat) : Nat := 0xD09C + 0x80 * n
def PHC_RAIL_PG_WIN (n : Nat) : Fld := ⟨PHC_RAIL_PG n, 16, 4⟩
def PHC_RAIL_PG_FILT (n : Nat) : Fld := ⟨PHC_RAIL_PG n, 0, 12⟩
abbrev PHC_RAIL_CV0 (n : Nat) : Nat := 0xD0A0 + 0x80 * n
def PHC_RAIL_CV0_KP (n : Nat) : Fld := ⟨PHC_RAIL_CV0 n, 16, 16⟩
def PHC_RAIL_CV0_KI (n : Nat) : Fld := ⟨PHC_RAIL_CV0 n, 0, 16⟩
abbrev PHC_RAIL_CV1 (n : Nat) : Nat := 0xD0A4 + 0x80 * n
def PHC_RAIL_CV1_KD (n : Nat) : Fld := ⟨PHC_RAIL_CV1 n, 16, 16⟩
def PHC_RAIL_CV1_KF (n : Nat) : Fld := ⟨PHC_RAIL_CV1 n, 0, 8⟩
abbrev PHC_RAIL_CI (n : Nat) : Nat := 0xD0A8 + 0x80 * n
def PHC_RAIL_CI_KPI (n : Nat) : Fld := ⟨PHC_RAIL_CI n, 16, 16⟩
def PHC_RAIL_CI_KII (n : Nat) : Fld := ⟨PHC_RAIL_CI n, 0, 16⟩
abbrev PHC_RAIL_TIMING (n : Nat) : Nat := 0xD0AC + 0x80 * n
def PHC_RAIL_TIMING_DT_HL (n : Nat) : Fld := ⟨PHC_RAIL_TIMING n, 24, 6⟩
def PHC_RAIL_TIMING_DT_LH (n : Nat) : Fld := ⟨PHC_RAIL_TIMING n, 16, 6⟩
def PHC_RAIL_TIMING_BLANK (n : Nat) : Fld := ⟨PHC_RAIL_TIMING n, 8, 6⟩
def PHC_RAIL_TIMING_ZC_THR (n : Nat) : Fld := ⟨PHC_RAIL_TIMING n, 0, 8⟩
abbrev PHC_RAIL_SHARE (n : Nat) : Nat := 0xD0B0 + 0x80 * n
def PHC_RAIL_SHARE_SHARE_MIN (n : Nat) : Fld := ⟨PHC_RAIL_SHARE n, 16, 16⟩
def PHC_RAIL_SHARE_FLAT_THR (n : Nat) : Fld := ⟨PHC_RAIL_SHARE n, 0, 8⟩
abbrev PHC_RAIL_STATUS (n : Nat) : Nat := 0xD0B4 + 0x80 * n
def PHC_RAIL_STATUS_LIMIT (n : Nat) : Fld := ⟨PHC_RAIL_STATUS n, 9, 1⟩
def PHC_RAIL_STATUS_CFG_ERR (n : Nat) : Fld := ⟨PHC_RAIL_STATUS n, 8, 1⟩
def PHC_RAIL_STATUS_NACT (n : Nat) : Fld := ⟨PHC_RAIL_STATUS n, 4, 4⟩
def PHC_RAIL_STATUS_PG (n : Nat) : Fld := ⟨PHC_RAIL_STATUS n, 3, 1⟩
def PHC_RAIL_STATUS_STATE (n : Nat) : Fld := ⟨PHC_RAIL_STATUS n, 0, 3⟩
abbrev PHC_RAIL_VNOW (n : Nat) : Nat := 0xD0B8 + 0x80 * n
def PHC_RAIL_VNOW_V (n : Nat) : Fld := ⟨PHC_RAIL_VNOW n, 0, 14⟩
abbrev PHC_RAIL_VMEAS (n : Nat) : Nat := 0xD0BC + 0x80 * n
def PHC_RAIL_VMEAS_V (n : Nat) : Fld := ⟨PHC_RAIL_VMEAS n, 0, 14⟩
abbrev PHC_RAIL_IMEAS (n : Nat) : Nat := 0xD0C0 + 0x80 * n
def PHC_RAIL_IMEAS_I (n : Nat) : Fld := ⟨PHC_RAIL_IMEAS n, 0, 16⟩
abbrev PHC_RAIL_CNT (n : Nat) : Nat := 0xD0C4 + 0x80 * n
def PHC_RAIL_CNT_SUPERSEDE (n : Nat) : Fld := ⟨PHC_RAIL_CNT n, 16, 16⟩
def PHC_RAIL_CNT_UST (n : Nat) : Fld := ⟨PHC_RAIL_CNT n, 0, 16⟩
abbrev PHC_RAIL_ILIM_EFF (n : Nat) : Nat := 0xD0C8 + 0x80 * n
def PHC_RAIL_ILIM_EFF_ILIM_EFF (n : Nat) : Fld := ⟨PHC_RAIL_ILIM_EFF n, 0, 16⟩
abbrev PHC_PH_CFG (n : Nat) : Nat := 0xD280 + 0x20 * n
def PHC_PH_CFG_RSENSE (n : Nat) : Fld := ⟨PHC_PH_CFG n, 0, 16⟩
abbrev PHC_PH_CL (n : Nat) : Nat := 0xD284 + 0x20 * n
def PHC_PH_CL_CL_THR (n : Nat) : Fld := ⟨PHC_PH_CL n, 0, 8⟩
abbrev PHC_PH_STATUS (n : Nat) : Nat := 0xD288 + 0x20 * n
def PHC_PH_STATUS_RAIL (n : Nat) : Fld := ⟨PHC_PH_STATUS n, 8, 3⟩
def PHC_PH_STATUS_LIMITING (n : Nat) : Fld := ⟨PHC_PH_STATUS n, 4, 1⟩
def PHC_PH_STATUS_STATE (n : Nat) : Fld := ⟨PHC_PH_STATUS n, 0, 3⟩
abbrev PHC_PH_IMEAS (n : Nat) : Nat := 0xD28C + 0x20 * n
def PHC_PH_IMEAS_I (n : Nat) : Fld := ⟨PHC_PH_IMEAS n, 0, 16⟩
abbrev PHC_PH_DUTY (n : Nat) : Nat := 0xD290 + 0x20 * n
def PHC_PH_DUTY_D (n : Nat) : Fld := ⟨PHC_PH_DUTY n, 0, 16⟩
abbrev PHC_PH_CNT (n : Nat) : Nat := 0xD294 + 0x20 * n
def PHC_PH_CNT_LIMITED (n : Nat) : Fld := ⟨PHC_PH_CNT n, 0, 32⟩

/-! ### FEED -/
abbrev FEED_STATUS : Nat := 0xF008
def FEED_STATUS_EF_STATE : Fld := ⟨FEED_STATUS, 8, 3⟩
def FEED_STATUS_B_VALID : Fld := ⟨FEED_STATUS, 5, 1⟩
def FEED_STATUS_A_VALID : Fld := ⟨FEED_STATUS, 4, 1⟩
def FEED_STATUS_B_ON : Fld := ⟨FEED_STATUS, 3, 1⟩
def FEED_STATUS_A_ON : Fld := ⟨FEED_STATUS, 2, 1⟩
def FEED_STATUS_PG : Fld := ⟨FEED_STATUS, 0, 1⟩
abbrev FEED_EVT_RAW : Nat := 0xF00C
def FEED_EVT_RAW_FET_FAULT : Fld := ⟨FEED_EVT_RAW, 7, 1⟩
def FEED_EVT_RAW_PC_FAIL : Fld := ⟨FEED_EVT_RAW, 6, 1⟩
def FEED_EVT_RAW_EF_LATCH : Fld := ⟨FEED_EVT_RAW, 5, 1⟩
def FEED_EVT_RAW_EF_TRIP : Fld := ⟨FEED_EVT_RAW, 4, 1⟩
def FEED_EVT_RAW_REVERSE : Fld := ⟨FEED_EVT_RAW, 2, 2⟩
def FEED_EVT_RAW_VALID_CHG : Fld := ⟨FEED_EVT_RAW, 0, 2⟩
abbrev FEED_CMD : Nat := 0xF040
def FEED_CMD_KEY : Fld := ⟨FEED_CMD, 16, 16⟩
def FEED_CMD_OP : Fld := ⟨FEED_CMD, 0, 3⟩
abbrev FEED_QUAL : Nat := 0xF044
def FEED_QUAL_OV : Fld := ⟨FEED_QUAL, 16, 12⟩
def FEED_QUAL_UV : Fld := ⟨FEED_QUAL, 0, 12⟩
abbrev FEED_OR : Nat := 0xF048
def FEED_OR_FWD : Fld := ⟨FEED_OR, 8, 6⟩
def FEED_OR_REV : Fld := ⟨FEED_OR, 0, 6⟩
abbrev FEED_EF : Nat := 0xF04C
def FEED_EF_RETRY : Fld := ⟨FEED_EF, 28, 3⟩
def FEED_EF_TMO : Fld := ⟨FEED_EF, 16, 10⟩
def FEED_EF_ILIM : Fld := ⟨FEED_EF, 0, 8⟩
abbrev FEED_PC : Nat := 0xF050
def FEED_PC_PC_TMO : Fld := ⟨FEED_PC, 0, 8⟩
abbrev FEED_SENSE : Nat := 0xF054
def FEED_SENSE_RSENSE : Fld := ⟨FEED_SENSE, 0, 16⟩
abbrev FEED_VA : Nat := 0xF058
def FEED_VA_V : Fld := ⟨FEED_VA, 0, 16⟩
abbrev FEED_VB : Nat := 0xF05C
def FEED_VB_V : Fld := ⟨FEED_VB, 0, 16⟩
abbrev FEED_VPB : Nat := 0xF060
def FEED_VPB_V : Fld := ⟨FEED_VPB, 0, 16⟩
abbrev FEED_IEF : Nat := 0xF064
def FEED_IEF_I : Fld := ⟨FEED_IEF, 0, 16⟩
abbrev FEED_FET : Nat := 0xF068
def FEED_FET_MARKS : Fld := ⟨FEED_FET, 0, 4⟩
abbrev FEED_FIRST : Nat := 0xF06C
def FEED_FIRST_VALID : Fld := ⟨FEED_FIRST, 31, 1⟩
def FEED_FIRST_KIND : Fld := ⟨FEED_FIRST, 0, 4⟩
abbrev FEED_CNT : Nat := 0xF070
def FEED_CNT_TRIPS : Fld := ⟨FEED_CNT, 16, 16⟩
def FEED_CNT_PC_FAILS : Fld := ⟨FEED_CNT, 8, 8⟩
def FEED_CNT_LATCHES : Fld := ⟨FEED_CNT, 0, 8⟩

/-! ### PATH -/
abbrev PATH_STATUS : Nat := 0xE008
def PATH_STATUS_LOCKED : Fld := ⟨PATH_STATUS, 10, 1⟩
def PATH_STATUS_HOST_LOST : Fld := ⟨PATH_STATUS, 9, 1⟩
def PATH_STATUS_SUPPLEMENT : Fld := ⟨PATH_STATUS, 8, 1⟩
def PATH_STATUS_PACK_LOW : Fld := ⟨PATH_STATUS, 7, 1⟩
def PATH_STATUS_PACK_PRESENT : Fld := ⟨PATH_STATUS, 6, 1⟩
def PATH_STATUS_SHORTS : Fld := ⟨PATH_STATUS, 3, 2⟩
def PATH_STATUS_STATE : Fld := ⟨PATH_STATUS, 0, 3⟩
abbrev PATH_EVT_RAW : Nat := 0xE00C
def PATH_EVT_RAW_EVENTS : Fld := ⟨PATH_EVT_RAW, 0, 9⟩
abbrev PATH_CMD : Nat := 0xE040
def PATH_CMD_KEY : Fld := ⟨PATH_CMD, 16, 16⟩
def PATH_CMD_OP : Fld := ⟨PATH_CMD, 0, 3⟩
abbrev PATH_CFG : Nat := 0xE044
def PATH_CFG_SHIP : Fld := ⟨PATH_CFG, 1, 1⟩
def PATH_CFG_BAT_RUN : Fld := ⟨PATH_CFG, 0, 1⟩
abbrev PATH_BOUNCE : Nat := 0xE048
def PATH_BOUNCE_LOCKOUTS : Fld := ⟨PATH_BOUNCE, 24, 8⟩
def PATH_BOUNCE_LOSSES : Fld := ⟨PATH_BOUNCE, 8, 16⟩
def PATH_BOUNCE_WINDOW : Fld := ⟨PATH_BOUNCE, 0, 4⟩
abbrev PATH_VBAK : Nat := 0xE04C
def PATH_VBAK_MV : Fld := ⟨PATH_VBAK, 0, 16⟩
abbrev PATH_IBAK : Nat := 0xE050
def PATH_IBAK_MA : Fld := ⟨PATH_IBAK, 0, 16⟩
abbrev CHG_PACK : Nat := 0xE054
def CHG_PACK_AUTO : Fld := ⟨CHG_PACK, 31, 1⟩
def CHG_PACK_CELLS : Fld := ⟨CHG_PACK, 16, 3⟩
def CHG_PACK_CHEM : Fld := ⟨CHG_PACK, 8, 2⟩
def CHG_PACK_RSENSE : Fld := ⟨CHG_PACK, 0, 8⟩
abbrev CHG_VREG : Nat := 0xE058
def CHG_VREG_VREG : Fld := ⟨CHG_VREG, 0, 13⟩
abbrev CHG_ICHG : Nat := 0xE05C
def CHG_ICHG_ICHG : Fld := ⟨CHG_ICHG, 24, 8⟩
def CHG_ICHG_IPRE : Fld := ⟨CHG_ICHG, 16, 8⟩
def CHG_ICHG_ITERM : Fld := ⟨CHG_ICHG, 0, 8⟩
abbrev CHG_THR : Nat := 0xE060
def CHG_THR_VPRE : Fld := ⟨CHG_THR, 18, 9⟩
def CHG_THR_VRECH : Fld := ⟨CHG_THR, 9, 9⟩
def CHG_THR_VLOW : Fld := ⟨CHG_THR, 0, 9⟩
abbrev CHG_TIMER : Nat := 0xE064
def CHG_TIMER_SAFETY : Fld := ⟨CHG_TIMER, 24, 4⟩
def CHG_TIMER_PRE : Fld := ⟨CHG_TIMER, 16, 7⟩
def CHG_TIMER_TOPOFF : Fld := ⟨CHG_TIMER, 0, 6⟩
abbrev CHG_TEMP : Nat := 0xE068
def CHG_TEMP_TEN : Fld := ⟨CHG_TEMP, 31, 1⟩
def CHG_TEMP_TH : Fld := ⟨CHG_TEMP, 24, 4⟩
def CHG_TEMP_T_MAX : Fld := ⟨CHG_TEMP, 16, 8⟩
def CHG_TEMP_T_COLD : Fld := ⟨CHG_TEMP, 8, 8⟩
def CHG_TEMP_T_MIN : Fld := ⟨CHG_TEMP, 0, 8⟩
abbrev CHG_FALLBACK : Nat := 0xE06C
def CHG_FALLBACK_HCT : Fld := ⟨CHG_FALLBACK, 16, 16⟩
def CHG_FALLBACK_FB_ICHG : Fld := ⟨CHG_FALLBACK, 8, 8⟩
def CHG_FALLBACK_FB_VDROP : Fld := ⟨CHG_FALLBACK, 0, 8⟩
abbrev CHG_STATUS : Nat := 0xE070
def CHG_STATUS_PHASE : Fld := ⟨CHG_STATUS, 28, 4⟩
def CHG_STATUS_FAULT : Fld := ⟨CHG_STATUS, 24, 4⟩
def CHG_STATUS_LIMITS : Fld := ⟨CHG_STATUS, 0, 4⟩
abbrev CHG_ELAPSED : Nat := 0xE074
def CHG_ELAPSED_T8 : Fld := ⟨CHG_ELAPSED, 0, 24⟩
abbrev CHG_CNT : Nat := 0xE078
def CHG_CNT_CYCLES : Fld := ⟨CHG_CNT, 16, 16⟩
def CHG_CNT_FAULTS : Fld := ⟨CHG_CNT, 8, 8⟩
def CHG_CNT_RECHARGES : Fld := ⟨CHG_CNT, 0, 8⟩

/-! ### CONT -/
abbrev CONT_STATUS : Nat := 0x10008
def CONT_STATUS_WELD : Fld := ⟨CONT_STATUS, 18, 2⟩
def CONT_STATUS_SENSED : Fld := ⟨CONT_STATUS, 15, 3⟩
def CONT_STATUS_CMD : Fld := ⟨CONT_STATUS, 12, 3⟩
def CONT_STATUS_LOOP_OK : Fld := ⟨CONT_STATUS, 9, 1⟩
def CONT_STATUS_LOOP_TRIP : Fld := ⟨CONT_STATUS, 8, 1⟩
def CONT_STATUS_FT_LATCH : Fld := ⟨CONT_STATUS, 7, 1⟩
def CONT_STATUS_FD_ON : Fld := ⟨CONT_STATUS, 6, 1⟩
def CONT_STATUS_STATE : Fld := ⟨CONT_STATUS, 0, 4⟩
abbrev CONT_EVT_RAW : Nat := 0x1000C
def CONT_EVT_RAW_EVENTS : Fld := ⟨CONT_EVT_RAW, 0, 10⟩
abbrev CONT_CMD : Nat := 0x10040
def CONT_CMD_KEY : Fld := ⟨CONT_CMD, 16, 16⟩
def CONT_CMD_OP : Fld := ⟨CONT_CMD, 0, 3⟩
abbrev CONT_CFG : Nat := 0x10044
def CONT_CFG_OPEN_DLY : Fld := ⟨CONT_CFG, 24, 8⟩
def CONT_CFG_NEG_DLY : Fld := ⟨CONT_CFG, 16, 8⟩
def CONT_CFG_DROP_T : Fld := ⟨CONT_CFG, 8, 8⟩
def CONT_CFG_POS_T : Fld := ⟨CONT_CFG, 0, 8⟩
abbrev CONT_PC : Nat := 0x10048
def CONT_PC_PC_TMO : Fld := ⟨CONT_PC, 16, 16⟩
def CONT_PC_PC_PCT : Fld := ⟨CONT_PC, 8, 8⟩
def CONT_PC_PULL_TMO : Fld := ⟨CONT_PC, 0, 8⟩
abbrev CONT_ECON : Nat := 0x1004C
def CONT_ECON_PULL_T : Fld := ⟨CONT_ECON, 24, 8⟩
def CONT_ECON_HOLD : Fld := ⟨CONT_ECON, 16, 8⟩
abbrev CONT_SENSE : Nat := 0x10050
def CONT_SENSE_ON_PCT : Fld := ⟨CONT_SENSE, 24, 8⟩
def CONT_SENSE_OFF_PCT : Fld := ⟨CONT_SENSE, 16, 8⟩
def CONT_SENSE_SAG_T : Fld := ⟨CONT_SENSE, 8, 8⟩
def CONT_SENSE_WELD_T : Fld := ⟨CONT_SENSE, 0, 8⟩
abbrev CONT_FT : Nat := 0x10054
def CONT_FT_POS_BLANK : Fld := ⟨CONT_FT, 24, 8⟩
def CONT_FT_HARD_THR : Fld := ⟨CONT_FT, 16, 8⟩
def CONT_FT_BLANK : Fld := ⟨CONT_FT, 8, 8⟩
def CONT_FT_FT_THR : Fld := ⟨CONT_FT, 0, 8⟩
abbrev CONT_LOOP : Nat := 0x10058
def CONT_LOOP_LOOP_EN : Fld := ⟨CONT_LOOP, 31, 1⟩
def CONT_LOOP_FILT : Fld := ⟨CONT_LOOP, 0, 8⟩
abbrev CONT_VRACK : Nat := 0x1005C
def CONT_VRACK_V : Fld := ⟨CONT_VRACK, 0, 16⟩
abbrev CONT_VS (n : Nat) : Nat := 0x10060 + 0x4 * n
def CONT_VS_PM (n : Nat) : Fld := ⟨CONT_VS n, 0, 10⟩
abbrev CONT_COIL (n : Nat) : Nat := 0x1006C + 0x4 * n
def CONT_COIL_STATE (n : Nat) : Fld := ⟨CONT_COIL n, 16, 3⟩
def CONT_COIL_MA (n : Nat) : Fld := ⟨CONT_COIL n, 0, 16⟩
abbrev CONT_FIRST : Nat := 0x10078
def CONT_FIRST_VALID : Fld := ⟨CONT_FIRST, 31, 1⟩
def CONT_FIRST_INST : Fld := ⟨CONT_FIRST, 4, 3⟩
def CONT_FIRST_KIND : Fld := ⟨CONT_FIRST, 0, 4⟩
abbrev CONT_CNT : Nat := 0x1007C
def CONT_CNT_FT_TRIPS : Fld := ⟨CONT_CNT, 16, 16⟩
def CONT_CNT_LOOP_TRIPS : Fld := ⟨CONT_CNT, 8, 8⟩
def CONT_CNT_WELDS : Fld := ⟨CONT_CNT, 0, 8⟩
abbrev CONT_OPS (n : Nat) : Nat := 0x10080 + 0x4 * n
def CONT_OPS_CLOSES (n : Nat) : Fld := ⟨CONT_OPS n, 0, 24⟩
abbrev CONT_TRIP_LO : Nat := 0x1008C
def CONT_TRIP_LO_EPOCH : Fld := ⟨CONT_TRIP_LO, 0, 32⟩
abbrev CONT_TRIP_HI : Nat := 0x10090
def CONT_TRIP_HI_KIND : Fld := ⟨CONT_TRIP_HI, 28, 4⟩
def CONT_TRIP_HI_EPOCH : Fld := ⟨CONT_TRIP_HI, 0, 16⟩

/-! ### AFE -/
abbrev AFE_STATUS : Nat := 0x13008
def AFE_STATUS_REF_RDY : Fld := ⟨AFE_STATUS, 15, 1⟩
def AFE_STATUS_REF_BAD : Fld := ⟨AFE_STATUS, 14, 1⟩
def AFE_STATUS_ZERO_BAD : Fld := ⟨AFE_STATUS, 13, 1⟩
def AFE_STATUS_CAL_NOM : Fld := ⟨AFE_STATUS, 12, 1⟩
def AFE_STATUS_UNDECLARED : Fld := ⟨AFE_STATUS, 11, 1⟩
def AFE_STATUS_CELLS_OFF : Fld := ⟨AFE_STATUS, 10, 1⟩
def AFE_STATUS_DIAG : Fld := ⟨AFE_STATUS, 0, 4⟩
abbrev AFE_EVT_RAW : Nat := 0x1300C
def AFE_EVT_RAW_EVENTS : Fld := ⟨AFE_EVT_RAW, 0, 11⟩
abbrev AFE_CFG : Nat := 0x13040
def AFE_CFG_SUM_TOL : Fld := ⟨AFE_CFG, 16, 8⟩
def AFE_CFG_SUM_EN : Fld := ⟨AFE_CFG, 12, 1⟩
def AFE_CFG_NCELL : Fld := ⟨AFE_CFG, 0, 5⟩
abbrev AFE_REF : Nat := 0x13044
def AFE_REF_VALID : Fld := ⟨AFE_REF, 31, 1⟩
def AFE_REF_DEV : Fld := ⟨AFE_REF, 0, 16⟩
abbrev AFE_STROBE : Nat := 0x13048
def AFE_STROBE_DELAY_TRIM : Fld := ⟨AFE_STROBE, 16, 16⟩
def AFE_STROBE_FINE : Fld := ⟨AFE_STROBE, 0, 12⟩
abbrev AFE_TMUX : Nat := 0x1304C
def AFE_TMUX_STEP : Fld := ⟨AFE_TMUX, 16, 16⟩
def AFE_TMUX_EN : Fld := ⟨AFE_TMUX, 0, 16⟩
abbrev AFE_AUXCFG : Nat := 0x13050
def AFE_AUXCFG_AUX2_SE : Fld := ⟨AFE_AUXCFG, 0, 1⟩
abbrev AFE_STACK_EXT : Nat := 0x13054
def AFE_STACK_EXT_ATTEN : Fld := ⟨AFE_STACK_EXT, 0, 16⟩
abbrev AFE_DIAG_CMD : Nat := 0x13058
def AFE_DIAG_CMD_KEY : Fld := ⟨AFE_DIAG_CMD, 16, 16⟩
def AFE_DIAG_CMD_OP : Fld := ⟨AFE_DIAG_CMD, 0, 3⟩
abbrev AFE_DIAG_CFG : Nat := 0x1305C
def AFE_DIAG_CFG_OW_THR : Fld := ⟨AFE_DIAG_CFG, 24, 8⟩
def AFE_DIAG_CFG_OW_T : Fld := ⟨AFE_DIAG_CFG, 16, 8⟩
def AFE_DIAG_CFG_OW_I : Fld := ⟨AFE_DIAG_CFG, 14, 2⟩
def AFE_DIAG_CFG_AUTO_PER : Fld := ⟨AFE_DIAG_CFG, 0, 12⟩
abbrev AFE_DIAG_STATUS : Nat := 0x13060
def AFE_DIAG_STATUS_LAST_OW : Fld := ⟨AFE_DIAG_STATUS, 28, 4⟩
def AFE_DIAG_STATUS_LAST_PATH : Fld := ⟨AFE_DIAG_STATUS, 24, 4⟩
def AFE_DIAG_STATUS_CHAN : Fld := ⟨AFE_DIAG_STATUS, 8, 6⟩
abbrev AFE_OW_RES : Nat := 0x13064
def AFE_OW_RES_OPEN : Fld := ⟨AFE_OW_RES, 0, 25⟩
abbrev AFE_PATH_RES : Nat := 0x13068
def AFE_PATH_RES_FAIL : Fld := ⟨AFE_PATH_RES, 0, 32⟩
abbrev AFE_FIRST : Nat := 0x1306C
def AFE_FIRST_VALID : Fld := ⟨AFE_FIRST, 31, 1⟩
def AFE_FIRST_KIND : Fld := ⟨AFE_FIRST, 8, 4⟩
def AFE_FIRST_INST : Fld := ⟨AFE_FIRST, 0, 6⟩
abbrev AFE_CNT : Nat := 0x13070
def AFE_CNT_OW_RUNS : Fld := ⟨AFE_CNT, 16, 16⟩
def AFE_CNT_OW_FAILS : Fld := ⟨AFE_CNT, 8, 8⟩
def AFE_CNT_PATH_FAILS : Fld := ⟨AFE_CNT, 0, 8⟩
abbrev AFE_CAL_V (n : Nat) : Nat := 0x13080 + 0x4 * n
def AFE_CAL_V_GAIN (n : Nat) : Fld := ⟨AFE_CAL_V n, 16, 16⟩
def AFE_CAL_V_OFS (n : Nat) : Fld := ⟨AFE_CAL_V n, 0, 16⟩
abbrev AFE_CAL_U (n : Nat) : Nat := 0x13100 + 0x4 * n
def AFE_CAL_U_GAIN (n : Nat) : Fld := ⟨AFE_CAL_U n, 16, 16⟩
def AFE_CAL_U_OFS (n : Nat) : Fld := ⟨AFE_CAL_U n, 0, 16⟩
abbrev AFE_TH_CFG (n : Nat) : Nat := 0x13180 + 0x4 * n
def AFE_TH_CFG_BETA (n : Nat) : Fld := ⟨AFE_TH_CFG n, 16, 16⟩
def AFE_TH_CFG_R25 (n : Nat) : Fld := ⟨AFE_TH_CFG n, 0, 16⟩
abbrev AFE_OW_DV (n : Nat) : Nat := 0x131C0 + 0x4 * n
def AFE_OW_DV_VERDICT (n : Nat) : Fld := ⟨AFE_OW_DV n, 30, 2⟩
def AFE_OW_DV_DV (n : Nat) : Fld := ⟨AFE_OW_DV n, 0, 16⟩

/-! ### ADC -/
abbrev ADC_STATUS : Nat := 0x14008
def ADC_STATUS_BURST : Fld := ⟨ADC_STATUS, 3, 1⟩
def ADC_STATUS_TRIP : Fld := ⟨ADC_STATUS, 2, 1⟩
def ADC_STATUS_ON : Fld := ⟨ADC_STATUS, 0, 2⟩
abbrev ADC_EVT_RAW : Nat := 0x1400C
def ADC_EVT_RAW_EVENTS : Fld := ⟨ADC_EVT_RAW, 0, 3⟩
abbrev ADC_CFG : Nat := 0x14040
def ADC_CFG_DITHER : Fld := ⟨ADC_CFG, 0, 1⟩
abbrev ADC_INTL_TRIM : Nat := 0x14044
def ADC_INTL_TRIM_GAIN1 : Fld := ⟨ADC_INTL_TRIM, 16, 16⟩
def ADC_INTL_TRIM_OFS1 : Fld := ⟨ADC_INTL_TRIM, 8, 8⟩
def ADC_INTL_TRIM_SKEW : Fld := ⟨ADC_INTL_TRIM, 0, 8⟩
abbrev ADC_SAT_CNT : Nat := 0x14048
def ADC_SAT_CNT_COUNT : Fld := ⟨ADC_SAT_CNT, 0, 32⟩
abbrev ADC_BURST : Nat := 0x1404C
def ADC_BURST_LEN : Fld := ⟨ADC_BURST, 0, 12⟩
abbrev ADC_BURST_EP_LO : Nat := 0x14050
def ADC_BURST_EP_LO_EPOCH : Fld := ⟨ADC_BURST_EP_LO, 0, 32⟩
abbrev ADC_BURST_EP_HI : Nat := 0x14054
def ADC_BURST_EP_HI_EPOCH : Fld := ⟨ADC_BURST_EP_HI, 0, 16⟩

/-! ### SCAN -/
abbrev SCAN_STATUS : Nat := 0x15008
def SCAN_STATUS_QDEPTH : Fld := ⟨SCAN_STATUS, 16, 5⟩
def SCAN_STATUS_SKIPPING : Fld := ⟨SCAN_STATUS, 4, 1⟩
def SCAN_STATUS_BURST : Fld := ⟨SCAN_STATUS, 3, 1⟩
def SCAN_STATUS_SCHED : Fld := ⟨SCAN_STATUS, 0, 3⟩
abbrev SCAN_EVT_RAW : Nat := 0x1500C
def SCAN_EVT_RAW_EVENTS : Fld := ⟨SCAN_EVT_RAW, 0, 5⟩
abbrev SCAN_AGE_LIMIT : Nat := 0x15040
def SCAN_AGE_LIMIT_LIMIT : Fld := ⟨SCAN_AGE_LIMIT, 0, 16⟩
abbrev SCAN_REQ_CFG : Nat := 0x15044
def SCAN_REQ_CFG_CLASS : Fld := ⟨SCAN_REQ_CFG, 30, 2⟩
def SCAN_REQ_CFG_KIND : Fld := ⟨SCAN_REQ_CFG, 28, 2⟩
def SCAN_REQ_CFG_CH : Fld := ⟨SCAN_REQ_CFG, 16, 6⟩
def SCAN_REQ_CFG_COUNT : Fld := ⟨SCAN_REQ_CFG, 0, 12⟩
abbrev SCAN_REQ : Nat := 0x15048
def SCAN_REQ_KEY : Fld := ⟨SCAN_REQ, 16, 16⟩
def SCAN_REQ_GO : Fld := ⟨SCAN_REQ, 0, 1⟩
abbrev SCAN_REQ_LAST : Nat := 0x1504C
def SCAN_REQ_LAST_VALID : Fld := ⟨SCAN_REQ_LAST, 31, 1⟩
def SCAN_REQ_LAST_ENTRY : Fld := ⟨SCAN_REQ_LAST, 0, 4⟩
abbrev SCAN_Q : Nat := 0x15050
def SCAN_Q_ESC : Fld := ⟨SCAN_Q, 16, 16⟩
def SCAN_Q_OCC : Fld := ⟨SCAN_Q, 0, 16⟩
abbrev SCAN_CNT_FRAMES : Nat := 0x15054
def SCAN_CNT_FRAMES_COUNT : Fld := ⟨SCAN_CNT_FRAMES, 0, 32⟩
abbrev SCAN_CNT_VOID : Nat := 0x15058
def SCAN_CNT_VOID_COUNT : Fld := ⟨SCAN_CNT_VOID, 0, 32⟩
abbrev SCAN_CNT_ESC : Nat := 0x1505C
def SCAN_CNT_ESC_COUNT : Fld := ⟨SCAN_CNT_ESC, 0, 32⟩
abbrev SCAN_CNT_SKIP : Nat := 0x15060
def SCAN_CNT_SKIP_THROTTLE : Fld := ⟨SCAN_CNT_SKIP, 16, 16⟩
def SCAN_CNT_SKIP_CAPTURE : Fld := ⟨SCAN_CNT_SKIP, 0, 16⟩
abbrev SCAN_CNT_DROP : Nat := 0x15064
def SCAN_CNT_DROP_QFULL : Fld := ⟨SCAN_CNT_DROP, 0, 16⟩
abbrev SCAN_LAST_VOID_LO : Nat := 0x15068
def SCAN_LAST_VOID_LO_EPOCH : Fld := ⟨SCAN_LAST_VOID_LO, 0, 32⟩
abbrev SCAN_LAST_VOID_HI : Nat := 0x1506C
def SCAN_LAST_VOID_HI_EPOCH : Fld := ⟨SCAN_LAST_VOID_HI, 0, 16⟩
abbrev SCAN_RES (n : Nat) : Nat := 0x15080 + 0x8 * n
def SCAN_RES_VALID (n : Nat) : Fld := ⟨SCAN_RES n, 31, 1⟩
def SCAN_RES_NA (n : Nat) : Fld := ⟨SCAN_RES n, 30, 1⟩
def SCAN_RES_POISON (n : Nat) : Fld := ⟨SCAN_RES n, 29, 1⟩
def SCAN_RES_VALUE (n : Nat) : Fld := ⟨SCAN_RES n, 0, 16⟩
abbrev SCAN_RES_EP (n : Nat) : Nat := 0x15084 + 0x8 * n
def SCAN_RES_EP_EPOCH (n : Nat) : Fld := ⟨SCAN_RES_EP n, 0, 32⟩

/-! ### CELL -/
abbrev CELL_STATUS : Nat := 0x16008
def CELL_STATUS_ANY : Fld := ⟨CELL_STATUS, 0, 2⟩
abbrev CELL_EVT_RAW : Nat := 0x1600C
def CELL_EVT_RAW_EVENTS : Fld := ⟨CELL_EVT_RAW, 0, 3⟩
abbrev CELL_CFG : Nat := 0x16040
def CELL_CFG_WIN : Fld := ⟨CELL_CFG, 0, 20⟩
abbrev CELL_LIM : Nat := 0x16044
def CELL_LIM_OV : Fld := ⟨CELL_LIM, 16, 16⟩
def CELL_LIM_UV : Fld := ⟨CELL_LIM, 0, 16⟩
abbrev CELL_LIM_CNT : Nat := 0x16048
def CELL_LIM_CNT_HYS : Fld := ⟨CELL_LIM_CNT, 8, 8⟩
def CELL_LIM_CNT_CNT : Fld := ⟨CELL_LIM_CNT, 0, 8⟩
abbrev CELL_OV_MAP : Nat := 0x1604C
def CELL_OV_MAP_MAP : Fld := ⟨CELL_OV_MAP, 0, 24⟩
abbrev CELL_UV_MAP : Nat := 0x16050
def CELL_UV_MAP_MAP : Fld := ⟨CELL_UV_MAP, 0, 24⟩
abbrev CELL_NFR : Nat := 0x16054
def CELL_NFR_STALE : Fld := ⟨CELL_NFR, 31, 1⟩
def CELL_NFR_PARTIAL : Fld := ⟨CELL_NFR, 30, 1⟩
def CELL_NFR_FLAGS : Fld := ⟨CELL_NFR, 20, 10⟩
def CELL_NFR_NFR : Fld := ⟨CELL_NFR, 0, 20⟩
abbrev CELL_STACK : Nat := 0x16058
def CELL_STACK_UV : Fld := ⟨CELL_STACK, 0, 32⟩
abbrev CELL_SUM : Nat := 0x1605C
def CELL_SUM_UV : Fld := ⟨CELL_SUM, 0, 32⟩
abbrev CELL_V (n : Nat) : Nat := 0x16080 + 0x4 * n
def CELL_V_UV (n : Nat) : Fld := ⟨CELL_V n, 0, 32⟩
abbrev CELL_VMIN (n : Nat) : Nat := 0x16100 + 0x4 * n
def CELL_VMIN_UV (n : Nat) : Fld := ⟨CELL_VMIN n, 0, 32⟩
abbrev CELL_VMAX (n : Nat) : Nat := 0x16180 + 0x4 * n
def CELL_VMAX_UV (n : Nat) : Fld := ⟨CELL_VMAX n, 0, 32⟩

/-! ### AUX -/
abbrev AUX_STATUS : Nat := 0x17008
def AUX_STATUS_ANY : Fld := ⟨AUX_STATUS, 0, 2⟩
abbrev AUX_EVT_RAW : Nat := 0x1700C
def AUX_EVT_RAW_EVENTS : Fld := ⟨AUX_EVT_RAW, 0, 3⟩
abbrev AUX_CFG : Nat := 0x17040
def AUX_CFG_WIN : Fld := ⟨AUX_CFG, 0, 20⟩
abbrev AUX_SHUNT : Nat := 0x17044
def AUX_SHUNT_S2 : Fld := ⟨AUX_SHUNT, 16, 16⟩
def AUX_SHUNT_S1 : Fld := ⟨AUX_SHUNT, 0, 16⟩
abbrev AUX_TLIM : Nat := 0x17048
def AUX_TLIM_OT : Fld := ⟨AUX_TLIM, 24, 8⟩
def AUX_TLIM_UT : Fld := ⟨AUX_TLIM, 16, 8⟩
def AUX_TLIM_HYS : Fld := ⟨AUX_TLIM, 8, 8⟩
def AUX_TLIM_CNT : Fld := ⟨AUX_TLIM, 0, 8⟩
abbrev AUX_T_MAP : Nat := 0x1704C
def AUX_T_MAP_OT : Fld := ⟨AUX_T_MAP, 16, 16⟩
def AUX_T_MAP_UT : Fld := ⟨AUX_T_MAP, 0, 16⟩
abbrev AUX_NFR : Nat := 0x17050
def AUX_NFR_STALE : Fld := ⟨AUX_NFR, 31, 1⟩
def AUX_NFR_PARTIAL : Fld := ⟨AUX_NFR, 30, 1⟩
def AUX_NFR_FLAGS : Fld := ⟨AUX_NFR, 20, 10⟩
def AUX_NFR_NFR : Fld := ⟨AUX_NFR, 0, 20⟩
abbrev AUX_STACK : Nat := 0x17054
def AUX_STACK_MV : Fld := ⟨AUX_STACK, 0, 32⟩
abbrev AUX_V1 : Nat := 0x17058
def AUX_V1_V : Fld := ⟨AUX_V1, 0, 32⟩
abbrev AUX_V2 : Nat := 0x1705C
def AUX_V2_V : Fld := ⟨AUX_V2, 0, 32⟩
abbrev AUX_I1 : Nat := 0x17060
def AUX_I1_MA : Fld := ⟨AUX_I1, 0, 32⟩
abbrev AUX_I2 : Nat := 0x17064
def AUX_I2_MA : Fld := ⟨AUX_I2, 0, 32⟩
abbrev AUX_REF : Nat := 0x17068
def AUX_REF_PPM : Fld := ⟨AUX_REF, 0, 32⟩
abbrev AUX_ZERO : Nat := 0x1706C
def AUX_ZERO_V : Fld := ⟨AUX_ZERO, 0, 32⟩
abbrev AUX_DIAG : Nat := 0x17070
def AUX_DIAG_UV : Fld := ⟨AUX_DIAG, 0, 32⟩
abbrev AUX_IMAX : Nat := 0x17074
def AUX_IMAX_MA : Fld := ⟨AUX_IMAX, 0, 32⟩
abbrev AUX_TEMP (n : Nat) : Nat := 0x17080 + 0x4 * n
def AUX_TEMP_STATE (n : Nat) : Fld := ⟨AUX_TEMP n, 30, 2⟩
def AUX_TEMP_T (n : Nat) : Fld := ⟨AUX_TEMP n, 0, 16⟩

/-! ### BAL -/
abbrev BAL_STATUS : Nat := 0x18008
def BAL_STATUS_FLAGS : Fld := ⟨BAL_STATUS, 0, 8⟩
abbrev BAL_EVT_RAW : Nat := 0x1800C
def BAL_EVT_RAW_EVENTS : Fld := ⟨BAL_EVT_RAW, 0, 12⟩
abbrev BAL_CMD : Nat := 0x18040
def BAL_CMD_KEY : Fld := ⟨BAL_CMD, 16, 16⟩
def BAL_CMD_OP : Fld := ⟨BAL_CMD, 0, 3⟩
abbrev BAL_POLICY : Nat := 0x18044
def BAL_POLICY_TICK : Fld := ⟨BAL_POLICY, 24, 8⟩
def BAL_POLICY_MIN_V : Fld := ⟨BAL_POLICY, 16, 8⟩
def BAL_POLICY_SLOT_T : Fld := ⟨BAL_POLICY, 8, 8⟩
def BAL_POLICY_BASIS : Fld := ⟨BAL_POLICY, 4, 1⟩
def BAL_POLICY_METHOD : Fld := ⟨BAL_POLICY, 2, 2⟩
def BAL_POLICY_MODE : Fld := ⟨BAL_POLICY, 0, 2⟩
abbrev BAL_THR : Nat := 0x18048
def BAL_THR_START : Fld := ⟨BAL_THR, 16, 16⟩
def BAL_THR_STOP : Fld := ⟨BAL_THR, 0, 16⟩
abbrev BAL_PASS_CFG : Nat := 0x1804C
def BAL_PASS_CFG_PMAX : Fld := ⟨BAL_PASS_CFG, 24, 8⟩
def BAL_PASS_CFG_MAX_ON : Fld := ⟨BAL_PASS_CFG, 20, 4⟩
def BAL_PASS_CFG_BLEED_I : Fld := ⟨BAL_PASS_CFG, 16, 4⟩
def BAL_PASS_CFG_RB : Fld := ⟨BAL_PASS_CFG, 0, 16⟩
abbrev BAL_SH_CFG : Nat := 0x18050
def BAL_SH_CFG_BAL_I : Fld := ⟨BAL_SH_CFG, 24, 8⟩
def BAL_SH_CFG_ILIM : Fld := ⟨BAL_SH_CFG, 16, 8⟩
def BAL_SH_CFG_SLEW : Fld := ⟨BAL_SH_CFG, 12, 4⟩
def BAL_SH_CFG_FSW : Fld := ⟨BAL_SH_CFG, 10, 2⟩
def BAL_SH_CFG_NRATIO : Fld := ⟨BAL_SH_CFG, 0, 8⟩
abbrev BAL_SEL : Nat := 0x18054
def BAL_SEL_KEY : Fld := ⟨BAL_SEL, 16, 16⟩
def BAL_SEL_CELL : Fld := ⟨BAL_SEL, 0, 5⟩
abbrev BAL_SH_I : Nat := 0x18058
def BAL_SH_I_I : Fld := ⟨BAL_SH_I, 0, 16⟩
abbrev BAL_BLEED : Nat := 0x1805C
def BAL_BLEED_MASK : Fld := ⟨BAL_BLEED, 0, 24⟩
abbrev BAL_BLEED_ON : Nat := 0x18060
def BAL_BLEED_ON_MASK : Fld := ⟨BAL_BLEED_ON, 0, 24⟩
abbrev BAL_NODE_RB : Nat := 0x18064
def BAL_NODE_RB_MAP : Fld := ⟨BAL_NODE_RB, 0, 25⟩
abbrev BAL_NODE_CMD : Nat := 0x18068
def BAL_NODE_CMD_MAP : Fld := ⟨BAL_NODE_CMD, 0, 25⟩
abbrev BAL_SH_STATUS : Nat := 0x1806C
def BAL_SH_STATUS_I : Fld := ⟨BAL_SH_STATUS, 16, 16⟩
def BAL_SH_STATUS_REJ : Fld := ⟨BAL_SH_STATUS, 13, 3⟩
def BAL_SH_STATUS_CELL : Fld := ⟨BAL_SH_STATUS, 8, 5⟩
def BAL_SH_STATUS_OWNER : Fld := ⟨BAL_SH_STATUS, 4, 2⟩
def BAL_SH_STATUS_STATE : Fld := ⟨BAL_SH_STATUS, 0, 4⟩
abbrev BAL_AUX_CFG : Nat := 0x18070
def BAL_AUX_CFG_RSENSE : Fld := ⟨BAL_AUX_CFG, 16, 16⟩
def BAL_AUX_CFG_LEASE_T : Fld := ⟨BAL_AUX_CFG, 0, 16⟩
abbrev BAL_FIRST : Nat := 0x18074
def BAL_FIRST_VALID : Fld := ⟨BAL_FIRST, 31, 1⟩
def BAL_FIRST_KIND : Fld := ⟨BAL_FIRST, 8, 4⟩
def BAL_FIRST_INST : Fld := ⟨BAL_FIRST, 0, 5⟩
abbrev BAL_CNT : Nat := 0x18078
def BAL_CNT_SELECTIONS : Fld := ⟨BAL_CNT, 16, 16⟩
def BAL_CNT_YIELDS : Fld := ⟨BAL_CNT, 8, 8⟩
def BAL_CNT_LOCKS : Fld := ⟨BAL_CNT, 0, 8⟩
abbrev BAL_PDIE : Nat := 0x1807C
def BAL_PDIE_MW : Fld := ⟨BAL_PDIE, 0, 16⟩
abbrev BAL_BLEED_T (n : Nat) : Nat := 0x18080 + 0x4 * n
def BAL_BLEED_T_SEC (n : Nat) : Fld := ⟨BAL_BLEED_T n, 0, 32⟩
abbrev BAL_SH_Q (n : Nat) : Nat := 0x18100 + 0x4 * n
def BAL_SH_Q_C (n : Nat) : Fld := ⟨BAL_SH_Q n, 0, 32⟩

/-! ### EIS -/
abbrev EIS_STATUS : Nat := 0x19008
def EIS_STATUS_CELL : Fld := ⟨EIS_STATUS, 16, 5⟩
def EIS_STATUS_RIP_LIVE : Fld := ⟨EIS_STATUS, 12, 1⟩
def EIS_STATUS_KIND : Fld := ⟨EIS_STATUS, 10, 2⟩
def EIS_STATUS_STATE : Fld := ⟨EIS_STATUS, 0, 4⟩
abbrev EIS_EVT_RAW : Nat := 0x1900C
def EIS_EVT_RAW_EVENTS : Fld := ⟨EIS_EVT_RAW, 0, 8⟩
abbrev EIS_CMD : Nat := 0x19040
def EIS_CMD_KEY : Fld := ⟨EIS_CMD, 16, 16⟩
def EIS_CMD_CELL : Fld := ⟨EIS_CMD, 8, 5⟩
def EIS_CMD_KIND : Fld := ⟨EIS_CMD, 4, 2⟩
def EIS_CMD_OP : Fld := ⟨EIS_CMD, 0, 3⟩
abbrev EIS_CFG : Nat := 0x19044
def EIS_CFG_GAP : Fld := ⟨EIS_CFG, 8, 8⟩
def EIS_CFG_METHOD : Fld := ⟨EIS_CFG, 4, 2⟩
def EIS_CFG_RIP_INV : Fld := ⟨EIS_CFG, 3, 1⟩
def EIS_CFG_PROFILE : Fld := ⟨EIS_CFG, 0, 2⟩
abbrev EIS_EXC : Nat := 0x19048
def EIS_EXC_RMS : Fld := ⟨EIS_EXC, 24, 8⟩
def EIS_EXC_VRESP_MAX : Fld := ⟨EIS_EXC, 17, 7⟩
def EIS_EXC_BIAS_EN : Fld := ⟨EIS_EXC, 16, 1⟩
def EIS_EXC_BIAS : Fld := ⟨EIS_EXC, 0, 16⟩
abbrev EIS_SLOT_F : Nat := 0x1904C
def EIS_SLOT_F_SLOT : Fld := ⟨EIS_SLOT_F, 16, 16⟩
def EIS_SLOT_F_W : Fld := ⟨EIS_SLOT_F, 0, 4⟩
abbrev EIS_SLOT_L : Nat := 0x19050
def EIS_SLOT_L_SLOT : Fld := ⟨EIS_SLOT_L, 16, 16⟩
def EIS_SLOT_L_W : Fld := ⟨EIS_SLOT_L, 0, 4⟩
abbrev EIS_MASK_LO : Nat := 0x19054
def EIS_MASK_LO_MASK : Fld := ⟨EIS_MASK_LO, 0, 32⟩
abbrev EIS_MASK_HI : Nat := 0x19058
def EIS_MASK_HI_MASK : Fld := ⟨EIS_MASK_HI, 0, 16⟩
abbrev EIS_QUAL : Nat := 0x1905C
def EIS_QUAL_SNR_MIN : Fld := ⟨EIS_QUAL, 24, 8⟩
def EIS_QUAL_RIP_AVG : Fld := ⟨EIS_QUAL, 16, 8⟩
def EIS_QUAL_RIP_MIN : Fld := ⟨EIS_QUAL, 0, 16⟩
abbrev EIS_TEMP_CFG : Nat := 0x19060
def EIS_TEMP_CFG_SLOPE : Fld := ⟨EIS_TEMP_CFG, 16, 16⟩
def EIS_TEMP_CFG_TRACK_I : Fld := ⟨EIS_TEMP_CFG, 0, 6⟩
abbrev EIS_VIEW : Nat := 0x19064
def EIS_VIEW_KIND : Fld := ⟨EIS_VIEW, 8, 2⟩
def EIS_VIEW_CELL : Fld := ⟨EIS_VIEW, 0, 5⟩
abbrev EIS_SCALE : Nat := 0x19068
def EIS_SCALE_S : Fld := ⟨EIS_SCALE, 0, 16⟩
abbrev EIS_CNT : Nat := 0x1906C
def EIS_CNT_DONE : Fld := ⟨EIS_CNT, 16, 16⟩
def EIS_CNT_ABORTS : Fld := ⟨EIS_CNT, 0, 16⟩
abbrev EIS_CNT_RIP : Nat := 0x19070
def EIS_CNT_RIP_USED : Fld := ⟨EIS_CNT_RIP, 16, 16⟩
def EIS_CNT_RIP_MISSING : Fld := ⟨EIS_CNT_RIP, 0, 16⟩
abbrev EIS_V_STATUS : Nat := 0x19074
def EIS_V_STATUS_VALID : Fld := ⟨EIS_V_STATUS, 31, 1⟩
def EIS_V_STATUS_KIND : Fld := ⟨EIS_V_STATUS, 29, 2⟩
def EIS_V_STATUS_CELL : Fld := ⟨EIS_V_STATUS, 24, 5⟩
def EIS_V_STATUS_END : Fld := ⟨EIS_V_STATUS, 20, 4⟩
def EIS_V_STATUS_FLAGS : Fld := ⟨EIS_V_STATUS, 13, 3⟩
def EIS_V_STATUS_MISS : Fld := ⟨EIS_V_STATUS, 0, 12⟩
abbrev EIS_FREQ (n : Nat) : Nat := 0x19080 + 0x4 * n
def EIS_FREQ_K (n : Nat) : Fld := ⟨EIS_FREQ n, 0, 19⟩
abbrev EIS_ZRE (n : Nat) : Nat := 0x19140 + 0x8 * n
def EIS_ZRE_Z (n : Nat) : Fld := ⟨EIS_ZRE n, 0, 32⟩
abbrev EIS_ZIM (n : Nat) : Nat := 0x19144 + 0x8 * n
def EIS_ZIM_Z (n : Nat) : Fld := ⟨EIS_ZIM n, 0, 32⟩
abbrev EIS_ZQ (n : Nat) : Nat := 0x192C0 + 0x4 * n
def EIS_ZQ_SRC (n : Nat) : Fld := ⟨EIS_ZQ n, 30, 2⟩
def EIS_ZQ_FLAGS (n : Nat) : Fld := ⟨EIS_ZQ n, 26, 4⟩
def EIS_ZQ_SNR (n : Nat) : Fld := ⟨EIS_ZQ n, 0, 16⟩
abbrev EIS_RS (n : Nat) : Nat := 0x19400 + 0x20 * n
def EIS_RS_Z (n : Nat) : Fld := ⟨EIS_RS n, 0, 32⟩
abbrev EIS_RCT (n : Nat) : Nat := 0x19404 + 0x20 * n
def EIS_RCT_Z (n : Nat) : Fld := ⟨EIS_RCT n, 0, 32⟩
abbrev EIS_TAU (n : Nat) : Nat := 0x19408 + 0x20 * n
def EIS_TAU_US (n : Nat) : Fld := ⟨EIS_TAU n, 0, 32⟩
abbrev EIS_TINT (n : Nat) : Nat := 0x1940C + 0x20 * n
def EIS_TINT_T (n : Nat) : Fld := ⟨EIS_TINT n, 0, 32⟩
abbrev EIS_DSTAT (n : Nat) : Nat := 0x19410 + 0x20 * n
def EIS_DSTAT_FLAGS (n : Nat) : Fld := ⟨EIS_DSTAT n, 27, 5⟩
def EIS_DSTAT_SEQ (n : Nat) : Fld := ⟨EIS_DSTAT n, 16, 8⟩
abbrev EIS_DEP_LO (n : Nat) : Nat := 0x19414 + 0x20 * n
def EIS_DEP_LO_EPOCH (n : Nat) : Fld := ⟨EIS_DEP_LO n, 0, 32⟩
abbrev EIS_DEP_HI (n : Nat) : Nat := 0x19418 + 0x20 * n
def EIS_DEP_HI_EPOCH (n : Nat) : Fld := ⟨EIS_DEP_HI n, 0, 16⟩
abbrev EIS_TREF (n : Nat) : Nat := 0x19700 + 0x4 * n
def EIS_TREF_PHI (n : Nat) : Fld := ⟨EIS_TREF n, 16, 16⟩
def EIS_TREF_T (n : Nat) : Fld := ⟨EIS_TREF n, 4, 12⟩
def EIS_TREF_TH (n : Nat) : Fld := ⟨EIS_TREF n, 0, 4⟩

/-! ### EST -/
abbrev EST_STATUS : Nat := 0x1A008
def EST_STATUS_FLAGS : Fld := ⟨EST_STATUS, 0, 8⟩
abbrev EST_EVT_RAW : Nat := 0x1A00C
def EST_EVT_RAW_EVENTS : Fld := ⟨EST_EVT_RAW, 0, 11⟩
abbrev EST_CMD : Nat := 0x1A040
def EST_CMD_KEY : Fld := ⟨EST_CMD, 16, 16⟩
def EST_CMD_OP : Fld := ⟨EST_CMD, 0, 3⟩
abbrev EST_CFG : Nat := 0x1A044
def EST_CFG_EN : Fld := ⟨EST_CFG, 31, 1⟩
def EST_CFG_ETA : Fld := ⟨EST_CFG, 16, 8⟩
def EST_CFG_I_INV : Fld := ⟨EST_CFG, 10, 1⟩
def EST_CFG_ISRC : Fld := ⟨EST_CFG, 8, 2⟩
def EST_CFG_TS : Fld := ⟨EST_CFG, 0, 8⟩
abbrev EST_MODEL : Nat := 0x1A048
def EST_MODEL_RTK : Fld := ⟨EST_MODEL, 16, 16⟩
def EST_MODEL_HW : Fld := ⟨EST_MODEL, 8, 8⟩
def EST_MODEL_HMAX : Fld := ⟨EST_MODEL, 0, 8⟩
abbrev EST_NOISE : Nat := 0x1A04C
def EST_NOISE_QZ : Fld := ⟨EST_NOISE, 24, 8⟩
def EST_NOISE_QV : Fld := ⟨EST_NOISE, 16, 8⟩
def EST_NOISE_QH : Fld := ⟨EST_NOISE, 8, 8⟩
def EST_NOISE_RV : Fld := ⟨EST_NOISE, 0, 8⟩
abbrev EST_LEARN : Nat := 0x1A050
def EST_LEARN_Q_ALPHA : Fld := ⟨EST_LEARN, 24, 8⟩
def EST_LEARN_R_ALPHA : Fld := ⟨EST_LEARN, 16, 8⟩
def EST_LEARN_Q_DZ : Fld := ⟨EST_LEARN, 8, 8⟩
def EST_LEARN_Q_STEP : Fld := ⟨EST_LEARN, 0, 8⟩
abbrev EST_REST : Nat := 0x1A054
def EST_REST_REST_I : Fld := ⟨EST_REST, 16, 16⟩
def EST_REST_REST_T : Fld := ⟨EST_REST, 0, 16⟩
abbrev EST_REPORT : Nat := 0x1A058
def EST_REPORT_SLOW : Fld := ⟨EST_REPORT, 24, 8⟩
def EST_REPORT_FAST : Fld := ⟨EST_REPORT, 20, 4⟩
def EST_REPORT_CUT_RATE : Fld := ⟨EST_REPORT, 8, 8⟩
def EST_REPORT_REST_RATE : Fld := ⟨EST_REPORT, 0, 8⟩
abbrev EST_CUTOFF : Nat := 0x1A05C
def EST_CUTOFF_VCUT : Fld := ⟨EST_CUTOFF, 16, 16⟩
def EST_CUTOFF_DIS_THR : Fld := ⟨EST_CUTOFF, 8, 8⟩
def EST_CUTOFF_DIS_N : Fld := ⟨EST_CUTOFF, 0, 8⟩
abbrev EST_QNOM : Nat := 0x1A060
def EST_QNOM_TPOL_NOM : Fld := ⟨EST_QNOM, 20, 12⟩
def EST_QNOM_QNOM : Fld := ⟨EST_QNOM, 0, 20⟩
abbrev EST_NOM_R : Nat := 0x1A064
def EST_NOM_R_RSER_NOM : Fld := ⟨EST_NOM_R, 16, 16⟩
def EST_NOM_R_RPOL_NOM : Fld := ⟨EST_NOM_R, 0, 16⟩
abbrev EST_THMAP (n : Nat) : Nat := 0x1A068 + 0x4 * n
def EST_THMAP_TH (n : Nat) (j : Nat) : Fld := ⟨EST_THMAP n, 4 * j, 4⟩
abbrev EST_CUR : Nat := 0x1A074
def EST_CUR_MA : Fld := ⟨EST_CUR, 0, 32⟩
abbrev EST_SUMMARY : Nat := 0x1A078
def EST_SUMMARY_MIN_CELL : Fld := ⟨EST_SUMMARY, 16, 5⟩
def EST_SUMMARY_MIN_SOC : Fld := ⟨EST_SUMMARY, 0, 16⟩
abbrev EST_CKPT : Nat := 0x1A07C
def EST_CKPT_SUGGEST : Fld := ⟨EST_CKPT, 30, 2⟩
def EST_CKPT_A_STATE : Fld := ⟨EST_CKPT, 28, 2⟩
def EST_CKPT_B_STATE : Fld := ⟨EST_CKPT, 26, 2⟩
def EST_CKPT_RESULT : Fld := ⟨EST_CKPT, 20, 4⟩
def EST_CKPT_SEQ : Fld := ⟨EST_CKPT, 0, 16⟩
abbrev EST_RS_MASK : Nat := 0x1A080
def EST_RS_MASK_MASK : Fld := ⟨EST_RS_MASK, 0, 24⟩
abbrev EST_RS_CRC : Nat := 0x1A084
def EST_RS_CRC_CRC : Fld := ⟨EST_RS_CRC, 0, 32⟩
abbrev EST_FIRST : Nat := 0x1A088
def EST_FIRST_VALID : Fld := ⟨EST_FIRST, 31, 1⟩
def EST_FIRST_KIND : Fld := ⟨EST_FIRST, 8, 3⟩
def EST_FIRST_INST : Fld := ⟨EST_FIRST, 0, 6⟩
abbrev EST_CNT : Nat := 0x1A08C
def EST_CNT_Q_UPDS : Fld := ⟨EST_CNT, 24, 8⟩
def EST_CNT_CKPTS : Fld := ⟨EST_CNT, 16, 8⟩
def EST_CNT_CKPT_SKIPS : Fld := ⟨EST_CNT, 8, 8⟩
def EST_CNT_GAPS : Fld := ⟨EST_CNT, 0, 8⟩
abbrev EST_RACK_SOC : Nat := 0x1A090
def EST_RACK_SOC_SOC : Fld := ⟨EST_RACK_SOC, 0, 17⟩
abbrev EST_RACK_Q : Nat := 0x1A094
def EST_RACK_Q_MAH : Fld := ⟨EST_RACK_Q, 0, 32⟩
abbrev EST_RACK_MIN : Nat := 0x1A098
def EST_RACK_MIN_WORKER : Fld := ⟨EST_RACK_MIN, 22, 6⟩
def EST_RACK_MIN_CELL : Fld := ⟨EST_RACK_MIN, 17, 5⟩
def EST_RACK_MIN_SOC : Fld := ⟨EST_RACK_MIN, 0, 17⟩
abbrev EST_RACK_MAX : Nat := 0x1A09C
def EST_RACK_MAX_WORKER : Fld := ⟨EST_RACK_MAX, 22, 6⟩
def EST_RACK_MAX_CELL : Fld := ⟨EST_RACK_MAX, 17, 5⟩
def EST_RACK_MAX_SOC : Fld := ⟨EST_RACK_MAX, 0, 17⟩
abbrev EST_RACK_MISS : Nat := 0x1A0A0
def EST_RACK_MISS_MAP : Fld := ⟨EST_RACK_MISS, 0, 32⟩
abbrev EST_RACK_STAT : Nat := 0x1A0A4
def EST_RACK_STAT_NW : Fld := ⟨EST_RACK_STAT, 8, 6⟩
def EST_RACK_STAT_FLAGS : Fld := ⟨EST_RACK_STAT, 0, 4⟩
abbrev EST_OCV (t k : Nat) : Nat := 0x1A100 + 0x60 * t + 4 * k
def EST_OCV_MV (t k : Nat) : Fld := ⟨EST_OCV t k, 0, 16⟩
abbrev EST_SOC (n : Nat) : Nat := 0x1A400 + 0x20 * n
def EST_SOC_SOC (n : Nat) : Fld := ⟨EST_SOC n, 0, 17⟩
abbrev EST_Z (n : Nat) : Nat := 0x1A404 + 0x20 * n
def EST_Z_SOC (n : Nat) : Fld := ⟨EST_Z n, 0, 17⟩
abbrev EST_Q (n : Nat) : Nat := 0x1A408 + 0x20 * n
def EST_Q_MAH (n : Nat) : Fld := ⟨EST_Q n, 0, 21⟩
abbrev EST_RSER (n : Nat) : Nat := 0x1A40C + 0x20 * n
def EST_RSER_Z (n : Nat) : Fld := ⟨EST_RSER n, 0, 32⟩
abbrev EST_RPOL (n : Nat) : Nat := 0x1A410 + 0x20 * n
def EST_RPOL_Z (n : Nat) : Fld := ⟨EST_RPOL n, 0, 32⟩
abbrev EST_TPOL (n : Nat) : Nat := 0x1A414 + 0x20 * n
def EST_TPOL_US (n : Nat) : Fld := ⟨EST_TPOL n, 0, 32⟩
abbrev EST_TC (n : Nat) : Nat := 0x1A418 + 0x20 * n
def EST_TC_SRC (n : Nat) : Fld := ⟨EST_TC n, 30, 2⟩
def EST_TC_T (n : Nat) : Fld := ⟨EST_TC n, 0, 16⟩
abbrev EST_CSTAT (n : Nat) : Nat := 0x1A41C + 0x20 * n
def EST_CSTAT_FLAGS (n : Nat) : Fld := ⟨EST_CSTAT n, 27, 5⟩
def EST_CSTAT_INNOV (n : Nat) : Fld := ⟨EST_CSTAT n, 0, 16⟩
abbrev EST_RS_Z (n : Nat) : Nat := 0x1A700 + 0x20 * n
def EST_RS_Z_SOC (n : Nat) : Fld := ⟨EST_RS_Z n, 0, 17⟩
abbrev EST_RS_SOC (n : Nat) : Nat := 0x1A704 + 0x20 * n
def EST_RS_SOC_SOC (n : Nat) : Fld := ⟨EST_RS_SOC n, 0, 17⟩
abbrev EST_RS_Q (n : Nat) : Nat := 0x1A708 + 0x20 * n
def EST_RS_Q_MAH (n : Nat) : Fld := ⟨EST_RS_Q n, 0, 21⟩
abbrev EST_RS_RSER (n : Nat) : Nat := 0x1A70C + 0x20 * n
def EST_RS_RSER_Z (n : Nat) : Fld := ⟨EST_RS_RSER n, 0, 32⟩
abbrev EST_RS_RPOL (n : Nat) : Nat := 0x1A710 + 0x20 * n
def EST_RS_RPOL_Z (n : Nat) : Fld := ⟨EST_RS_RPOL n, 0, 32⟩
abbrev EST_RS_TPOL (n : Nat) : Nat := 0x1A714 + 0x20 * n
def EST_RS_TPOL_US (n : Nat) : Fld := ⟨EST_RS_TPOL n, 0, 32⟩
abbrev EST_RS_H (n : Nat) : Nat := 0x1A718 + 0x20 * n
def EST_RS_H_H (n : Nat) : Fld := ⟨EST_RS_H n, 0, 16⟩

/-! ### RING -/
abbrev RING_STATUS : Nat := 0x1D008
def RING_STATUS_DECIMATED : Fld := ⟨RING_STATUS, 9, 1⟩
def RING_STATUS_SESSION : Fld := ⟨RING_STATUS, 8, 1⟩
def RING_STATUS_STATE : Fld := ⟨RING_STATUS, 0, 4⟩
abbrev RING_EVT_RAW : Nat := 0x1D00C
def RING_EVT_RAW_EVENTS : Fld := ⟨RING_EVT_RAW, 0, 10⟩
abbrev RING_CMD : Nat := 0x1D040
def RING_CMD_KEY : Fld := ⟨RING_CMD, 16, 16⟩
def RING_CMD_PORT : Fld := ⟨RING_CMD, 8, 1⟩
def RING_CMD_OP : Fld := ⟨RING_CMD, 0, 3⟩
abbrev RING_CFG : Nat := 0x1D044
def RING_CFG_BUDGET : Fld := ⟨RING_CFG, 24, 8⟩
def RING_CFG_DEC_MIN : Fld := ⟨RING_CFG, 8, 2⟩
def RING_CFG_AUTO_ENUM : Fld := ⟨RING_CFG, 0, 1⟩
abbrev RING_ENUM : Nat := 0x1D048
def RING_ENUM_RESULT : Fld := ⟨RING_ENUM, 28, 4⟩
def RING_ENUM_M : Fld := ⟨RING_ENUM, 16, 6⟩
def RING_ENUM_CHAIN : Fld := ⟨RING_ENUM, 8, 1⟩
abbrev RING_SELF : Nat := 0x1D04C
def RING_SELF_INDEX : Fld := ⟨RING_SELF, 24, 6⟩
def RING_SELF_POS : Fld := ⟨RING_SELF, 16, 6⟩
def RING_SELF_ARM : Fld := ⟨RING_SELF, 12, 1⟩
def RING_SELF_DEC : Fld := ⟨RING_SELF, 8, 2⟩
abbrev RING_ARMS : Nat := 0x1D050
def RING_ARMS_NA : Fld := ⟨RING_ARMS, 24, 6⟩
def RING_ARMS_NB : Fld := ⟨RING_ARMS, 16, 6⟩
def RING_ARMS_DA : Fld := ⟨RING_ARMS, 12, 2⟩
def RING_ARMS_DB : Fld := ⟨RING_ARMS, 10, 2⟩
abbrev RING_BREAK : Nat := 0x1D054
def RING_BREAK_VALID : Fld := ⟨RING_BREAK, 31, 1⟩
def RING_BREAK_MULTI : Fld := ⟨RING_BREAK, 30, 1⟩
def RING_BREAK_LINK : Fld := ⟨RING_BREAK, 0, 6⟩
abbrev RING_MAP_A : Nat := 0x1D058
def RING_MAP_A_MAP : Fld := ⟨RING_MAP_A, 0, 32⟩
abbrev RING_MAP_B : Nat := 0x1D05C
def RING_MAP_B_MAP : Fld := ⟨RING_MAP_B, 0, 32⟩
abbrev RING_MAP_LOST : Nat := 0x1D060
def RING_MAP_LOST_MAP : Fld := ⟨RING_MAP_LOST, 0, 32⟩
abbrev RING_LOAD : Nat := 0x1D064
def RING_LOAD_A : Fld := ⟨RING_LOAD, 16, 16⟩
def RING_LOAD_B : Fld := ⟨RING_LOAD, 0, 16⟩
abbrev RING_FIRST : Nat := 0x1D068
def RING_FIRST_VALID : Fld := ⟨RING_FIRST, 31, 1⟩
def RING_FIRST_KIND : Fld := ⟨RING_FIRST, 8, 3⟩
def RING_FIRST_INST : Fld := ⟨RING_FIRST, 0, 6⟩
abbrev RING_CNT_AUTH : Nat := 0x1D06C
def RING_CNT_AUTH_MAC_FAIL : Fld := ⟨RING_CNT_AUTH, 16, 16⟩
def RING_CNT_AUTH_SEQ_REJ : Fld := ⟨RING_CNT_AUTH, 0, 16⟩
abbrev RING_CNT_AGED : Nat := 0x1D070
def RING_CNT_AGED_COUNT : Fld := ⟨RING_CNT_AGED, 0, 32⟩
abbrev RING_CNT_MISS : Nat := 0x1D074
def RING_CNT_MISS_COUNT : Fld := ⟨RING_CNT_MISS, 0, 32⟩
abbrev RING_CNT_DIGEST : Nat := 0x1D078
def RING_CNT_DIGEST_DIG_OK : Fld := ⟨RING_CNT_DIGEST, 16, 16⟩
def RING_CNT_DIGEST_DIG_SKIP : Fld := ⟨RING_CNT_DIGEST, 0, 16⟩
abbrev RING_P_STATUS (n : Nat) : Nat := 0x1D080 + 0x40 * n
def RING_P_STATUS_STATE (n : Nat) : Fld := ⟨RING_P_STATUS n, 8, 3⟩
def RING_P_STATUS_POL_INV (n : Nat) : Fld := ⟨RING_P_STATUS n, 4, 1⟩
def RING_P_STATUS_SIG (n : Nat) : Fld := ⟨RING_P_STATUS n, 0, 1⟩
abbrev RING_P_CFG (n : Nat) : Nat := 0x1D084 + 0x40 * n
def RING_P_CFG_SWING (n : Nat) : Fld := ⟨RING_P_CFG n, 12, 4⟩
def RING_P_CFG_DEEMPH (n : Nat) : Fld := ⟨RING_P_CFG n, 8, 4⟩
def RING_P_CFG_CTLE (n : Nat) : Fld := ⟨RING_P_CFG n, 4, 4⟩
def RING_P_CFG_POL_AUTO (n : Nat) : Fld := ⟨RING_P_CFG n, 0, 1⟩
abbrev RING_P_DLY (n : Nat) : Nat := 0x1D088 + 0x40 * n
def RING_P_DLY_VALID (n : Nat) : Fld := ⟨RING_P_DLY n, 31, 1⟩
def RING_P_DLY_DLY (n : Nat) : Fld := ⟨RING_P_DLY n, 0, 20⟩
abbrev RING_P_CNT_CRC (n : Nat) : Nat := 0x1D08C + 0x40 * n
def RING_P_CNT_CRC_COUNT (n : Nat) : Fld := ⟨RING_P_CNT_CRC n, 0, 32⟩
abbrev RING_P_CNT_BLK (n : Nat) : Nat := 0x1D090 + 0x40 * n
def RING_P_CNT_BLK_COUNT (n : Nat) : Fld := ⟨RING_P_CNT_BLK n, 0, 32⟩
abbrev RING_P_CNT_DOWN (n : Nat) : Nat := 0x1D094 + 0x40 * n
def RING_P_CNT_DOWN_COUNT (n : Nat) : Fld := ⟨RING_P_CNT_DOWN n, 0, 16⟩
abbrev RING_P_CNT_RX (n : Nat) : Nat := 0x1D098 + 0x40 * n
def RING_P_CNT_RX_COUNT (n : Nat) : Fld := ⟨RING_P_CNT_RX n, 0, 32⟩
abbrev RING_P_CNT_TX (n : Nat) : Nat := 0x1D09C + 0x40 * n
def RING_P_CNT_TX_COUNT (n : Nat) : Fld := ⟨RING_P_CNT_TX n, 0, 32⟩

/-! ### EPOCH -/
abbrev EPOCH_STATUS : Nat := 0x1E008
def EPOCH_STATUS_SYNC : Fld := ⟨EPOCH_STATUS, 8, 3⟩
def EPOCH_STATUS_PATH_VALID : Fld := ⟨EPOCH_STATUS, 7, 1⟩
def EPOCH_STATUS_BRK_OPEN : Fld := ⟨EPOCH_STATUS, 6, 1⟩
def EPOCH_STATUS_SNAP_BUSY : Fld := ⟨EPOCH_STATUS, 5, 1⟩
def EPOCH_STATUS_CM_STATE : Fld := ⟨EPOCH_STATUS, 0, 4⟩
abbrev EPOCH_EVT_RAW : Nat := 0x1E00C
def EPOCH_EVT_RAW_EVENTS : Fld := ⟨EPOCH_EVT_RAW, 0, 13⟩
abbrev EPOCH_NOW_LO : Nat := 0x1E040
def EPOCH_NOW_LO_EPOCH : Fld := ⟨EPOCH_NOW_LO, 0, 32⟩
abbrev EPOCH_NOW_HI : Nat := 0x1E044
def EPOCH_NOW_HI_EPOCH : Fld := ⟨EPOCH_NOW_HI, 0, 16⟩
abbrev EPOCH_CMD : Nat := 0x1E048
def EPOCH_CMD_KEY : Fld := ⟨EPOCH_CMD, 16, 16⟩
def EPOCH_CMD_OP : Fld := ⟨EPOCH_CMD, 0, 3⟩
abbrev EPOCH_PATH : Nat := 0x1E04C
def EPOCH_PATH_VALID : Fld := ⟨EPOCH_PATH, 31, 1⟩
def EPOCH_PATH_DLY : Fld := ⟨EPOCH_PATH, 0, 20⟩
abbrev EPOCH_ERR : Nat := 0x1E050
def EPOCH_ERR_SIGMA : Fld := ⟨EPOCH_ERR, 16, 16⟩
def EPOCH_ERR_PHI : Fld := ⟨EPOCH_ERR, 0, 16⟩
abbrev EPOCH_SYNC_CNT : Nat := 0x1E054
def EPOCH_SYNC_CNT_UNLOCKS : Fld := ⟨EPOCH_SYNC_CNT, 16, 16⟩
def EPOCH_SYNC_CNT_STEPS : Fld := ⟨EPOCH_SYNC_CNT, 0, 16⟩
abbrev EPOCH_RTC : Nat := 0x1E058
def EPOCH_RTC_SEC : Fld := ⟨EPOCH_RTC, 0, 32⟩
abbrev EPOCH_RTC_EP_LO : Nat := 0x1E05C
def EPOCH_RTC_EP_LO_EPOCH : Fld := ⟨EPOCH_RTC_EP_LO, 0, 32⟩
abbrev EPOCH_RTC_EP_HI : Nat := 0x1E060
def EPOCH_RTC_EP_HI_EPOCH : Fld := ⟨EPOCH_RTC_EP_HI, 0, 16⟩
abbrev EPOCH_BRK_PG_LO : Nat := 0x1E064
def EPOCH_BRK_PG_LO_PAGES : Fld := ⟨EPOCH_BRK_PG_LO, 0, 32⟩
abbrev EPOCH_BRK_PG_HI : Nat := 0x1E068
def EPOCH_BRK_PG_HI_PAGES : Fld := ⟨EPOCH_BRK_PG_HI, 0, 8⟩
abbrev EPOCH_BRK_EP_LO : Nat := 0x1E06C
def EPOCH_BRK_EP_LO_EPOCH : Fld := ⟨EPOCH_BRK_EP_LO, 0, 32⟩
abbrev EPOCH_BRK_EP_HI : Nat := 0x1E070
def EPOCH_BRK_EP_HI_SCOPE : Fld := ⟨EPOCH_BRK_EP_HI, 31, 1⟩
def EPOCH_BRK_EP_HI_TMO : Fld := ⟨EPOCH_BRK_EP_HI, 16, 14⟩
def EPOCH_BRK_EP_HI_EPOCH : Fld := ⟨EPOCH_BRK_EP_HI, 0, 16⟩
abbrev EPOCH_BRK_STATUS : Nat := 0x1E074
def EPOCH_BRK_STATUS_RESULT : Fld := ⟨EPOCH_BRK_STATUS, 28, 4⟩
abbrev EPOCH_BRK_MAP : Nat := 0x1E078
def EPOCH_BRK_MAP_MAP : Fld := ⟨EPOCH_BRK_MAP, 0, 32⟩
abbrev EPOCH_SNAP_CFG : Nat := 0x1E07C
def EPOCH_SNAP_CFG_PER : Fld := ⟨EPOCH_SNAP_CFG, 16, 16⟩
def EPOCH_SNAP_CFG_MGR : Fld := ⟨EPOCH_SNAP_CFG, 15, 1⟩
abbrev EPOCH_SNAP_PG : Nat := 0x1E080
def EPOCH_SNAP_PG_PAGE2 : Fld := ⟨EPOCH_SNAP_PG, 16, 8⟩
def EPOCH_SNAP_PG_PAGE1 : Fld := ⟨EPOCH_SNAP_PG, 8, 8⟩
def EPOCH_SNAP_PG_PAGE0 : Fld := ⟨EPOCH_SNAP_PG, 0, 8⟩
abbrev EPOCH_SNAP_MEM : Nat := 0x1E084
def EPOCH_SNAP_MEM_MAP : Fld := ⟨EPOCH_SNAP_MEM, 0, 32⟩
abbrev EPOCH_SNAP_STATUS : Nat := 0x1E088
def EPOCH_SNAP_STATUS_RESULT : Fld := ⟨EPOCH_SNAP_STATUS, 28, 4⟩
def EPOCH_SNAP_STATUS_BUF : Fld := ⟨EPOCH_SNAP_STATUS, 16, 1⟩
def EPOCH_SNAP_STATUS_SEQ : Fld := ⟨EPOCH_SNAP_STATUS, 0, 16⟩
abbrev EPOCH_SNAP_EP_LO : Nat := 0x1E08C
def EPOCH_SNAP_EP_LO_EPOCH : Fld := ⟨EPOCH_SNAP_EP_LO, 0, 32⟩
abbrev EPOCH_SNAP_EP_HI : Nat := 0x1E090
def EPOCH_SNAP_EP_HI_EPOCH : Fld := ⟨EPOCH_SNAP_EP_HI, 0, 16⟩
abbrev EPOCH_SNAP_MISS : Nat := 0x1E094
def EPOCH_SNAP_MISS_MAP : Fld := ⟨EPOCH_SNAP_MISS, 0, 32⟩
abbrev EPOCH_CM_EP_LO : Nat := 0x1E098
def EPOCH_CM_EP_LO_EPOCH : Fld := ⟨EPOCH_CM_EP_LO, 0, 32⟩
abbrev EPOCH_CM_EP_HI : Nat := 0x1E09C
def EPOCH_CM_EP_HI_SCOPE : Fld := ⟨EPOCH_CM_EP_HI, 31, 1⟩
def EPOCH_CM_EP_HI_ID : Fld := ⟨EPOCH_CM_EP_HI, 16, 8⟩
def EPOCH_CM_EP_HI_EPOCH : Fld := ⟨EPOCH_CM_EP_HI, 0, 16⟩
abbrev EPOCH_CM_PG_LO : Nat := 0x1E0A0
def EPOCH_CM_PG_LO_PAGES : Fld := ⟨EPOCH_CM_PG_LO, 0, 32⟩
abbrev EPOCH_CM_PG_HI : Nat := 0x1E0A4
def EPOCH_CM_PG_HI_PAGES : Fld := ⟨EPOCH_CM_PG_HI, 0, 8⟩
abbrev EPOCH_CM_MEM : Nat := 0x1E0A8
def EPOCH_CM_MEM_MAP : Fld := ⟨EPOCH_CM_MEM, 0, 32⟩
abbrev EPOCH_CM_STATUS : Nat := 0x1E0AC
def EPOCH_CM_STATUS_RESULT : Fld := ⟨EPOCH_CM_STATUS, 28, 4⟩
abbrev EPOCH_CM_OUT (n : Nat) : Nat := 0x1E0B0 + 0x4 * n
def EPOCH_CM_OUT_OUT (n : Nat) (j : Nat) : Fld := ⟨EPOCH_CM_OUT n, 4 * j, 4⟩
abbrev EPOCH_CM_CFG : Nat := 0x1E0C0
def EPOCH_CM_CFG_HOLD : Fld := ⟨EPOCH_CM_CFG, 0, 12⟩
abbrev EPOCH_MIR_CFG : Nat := 0x1E0C4
def EPOCH_MIR_CFG_TMO : Fld := ⟨EPOCH_MIR_CFG, 0, 10⟩
abbrev EPOCH_MIR_LAST : Nat := 0x1E0C8
def EPOCH_MIR_LAST_VALID : Fld := ⟨EPOCH_MIR_LAST, 31, 1⟩
def EPOCH_MIR_LAST_WORKER : Fld := ⟨EPOCH_MIR_LAST, 24, 6⟩
def EPOCH_MIR_LAST_WORD : Fld := ⟨EPOCH_MIR_LAST, 0, 16⟩
abbrev EPOCH_CNT : Nat := 0x1E0CC
def EPOCH_CNT_BRACKETS : Fld := ⟨EPOCH_CNT, 24, 8⟩
def EPOCH_CNT_COMMITS : Fld := ⟨EPOCH_CNT, 16, 8⟩
def EPOCH_CNT_ABORTS : Fld := ⟨EPOCH_CNT, 8, 8⟩
def EPOCH_CNT_INDOUBTS : Fld := ⟨EPOCH_CNT, 0, 8⟩
abbrev EPOCH_CNT_MIR : Nat := 0x1E0D0
def EPOCH_CNT_MIR_TIMEOUTS : Fld := ⟨EPOCH_CNT_MIR, 16, 16⟩
def EPOCH_CNT_MIR_SNAP_PARTIAL : Fld := ⟨EPOCH_CNT_MIR, 0, 16⟩

/-! ### ROSTER -/
abbrev ROSTER_STATUS : Nat := 0x26008
def ROSTER_STATUS_NENUM : Fld := ⟨ROSTER_STATUS, 16, 6⟩
def ROSTER_STATUS_NOK : Fld := ⟨ROSTER_STATUS, 8, 6⟩
def ROSTER_STATUS_BLIND : Fld := ⟨ROSTER_STATUS, 1, 1⟩
def ROSTER_STATUS_READMITTING : Fld := ⟨ROSTER_STATUS, 0, 1⟩
abbrev ROSTER_EVT_RAW : Nat := 0x2600C
def ROSTER_EVT_RAW_EVENTS : Fld := ⟨ROSTER_EVT_RAW, 0, 7⟩
abbrev ROSTER_CMD : Nat := 0x26040
def ROSTER_CMD_KEY : Fld := ⟨ROSTER_CMD, 16, 16⟩
def ROSTER_CMD_W : Fld := ⟨ROSTER_CMD, 8, 6⟩
def ROSTER_CMD_OP : Fld := ⟨ROSTER_CMD, 0, 3⟩
abbrev ROSTER_CFG : Nat := 0x26044
def ROSTER_CFG_BLIND_T : Fld := ⟨ROSTER_CFG, 16, 16⟩
def ROSTER_CFG_STALE_T : Fld := ⟨ROSTER_CFG, 8, 8⟩
def ROSTER_CFG_READMIT : Fld := ⟨ROSTER_CFG, 0, 1⟩
abbrev ROSTER_MAP_OK : Nat := 0x26048
def ROSTER_MAP_OK_MAP : Fld := ⟨ROSTER_MAP_OK, 0, 32⟩
abbrev ROSTER_MAP_STALE : Nat := 0x2604C
def ROSTER_MAP_STALE_MAP : Fld := ⟨ROSTER_MAP_STALE, 0, 32⟩
abbrev ROSTER_MAP_SAFE : Nat := 0x26050
def ROSTER_MAP_SAFE_MAP : Fld := ⟨ROSTER_MAP_SAFE, 0, 32⟩
abbrev ROSTER_MAP_MISMATCH : Nat := 0x26054
def ROSTER_MAP_MISMATCH_MAP : Fld := ⟨ROSTER_MAP_MISMATCH, 0, 32⟩
abbrev ROSTER_FIRST : Nat := 0x26058
def ROSTER_FIRST_VALID : Fld := ⟨ROSTER_FIRST, 31, 1⟩
def ROSTER_FIRST_KIND : Fld := ⟨ROSTER_FIRST, 8, 2⟩
def ROSTER_FIRST_INST : Fld := ⟨ROSTER_FIRST, 0, 6⟩
abbrev ROSTER_CNT : Nat := 0x2605C
def ROSTER_CNT_STALES : Fld := ⟨ROSTER_CNT, 16, 16⟩
def ROSTER_CNT_READMITS : Fld := ⟨ROSTER_CNT, 8, 8⟩
def ROSTER_CNT_BLINDS : Fld := ⟨ROSTER_CNT, 0, 8⟩
abbrev ROSTER_W_STAT (n : Nat) : Nat := 0x26100 + 0x20 * (n - 1)
def ROSTER_W_STAT_STATE (n : Nat) : Fld := ⟨ROSTER_W_STAT n, 29, 3⟩
def ROSTER_W_STAT_LAST (n : Nat) : Fld := ⟨ROSTER_W_STAT n, 0, 16⟩
abbrev ROSTER_W_EP_LO (n : Nat) : Nat := 0x26104 + 0x20 * (n - 1)
abbrev ROSTER_W_EP_HI (n : Nat) : Nat := 0x26108 + 0x20 * (n - 1)
def ROSTER_W_EP_HI_EPOCH (n : Nat) : Fld := ⟨ROSTER_W_EP_HI n, 0, 16⟩
abbrev ROSTER_W_INFO (n : Nat) : Nat := 0x2610C + 0x20 * (n - 1)
def ROSTER_W_INFO_P (n : Nat) : Fld := ⟨ROSTER_W_INFO n, 12, 20⟩
def ROSTER_W_INFO_NCELL (n : Nat) : Fld := ⟨ROSTER_W_INFO n, 6, 6⟩
def ROSTER_W_INFO_LEVEL (n : Nat) : Fld := ⟨ROSTER_W_INFO n, 0, 2⟩
abbrev ROSTER_W_TJ (n : Nat) : Nat := 0x26110 + 0x20 * (n - 1)
def ROSTER_W_TJ_T (n : Nat) : Fld := ⟨ROSTER_W_TJ n, 0, 16⟩
abbrev ROSTER_W_UID_LO (n : Nat) : Nat := 0x26114 + 0x20 * (n - 1)
abbrev ROSTER_W_UID_HI (n : Nat) : Nat := 0x26118 + 0x20 * (n - 1)
abbrev ROSTER_W_CNT (n : Nat) : Nat := 0x2611C + 0x20 * (n - 1)
def ROSTER_W_CNT_STALES (n : Nat) : Fld := ⟨ROSTER_W_CNT n, 16, 16⟩
def ROSTER_W_CNT_READMITS (n : Nat) : Fld := ⟨ROSTER_W_CNT n, 8, 8⟩
def ROSTER_W_CNT_SAFEHOLDS (n : Nat) : Fld := ⟨ROSTER_W_CNT n, 0, 8⟩

/-! ### RACK -/
abbrev RACK_STATUS : Nat := 0x27008
def RACK_STATUS_FLAGS : Fld := ⟨RACK_STATUS, 0, 6⟩
abbrev RACK_EVT_RAW : Nat := 0x2700C
def RACK_EVT_RAW_EVENTS : Fld := ⟨RACK_EVT_RAW, 0, 7⟩
abbrev RACK_LIM_V : Nat := 0x27040
def RACK_LIM_V_VMAX : Fld := ⟨RACK_LIM_V, 16, 16⟩
def RACK_LIM_V_VMIN : Fld := ⟨RACK_LIM_V, 0, 16⟩
abbrev RACK_LIM_I : Nat := 0x27044
def RACK_LIM_I_ICHG : Fld := ⟨RACK_LIM_I, 16, 16⟩
def RACK_LIM_I_IDSG : Fld := ⟨RACK_LIM_I, 0, 16⟩
abbrev RACK_LIM_CNT : Nat := 0x27048
def RACK_LIM_CNT_I_INV : Fld := ⟨RACK_LIM_CNT, 31, 1⟩
def RACK_LIM_CNT_CNT : Fld := ⟨RACK_LIM_CNT, 16, 8⟩
def RACK_LIM_CNT_HYS : Fld := ⟨RACK_LIM_CNT, 8, 8⟩
def RACK_LIM_CNT_SUM_TOL : Fld := ⟨RACK_LIM_CNT, 0, 8⟩
abbrev RACK_V : Nat := 0x2704C
def RACK_V_MV : Fld := ⟨RACK_V, 0, 32⟩
abbrev RACK_I : Nat := 0x27050
def RACK_I_MA : Fld := ⟨RACK_I, 0, 32⟩
abbrev RACK_VSUM : Nat := 0x27054
def RACK_VSUM_MV : Fld := ⟨RACK_VSUM, 0, 32⟩
abbrev RACK_VSEG : Nat := 0x27058
def RACK_VSEG_MV : Fld := ⟨RACK_VSEG, 0, 32⟩
abbrev RACK_P : Nat := 0x2705C
def RACK_P_W : Fld := ⟨RACK_P, 0, 32⟩
abbrev RACK_FIRST : Nat := 0x27060
def RACK_FIRST_VALID : Fld := ⟨RACK_FIRST, 31, 1⟩
def RACK_FIRST_KIND : Fld := ⟨RACK_FIRST, 0, 3⟩
abbrev RACK_CNT : Nat := 0x27064
def RACK_CNT_LIMITS : Fld := ⟨RACK_CNT, 16, 16⟩
def RACK_CNT_INCOMPLETE : Fld := ⟨RACK_CNT, 0, 16⟩
abbrev RACK_VMOD (n : Nat) : Nat := 0x27080 + 0x4 * (n - 1)
def RACK_VMOD_MV (n : Nat) : Fld := ⟨RACK_VMOD n, 0, 32⟩
abbrev RACK_VSEGW (n : Nat) : Nat := 0x27100 + 0x4 * (n - 1)
def RACK_VSEGW_UV (n : Nat) : Fld := ⟨RACK_VSEGW n, 0, 32⟩

/-! ### ARC -/
abbrev ARC_CTRL : Nat := 0x1B004
def ARC_CTRL_ACT : Fld := ⟨ARC_CTRL, 1, 1⟩
def ARC_CTRL_EN : Fld := ⟨ARC_CTRL, 0, 1⟩
abbrev ARC_STATUS : Nat := 0x1B008
def ARC_STATUS_STATE : Fld := ⟨ARC_STATUS, 8, 3⟩
def ARC_STATUS_LEARNED : Fld := ⟨ARC_STATUS, 5, 1⟩
def ARC_STATUS_COUNT : Fld := ⟨ARC_STATUS, 0, 5⟩
abbrev ARC_EVT_RAW : Nat := 0x1B00C
def ARC_EVT_RAW_EVENTS : Fld := ⟨ARC_EVT_RAW, 0, 3⟩
abbrev ARC_CMD : Nat := 0x1B040
def ARC_CMD_KEY : Fld := ⟨ARC_CMD, 16, 16⟩
def ARC_CMD_OP : Fld := ⟨ARC_CMD, 0, 3⟩
abbrev ARC_CFG : Nat := 0x1B044
def ARC_CFG_VTH : Fld := ⟨ARC_CFG, 24, 8⟩
def ARC_CFG_N : Fld := ⟨ARC_CFG, 16, 5⟩
def ARC_CFG_WAIT : Fld := ⟨ARC_CFG, 8, 8⟩
def ARC_CFG_SEG_TH : Fld := ⟨ARC_CFG, 0, 8⟩
abbrev ARC_HF : Nat := 0x1B048
def ARC_HF_HF_FLOOR : Fld := ⟨ARC_HF, 16, 16⟩
def ARC_HF_HF_RATIO : Fld := ⟨ARC_HF, 0, 8⟩
abbrev ARC_LEARN : Nat := 0x1B04C
def ARC_LEARN_I_MIN : Fld := ⟨ARC_LEARN, 16, 16⟩
def ARC_LEARN_K : Fld := ⟨ARC_LEARN, 0, 4⟩
abbrev ARC_X : Nat := 0x1B050
def ARC_X_MV : Fld := ⟨ARC_X, 0, 32⟩
abbrev ARC_HFE : Nat := 0x1B054
def ARC_HFE_MA : Fld := ⟨ARC_HFE, 0, 32⟩
abbrev ARC_HFB : Nat := 0x1B058
def ARC_HFB_MA : Fld := ⟨ARC_HFB, 0, 32⟩
abbrev ARC_REND : Nat := 0x1B05C
def ARC_REND_Z : Fld := ⟨ARC_REND, 0, 32⟩
abbrev ARC_LAST : Nat := 0x1B060
def ARC_LAST_VALID : Fld := ⟨ARC_LAST, 31, 1⟩
def ARC_LAST_TRIP : Fld := ⟨ARC_LAST, 30, 1⟩
def ARC_LAST_LOC : Fld := ⟨ARC_LAST, 0, 6⟩
abbrev ARC_LAST_EP_LO : Nat := 0x1B064
abbrev ARC_LAST_EP_HI : Nat := 0x1B068
def ARC_LAST_EP_HI_EPOCH : Fld := ⟨ARC_LAST_EP_HI, 0, 16⟩
abbrev ARC_CNT : Nat := 0x1B06C
def ARC_CNT_CANDIDATES : Fld := ⟨ARC_CNT, 16, 16⟩
def ARC_CNT_DECISIONS : Fld := ⟨ARC_CNT, 8, 8⟩
def ARC_CNT_BLINDS : Fld := ⟨ARC_CNT, 0, 8⟩
abbrev ARC_RSEG (n : Nat) : Nat := 0x1B080 + 0x4 * (n - 1)
def ARC_RSEG_Z (n : Nat) : Fld := ⟨ARC_RSEG n, 0, 32⟩
abbrev ARC_XSEG (n : Nat) : Nat := 0x1B100 + 0x4 * (n - 1)
def ARC_XSEG_UV (n : Nat) : Fld := ⟨ARC_XSEG n, 0, 32⟩

/-! ### ISO -/
abbrev ISO_CTRL : Nat := 0x1C004
def ISO_CTRL_EN : Fld := ⟨ISO_CTRL, 0, 1⟩
abbrev ISO_STATUS : Nat := 0x1C008
def ISO_STATUS_STATE : Fld := ⟨ISO_STATUS, 8, 3⟩
def ISO_STATUS_NETWORK : Fld := ⟨ISO_STATUS, 2, 1⟩
def ISO_STATUS_ALARM : Fld := ⟨ISO_STATUS, 1, 1⟩
def ISO_STATUS_WARN : Fld := ⟨ISO_STATUS, 0, 1⟩
abbrev ISO_EVT_RAW : Nat := 0x1C00C
def ISO_EVT_RAW_EVENTS : Fld := ⟨ISO_EVT_RAW, 0, 6⟩
abbrev ISO_CFG : Nat := 0x1C040
def ISO_CFG_T_HALF : Fld := ⟨ISO_CFG, 16, 16⟩
def ISO_CFG_R_M : Fld := ⟨ISO_CFG, 0, 16⟩
abbrev ISO_NET : Nat := 0x1C044
def ISO_NET_INJ_V : Fld := ⟨ISO_NET, 16, 16⟩
def ISO_NET_R_SER : Fld := ⟨ISO_NET, 0, 16⟩
abbrev ISO_THR : Nat := 0x1C048
def ISO_THR_WARN : Fld := ⟨ISO_THR, 16, 16⟩
def ISO_THR_ALARM : Fld := ⟨ISO_THR, 0, 16⟩
abbrev ISO_R : Nat := 0x1C04C
def ISO_R_KOHM : Fld := ⟨ISO_R, 0, 32⟩
abbrev ISO_IDC : Nat := 0x1C050
def ISO_IDC_I : Fld := ⟨ISO_IDC, 0, 32⟩
abbrev ISO_FIRST : Nat := 0x1C054
def ISO_FIRST_VALID : Fld := ⟨ISO_FIRST, 31, 1⟩
def ISO_FIRST_KIND : Fld := ⟨ISO_FIRST, 0, 2⟩
abbrev ISO_CNT : Nat := 0x1C058
def ISO_CNT_RESULTS : Fld := ⟨ISO_CNT, 16, 16⟩
def ISO_CNT_ALARMS : Fld := ⟨ISO_CNT, 8, 8⟩
def ISO_CNT_UNSETTLED : Fld := ⟨ISO_CNT, 0, 8⟩

/-! ### CAP -/
abbrev CAP_STATUS : Nat := 0x22008
def CAP_STATUS_STATE : Fld := ⟨CAP_STATUS, 16, 3⟩
def CAP_STATUS_RACK : Fld := ⟨CAP_STATUS, 0, 1⟩
abbrev CAP_EVT_RAW : Nat := 0x2200C
def CAP_EVT_RAW_EVENTS : Fld := ⟨CAP_EVT_RAW, 0, 4⟩
abbrev CAP_CMD : Nat := 0x22040
def CAP_CMD_KEY : Fld := ⟨CAP_CMD, 16, 16⟩
def CAP_CMD_OP : Fld := ⟨CAP_CMD, 0, 3⟩
abbrev CAP_CFG : Nat := 0x22044
def CAP_CFG_RACK : Fld := ⟨CAP_CFG, 31, 1⟩
def CAP_CFG_MGR : Fld := ⟨CAP_CFG, 30, 1⟩
def CAP_CFG_STRIDE : Fld := ⟨CAP_CFG, 16, 14⟩
def CAP_CFG_POST : Fld := ⟨CAP_CFG, 0, 16⟩
abbrev CAP_MEM : Nat := 0x22048
def CAP_MEM_MAP : Fld := ⟨CAP_MEM, 0, 32⟩
abbrev CAP_TRIG : Nat := 0x2204C
def CAP_TRIG_EN : Fld := ⟨CAP_TRIG, 0, 6⟩
abbrev CAP_LVL : Nat := 0x22050
def CAP_LVL_MEMBER : Fld := ⟨CAP_LVL, 26, 6⟩
def CAP_LVL_CH : Fld := ⟨CAP_LVL, 21, 5⟩
def CAP_LVL_EDGE : Fld := ⟨CAP_LVL, 20, 1⟩
def CAP_LVL_LEVEL : Fld := ⟨CAP_LVL, 0, 16⟩
abbrev CAP_TRIG_EP_LO : Nat := 0x22054
abbrev CAP_TRIG_EP_HI : Nat := 0x22058
def CAP_TRIG_EP_HI_SRC : Fld := ⟨CAP_TRIG_EP_HI, 24, 8⟩
def CAP_TRIG_EP_HI_EPOCH : Fld := ⟨CAP_TRIG_EP_HI, 0, 16⟩
abbrev CAP_LAYOUT : Nat := 0x2205C
def CAP_LAYOUT_L : Fld := ⟨CAP_LAYOUT, 19, 13⟩
def CAP_LAYOUT_N : Fld := ⟨CAP_LAYOUT, 13, 6⟩
def CAP_LAYOUT_OLDEST : Fld := ⟨CAP_LAYOUT, 0, 13⟩
abbrev CAP_STRIDE : Nat := 0x22060
def CAP_STRIDE_S : Fld := ⟨CAP_STRIDE, 0, 14⟩
abbrev CAP_CNT : Nat := 0x22064
def CAP_CNT_CAPTURES : Fld := ⟨CAP_CNT, 16, 16⟩
def CAP_CNT_MISSED : Fld := ⟨CAP_CNT, 0, 16⟩

/-! ### HOST -/
abbrev HOST_STATUS : Nat := 0x1F008
def HOST_STATUS_EXP_ON : Fld := ⟨HOST_STATUS, 3, 1⟩
def HOST_STATUS_I2C_A0 : Fld := ⟨HOST_STATUS, 2, 1⟩
def HOST_STATUS_HIRQ1 : Fld := ⟨HOST_STATUS, 1, 1⟩
def HOST_STATUS_HIRQ0 : Fld := ⟨HOST_STATUS, 0, 1⟩
abbrev HOST_EVT_RAW : Nat := 0x1F00C
def HOST_EVT_RAW_EVENTS : Fld := ⟨HOST_EVT_RAW, 0, 8⟩
abbrev HOST_CFG : Nat := 0x1F040
def HOST_CFG_I2C_EN : Fld := ⟨HOST_CFG, 15, 1⟩
def HOST_CFG_DUMMY : Fld := ⟨HOST_CFG, 0, 6⟩
abbrev HOST_LAST : Nat := 0x1F044
def HOST_LAST_STATUS : Fld := ⟨HOST_LAST, 0, 32⟩
abbrev HOST_I2C_LAST : Nat := 0x1F048
def HOST_I2C_LAST_STATUS : Fld := ⟨HOST_I2C_LAST, 0, 32⟩
abbrev HOST_ERR_ADDR : Nat := 0x1F04C
def HOST_ERR_ADDR_ADDR : Fld := ⟨HOST_ERR_ADDR, 0, 32⟩
abbrev HOST_MIR_CFG : Nat := 0x1F050
def HOST_MIR_CFG_LEN : Fld := ⟨HOST_MIR_CFG, 0, 7⟩
abbrev HOST_MIR_STATUS : Nat := 0x1F054
def HOST_MIR_STATUS_STATE : Fld := ⟨HOST_MIR_STATUS, 30, 2⟩
def HOST_MIR_STATUS_WORKER : Fld := ⟨HOST_MIR_STATUS, 24, 6⟩
def HOST_MIR_STATUS_COUNT : Fld := ⟨HOST_MIR_STATUS, 16, 7⟩
def HOST_MIR_STATUS_WORD : Fld := ⟨HOST_MIR_STATUS, 0, 16⟩
abbrev HOST_EXP_CMD : Nat := 0x1F058
def HOST_EXP_CMD_KEY : Fld := ⟨HOST_EXP_CMD, 16, 16⟩
def HOST_EXP_CMD_OP : Fld := ⟨HOST_EXP_CMD, 0, 3⟩
abbrev HOST_EXP_CFG : Nat := 0x1F05C
def HOST_EXP_CFG_LEVEL : Fld := ⟨HOST_EXP_CFG, 23, 9⟩
def HOST_EXP_CFG_MGR : Fld := ⟨HOST_EXP_CFG, 16, 1⟩
def HOST_EXP_CFG_DEC : Fld := ⟨HOST_EXP_CFG, 0, 4⟩
abbrev HOST_EXP_MAP : Nat := 0x1F060
def HOST_EXP_MAP_MAP : Fld := ⟨HOST_EXP_MAP, 0, 32⟩
abbrev HOST_EXP_STATUS : Nat := 0x1F064
def HOST_EXP_STATUS_LEVEL : Fld := ⟨HOST_EXP_STATUS, 16, 10⟩
abbrev HOST_EXP_CNT : Nat := 0x1F068
def HOST_EXP_CNT_EXPORTED : Fld := ⟨HOST_EXP_CNT, 16, 16⟩
def HOST_EXP_CNT_DROPS : Fld := ⟨HOST_EXP_CNT, 0, 16⟩
abbrev HOST_CNT : Nat := 0x1F06C
def HOST_CNT_ERRS : Fld := ⟨HOST_CNT, 16, 16⟩
def HOST_CNT_MIR_EXPIRED : Fld := ⟨HOST_CNT, 8, 8⟩
def HOST_CNT_I2C_ERRS : Fld := ⟨HOST_CNT, 0, 8⟩

/-! ### GPIO -/
abbrev GPIO_EVT_RAW : Nat := 0x2000C
def GPIO_EVT_RAW_EDGE : Fld := ⟨GPIO_EVT_RAW, 0, 16⟩
abbrev GPIO_IN : Nat := 0x20040
def GPIO_IN_LEVEL : Fld := ⟨GPIO_IN, 0, 16⟩
abbrev GPIO_OUT : Nat := 0x20044
def GPIO_OUT_VALUE : Fld := ⟨GPIO_OUT, 0, 16⟩
abbrev GPIO_OUT_SET : Nat := 0x20048
def GPIO_OUT_SET_MASK : Fld := ⟨GPIO_OUT_SET, 0, 16⟩
abbrev GPIO_OUT_CLR : Nat := 0x2004C
def GPIO_OUT_CLR_MASK : Fld := ⟨GPIO_OUT_CLR, 0, 16⟩
abbrev GPIO_OWNER : Nat := 0x20050
def GPIO_OWNER_MAP : Fld := ⟨GPIO_OWNER, 0, 16⟩
abbrev GPIO_CFG (n : Nat) : Nat := 0x20080 + 0x4 * n
def GPIO_CFG_DEB (n : Nat) : Fld := ⟨GPIO_CFG n, 8, 3⟩
def GPIO_CFG_EDGE (n : Nat) : Fld := ⟨GPIO_CFG n, 4, 2⟩
def GPIO_CFG_OD (n : Nat) : Fld := ⟨GPIO_CFG n, 2, 1⟩
def GPIO_CFG_STATE (n : Nat) : Fld := ⟨GPIO_CFG n, 0, 2⟩

/-! ### ICU -/
abbrev ICU_STATUS : Nat := 0x6008
def ICU_STATUS_WAITING : Fld := ⟨ICU_STATUS, 8, 9⟩
def ICU_STATUS_ROUTE : Fld := ⟨ICU_STATUS, 6, 2⟩
def ICU_STATUS_ELIG : Fld := ⟨ICU_STATUS, 0, 5⟩
abbrev ICU_EVT_RAW : Nat := 0x600C
def ICU_EVT_RAW_EVENTS : Fld := ⟨ICU_EVT_RAW, 0, 2⟩
abbrev ICU_GROUP : Nat := 0x6040
def ICU_GROUP_SUB : Fld := ⟨ICU_GROUP, 0, 3⟩
abbrev ICU_CFG : Nat := 0x6044
def ICU_CFG_START_T : Fld := ⟨ICU_CFG, 0, 16⟩
abbrev ICU_SWI : Nat := 0x6048
def ICU_SWI_SW : Fld := ⟨ICU_SWI, 0, 5⟩
abbrev ICU_ASSERT (n : Nat) : Nat := 0x6050 + 0x4 * n
def ICU_ASSERT_MAP (n : Nat) : Fld := ⟨ICU_ASSERT n, 0, 32⟩
abbrev ICU_T_MOD (n : Nat) : Nat := 0x6080 + 0x20 * n
def ICU_T_MOD_BYPASS (n : Nat) : Fld := ⟨ICU_T_MOD n, 31, 1⟩
def ICU_T_MOD_COUNT (n : Nat) : Fld := ⟨ICU_T_MOD n, 16, 8⟩
def ICU_T_MOD_TIME (n : Nat) : Fld := ⟨ICU_T_MOD n, 0, 16⟩
abbrev ICU_T_CLAIM (n : Nat) : Nat := 0x6084 + 0x20 * n
def ICU_T_CLAIM_VALID (n : Nat) : Fld := ⟨ICU_T_CLAIM n, 31, 1⟩
def ICU_T_CLAIM_PRIO (n : Nat) : Fld := ⟨ICU_T_CLAIM n, 16, 8⟩
def ICU_T_CLAIM_LINE (n : Nat) : Fld := ⟨ICU_T_CLAIM n, 0, 8⟩
abbrev ICU_T_DONE (n : Nat) : Nat := 0x6088 + 0x20 * n
def ICU_T_DONE_LINE (n : Nat) : Fld := ⟨ICU_T_DONE n, 0, 8⟩
abbrev ICU_T_RUN (n : Nat) : Nat := 0x608C + 0x20 * n
def ICU_T_RUN_DEPTH (n : Nat) : Fld := ⟨ICU_T_RUN n, 28, 4⟩
def ICU_T_RUN_PRIO (n : Nat) : Fld := ⟨ICU_T_RUN n, 8, 8⟩
def ICU_T_RUN_LINE (n : Nat) : Fld := ⟨ICU_T_RUN n, 0, 8⟩
abbrev ICU_T_PEND (n : Nat) : Nat := 0x6090 + 0x20 * n
def ICU_T_PEND_PRESENTED (n : Nat) : Fld := ⟨ICU_T_PEND n, 31, 1⟩
def ICU_T_PEND_GATE (n : Nat) : Fld := ⟨ICU_T_PEND n, 30, 1⟩
def ICU_T_PEND_NPEND (n : Nat) : Fld := ⟨ICU_T_PEND n, 21, 9⟩
def ICU_T_PEND_PRIO (n : Nat) : Fld := ⟨ICU_T_PEND n, 8, 8⟩
def ICU_T_PEND_LINE (n : Nat) : Fld := ⟨ICU_T_PEND n, 0, 8⟩
abbrev ICU_T_CNT (n : Nat) : Nat := 0x6094 + 0x20 * n
def ICU_T_CNT_DELIVERED (n : Nat) : Fld := ⟨ICU_T_CNT n, 16, 16⟩
def ICU_T_CNT_CLAIMS (n : Nat) : Fld := ⟨ICU_T_CNT n, 0, 16⟩
abbrev ICU_LINE (n : Nat) : Nat := 0x6140 + 0x4 * n
def ICU_LINE_HPRIO (n : Nat) : Fld := ⟨ICU_LINE n, 24, 8⟩
def ICU_LINE_CPRIO (n : Nat) : Fld := ⟨ICU_LINE n, 16, 8⟩
def ICU_LINE_HMASK (n : Nat) : Fld := ⟨ICU_LINE n, 3, 2⟩
def ICU_LINE_CMASK (n : Nat) : Fld := ⟨ICU_LINE n, 0, 3⟩

/-! ### FLT -/
abbrev FLT_STATUS : Nat := 0x7008
def FLT_STATUS_REL_RESULT : Fld := ⟨FLT_STATUS, 8, 4⟩
def FLT_STATUS_HIGH : Fld := ⟨FLT_STATUS, 4, 3⟩
def FLT_STATUS_AUTO_OFF : Fld := ⟨FLT_STATUS, 2, 1⟩
def FLT_STATUS_QUIETING : Fld := ⟨FLT_STATUS, 1, 1⟩
def FLT_STATUS_HOLDING : Fld := ⟨FLT_STATUS, 0, 1⟩
abbrev FLT_EVT_RAW : Nat := 0x700C
def FLT_EVT_RAW_EVENTS : Fld := ⟨FLT_EVT_RAW, 0, 8⟩
abbrev FLT_CMD : Nat := 0x7040
def FLT_CMD_KEY : Fld := ⟨FLT_CMD, 16, 16⟩
def FLT_CMD_OP : Fld := ⟨FLT_CMD, 0, 3⟩
abbrev FLT_CFG : Nat := 0x7044
def FLT_CFG_QUIET : Fld := ⟨FLT_CFG, 16, 16⟩
def FLT_CFG_MAXREC : Fld := ⟨FLT_CFG, 8, 8⟩
def FLT_CFG_AUTO_EXIT : Fld := ⟨FLT_CFG, 7, 1⟩
def FLT_CFG_FAULTN_SEV : Fld := ⟨FLT_CFG, 0, 3⟩
abbrev FLT_DEF_ESC (n : Nat) : Nat := 0x7048 + 0x4 * n
def FLT_DEF_ESC_EN (n : Nat) : Fld := ⟨FLT_DEF_ESC n, 31, 1⟩
def FLT_DEF_ESC_N (n : Nat) : Fld := ⟨FLT_DEF_ESC n, 16, 8⟩
def FLT_DEF_ESC_WIN (n : Nat) : Fld := ⟨FLT_DEF_ESC n, 0, 14⟩
abbrev FLT_PEND : Nat := 0x7054
def FLT_PEND_SEV : Fld := ⟨FLT_PEND, 0, 4⟩
abbrev FLT_FIRST : Nat := 0x7058
def FLT_FIRST_MSG : Fld := ⟨FLT_FIRST, 0, 32⟩
abbrev FLT_FIRST_INFO : Nat := 0x705C
def FLT_FIRST_INFO_VALID : Fld := ⟨FLT_FIRST_INFO, 31, 1⟩
def FLT_FIRST_INFO_OVERFLOW : Fld := ⟨FLT_FIRST_INFO, 30, 1⟩
def FLT_FIRST_INFO_ESC : Fld := ⟨FLT_FIRST_INFO, 29, 1⟩
def FLT_FIRST_INFO_INJ : Fld := ⟨FLT_FIRST_INFO, 28, 1⟩
def FLT_FIRST_INFO_SEV : Fld := ⟨FLT_FIRST_INFO, 24, 3⟩
def FLT_FIRST_INFO_EPOCH : Fld := ⟨FLT_FIRST_INFO, 0, 16⟩
abbrev FLT_FIRST_EP_LO : Nat := 0x7060
def FLT_FIRST_EP_LO_EPOCH : Fld := ⟨FLT_FIRST_EP_LO, 0, 32⟩
abbrev FLT_LAST : Nat := 0x7064
def FLT_LAST_MSG : Fld := ⟨FLT_LAST, 0, 32⟩
abbrev FLT_LAST_INFO : Nat := 0x7068
def FLT_LAST_INFO_VALID : Fld := ⟨FLT_LAST_INFO, 31, 1⟩
def FLT_LAST_INFO_OVERFLOW : Fld := ⟨FLT_LAST_INFO, 30, 1⟩
def FLT_LAST_INFO_ESC : Fld := ⟨FLT_LAST_INFO, 29, 1⟩
def FLT_LAST_INFO_INJ : Fld := ⟨FLT_LAST_INFO, 28, 1⟩
def FLT_LAST_INFO_SEV : Fld := ⟨FLT_LAST_INFO, 24, 3⟩
def FLT_LAST_INFO_EPOCH : Fld := ⟨FLT_LAST_INFO, 0, 16⟩
abbrev FLT_QUIET : Nat := 0x706C
def FLT_QUIET_MS : Fld := ⟨FLT_QUIET, 0, 20⟩
abbrev FLT_HOLD : Nat := 0x7070
def FLT_HOLD_MAP : Fld := ⟨FLT_HOLD, 0, 7⟩
abbrev FLT_CNT_SEV : Nat := 0x7074
def FLT_CNT_SEV_SEVERE : Fld := ⟨FLT_CNT_SEV, 24, 8⟩
def FLT_CNT_SEV_MAJOR : Fld := ⟨FLT_CNT_SEV, 16, 8⟩
def FLT_CNT_SEV_MINOR : Fld := ⟨FLT_CNT_SEV, 8, 8⟩
def FLT_CNT_SEV_NOTE : Fld := ⟨FLT_CNT_SEV, 0, 8⟩
abbrev FLT_CNT : Nat := 0x7078
def FLT_CNT_RECOVERIES : Fld := ⟨FLT_CNT, 24, 8⟩
def FLT_CNT_RELEASES : Fld := ⟨FLT_CNT, 16, 8⟩
def FLT_CNT_ESCALATIONS : Fld := ⟨FLT_CNT, 8, 8⟩
def FLT_CNT_DROPS : Fld := ⟨FLT_CNT, 0, 8⟩
abbrev FLT_INJ : Nat := 0x707C
def FLT_INJ_MSG : Fld := ⟨FLT_INJ, 0, 32⟩
abbrev FLT_RULE_MATCH (n : Nat) : Nat := 0x7080 + 0x8 * n
def FLT_RULE_MATCH_EN (n : Nat) : Fld := ⟨FLT_RULE_MATCH n, 31, 1⟩
def FLT_RULE_MATCH_SRC (n : Nat) : Fld := ⟨FLT_RULE_MATCH n, 16, 8⟩
def FLT_RULE_MATCH_KIND (n : Nat) : Fld := ⟨FLT_RULE_MATCH n, 8, 6⟩
abbrev FLT_RULE_ESC (n : Nat) : Nat := 0x7084 + 0x8 * n
def FLT_RULE_ESC_EN (n : Nat) : Fld := ⟨FLT_RULE_ESC n, 31, 1⟩
def FLT_RULE_ESC_FLOOR (n : Nat) : Fld := ⟨FLT_RULE_ESC n, 24, 3⟩
def FLT_RULE_ESC_N (n : Nat) : Fld := ⟨FLT_RULE_ESC n, 16, 8⟩
def FLT_RULE_ESC_WIN (n : Nat) : Fld := ⟨FLT_RULE_ESC n, 0, 14⟩
abbrev FLT_LOG (n : Nat) : Nat := 0x7100 + 0x8 * n
def FLT_LOG_MSG (n : Nat) : Fld := ⟨FLT_LOG n, 0, 32⟩
abbrev FLT_LOG_EP (n : Nat) : Nat := 0x7104 + 0x8 * n
def FLT_LOG_EP_ESC (n : Nat) : Fld := ⟨FLT_LOG_EP n, 31, 1⟩
def FLT_LOG_EP_INJ (n : Nat) : Fld := ⟨FLT_LOG_EP n, 30, 1⟩
def FLT_LOG_EP_SEV (n : Nat) : Fld := ⟨FLT_LOG_EP n, 27, 3⟩
def FLT_LOG_EP_EPOCH (n : Nat) : Fld := ⟨FLT_LOG_EP n, 0, 27⟩
abbrev FLT_LOG_PTR : Nat := 0x7180
def FLT_LOG_PTR_WRAPPED : Fld := ⟨FLT_LOG_PTR, 4, 1⟩
def FLT_LOG_PTR_NEXT : Fld := ⟨FLT_LOG_PTR, 0, 4⟩

/-! ### WDG -/
abbrev WDG_STATUS : Nat := 0x8008
def WDG_STATUS_COMPAT : Fld := ⟨WDG_STATUS, 16, 1⟩
def WDG_STATUS_CLK_SW : Fld := ⟨WDG_STATUS, 12, 4⟩
def WDG_STATUS_FROZEN : Fld := ⟨WDG_STATUS, 8, 4⟩
def WDG_STATUS_ARMED : Fld := ⟨WDG_STATUS, 4, 4⟩
def WDG_STATUS_RUN : Fld := ⟨WDG_STATUS, 0, 4⟩
abbrev WDG_EVT_RAW : Nat := 0x800C
def WDG_EVT_RAW_EVENTS : Fld := ⟨WDG_EVT_RAW, 0, 6⟩
abbrev WDG_CFG (n : Nat) : Nat := 0x8040 + 0x20 * n
def WDG_CFG_EN (n : Nat) : Fld := ⟨WDG_CFG n, 31, 1⟩
def WDG_CFG_ACT (n : Nat) : Fld := ⟨WDG_CFG n, 28, 3⟩
def WDG_CFG_CLK (n : Nat) : Fld := ⟨WDG_CFG n, 27, 1⟩
def WDG_CFG_OPEN (n : Nat) : Fld := ⟨WDG_CFG n, 24, 3⟩
def WDG_CFG_PERIOD (n : Nat) : Fld := ⟨WDG_CFG n, 0, 24⟩
abbrev WDG_SVC (n : Nat) : Nat := 0x8044 + 0x20 * n
def WDG_SVC_VALUE (n : Nat) : Fld := ⟨WDG_SVC n, 0, 32⟩
abbrev WDG_CNT (n : Nat) : Nat := 0x8048 + 0x20 * n
def WDG_CNT_COUNT (n : Nat) : Fld := ⟨WDG_CNT n, 0, 24⟩
abbrev WDG_EVID (n : Nat) : Nat := 0x804C + 0x20 * n
def WDG_EVID_VALID (n : Nat) : Fld := ⟨WDG_EVID n, 31, 1⟩
def WDG_EVID_KIND (n : Nat) : Fld := ⟨WDG_EVID n, 28, 3⟩
def WDG_EVID_COUNT (n : Nat) : Fld := ⟨WDG_EVID n, 0, 24⟩
abbrev WDG_EVID_EP (n : Nat) : Nat := 0x8050 + 0x20 * n
abbrev WDG_EVID_VAL (n : Nat) : Nat := 0x8054 + 0x20 * n
abbrev WDG_STAT (n : Nat) : Nat := 0x8058 + 0x20 * n
def WDG_STAT_SERVICES (n : Nat) : Fld := ⟨WDG_STAT n, 16, 16⟩
def WDG_STAT_EVENTS (n : Nat) : Fld := ⟨WDG_STAT n, 0, 16⟩
abbrev WDG_TM_CFG : Nat := 0x80C0
def WDG_TM_CFG_EN : Fld := ⟨WDG_TM_CFG, 31, 1⟩
def WDG_TM_CFG_TO_WD3 : Fld := ⟨WDG_TM_CFG, 30, 1⟩
def WDG_TM_CFG_PER : Fld := ⟨WDG_TM_CFG, 0, 16⟩
abbrev WDG_TM_CHECKIN : Nat := 0x80C4
def WDG_TM_CHECKIN_KEY : Fld := ⟨WDG_TM_CHECKIN, 16, 16⟩
def WDG_TM_CHECKIN_SLOT : Fld := ⟨WDG_TM_CHECKIN, 0, 4⟩
abbrev WDG_TM_MISSING : Nat := 0x80C8
def WDG_TM_MISSING_MAP : Fld := ⟨WDG_TM_MISSING, 0, 16⟩
abbrev WDG_TM_EXCESS : Nat := 0x80CC
def WDG_TM_EXCESS_MAP : Fld := ⟨WDG_TM_EXCESS, 0, 16⟩
abbrev WDG_TM_FIRST : Nat := 0x80D0
def WDG_TM_FIRST_VALID : Fld := ⟨WDG_TM_FIRST, 31, 1⟩
def WDG_TM_FIRST_EXCESS : Fld := ⟨WDG_TM_FIRST, 8, 1⟩
def WDG_TM_FIRST_SLOT : Fld := ⟨WDG_TM_FIRST, 0, 4⟩
abbrev WDG_TM_CNT : Nat := 0x80D4
def WDG_TM_CNT_PERIODS : Fld := ⟨WDG_TM_CNT, 16, 16⟩
def WDG_TM_CNT_OFFENCES : Fld := ⟨WDG_TM_CNT, 0, 16⟩
abbrev WDG_TM_SLOT (n : Nat) : Nat := 0x8100 + 0x4 * n
def WDG_TM_SLOT_EN (n : Nat) : Fld := ⟨WDG_TM_SLOT n, 31, 1⟩
def WDG_TM_SLOT_MAX (n : Nat) : Fld := ⟨WDG_TM_SLOT n, 16, 8⟩
def WDG_TM_SLOT_MIN (n : Nat) : Fld := ⟨WDG_TM_SLOT n, 8, 8⟩
def WDG_TM_SLOT_COUNT (n : Nat) : Fld := ⟨WDG_TM_SLOT n, 0, 8⟩

/-! ### KEEP -/
abbrev KEEP_STATUS : Nat := 0x24008
def KEEP_STATUS_IN_CONTROL : Fld := ⟨KEEP_STATUS, 8, 1⟩
def KEEP_STATUS_ATTEMPTS : Fld := ⟨KEEP_STATUS, 4, 2⟩
def KEEP_STATUS_STATE : Fld := ⟨KEEP_STATUS, 0, 3⟩
abbrev KEEP_EVT_RAW : Nat := 0x2400C
def KEEP_EVT_RAW_EVENTS : Fld := ⟨KEEP_EVT_RAW, 0, 5⟩
abbrev KEEP_CMD : Nat := 0x24040
def KEEP_CMD_KEY : Fld := ⟨KEEP_CMD, 16, 16⟩
def KEEP_CMD_OP : Fld := ⟨KEEP_CMD, 0, 3⟩
abbrev KEEP_CFG : Nat := 0x24044
def KEEP_CFG_PROB : Fld := ⟨KEEP_CFG, 0, 16⟩
abbrev KEEP_CAUSE : Nat := 0x24048
def KEEP_CAUSE_VALID : Fld := ⟨KEEP_CAUSE, 31, 1⟩
def KEEP_CAUSE_WD_KIND : Fld := ⟨KEEP_CAUSE, 8, 3⟩
def KEEP_CAUSE_CAUSE : Fld := ⟨KEEP_CAUSE, 0, 2⟩
abbrev KEEP_EP_LO : Nat := 0x2404C
def KEEP_EP_LO_EPOCH : Fld := ⟨KEEP_EP_LO, 0, 32⟩
abbrev KEEP_EP_HI : Nat := 0x24050
def KEEP_EP_HI_EPOCH : Fld := ⟨KEEP_EP_HI, 0, 16⟩
abbrev KEEP_LS_PC (n : Nat) : Nat := 0x24054 + 0x4 * n
def KEEP_LS_PC_PC (n : Nat) : Fld := ⟨KEEP_LS_PC n, 0, 32⟩
abbrev KEEP_ATT (n : Nat) : Nat := 0x2405C + 0x4 * n
def KEEP_ATT_VALID (n : Nat) : Fld := ⟨KEEP_ATT n, 31, 1⟩
def KEEP_ATT_RESULT (n : Nat) : Fld := ⟨KEEP_ATT n, 28, 3⟩
def KEEP_ATT_EPOCH (n : Nat) : Fld := ⟨KEEP_ATT n, 0, 28⟩
abbrev KEEP_CNT : Nat := 0x24068
def KEEP_CNT_TAKEOVERS : Fld := ⟨KEEP_CNT, 24, 8⟩
def KEEP_CNT_RESTARTS : Fld := ⟨KEEP_CNT, 16, 8⟩
def KEEP_CNT_HOLDS : Fld := ⟨KEEP_CNT, 8, 8⟩
def KEEP_CNT_RELEASES : Fld := ⟨KEEP_CNT, 0, 8⟩

/-! ### THM -/
abbrev THM_STATUS : Nat := 0x9008
def THM_STATUS_LEVEL : Fld := ⟨THM_STATUS, 12, 2⟩
def THM_STATUS_UNMON : Fld := ⟨THM_STATUS, 10, 2⟩
def THM_STATUS_WARN : Fld := ⟨THM_STATUS, 8, 2⟩
def THM_STATUS_VALID : Fld := ⟨THM_STATUS, 0, 6⟩
abbrev THM_EVT_RAW : Nat := 0x900C
def THM_EVT_RAW_EVENTS : Fld := ⟨THM_EVT_RAW, 0, 6⟩
abbrev THM_CFG : Nat := 0x9040
def THM_CFG_SKIP2 : Fld := ⟨THM_CFG, 28, 2⟩
def THM_CFG_SKIP1 : Fld := ⟨THM_CFG, 24, 2⟩
def THM_CFG_STEP2 : Fld := ⟨THM_CFG, 16, 4⟩
def THM_CFG_HYS : Fld := ⟨THM_CFG, 8, 6⟩
def THM_CFG_EN : Fld := ⟨THM_CFG, 0, 6⟩
abbrev THM_THR : Nat := 0x9044
def THM_THR_SHUT : Fld := ⟨THM_THR, 16, 8⟩
def THM_THR_THR : Fld := ⟨THM_THR, 8, 8⟩
def THM_THR_WARN : Fld := ⟨THM_THR, 0, 8⟩
abbrev THM_T (n : Nat) : Nat := 0x9048 + 0x4 * n
def THM_T_VALID (n : Nat) : Fld := ⟨THM_T n, 31, 1⟩
def THM_T_FAULT (n : Nat) : Fld := ⟨THM_T n, 30, 1⟩
def THM_T_T (n : Nat) : Fld := ⟨THM_T n, 0, 16⟩
abbrev THM_MAX : Nat := 0x9060
def THM_MAX_T_L : Fld := ⟨THM_MAX, 16, 16⟩
def THM_MAX_T_F : Fld := ⟨THM_MAX, 0, 16⟩
abbrev THM_CNT : Nat := 0x9064
def THM_CNT_THROTTLES : Fld := ⟨THM_CNT, 16, 16⟩
def THM_CNT_WARNS : Fld := ⟨THM_CNT, 8, 8⟩
def THM_CNT_SENSOR_FAULTS : Fld := ⟨THM_CNT, 0, 8⟩
abbrev THM_TIME : Nat := 0x9068
def THM_TIME_S : Fld := ⟨THM_TIME, 0, 32⟩
abbrev THM_SHUT : Nat := 0x906C
def THM_SHUT_COUNT : Fld := ⟨THM_SHUT, 24, 8⟩
def THM_SHUT_SENSOR : Fld := ⟨THM_SHUT, 16, 3⟩
def THM_SHUT_T : Fld := ⟨THM_SHUT, 0, 16⟩
abbrev THM_SHUT_EP_LO : Nat := 0x9070
abbrev THM_SHUT_RTC : Nat := 0x9074

/-! ### RTC -/
abbrev RTC_STATUS : Nat := 0x11008
def RTC_STATUS_LF_XO : Fld := ⟨RTC_STATUS, 4, 1⟩
def RTC_STATUS_CAL : Fld := ⟨RTC_STATUS, 3, 1⟩
def RTC_STATUS_PWRON : Fld := ⟨RTC_STATUS, 2, 1⟩
def RTC_STATUS_FROZEN : Fld := ⟨RTC_STATUS, 1, 1⟩
def RTC_STATUS_TIME_SET : Fld := ⟨RTC_STATUS, 0, 1⟩
abbrev RTC_EVT_RAW : Nat := 0x1100C
def RTC_EVT_RAW_EVENTS : Fld := ⟨RTC_EVT_RAW, 0, 4⟩
abbrev RTC_SUB : Nat := 0x11040
def RTC_SUB_SUB : Fld := ⟨RTC_SUB, 0, 15⟩
abbrev RTC_SEC : Nat := 0x11044
def RTC_SEC_SEC : Fld := ⟨RTC_SEC, 0, 32⟩
abbrev RTC_DATE : Nat := 0x11048
def RTC_DATE_YEAR : Fld := ⟨RTC_DATE, 20, 12⟩
def RTC_DATE_MONTH : Fld := ⟨RTC_DATE, 16, 4⟩
def RTC_DATE_DAY : Fld := ⟨RTC_DATE, 11, 5⟩
def RTC_DATE_WDAY : Fld := ⟨RTC_DATE, 0, 3⟩
abbrev RTC_TIME : Nat := 0x1104C
def RTC_TIME_HOUR : Fld := ⟨RTC_TIME, 16, 5⟩
def RTC_TIME_MIN : Fld := ⟨RTC_TIME, 8, 6⟩
def RTC_TIME_SEC : Fld := ⟨RTC_TIME, 0, 6⟩
abbrev RTC_SET_SEC : Nat := 0x11050
def RTC_SET_SEC_SEC : Fld := ⟨RTC_SET_SEC, 0, 32⟩
abbrev RTC_CMD : Nat := 0x11054
def RTC_CMD_KEY : Fld := ⟨RTC_CMD, 16, 16⟩
def RTC_CMD_OP : Fld := ⟨RTC_CMD, 0, 3⟩
abbrev RTC_TRIM : Nat := 0x11058
def RTC_TRIM_TRIM : Fld := ⟨RTC_TRIM, 0, 16⟩
abbrev RTC_ALARM : Nat := 0x1105C
def RTC_ALARM_SEC : Fld := ⟨RTC_ALARM, 0, 32⟩
abbrev RTC_ALM_CFG : Nat := 0x11060
def RTC_ALM_CFG_EN : Fld := ⟨RTC_ALM_CFG, 31, 1⟩
abbrev RTC_PER : Nat := 0x11064
def RTC_PER_EN : Fld := ⟨RTC_PER, 31, 1⟩
def RTC_PER_PER : Fld := ⟨RTC_PER, 0, 25⟩
abbrev RTC_PWRON : Nat := 0x11068
def RTC_PWRON_MODE : Fld := ⟨RTC_PWRON, 30, 2⟩
def RTC_PWRON_WIDTH : Fld := ⟨RTC_PWRON, 0, 16⟩
abbrev RTC_CNT : Nat := 0x1106C
def RTC_CNT_SETS : Fld := ⟨RTC_CNT, 24, 8⟩
def RTC_CNT_ALARMS : Fld := ⟨RTC_CNT, 16, 8⟩
def RTC_CNT_PERIODIC : Fld := ⟨RTC_CNT, 0, 16⟩

/-! ### MEM -/
abbrev MEM_STATUS : Nat := 0x12008
def MEM_STATUS_FILLING : Fld := ⟨MEM_STATUS, 16, 1⟩
def MEM_STATUS_CE_HIGH : Fld := ⟨MEM_STATUS, 0, 16⟩
abbrev MEM_EVT_RAW : Nat := 0x1200C
def MEM_EVT_RAW_EVENTS : Fld := ⟨MEM_EVT_RAW, 0, 5⟩
abbrev MEM_CFG : Nat := 0x12040
def MEM_CFG_CE_THR : Fld := ⟨MEM_CFG, 16, 16⟩
def MEM_CFG_CE_WIN : Fld := ⟨MEM_CFG, 0, 16⟩
abbrev MEM_CE_LAST : Nat := 0x12044
def MEM_CE_LAST_VALID : Fld := ⟨MEM_CE_LAST, 31, 1⟩
def MEM_CE_LAST_OFFSET : Fld := ⟨MEM_CE_LAST, 0, 22⟩
abbrev MEM_UE_LAST : Nat := 0x12048
def MEM_UE_LAST_VALID : Fld := ⟨MEM_UE_LAST, 31, 1⟩
def MEM_UE_LAST_OFFSET : Fld := ⟨MEM_UE_LAST, 0, 22⟩
abbrev MEM_CNT : Nat := 0x1204C
def MEM_CNT_UE : Fld := ⟨MEM_CNT, 16, 16⟩
def MEM_CNT_CORE_EXC : Fld := ⟨MEM_CNT, 8, 8⟩
def MEM_CNT_HOST_POISON : Fld := ⟨MEM_CNT, 0, 8⟩
abbrev MEM_FILL : Nat := 0x12050
def MEM_FILL_US : Fld := ⟨MEM_FILL, 0, 20⟩
abbrev MEM_CE_CNT (n : Nat) : Nat := 0x12080 + 0x4 * n
def MEM_CE_CNT_TOTAL (n : Nat) : Fld := ⟨MEM_CE_CNT n, 0, 32⟩

/-! ### REC -/
abbrev REC_STATUS : Nat := 0x21008
def REC_STATUS_QUEUE : Fld := ⟨REC_STATUS, 8, 4⟩
def REC_STATUS_WRITER : Fld := ⟨REC_STATUS, 0, 3⟩
abbrev REC_EVT_RAW : Nat := 0x2100C
def REC_EVT_RAW_EVENTS : Fld := ⟨REC_EVT_RAW, 0, 5⟩
abbrev REC_CMD : Nat := 0x21040
def REC_CMD_KEY : Fld := ⟨REC_CMD, 16, 16⟩
def REC_CMD_OP : Fld := ⟨REC_CMD, 0, 3⟩
abbrev REC_CFG : Nat := 0x21044
def REC_CFG_EVT_SEV : Fld := ⟨REC_CFG, 0, 3⟩
abbrev REC_EVT_PTR : Nat := 0x21048
def REC_EVT_PTR_SEQ : Fld := ⟨REC_EVT_PTR, 16, 16⟩
def REC_EVT_PTR_NEXT : Fld := ⟨REC_EVT_PTR, 0, 8⟩
abbrev REC_THM_PTR : Nat := 0x2104C
def REC_THM_PTR_SEQ : Fld := ⟨REC_THM_PTR, 16, 16⟩
def REC_THM_PTR_NEXT : Fld := ⟨REC_THM_PTR, 0, 8⟩
abbrev REC_CNT : Nat := 0x21050
def REC_CNT_WRITES : Fld := ⟨REC_CNT, 16, 16⟩
def REC_CNT_DROPS : Fld := ⟨REC_CNT, 8, 8⟩
def REC_CNT_WRITE_ERRS : Fld := ⟨REC_CNT, 0, 8⟩
abbrev REC_ERR : Nat := 0x21054
def REC_ERR_VALID : Fld := ⟨REC_ERR, 31, 1⟩
def REC_ERR_OFFSET : Fld := ⟨REC_ERR, 0, 16⟩

/-! ### OTP -/
abbrev OTP_STATUS : Nat := 0x4008
def OTP_STATUS_CFG_SRC : Fld := ⟨OTP_STATUS, 16, 2⟩
def OTP_STATUS_BUSY : Fld := ⟨OTP_STATUS, 8, 1⟩
def OTP_STATUS_SKIPPED : Fld := ⟨OTP_STATUS, 0, 8⟩
abbrev OTP_EVT_RAW : Nat := 0x400C
def OTP_EVT_RAW_EVENTS : Fld := ⟨OTP_EVT_RAW, 0, 4⟩
abbrev OTP_CMD : Nat := 0x4040
def OTP_CMD_KEY : Fld := ⟨OTP_CMD, 16, 16⟩
def OTP_CMD_REGION : Fld := ⟨OTP_CMD, 8, 3⟩
def OTP_CMD_MARGIN : Fld := ⟨OTP_CMD, 6, 2⟩
def OTP_CMD_OP : Fld := ⟨OTP_CMD, 0, 3⟩
abbrev OTP_ADDR : Nat := 0x4044
def OTP_ADDR_ROW : Fld := ⟨OTP_ADDR, 0, 11⟩
abbrev OTP_WDATA : Nat := 0x4048
def OTP_WDATA_DATA : Fld := ⟨OTP_WDATA, 0, 32⟩
abbrev OTP_RDATA : Nat := 0x404C
def OTP_RDATA_DATA : Fld := ⟨OTP_RDATA, 0, 32⟩
abbrev OTP_RESULT : Nat := 0x4050
def OTP_RESULT_CODE : Fld := ⟨OTP_RESULT, 28, 4⟩
def OTP_RESULT_RETRIES : Fld := ⟨OTP_RESULT, 16, 4⟩
abbrev OTP_REGION : Nat := 0x4054
def OTP_REGION_STATE (j : Nat) : Fld := ⟨OTP_REGION, 2 * j, 2⟩
abbrev OTP_OPT (n : Nat) : Nat := 0x4058 + 0x4 * n
def OTP_OPT_ROW (n : Nat) : Fld := ⟨OTP_OPT n, 0, 32⟩
abbrev OTP_REDIR_USE : Nat := 0x4064
def OTP_REDIR_USE_CORR : Fld := ⟨OTP_REDIR_USE, 8, 5⟩
def OTP_REDIR_USE_USED : Fld := ⟨OTP_REDIR_USE, 0, 5⟩
abbrev OTP_CNT : Nat := 0x4068
def OTP_CNT_PROGS : Fld := ⟨OTP_CNT, 16, 16⟩
def OTP_CNT_VERIFY_FAILS : Fld := ⟨OTP_CNT, 8, 8⟩
def OTP_CNT_REPAIRS : Fld := ⟨OTP_CNT, 0, 8⟩
abbrev OTP_WEAK : Nat := 0x406C
def OTP_WEAK_MAP : Fld := ⟨OTP_WEAK, 0, 32⟩
abbrev OTP_REDIR (n : Nat) : Nat := 0x4080 + 0x4 * n
def OTP_REDIR_VALID (n : Nat) : Fld := ⟨OTP_REDIR n, 31, 1⟩
def OTP_REDIR_CORR (n : Nat) : Fld := ⟨OTP_REDIR n, 30, 1⟩
def OTP_REDIR_ROW (n : Nat) : Fld := ⟨OTP_REDIR n, 0, 10⟩

/-! ### SEC -/
abbrev SEC_STATUS : Nat := 0x5008
def SEC_STATUS_LC_RESULT : Fld := ⟨SEC_STATUS, 20, 4⟩
def SEC_STATUS_RNG_OK : Fld := ⟨SEC_STATUS, 7, 1⟩
def SEC_STATUS_FACTORY_OK : Fld := ⟨SEC_STATUS, 3, 1⟩
def SEC_STATUS_LC : Fld := ⟨SEC_STATUS, 0, 3⟩
abbrev SEC_EVT_RAW : Nat := 0x500C
def SEC_EVT_RAW_EVENTS : Fld := ⟨SEC_EVT_RAW, 0, 4⟩
abbrev SEC_CMD : Nat := 0x5040
def SEC_CMD_KEY : Fld := ⟨SEC_CMD, 16, 16⟩
def SEC_CMD_W : Fld := ⟨SEC_CMD, 8, 6⟩
def SEC_CMD_OP : Fld := ⟨SEC_CMD, 0, 3⟩
abbrev SEC_POLICY : Nat := 0x5044
def SEC_POLICY_LOCK_N : Fld := ⟨SEC_POLICY, 4, 4⟩
def SEC_POLICY_WRITE_MIN : Fld := ⟨SEC_POLICY, 2, 2⟩
def SEC_POLICY_DEBUG_FIELD : Fld := ⟨SEC_POLICY, 1, 1⟩
def SEC_POLICY_PW_DIS : Fld := ⟨SEC_POLICY, 0, 1⟩
abbrev SEC_RNG : Nat := 0x5048
def SEC_RNG_OK : Fld := ⟨SEC_RNG, 31, 1⟩
def SEC_RNG_STARTUP_DONE : Fld := ⟨SEC_RNG, 30, 1⟩
def SEC_RNG_RCT_FAILS : Fld := ⟨SEC_RNG, 8, 8⟩
def SEC_RNG_APT_FAILS : Fld := ⟨SEC_RNG, 0, 8⟩
abbrev SEC_RAND : Nat := 0x504C
def SEC_RAND_VALUE : Fld := ⟨SEC_RAND, 0, 32⟩
abbrev SEC_RING : Nat := 0x5050
def SEC_RING_GEN : Fld := ⟨SEC_RING, 24, 8⟩
def SEC_RING_REKEYS : Fld := ⟨SEC_RING, 16, 8⟩
def SEC_RING_FAILS : Fld := ⟨SEC_RING, 8, 8⟩
def SEC_RING_SESSION : Fld := ⟨SEC_RING, 7, 1⟩
def SEC_RING_LAST_W : Fld := ⟨SEC_RING, 0, 6⟩
abbrev SEC_PATCH (n : Nat) : Nat := 0x5054 + 0x4 * n
def SEC_PATCH_RESULT (n : Nat) : Fld := ⟨SEC_PATCH n, 28, 4⟩
def SEC_PATCH_VERSION (n : Nat) : Fld := ⟨SEC_PATCH n, 16, 8⟩
def SEC_PATCH_LENGTH (n : Nat) : Fld := ⟨SEC_PATCH n, 0, 12⟩
abbrev SEC_MINVER : Nat := 0x5060
def SEC_MINVER_WELD : Fld := ⟨SEC_MINVER, 16, 6⟩
def SEC_MINVER_WOAD : Fld := ⟨SEC_MINVER, 8, 6⟩
def SEC_MINVER_MADDER : Fld := ⟨SEC_MINVER, 0, 6⟩
abbrev SEC_CNT : Nat := 0x5064
def SEC_CNT_LC_CHANGES : Fld := ⟨SEC_CNT, 24, 8⟩
def SEC_CNT_PATCH_REJ : Fld := ⟨SEC_CNT, 16, 8⟩
def SEC_CNT_RNG_FAILS : Fld := ⟨SEC_CNT, 8, 8⟩
def SEC_CNT_KEY_FAILS : Fld := ⟨SEC_CNT, 0, 8⟩

/-! ### SVC -/
abbrev SVC_STATUS : Nat := 0x23008
def SVC_STATUS_RESULT : Fld := ⟨SVC_STATUS, 28, 4⟩
def SVC_STATUS_CHAL_LEVEL : Fld := ⟨SVC_STATUS, 8, 2⟩
def SVC_STATUS_CHAL : Fld := ⟨SVC_STATUS, 4, 1⟩
abbrev SVC_EVT_RAW : Nat := 0x2300C
def SVC_EVT_RAW_EVENTS : Fld := ⟨SVC_EVT_RAW, 0, 5⟩
abbrev SVC_CMD : Nat := 0x23040
def SVC_CMD_KEY : Fld := ⟨SVC_CMD, 16, 16⟩
def SVC_CMD_LEVEL : Fld := ⟨SVC_CMD, 8, 2⟩
def SVC_CMD_OP : Fld := ⟨SVC_CMD, 0, 3⟩
abbrev SVC_NONCE (n : Nat) : Nat := 0x23044 + 0x4 * n
def SVC_NONCE_DATA (n : Nat) : Fld := ⟨SVC_NONCE n, 0, 32⟩
abbrev SVC_RESP (n : Nat) : Nat := 0x23054 + 0x4 * n
def SVC_RESP_DATA (n : Nat) : Fld := ⟨SVC_RESP n, 0, 32⟩
abbrev SVC_SESSION : Nat := 0x23074
def SVC_SESSION_LEVEL : Fld := ⟨SVC_SESSION, 28, 2⟩
def SVC_SESSION_BASE : Fld := ⟨SVC_SESSION, 24, 2⟩
def SVC_SESSION_REMAIN : Fld := ⟨SVC_SESSION, 0, 10⟩
abbrev SVC_FAIL : Nat := 0x23078
def SVC_FAIL_COUNT : Fld := ⟨SVC_FAIL, 16, 4⟩
def SVC_FAIL_LOCK_REM : Fld := ⟨SVC_FAIL, 0, 11⟩
abbrev SVC_DEBUG : Nat := 0x2307C
def SVC_DEBUG_SAP_OPEN : Fld := ⟨SVC_DEBUG, 1, 1⟩
def SVC_DEBUG_TAP_FULL : Fld := ⟨SVC_DEBUG, 0, 1⟩
abbrev SVC_CNT : Nat := 0x23080
def SVC_CNT_AUTH_OK : Fld := ⟨SVC_CNT, 16, 16⟩
def SVC_CNT_AUTH_FAIL : Fld := ⟨SVC_CNT, 8, 8⟩
def SVC_CNT_LOCKOUTS : Fld := ⟨SVC_CNT, 0, 8⟩

end Sys2Proof.Machine
end

