-- ==== Sys2Proof/Machine/RegKind.lean ====
section
/-!
DEFINITION. What kind of register stands at a local address (R30, R49, R68): its access code, its write mask and its reset value.
-/
namespace Sys2Proof.Machine

def pageOf (a : Nat) : Nat := a / 0x1000
def offOf (a : Nat) : Nat := a % 0x1000

/-- Does row `r` hold offset `o`? -/
def RegRow.has (r : RegRow) (o : Nat) : Bool :=
  decide (r.base ≤ o) &&
    (if r.stride = 0 then o == r.base
     else (o - r.base) % r.stride == 0 && decide ((o - r.base) / r.stride < r.count))

/-- The row of offset `o`, if the page map names a register there. -/
def findRow : List RegRow → Nat → Option RegRow
  | [], _ => none
  | r :: rs, o => if r.has o then some r else findRow rs o

/-- The value a row gives its register at offset `o` at reset. -/
def RegRow.resetAt (r : RegRow) (o : Nat) : Nat :=
  match r.resets with
  | [] => 0
  | [v] => v
  | v :: vs => (v :: vs).getD (if r.stride = 0 then 0 else (o - r.base) / r.stride) 0

/-- The defined event bits of page `p`: the mask of its EVT_RAW row (R52, R53). (DEDUCED, log entry 35) -/
def evtMask (p : Nat) : Nat :=
  match findRow (pageRows p) 0x00C with
  | some r => r.mask
  | none => 0

/-- Has the page SHD registers of its own (R57)? -/
def hasShd (p : Nat) : Bool := (pageRows p).any fun r => r.acc == .shd

/-- Has the page STG registers (R59)? -/
def hasStg (p : Nat) : Bool := (pageRows p).any fun r => r.acc == .stg

/-- The common header (R49): the row of a header offset that the page's own map does not give. (DEDUCED, log entry 35) -/
def hdrRow (p o : Nat) : Option RegRow :=
  if o = 0x000 then some ⟨0, 0, 1, .ro, 0, [0x100 + p], false⟩
  else if o = 0x004 then some ⟨4, 0, 1, .rw, 0, [0], false⟩
  else if o = 0x008 then some ⟨8, 0, 1, .ro, 0, [0], false⟩
  else if o = 0x00C then some ⟨0xC, 0, 1, .w1c, 0, [0], false⟩
  else if o = 0x010 then some ⟨0x10, 0, 1, .rw, evtMask p, [0], false⟩
  else if o = 0x014 then some ⟨0x14, 0, 1, .rwl, evtMask p, [0], false⟩
  else if o = 0x018 then some ⟨0x18, 0, 1, .wk, 1, [0], false⟩
  else if o = 0x01C then some ⟨0x1C, 0, 1, .rw, 3, [0], false⟩
  else if o = 0x020 then some ⟨0x20, 0, 1, .shd, 0, [0], false⟩
  else if o = 0x024 then some ⟨0x24, 0, 1, .shd, 0, [0], false⟩
  else if o = 0x028 then some ⟨0x28, 0, 1, .rw, 1, [0], false⟩
  else if o = 0x02C then some ⟨0x2C, 0, 1, .rwl, 0xF, [0xC], false⟩
  else if o < 0x040 then some ⟨o, 0, 1, .ro, 0, [0], false⟩
  else none

/-- The row of the named register at local address `a`; `none` for a reserved register or an address that is none. -/
def rowAt (a : Nat) : Option RegRow :=
  match findRow (pageRows (pageOf a)) (offOf a) with
  | some r => some r
  | none => if pageOf a < 0x28 then hdrRow (pageOf a) (offOf a) else none

/-- The reset value of the register at local address `a` (R50 and the page maps): what an unlisted register reads as. (DESIGN CHOICE, log entries 2, 8, 9; DEDUCED, log entry 82) -/
def regReset (a : Nat) : Word :=
  match rowAt a with
  | some r => BitVec.ofNat 32 (r.resetAt (offOf a))
  | none => 0

/-- Registers marked AON keep their value through system reset (R97). -/
def isAon (a : Nat) : Bool :=
  match rowAt a with
  | some r => r.aon
  | none => false

/-- The offsets of the SHD registers of a row. -/
def RegRow.offsets (r : RegRow) : List Nat := (List.range r.count).map fun i => r.base + r.stride * i

/-- Local addresses of the registers of page `p` with access code `c`, the header's left out. -/
def pageAddrs (p : Nat) (c : Acc) : List Nat :=
  (pageRows p).flatMap fun r => if r.acc == c then r.offsets.map fun o => p * 0x1000 + o else []

end Sys2Proof.Machine
end

