-- ==== Sys2Proof/Machine/Sparse.lean ====
section
/-!
DEFINITION. Sparse tables of plain data: a list of (key, value) pairs, keys strictly rising, no value equal to what an
unlisted key reads as.  Registers, shadow and staging copies, the windows' bytes and the OTP rows are held so.
-/
namespace Sys2Proof.Machine

/-- The value at `a`: the entry's, or `d a` where `a` is not listed. -/
def look {V : Type} (d : Nat → V) : List (Nat × V) → Nat → V
  | [], a => d a
  | (k, v) :: m, a => if k = a then v else look d m a

/-- `m` without any entry for `a`. -/
def drop {V : Type} (a : Nat) : List (Nat × V) → List (Nat × V)
  | [] => []
  | (k, v) :: m => if k = a then drop a m else (k, v) :: drop a m

/-- `(a, v)` put in front of the first greater key. -/
def insert {V : Type} (a : Nat) (v : V) : List (Nat × V) → List (Nat × V)
  | [] => [(a, v)]
  | (k, w) :: m => if a < k then (a, v) :: (k, w) :: m else (k, w) :: insert a v m

/-- `m` with `a` reading `v`: writing what an unlisted key reads as removes the entry. -/
def store {V : Type} [DecidableEq V] (d : Nat → V) (a : Nat) (v : V) (m : List (Nat × V)) : List (Nat × V) :=
  if v = d a then drop a m else insert a v (drop a m)

/-- Keys strictly rising, above `lo` where one is given. -/
def risingFrom {V : Type} : Option Nat → List (Nat × V) → Bool
  | _, [] => true
  | none, (k, _) :: m => risingFrom (some k) m
  | some lo, (k, _) :: m => decide (lo < k) && risingFrom (some k) m

/-- No entry equals what an unlisted key reads as. -/
def noDefault {V : Type} [DecidableEq V] (d : Nat → V) : List (Nat × V) → Bool
  | [] => true
  | (k, v) :: m => decide (v ≠ d k) && noDefault d m

/-- The canonical form: equal tables are equal data. -/
def canonical {V : Type} [DecidableEq V] (d : Nat → V) (m : List (Nat × V)) : Bool :=
  risingFrom none m && noDefault d m

/-- The entries whose key satisfies `p`. -/
def keep {V : Type} (p : Nat → Bool) : List (Nat × V) → List (Nat × V)
  | [] => []
  | (k, v) :: m => if p k then (k, v) :: keep p m else keep p m

end Sys2Proof.Machine
end

