-- ==== Sys2Proof/Machine/State.lean ====
section
/-!
DEFINITION. The state of the device: registers, shadow and staging copies, the windows' memory, OTP, the blocks' own state,
the balls' levels, and the queue of waiting commands; the reasons a step can stop; and the state right after reset.
-/
namespace Sys2Proof.Machine

/-- Outcome of one word access (R63). -/
inductive Outc where
  | ok | refusedState | roWrite | keyErr | locked | poison | denied | addrErr
  deriving DecidableEq, Repr

/-- Levels at the input balls that an effect samples (R39, R40, R100, R438). -/
structure Balls where
  /-- ROLE at VDD_IO: manager (R39). -/
  role : Bool := false
  testen : Bool := false
  resetN : Bool := true
  i2cA0 : Bool := false
  /-- Filtered levels of GPIO0-GPIO15 (R445). -/
  gpio : Nat := 0
  deriving DecidableEq, Repr

/-- The machine. -/
structure State where
  /-- Registers that do not read their reset value: active values, and for SHD registers the latest result. -/
  regs : List (Nat × Word)
  /-- SHD registers as latched (R57). -/
  shadow : List (Nat × Word)
  /-- Staging copies of STG registers (R61). -/
  staged : List (Nat × Word)
  /-- Bytes of the snapshot, capture and record store windows (R30), by host address. -/
  mem : List Host.Cell
  /-- What the check bits of a stored word say where they agree no more (R521, R522): 1 a single-bit error, 2 an uncorrectable error, 3 the
  poison code; by host address, or by SRAM offset where no window shows the word. -/
  marks : List (Nat × Nat)
  /-- OTP rows (R539), by row number. -/
  otp : List (Nat × Word)
  eng : Engines
  balls : Balls
  /-- Model time in microseconds: what an idle step advances. -/
  now : Nat
  /-- Open values drawn so far (the model's own field). -/
  free : Nat
  /-- Outcome of the last word accessed, and what the last read transaction returned (the model's own fields). -/
  outcome : Outc
  resp : List Word
  /-- The commands waiting, first in, first out. -/
  pending : List Instr
  deriving DecidableEq, Repr

/-- Right after the power-on reset of an AON domain that powered up from VSYS (R97, R98, R104): every register at its reset value but
RST_CAUSE (AON_POR, POR, CORE_SRC none) and RST_BOOT (step 1), nothing written to memory or OTP, the blocks at rest, VSYS not yet
qualified.  The balls sampled read low (worker role, no test): log entry 5. -/
def State.reset : State where
  regs := [(RST_CAUSE, 0xC000000C#32), (RST_BOOT, 1#32)]
  shadow := []
  staged := []
  mem := []
  marks := []
  otp := []
  eng := { clk := { lfTry := true, vsys := true }, pwr := { fixedRow := 1 }, boot := { fresh := true, freshAon := true } }
  balls := {}
  now := 0
  free := 0
  outcome := .ok
  resp := []
  pending := []

/-- Why a step can stop with a fault: no command of this block does (every row of the table has an effect). -/
inductive Fault where
  /-- Raised by nothing: the spec names no event at which the device stops. Safe. -/
  | stopped
  deriving DecidableEq, Repr

/-- Why a command has no meaning here. -/
inductive Refusal where
  /-- Raised by `exec` alone, for a row that has no meaning yet. Safe: nothing can be proved of what follows. -/
  | notModelled (mnemonic : String)
  deriving DecidableEq, Repr

end Sys2Proof.Machine
end

