-- ==== Sys2Proof/Machine/Ops.lean ====
section
/-!
DEFINITION. The few primitive changes of state, the programs built from them, and the named operations on registers,
fields, memory, OTP and the blocks' own state that every meaning uses.
-/
namespace Sys2Proof.Machine

/-- A primitive change of state.  None touches the queue of waiting commands; OTP only gains bits (R539). -/
inductive Act where
  | reg (a : Nat) (v : Word)
  | shd (a : Nat) (v : Word)
  | stg (a : Nat) (v : Word)
  | byte (a : Nat) (b : Byte)
  | mark (a f : Nat)
  | burn (row : Nat) (w : Word)
  | eng (f : Engines → Engines)
  | balls (f : Balls → Balls)
  | draw
  | outc (o : Outc)
  | resp (l : List Word)
  /-- Registers, shadow and staging copies whose address fails `p` return to their reset values. -/
  | resetRegs (p : Nat → Bool)
  /-- Bytes whose address fails `p` return to what unlisted bytes read as, with valid check bits (R525). -/
  | clearMem (p : Nat → Bool)

/-- Every byte of a window that nothing has written reads 0: the SRAM fill leaves 0 (R525), and the record store is taken
as 0 likewise (log entry 3, DESIGN CHOICE). -/
def memDefault (_ : Nat) : Byte := 0

/-- A word's check bits agree unless something is listed (R520). -/
def noMark (_ : Nat) : Nat := 0

/-- Every OTP row that nothing has burnt reads 0 (log entry 4, DESIGN CHOICE). -/
def otpDefault (_ : Nat) : Word := 0

def Act.apply : Act → State → State
  | .reg a v, s => { s with regs := store regReset a v s.regs }
  | .shd a v, s => { s with shadow := store regReset a v s.shadow }
  | .stg a v, s => { s with staged := store regReset a v s.staged }
  | .byte a b, s => { s with mem := store memDefault a b s.mem, marks := store noMark (a / 4 * 4) 0 s.marks }
  | .mark a f, s => { s with marks := store noMark a f s.marks }
  | .burn r w, s => { s with otp := store otpDefault r (look otpDefault s.otp r ||| w) s.otp }
  | .eng f, s => { s with eng := f s.eng }
  | .balls f, s => { s with balls := f s.balls }
  | .draw, s => { s with free := s.free + 1 }
  | .outc o, s => { s with outcome := o }
  | .resp l, s => { s with resp := l }
  | .resetRegs p, s => { s with regs := keep p s.regs, shadow := keep p s.shadow, staged := keep p s.staged }
  | .clearMem p, s => { s with mem := keep p s.mem, marks := keep p s.marks }

/-- A program: primitive changes in sequence, each part free to look at the state it starts from. -/
inductive Prog where
  | skip
  | act (a : Act)
  | seq (p q : Prog)
  | dyn (f : State → Prog)

def Prog.run : Prog → State → State
  | .skip, s => s
  | .act a, s => a.apply s
  | .seq p q, s => q.run (p.run s)
  | .dyn f, s => (f s).run s

/-- What the previous command put on the links has left. (DESIGN CHOICE, log entry 10) -/
def State.linksQuiet (s : State) : State := { s with eng := { s.eng with ring := { s.eng.ring with tx := [] } } }

/-- The outcome of a command whose effect is `p`. -/
def done (p : Prog) (s : State) : Host.Outcome State Fault Refusal := .next (p.run s.linksQuiet)

/-- The parts in order. -/
def blk : List Prog → Prog
  | [] => .skip
  | p :: ps => .seq p (blk ps)

/-- `f 0`, …, `f (n - 1)` in order. -/
def upTo (n : Nat) (f : Nat → Prog) : Prog := blk ((List.range n).map f)

/-- `f x` for each `x` of the list, in order. -/
def forEach {α : Type} (l : List α) (f : α → Prog) : Prog := blk (l.map f)

def whenB (c : Bool) (p : Prog) : Prog := if c then p else .skip

/-- `p` where the state satisfies `c`. -/
def whenS (c : State → Bool) (p : Prog) : Prog := .dyn fun s => if c s then p else .skip

/-- `p` where the state satisfies `c`, else `q`. -/
def ifS (c : State → Bool) (p q : Prog) : Prog := .dyn fun s => if c s then p else q

/-! ### Registers and fields -/

/-- The register at local address `a` (R65): the active value, and for an SHD register the latest result. -/
def State.reg (s : State) (a : Nat) : Word := look regReset s.regs a

def State.shd (s : State) (a : Nat) : Word := look regReset s.shadow a

def State.stg (s : State) (a : Nat) : Word := look regReset s.staged a

/-- Bits `[lo + wd - 1 : lo]` of a word. -/
def getBits (w : Word) (lo wd : Nat) : Nat := w.toNat / 2 ^ lo % 2 ^ wd

/-- `w` with bits `[lo + wd - 1 : lo]` replaced by `v`. -/
def putBits (w : Word) (lo wd v : Nat) : Word :=
  BitVec.ofNat 32 (w.toNat - getBits w lo wd * 2 ^ lo + v % 2 ^ wd * 2 ^ lo)

/-- Field `x` of the state's registers. -/
def State.f (s : State) (x : Fld) : Nat := getBits (s.reg x.reg) x.lo x.wd

/-- Field `x`, read as a flag. -/
def State.b (s : State) (x : Fld) : Bool := s.f x == 1

/-- Field `x`, read as two's complement. -/
def State.i (s : State) (x : Fld) : Int := signed x.wd (s.f x)

/-- Field `x` of the word `w`. -/
def Fld.of (x : Fld) (w : Word) : Nat := getBits w x.lo x.wd

def setReg (a : Nat) (v : Nat) : Prog := .act (.reg a (BitVec.ofNat 32 v))

/-- Field `x` takes the value `v` (modulo its width). -/
def set (x : Fld) (v : Nat) : Prog := .dyn fun s => .act (.reg x.reg (putBits (s.reg x.reg) x.lo x.wd v))

def setB (x : Fld) (b : Bool) : Prog := set x (b2n b)

/-- Field `x` takes a signed value, brought into the field's range. (DEDUCED, log entry 58) -/
def setI (x : Fld) (v : Int) : Prog := set x (unsigned x.wd (clampInt (-2 ^ (x.wd - 1)) (2 ^ (x.wd - 1) - 1) v))

/-- Field `x` takes `v`, or its largest value where `v` does not fit. (DEDUCED, log entry 58) -/
def setSat (x : Fld) (v : Nat) : Prog := set x (if v < 2 ^ x.wd then v else 2 ^ x.wd - 1)

def upd (x : Fld) (g : Nat → Nat) : Prog := .dyn fun s => set x (g (s.f x))

/-- One more, saturating. -/
def incSat (x : Fld) : Prog := upd x (satInc x.wd)

def addSat (x : Fld) (n : Nat) : Prog := .dyn fun s => setSat x (s.f x + n)

/-- One more, wrapping. -/
def incWrap (x : Fld) : Prog := upd x (· + 1)

/-- Bit `n` of field `x`. -/
def Fld.bit (x : Fld) (n : Nat) : Fld := ⟨x.reg, x.lo + n, 1⟩

/-! ### The other stores -/

/-- The bytes of a word, little-endian (R65). -/
def State.byte (s : State) (a : Nat) : Byte := look memDefault s.mem a

def State.word (s : State) (a : Nat) : Word :=
  s.byte (a + 3) ++ s.byte (a + 2) ++ s.byte (a + 1) ++ s.byte a

/-- What a read of the word at `a` finds (R521). -/
def State.mark (s : State) (a : Nat) : Nat := look noMark s.marks (a / 4 * 4)

def setMark (a f : Nat) : Prog := .act (.mark (a / 4 * 4) f)

def setByte (a : Nat) (b : Byte) : Prog := .act (.byte a b)

def setWord (a : Nat) (w : Word) : Prog :=
  upTo 4 fun i => setByte (a + i) (BitVec.ofNat 8 (getBits w (8 * i) 8))

def setWordN (a v : Nat) : Prog := setWord a (BitVec.ofNat 32 v)

def State.otpRow (s : State) (r : Nat) : Word := look otpDefault s.otp r

def burn (row w : Nat) : Prog := .act (.burn row (BitVec.ofNat 32 w))

def eng (g : Engines → Engines) : Prog := .act (.eng g)

/-- An open value (notes/assumptions/1.md). (DESIGN CHOICE, log entry 1) -/
def withFree (k : Nat → Prog) : Prog := .dyn fun s => .seq (.act .draw) (k (Config.freeNat s.free))

def setOutc (o : Outc) : Prog := .act (.outc o)

/-! ### Role, time and epoch -/

/-- The manager role (R1, R71). -/
def State.isMgr (s : State) : Bool := s.f IDENT_ROLE_ROLE == 2

def State.isWrk (s : State) : Bool := s.f IDENT_ROLE_ROLE == 1

/-- The cells that count as present (R221): every one while undeclared; none in the manager role. -/
def State.cells (s : State) : Nat :=
  if s.isMgr then 0 else if s.f AFE_CFG_NCELL == 0 then 24 else s.f AFE_CFG_NCELL

/-- The epoch count (R363), 48 bits. -/
def State.epoch (s : State) : Nat := s.eng.epoch.count

/-- Epoch `a` is later than epoch `b`, modulo 2^48 (R363). -/
def later (a b : Nat) : Bool :=
  let d := (a + 2 ^ 48 - b % 2 ^ 48) % 2 ^ 48
  1 ≤ d && d ≤ 2 ^ 47

/-- Page `p` exists in the present role (R12). -/
def State.present (s : State) (p : Nat) : Bool :=
  p < 0x28 &&
    !(s.isWrk && [pgCONT, pgARC, pgISO, pgROSTER, pgRACK].contains p) && !(s.isMgr && [pgCELL, pgBAL].contains p)

/-- Epoch bits [31:0] and [47:32] into a pair of fields. -/
def setEpoch (lo hi : Fld) (e : Nat) : Prog := blk [set lo (e % 2 ^ 32), set hi (e / 2 ^ 32)]

end Sys2Proof.Machine
end

