-- ==== Sys2Proof/Machine/Sha.lean ====
section
/-!
DEFINITION. SHA-256 (FIPS 180-4) and HMAC-SHA-256 (RFC 2104), which chapter 26 names, on lists of bytes.
-/
namespace Sys2Proof.Machine.Sha

def word (x : Nat) : Nat := x % 2 ^ 32

/-- A word turned right by `n` places. -/
def turn (n x : Nat) : Nat := word (x * 2 ^ (32 - n)) + x / 2 ^ n

/-- The first `n` primes below 312. -/
def primes (n : Nat) : List Nat :=
  ((List.range 312).filter fun p => 2 ≤ p && [2, 3, 5, 7, 11, 13, 17].all fun d => p % d != 0 || p == d).take n

/-- The first 32 bits of the fraction of the `k`-th root of `p`. -/
def rootFrac (k p : Nat) : Nat :=
  word ((List.range 37).foldr (fun b r => r + if (r + 2 ^ b) ^ k ≤ p * 2 ^ (32 * k) then 2 ^ b else 0) 0)

/-- The 64 round constants, from cube roots, and the start value, from square roots. -/
def constants : List Nat := (primes 64).map (rootFrac 3)
def start : List Nat := (primes 8).map (rootFrac 2)

/-- The eight working words of a block. -/
structure Mix where
  a : Nat
  b : Nat
  c : Nat
  d : Nat
  e : Nat
  f : Nat
  g : Nat
  h : Nat

def Mix.ofList (l : List Nat) : Mix :=
  ⟨l.getD 0 0, l.getD 1 0, l.getD 2 0, l.getD 3 0, l.getD 4 0, l.getD 5 0, l.getD 6 0, l.getD 7 0⟩

def Mix.toList (m : Mix) : List Nat := [m.a, m.b, m.c, m.d, m.e, m.f, m.g, m.h]

/-- One round with the constant `k` and the schedule word `w`. -/
def Mix.step (m : Mix) (k w : Nat) : Mix :=
  let choose := (m.e &&& m.f) ^^^ ((2 ^ 32 - 1 - m.e) &&& m.g)
  let most := (m.a &&& m.b) ^^^ (m.c &&& (m.a ^^^ m.b))
  let x := m.h + choose + k + w + (turn 6 m.e ^^^ turn 11 m.e ^^^ turn 25 m.e)
  let y := most + (turn 2 m.a ^^^ turn 13 m.a ^^^ turn 22 m.a)
  ⟨word (x + y), m.a, m.b, m.c, word (m.d + x), m.e, m.f, m.g⟩

/-- The schedule: from the sixteen words that stand next, the one sixteen places on. -/
def nextWord (l : List Nat) : Nat :=
  let p := l.getD 1 0
  let q := l.getD 14 0
  word (l.getD 0 0 + l.getD 9 0 + (turn 7 p ^^^ turn 18 p ^^^ p / 2 ^ 3) + (turn 17 q ^^^ turn 19 q ^^^ q / 2 ^ 10))

/-- The rounds over the constants that are left, with the sixteen schedule words that stand next. -/
def rounds : List Nat → List Nat → Mix → Mix
  | [], _, m => m
  | k :: ks, l, m => rounds ks (l.drop 1 ++ [nextWord l]) (m.step k (l.getD 0 0))

/-- The running value `v` after a block of sixteen words. -/
def absorb (v l : List Nat) : List Nat :=
  List.zipWith (fun x y => word (x + y)) v (rounds constants l (Mix.ofList v)).toList

/-- `n` bytes of `x`, the most significant first, and the number that bytes make so. -/
def bytesOf (n x : Nat) : List Nat := (List.range n).foldr (fun i l => l ++ [x / 256 ^ i % 256]) []
def numOf (l : List Nat) : Nat := l.foldl (fun x b => 256 * x + b) 0

/-- Words of four bytes. -/
def wordsOf (l : List Nat) : List Nat := (List.range (l.length / 4)).map fun i => numOf ((l.drop (4 * i)).take 4)

/-- The message with its padding: a one bit, zeros, and the length in bits as 64 bits. -/
def padded (l : List Nat) : List Nat :=
  l ++ [128] ++ List.replicate (63 - (l.length + 8) % 64) 0 ++ bytesOf 8 (8 * l.length)

/-- The digest of a byte list: 32 bytes. -/
def sha256 (l : List Nat) : List Nat :=
  let w := wordsOf (padded l)
  ((List.range (w.length / 16)).foldl (fun v i => absorb v ((w.drop (16 * i)).take 16)) start).flatMap (bytesOf 4)

/-- HMAC under a key of at most 64 bytes. -/
def hmac (key l : List Nat) : List Nat :=
  let masked (c : Nat) := (List.range 64).map fun i => key.getD i 0 ^^^ c
  sha256 (masked 0x5C ++ sha256 (masked 0x36 ++ l))

/-- The `n` bytes of a number in the order of R65, lowest first; and the 32-bit words that bytes make up. -/
def lowBytes (n w : Nat) : List Nat := (List.range n).map fun i => w / 256 ^ i % 256
def leBytes (w : Nat) : List Nat := lowBytes 4 w
def leWords (l : List Nat) : List Nat := (List.range (l.length / 4)).map fun i => numOf ((l.drop (4 * i)).take 4).reverse

end Sys2Proof.Machine.Sha
end

