-- ==== Sys2Proof/Machine/Curve.lean ====
section
/-!
DEFINITION. ECDSA and ECDH on P-256 (FIPS 186-5, SP 800-56A, SP 800-186), which R561 and R563 name.
-/
namespace Sys2Proof.Machine.Curve

/-- The field, the order, and the coefficient b of y² = x³ - 3x + b. -/
def fieldP : Nat := 2 ^ 256 - 2 ^ 224 + 2 ^ 192 + 2 ^ 96 - 1
def order : Nat := 0xFFFFFFFF00000000FFFFFFFFFFFFFFFFBCE6FAADA7179E84F3B9CAC2FC632551
def coefB : Nat := 0x5AC635D8AA3A93E7B3EBBD55769886BC651D06B0CC53B0F63BCE3C3E27D2604B

/-- A point in Jacobian coordinates; z = 0 is the point at infinity. -/
structure Pt where
  x : Nat
  y : Nat
  z : Nat

def baseG : Pt := ⟨0x6B17D1F2E12C4247F8BCE6E563A440F277037D812DEB33A0F4A13945D898C296,
  0x4FE342E2FE1A7F9B8EE7EB4A7C0F9E162BCE33576B315ECECBB6406837BF51F5, 1⟩

def mulP (a b : Nat) : Nat := a * b % fieldP
def subP (a b : Nat) : Nat := (a + (fieldP - b % fieldP)) % fieldP

/-- `b` to the power `e` below 2^n, modulo `m`. -/
def power (m b e : Nat) : Nat → Nat
  | 0 => 1
  | n + 1 => let r := power m b (e / 2) n; if e % 2 == 1 then r * r % m * b % m else r * r % m

/-- The inverse modulo a prime. -/
def inverse (m a : Nat) : Nat := power m a (m - 2) 256

def twice (p : Pt) : Pt :=
  let zz := mulP p.z p.z
  let m := mulP 3 (mulP (subP p.x zz) (p.x + zz))
  let yy := mulP p.y p.y
  let s := mulP 4 (mulP p.x yy)
  let x := subP (mulP m m) (2 * s)
  ⟨x, subP (mulP m (subP s x)) (8 * mulP yy yy), mulP 2 (mulP p.y p.z)⟩

def plus (p q : Pt) : Pt :=
  if p.z == 0 then q else if q.z == 0 then p
  else
    let pz := mulP p.z p.z
    let qz := mulP q.z q.z
    let u := mulP p.x qz
    let h := subP (mulP q.x pz) u
    let v := mulP p.y (mulP qz q.z)
    let r := subP (mulP q.y (mulP pz p.z)) v
    if h == 0 then (if r == 0 then twice p else ⟨1, 1, 0⟩)
    else
      let hh := mulP h h
      let hhh := mulP h hh
      let w := mulP u hh
      let x := subP (mulP r r) (hhh + 2 * w)
      ⟨x, subP (mulP r (subP w x)) (mulP v hhh), mulP h (mulP p.z q.z)⟩

/-- `k` below 2^n times a point. -/
def mult (p : Pt) (k : Nat) : Nat → Pt
  | 0 => ⟨1, 1, 0⟩
  | n + 1 => let d := twice (mult p (k / 2) n); if k % 2 == 1 then plus d p else d

/-- The affine coordinates of a point; none at infinity. -/
def affine (p : Pt) : Option (Nat × Nat) :=
  if p.z == 0 then none
  else let i := inverse fieldP p.z; some (mulP p.x (mulP i i), mulP p.y (mulP i (mulP i i)))

/-- A public key is a point of the curve (SP 800-56A). -/
def onCurve (x y : Nat) : Bool :=
  x < fieldP && y < fieldP && mulP y y == (mulP x (mulP x x) + mulP (fieldP - 3) x + coefB) % fieldP

/-- The public key of a private one. -/
def publicOf (d : Nat) : Nat × Nat := (affine (mult baseG d 256)).getD (0, 0)

/-- The shared x-coordinate of a private key and a public one. -/
def shared (d x y : Nat) : Option Nat := if onCurve x y then (affine (mult ⟨x, y, 1⟩ d 256)).map Prod.fst else none

/-- The signature (r, s) of a digest under a public key verifies. -/
def verify (x y digest r s : Nat) : Bool :=
  let w := inverse order s
  onCurve x y && 1 ≤ r && r < order && 1 ≤ s && s < order &&
    (match affine (plus (mult baseG (digest * w % order) 256) (mult ⟨x, y, 1⟩ (r * w % order) 256)) with
      | some (u, _) => u % order == r
      | none => false)

end Sys2Proof.Machine.Curve
end

