-- ==== Sys2Proof/Machine/Array.lean ====
section
/-!
DEFINITION. The one-time-programmable array as it is read (25_otp.md, R539, R543), its redirection entries, and what the ciphers take from it and
from the device's identity.
-/
namespace Sys2Proof.Machine

/-- Where copy `c` of redirection entry `e` lies in the model's array of rows. (DEDUCED, log entry 54) -/
def redirAt (e c : Nat) : Nat := 0x410 + 3 * e + c

/-- Entry `e` by bitwise majority of its three copies. (DEDUCED, log entry 54) -/
def State.redirWord (s : State) (e : Nat) : Word :=
  let x := s.otpRow (redirAt e 0)
  let y := s.otpRow (redirAt e 1)
  let z := s.otpRow (redirAt e 2)
  (x &&& y) ||| (x &&& z) ||| (y &&& z)

def State.redirCorr (s : State) (e : Nat) : Bool :=
  s.otpRow (redirAt e 0) != s.otpRow (redirAt e 1) || s.otpRow (redirAt e 0) != s.otpRow (redirAt e 2)

def State.redirValid (s : State) (e : Nat) : Bool := getBits (s.redirWord e) 31 1 == 1

/-- The physical row that row `r` is read from: the highest valid entry that names it applies. (DEDUCED, log entry 54) -/
def State.rowAtHand (s : State) (r : Nat) : Nat :=
  match (List.range 16).reverse.find? fun e => r < 0x400 && s.redirValid e && getBits (s.redirWord e) 0 10 == r with
  | some e => 0x400 + e
  | none => r

/-- Row `r` as read at the NORMAL reference. -/
def State.otpRead (s : State) (r : Nat) : Nat := (s.otpRow (s.rowAtHand r)).toNat

/-- Eight rows as 32 bytes. -/
def State.rowBytes (s : State) (row : Nat) : List Nat := (List.range 8).flatMap fun j => Sha.leBytes (s.otpRead (row + j))

/-- The lifecycle state: 0 BLANK, 1 PROVISIONED, 2 FIELD, 3 RETURNED, 4 DECOMMISSIONED (R550). -/
def State.lc (s : State) : Nat := s.f SEC_STATUS_LC

/-- IDENT_UID_LO and IDENT_UID_HI in R65 order. -/
def State.uidBytes (s : State) : List Nat := Sha.leBytes (s.reg IDENT_UID_LO).toNat ++ Sha.leBytes (s.reg IDENT_UID_HI).toNat

/-- The ring pairing key (R552, R566): zero where region 7 is not used, none where it is unusable. -/
def State.pairKey (s : State) : Option (List Nat) :=
  let valid := s.f (OTP_REGION_STATE 7) == 1
  match s.lc with
  | 0 | 3 => some (List.replicate 32 0)
  | 1 => some (if valid then s.rowBytes 0x390 else List.replicate 32 0)
  | 2 => if valid then some (s.rowBytes 0x390) else none
  | _ => none

end Sys2Proof.Machine
end

