-- ==== Sys2Proof/Machine/Fixed.lean ====
section
/-!
DEFINITION. The elementary functions of which the rules need values, in fixed point with 80 fraction bits (R230, R296, R307, R313, R319).
(DEDUCED, log entry 12)
-/
namespace Sys2Proof.Machine

/-- The number 1. -/
def fxOne : Int := 2 ^ 80

def fxMul (a b : Int) : Int := a * b / fxOne

def fxDiv (a b : Int) : Int := a * fxOne / b

def fxOf (x : Rat) : Int := x.num * fxOne / (x.den : Int)

def fxRat (a : Int) : Rat := (a : Rat) / (fxOne : Rat)

/-- The sum of `n` terms: `t` is the term at index `i`, and `next` makes each term from the one before. -/
def fxSeries (next : Nat → Int → Int) : Nat → Nat → Int → Int
  | 0, _, _ => 0
  | n + 1, i, t => t + fxSeries next n (i + 1) (next i t)

/-- 2 artanh z for |z| ≤ 1/3: twice the sum of z^(2i+1) / (2i+1). -/
def fxArtanh2 (z : Int) : Int :=
  2 * ((List.range 40).foldl (fun (a : Int × Int) i => (a.1 + a.2 / (2 * i + 1 : Nat), fxMul a.2 (fxMul z z))) (0, z)).1

def fxLn2 : Int := fxArtanh2 (fxOne / 3)

/-- The natural logarithm of `n / d`, both positive. -/
def fxLn (n d : Nat) : Int :=
  let k : Int := (Nat.log2 n : Int) - (Nat.log2 d : Int)
  let m : Int := if 0 ≤ k then n * fxOne / (d * 2 ^ k.toNat) else n * 2 ^ (-k).toNat * fxOne / d
  k * fxLn2 + fxArtanh2 (fxDiv (m - fxOne) (m + fxOne))

/-- The exponential function; below -200 its value is less than the last fraction bit. -/
def expOf (x : Rat) : Rat :=
  if x < -200 then 0
  else
    let k : Int := (x / fxRat fxLn2).floor
    let r := fxOf x - k * fxLn2
    let y := fxRat (fxSeries (fun i t => fxMul t r / (i + 1 : Nat)) 40 0 fxOne)
    if 0 ≤ k then y * (2 ^ k.toNat : Nat) else y / (2 ^ (-k).toNat : Nat)

/-- The arc tangent of `t`, 0 ≤ t ≤ 1 (Euler's series). -/
def fxAtan (t : Int) : Int :=
  let q := fxOne + fxMul t t
  fxSeries (fun i x => fxDiv (fxMul x (fxMul t t)) q * (2 * (i + 1) : Nat) / (2 * i + 3 : Nat)) 100 0 (fxDiv t q)

def fxPi : Int := 4 * fxAtan fxOne

/-- The angle of (re, im) in 0.01°, over -180° to +180° (R307); the argument of 0 is not stated. -/
def phaseOf (im re : Int) : Int :=
  if im == 0 && re == 0 then Config.phaseOfZero
  else
    let a : Int := im.natAbs
    let b : Int := re.natAbs
    let t := if a ≤ b then fxAtan (fxDiv a b) else fxPi / 2 - fxAtan (fxDiv b a)
    let u := if re < 0 then fxPi - t else t
    rndDiv (18000 * if im < 0 then -u else u) fxPi.toNat

/-- Cosine and sine of an angle within ±π. -/
def fxCis (x : Int) : Int × Int :=
  let q := -(fxMul x x)
  (fxSeries (fun i t => fxMul t q / ((2 * i + 1) * (2 * i + 2) : Nat)) 40 0 fxOne,
    fxSeries (fun i t => fxMul t q / ((2 * i + 2) * (2 * i + 3) : Nat)) 40 0 x)

/-- The angle `n / d` of a full turn, within ±π. -/
def fxTurn (n : Int) (d : Nat) : Int :=
  let m := n % (d : Int)
  2 * fxPi * (if 2 * m ≤ d then m else m - d) / d

/-- Square root, by its bits from bit `k - 1` down. -/
def isqrtGo (x : Nat) : Nat → Nat → Nat
  | 0, r => r
  | k + 1, r => isqrtGo x k (if (r + 2 ^ k) * (r + 2 ^ k) ≤ x then r + 2 ^ k else r)

def fxSqrt (n d : Nat) : Int := isqrtGo (n * 2 ^ 160 / d) 128 0

end Sys2Proof.Machine
end

