-- ==== Sys2Proof/Machine/Crc.lean ====
section
/-!
DEFINITION. CRC-32 of R330: IEEE 802.3 polynomial, initial value 0xFFFF_FFFF, final complement, words in the byte order of R65.
-/
namespace Sys2Proof.Machine

/-- One bit of the reflected register. -/
def crcBit (r : Nat) : Nat := if r % 2 == 1 then (r / 2) ^^^ 0xEDB88320 else r / 2

def crcBits : Nat → Nat → Nat
  | 0, r => r
  | n + 1, r => crcBits n (crcBit r)

/-- A 32-bit word, least significant byte first. -/
def crcWord (r w : Nat) : Nat := crcBits 32 (r ^^^ w)

/-- The CRC-32 over a list of words. -/
def crc32 (l : List Nat) : Nat := 0xFFFFFFFF - l.foldl crcWord 0xFFFFFFFF

end Sys2Proof.Machine
end

