-- ==== Sys2Proof/Machine/Mode.lean ====
section
/-!
DEFINITION. The mode controller (04_operating_modes.md): floors (R80, R81), the meeting of latency tolerances and the
selection (R77-R79), the target (R83, R87), the starting and abandoning of transitions (R84, R85), wake events (R87),
and the setting of event flags with their wake marking (R52, R53).
-/
namespace Sys2Proof.Machine

def modeEng (g : ModeEng → ModeEng) : Prog := eng fun e => { e with mode := g e.mode }

/-- MODE_CUR.MODE: 0 SHELF, 1 DORMANT, 2 WATCH, 3 ATTEND, 4 RUN, 5 SERVICE, 6 SAFEHOLD, 7 FACTORY (R73). -/
def State.mode (s : State) : Nat := s.f MODE_CUR_MODE

/-- The cores have been released at the end of bring-up (R104). -/
def State.released (s : State) : Bool := s.f RST_BOOT_STEP == 8

def State.inTransition (s : State) : Bool := s.b MODE_STATUS_ASCENDING || s.b MODE_STATUS_DESCENDING

/-- The mode a command is judged against: the lower of the two while a transition is in progress (R89). -/
def State.judgedMode (s : State) : Nat :=
  if s.inTransition then min s.mode (s.f MODE_STATUS_ENTERING) else s.mode

/-! ### Floors -/

/-- Any contactor commanded closed or sensed closed, or a pre-charge running (R80, R207). -/
def State.contClosed (s : State) : Bool :=
  s.isMgr && (s.f CONT_STATUS_CMD != 0 || s.f CONT_STATUS_SENSED % 4 != 0 || s.f CONT_STATUS_STATE == 2)

/-- The backup charger is in a charging phase, DETECT to TOPOFF (R80, R196). -/
def State.charging (s : State) : Bool := 1 ≤ s.f CHG_STATUS_PHASE && s.f CHG_STATUS_PHASE ≤ 5

/-- The local floor (R80). -/
def State.floorLocal (s : State) : Nat :=
  if s.contClosed && s.b ARC_CTRL_EN then 4
  else if s.contClosed then 3
  else if s.isMgr && s.b MODE_FLOOR_CUR_ABOVE then 3
  else if s.charging then 2
  else 0

/-! ### Latency tolerances -/

def capLat (n : Nat) : Nat := min n 0xFFFFFFFE

/-- The offered latency of class `n` in mode `m` (R78); `none` where the class is not offered. -/
def offered (m n a d : Nat) : Option Nat :=
  match n, m with
  | 0, 0 => some 120010 | 0, 1 => some 18010 | 0, 2 => some 1510 | 0, _ => some 10
  | 1, 0 => none | 1, 1 => some (capLat (d + 18050 + a)) | 1, 2 => some 100050 | 1, 3 => some (a + 50) | 1, _ => some 51
  | 2, 0 => some 121000 | 2, 1 => some 19000 | 2, 2 => some 2500 | 2, _ => some 1000
  | 3, 0 => some 121000 | 3, 1 => some 19000 | 3, 2 => some 2500 | 3, _ => some 1000
  | 4, 0 => some 121040 | 4, 1 => some 19040 | 4, 2 => some 2540 | 4, 3 => some 1040 | 4, _ => some 1000
  | 5, 0 => some 122040 | 5, 1 => some 20040 | 5, 2 => some 3540 | 5, 3 => some 2040 | 5, _ => some 2000
  | 6, 0 => some 120100 | 6, 1 => some 18100 | 6, 2 => some 1600 | 6, _ => some 100
  | _, 0 => some 121000 | _, 1 => some 19000 | _, 2 => some 2500 | _, _ => some 1000

/-- Mode `m` meets class `n` (R78): equality meets, and 0xFFFF_FFFF is met by every mode (R77). -/
def State.meets (s : State) (m n : Nat) : Bool :=
  let tol := (s.reg (MODE_LTOL n)).toNat
  tol == 0xFFFFFFFF ||
    match offered m n (s.f MODE_ATT_PER_PER) (s.f MODE_DORM_PER_SEC * 1000000) with
    | some l => l ≤ tol
    | none => false

/-- Bit `n` set for each class that mode `m` does not meet. -/
def State.unmetMap (s : State) (m : Nat) : Nat :=
  (List.range 8).foldl (fun acc n => if s.meets m n then acc else acc + 2 ^ n) 0

def State.meetsAll (s : State) (m : Nat) : Bool := s.unmetMap m == 0

/-- SHELF counts only with SHELF_EN (R79). -/
def State.selectable (s : State) (m : Nat) : Bool := m != 0 || s.b MODE_CFG_SHELF_EN

/-- The lowest mode that meets all eight classes, if one does (R79). -/
def State.cand? (s : State) : Option Nat :=
  (List.range 5).find? fun m => s.selectable m && s.meetsAll m

def State.cand (s : State) : Nat := s.cand?.getD 4

/-- The nearest selectable mode below `m`, if there is one. -/
def State.below (s : State) (m : Nat) : Option Nat :=
  (List.range m).reverse.find? fun k => s.selectable k

/-! ### Events and wake events -/

/-- Bit `x` of an EVT_RAW register is set (R52); where EVT_ROUTE marks it the mode controller holds a wake request (R53,
R87).  Used by the mode controller itself; every other block uses `event`. -/
def eventQ (x : Fld) : Prog :=
  blk [set x 1,
    whenS (fun s => s.b ⟨x.reg + 8, x.lo, 1⟩)
      (blk [set MODE_WAKE_SRC_EVENT 1, set MODE_EVT_RAW_WAKE 1,
        whenS (fun s => s.mode ≤ 4) (modeEng fun m => { m with wakeHold := true })])]

/-! ### Target and transitions -/

/-- The floors' registers (R80, R81, R92); FLOOR_RAISED when the effective floor rises. -/
def modeFloor : Prog := .dyn fun s =>
  let loc := s.floorLocal
  let eff := if s.isWrk then max loc (s.f MODE_FLOOR_RACK) else loc
  let old := s.f MODE_FLOOR_EFF
  blk [set MODE_FLOOR_LOCAL loc,
    whenB s.isMgr (set MODE_FLOOR_RACK loc),
    setB MODE_FLOOR_CONT_CLOSED (if s.isMgr then s.contClosed else s.isWrk && !s.eng.mode.rackOpen),
    setB MODE_FLOOR_ARC_CLOSED (s.contClosed && s.b ARC_CTRL_EN),
    setB MODE_FLOOR_PEND_CHG s.charging,
    set MODE_FLOOR_EFF eff,
    whenB (old < eff) (eventQ MODE_EVT_RAW_FLOOR_RAISED)]

/-- Selection under R79 while TARGET = AUTO, with UNMET and MODE_LIMIT; while TARGET is pinned they keep what the last selection left.
(DEDUCED, log entry 103) -/
def modeSelect : Prog := .dyn fun s =>
  blk [setB MODE_STATUS_PINNED (s.f MODE_REQ_TARGET != 15),
    whenB (s.f MODE_REQ_TARGET == 15)
      (blk [whenB (s.cand?.isNone && !s.b MODE_STATUS_UNMET) (eventQ MODE_EVT_RAW_UNMET),
        setB MODE_STATUS_UNMET s.cand?.isNone,
        set MODE_LIMIT_UNMET (s.unmetMap 4),
        set MODE_LIMIT_BOUND (match s.below s.cand with | some m => s.unmetMap m | none => 0)])]

/-- What the host's request or the selection asks for, before the floor (R79, R83): SERVICE and FACTORY are entered from ATTEND or
above, so that a request for them meanwhile holds the mode, or asks for ATTEND from below it; a SAFEHOLD request waits for the collector.
(DEDUCED, log entry 31) -/
def State.asked (s : State) : Nat :=
  let t := s.f MODE_REQ_TARGET
  if t ≤ 4 then t else if t == 6 then s.mode else if t == 15 then s.cand else max 3 s.mode

/-- The target (R79, R83), held at ATTEND or above after a wake event in modes 0 to 4 (R87). -/
def State.target (s : State) : Nat :=
  let t := max s.asked (s.f MODE_FLOOR_EFF)
  if s.eng.mode.wakeHold && s.mode ≤ 4 then max t 3 else t

/-- The oscillator starts, with the main PLL on the HFRC until it locks (R591), and the fill of what DORMANT does not retain (R525). -/
def rootStart : Prog := .dyn fun s =>
  whenB (!s.eng.clk.startWait && !s.b CLK_STATUS_MPLL_LOCK)
    (blk [set CLK_STATUS_ROOT_RC 1, set MEM_STATUS_FILLING 1,
      eng fun e => { e with
        clk := { e.clk with startWait := true }
        boot := { e.boot with fillAt := s.now } }])

/-- An ascent out of DORMANT starts the root and the fill. (DEDUCED, log entry 51) -/
def dormantUp : Prog := whenS (fun s => s.mode == 1) rootStart

/-- A transition towards mode `m` starts: `up` says whether it ascends. -/
def startTrans (m : Nat) (up : Bool) (cause : Nat) : Prog :=
  blk [setB MODE_STATUS_ASCENDING up, setB MODE_STATUS_DESCENDING (!up), set MODE_STATUS_ENTERING m,
    modeEng fun e => { e with cause := cause }, whenB (up && 2 ≤ m) dormantUp]

/-- Compare the target with the mode in force (R84, R85): an ascent starts at once, a rise of the target during a descent
abandons it, and in SERVICE a TARGET other than 5 ends SERVICE. (DEDUCED, log entries 31, 33) -/
def modeMove (cause : Nat) : Prog := .dyn fun s =>
  let t := s.target
  let cur := s.mode
  let ent := s.f MODE_STATUS_ENTERING
  let req := s.f MODE_REQ_TARGET
  if !s.released || 6 ≤ cur then .skip
  else if !s.inTransition && 3 ≤ cur && ((req == 5 && cur != 5) || req == 7) then startTrans req true cause
  else if cur == 5 && !s.inTransition then whenB (req < 5 || 7 < req) (startTrans t (3 ≤ t) cause)
  else if s.inTransition && 5 ≤ ent then .skip
  else if s.b MODE_STATUS_DESCENDING then
    if ent < t then
      blk [eventQ MODE_EVT_RAW_DESCENT_ABORT, startTrans cur true cause, modeEng fun e => { e with aborted := true, check := 0 }]
    else .skip
  else if s.b MODE_STATUS_ASCENDING then
    whenB (ent < t) (blk [startTrans t true cause, modeEng fun e => { e with aborted := false, check := 0 }])
  else whenB (cur < t) (startTrans t true cause)

/-- FLOOR_HELD and the record of the target; a new target restarts the dwell, whose cause is the change's. -/
def modeTarget (cause : Nat) : Prog := .dyn fun s =>
  blk [setB MODE_STATUS_FLOOR_HELD (s.asked < s.f MODE_FLOOR_EFF),
    whenB (s.eng.mode.target != s.target)
      (modeEng fun e => { e with target := s.target, cause := if s.inTransition then e.cause else cause })]

/-- The cause of a movement (R95): a floor that rose to the target, and otherwise `c`; a floor's rise explains no descent, which the
request or the selection then does. -/
def State.moveCause (s : State) (rose : Bool) (c : Nat) : Nat :=
  if rose && s.f MODE_FLOOR_EFF == s.target then 2
  else if c == 2 && s.target ≤ s.mode then b2n (s.f MODE_REQ_TARGET != 15) else c

/-- The evaluation after any change of a tolerance, a period, MODE_CFG, the request or a floor (R79, R84).
`cause` is MODE_LAST_TRANS.CAUSE for a transition that starts now (R95). -/
def modeEval (cause : Nat) : Prog :=
  .dyn fun s0 => blk [modeFloor, modeSelect, .dyn fun s =>
    let c := s.moveCause (s0.f MODE_FLOOR_EFF < s.f MODE_FLOOR_EFF) cause
    .seq (modeTarget c) (modeMove c)]

/-- A wake event (R87): recorded in MODE_WAKE_SRC bit `src`, WAKE set, and in modes 0 to 4 the target held at ATTEND or above. -/
def wake (src : Fld) : Prog :=
  blk [set src 1, eventQ MODE_EVT_RAW_WAKE,
    whenS (fun s => s.mode ≤ 4) (blk [modeEng fun m => { m with wakeHold := true }, modeEval 3])]

/-- A block's event: its EVT_RAW bit is set (R52), and a bit marked by EVT_ROUTE is a wake event (R53, R87). -/
def event (x : Fld) : Prog :=
  blk [set x 1, whenS (fun s => s.b ⟨x.reg + 8, x.lo, 1⟩) (wake MODE_WAKE_SRC_EVENT)]

end Sys2Proof.Machine
end

