-- ==== Sys2Proof/Machine/Flags.lean ====
section
/-!
DEFINITION. Fault messages (R463, R464), first-fault records, the outcomes of accesses and their reports (R62, R63), and the
acceptance of commands by mode with the record of a refusal (R88, R89).
-/
namespace Sys2Proof.Machine

def fltEng (g : FltEng → FltEng) : Prog := eng fun e => { e with flt := g e.flt }

/-- Event `k` of a register whose EVT_RAW bits are one vector field. -/
def eventAt (x : Fld) (k : Nat) : Prog := event (x.bit k)

/-- Messages the page holds for the collector (R464). -/
def State.heldBy (s : State) (pg : Nat) : Nat := (s.eng.flt.held.filter fun m => m.src == pg).length

/-- A message arises: its page holds it, or, with four held already, it is discarded and counted (R464). -/
def sendMsg (m : Msg) : Prog :=
  ifS (fun s => s.heldBy m.src < 4) (fltEng fun e => { e with held := e.held ++ [m] })
    (blk [incSat FLT_CNT_DROPS, eventAt FLT_EVT_RAW_EVENTS 7])

def send (pg inst kind detail : Nat) : Prog := sendMsg ⟨pg, inst, kind, detail, false⟩

/-- A first-fault record: while VALID is 0 the fields are written and VALID becomes 1. -/
def firstRec (valid : Fld) (fields : List (Fld × Nat)) : Prog :=
  whenS (fun s => !s.b valid) (blk [forEach fields (fun p => set p.1 p.2), set valid 1])

/-! ### Outcomes -/

/-- R64: the rank of an outcome, lowest first. -/
def Outc.rank : Outc → Nat
  | .ok => 0 | .refusedState => 1 | .roWrite => 2 | .keyErr => 3 | .locked => 4 | .poison => 5 | .denied => 6 | .addrErr => 7

/-- The outcome a transaction reports for two of its words (R64). -/
def Outc.worst (a b : Outc) : Outc := if a.rank < b.rank then b else a

/-- The access-error kind of an outcome and the FLT_CFG bit that enables its report (R62, R465). -/
def Outc.report : Outc → Option (Nat × Nat)
  | .poison => some (0x3C, 3) | .keyErr => some (0x3E, 2) | .locked => some (0x3D, 1) | .roWrite => some (0x3F, 0)
  | _ => none

/-- The word at local address `a` completes with outcome `o`, which the page reports if its FLT_CFG says so (R62). -/
def complete (a : Nat) (o : Outc) : Prog :=
  .seq (setOutc o) (match o.report with
    | some (kind, bit) => whenS (fun s => s.b ⟨pageOf a * 0x1000 + 0x02C, bit, 1⟩) (send (pageOf a) 0 kind (offOf a / 4))
    | none => .skip)

/-- The classes of R88, rows counted from 0 at the top; bit m of the value: accepted in mode m. -/
def acceptMap : Nat → Nat
  | 0 => 0b10111100 -- mode request (SAFEHOLD judged by R83)
  | 1 => 0b10011000 -- contactor close, pre-charge start
  | 2 => 0b11111000 -- contactor open
  | 3 => 0b10111000 -- balancing start and targets
  | 4 => 0b10110000 -- impedance sweep start
  | 5 => 0b10110000 -- capture arm, stream export
  | 6 => 0b10100000 -- calibration, trim, OTP programming
  | 7 => 0b10111000 -- staged commit prepare
  | 8 => 0b10101000 -- ring enumeration
  | 9 => 0b11000000 -- fault release
  | 10 => 0b10111000 -- rail on
  | 11 => 0b11111000 -- rail off
  | 12 => 0b11111000 -- charger control
  | _ => 0

/-- Is a command of class `c` accepted in the mode it is judged against (R88, R89)? -/
def State.accepts (s : State) (c : Nat) : Bool := bitOf (acceptMap c) s.judgedMode

/-- A command at local address `a` of class `c` is refused (R89). -/
def refuse (a c : Nat) : Prog := .dyn fun s =>
  blk [setOutc .refusedState, incSat MODE_REFUSE_CNT_COUNT,
    set MODE_REFUSE_LAST_MODE s.judgedMode, set MODE_REFUSE_LAST_PAGE (pageOf a), set MODE_REFUSE_LAST_CLASS c,
    set MODE_REFUSE_LAST_WORD (offOf a / 4), event MODE_EVT_RAW_REFUSED]

/-- A command of class `c` at local address `a`: `p` where the mode accepts it, else refused. -/
def accepted (a c : Nat) (p : Prog) : Prog := ifS (fun s => s.accepts c) (.seq (setOutc .ok) p) (refuse a c)

end Sys2Proof.Machine
end

