-- ==== Sys2Proof/Machine/Records.lean ====
section
/-!
DEFINITION. The record store (R526-R533): its writer and rings, and the estimator's checkpoints (R328-R330).
-/
namespace Sys2Proof.Machine

def recEng (g : RecEng → RecEng) : Prog := eng fun e => { e with recs := g e.recs }

def recEvent (k : Nat) : Prog := event (REC_EVT_RAW_EVENTS.bit k)

/-- The window of the record store (R30). -/
def recBase : Nat := 0x30000000

def State.recWord (s : State) (off : Nat) : Nat := (s.word (recBase + off)).toNat

def writeWords (off : Nat) (l : List Nat) : Prog := forEach l.zipIdx fun x => setWordN (recBase + off + 4 * x.2) x.1

/-- Records waiting (R528). -/
def State.recWaiting (s : State) : Nat := (s.eng.recs.queue.filter fun j => j.kind != 2).length

def recShow : Prog := .dyn fun s =>
  .seq (set REC_STATUS_QUEUE s.recWaiting) (set REC_STATUS_WRITER ((s.eng.recs.cur.map RecJob.kind).getD 0))

/-- The writer, when free, takes the waiting work: thermal, checkpoint, event (R528). -/
def recStart : Prog := .dyn fun s =>
  let q := s.eng.recs.queue
  let pick (k : Nat) : Option RecJob := q.find? fun j => j.kind == k
  .seq (match s.eng.recs.cur, (pick 1 <|> pick 2 <|> pick 3) with
    | none, some j => recEng fun e => { e with cur := some j, queue := q.erase j }
    | _, _ => .skip) recShow

/-- A record arrives (R528): dropped while 8 wait; the first drop after a second without one is reported. -/
def recArrive (j : RecJob) : Prog := .dyn fun s =>
  if j.kind != 2 && 8 ≤ s.recWaiting then
    let first : Bool := match s.eng.recs.lastDrop with | some t => t + 1000000 ≤ s.now | none => true
    blk [incSat REC_CNT_DROPS, recEvent 2, recEng fun e => { e with lastDrop := some s.now }, whenB first (send pgREC 0 1 0)]
  else .seq (recEng fun e => { e with queue := e.queue ++ [j] }) recStart

/-- Words 2 to 7 that event and thermal records share (R529), from word 1 and the upper half of word 2. -/
def State.recTail (s : State) (w1 hi : Nat) : List Nat :=
  let l := [w1, hi + s.epoch / 2 ^ 32, s.epoch % 2 ^ 32, s.f RTC_SEC_SEC, (s.reg RST_CNT).toNat, 0]
  l ++ [crc32 l]

/-- An event record (R529): the message, ESC, INJ and the final severity. -/
def recMessage (msg : Nat) (esc inj : Bool) (sev : Nat) : Prog := .dyn fun s =>
  whenB (s.f REC_CFG_EVT_SEV ≤ sev)
    (recArrive ⟨3, 0, s.recTail msg (b2n esc * 2 ^ 31 + b2n inj * 2 ^ 30 + sev * 2 ^ 24 + s.mode * 2 ^ 20)⟩)

/-- A thermal record (R504, R529). -/
def recThermal (sensor tmax : Nat) : Prog := .dyn fun s =>
  recArrive ⟨1, 0, s.recTail (sensor * 65536 + tmax % 65536) 0⟩

/-! ### Rings (R530) -/

/-- Base, slots and TYPE of the event (3) or thermal (1) ring. -/
def ringOf (kind : Nat) : Nat × Nat × Nat := if kind == 3 then (0xC000, 256, 0xE1) else (0xE000, 128, 0x7C)

def ringNext (kind : Nat) : Fld := if kind == 3 then REC_EVT_PTR_NEXT else REC_THM_PTR_NEXT
def ringPtrSeq (kind : Nat) : Fld := if kind == 3 then REC_EVT_PTR_SEQ else REC_THM_PTR_SEQ

def State.ringSeq (s : State) (kind : Nat) : Nat := if kind == 3 then s.eng.recs.evtSeq else s.eng.recs.thmSeq

def setRingSeq (kind v : Nat) : Prog :=
  recEng fun e => if kind == 3 then { e with evtSeq := v } else { e with thmSeq := v }

/-- A slot's SEQ where it is valid (R530). -/
def State.slotSeq (s : State) (kind slot : Nat) : Option Nat :=
  let r := ringOf kind
  let w (i : Nat) : Nat := s.recWord (r.1 + 32 * slot + 4 * i)
  if w 0 / 2 ^ 24 == r.2.2 && crc32 ((List.range 6).map fun i => w (i + 1)) == w 7 then some (w 0 % 2 ^ 24) else none

/-- SEQ `a` is newer than `b` as serial numbers of `n` bits. (DEDUCED, log entry 53) -/
def newer (n a b : Nat) : Bool := a != b && (a + 2 ^ n - b % 2 ^ n) % 2 ^ n < 2 ^ (n - 1)

/-- Bring-up step 2: the ring is scanned, and NEXT and SEQ follow its newest valid slot (R530). (DEDUCED, log entry 53) -/
def ringScan (kind : Nat) : Prog := .dyn fun s =>
  let n := (ringOf kind).2.1
  let best := (List.range n).foldl (fun (b : Option (Nat × Nat)) i => match s.slotSeq kind i, b with
    | some q, some (_, q0) => if newer 24 q q0 then some (i, q) else b
    | some q, none => some (i, q)
    | none, _ => b) none
  match best with
  | some (i, q) => blk [set (ringNext kind) ((i + 1) % n), set (ringPtrSeq kind) q, setRingSeq kind ((q + 1) % 2 ^ 24)]
  | none => blk [set (ringNext kind) 0, set (ringPtrSeq kind) 0, setRingSeq kind 1]

/-- CLR_EVT, CLR_THERM (R532). -/
def ringClear (kind : Nat) : Prog :=
  let r := ringOf kind
  blk [upTo r.2.1 fun i => setWordN (recBase + r.1 + 32 * i) 0, set (ringNext kind) 0, set (ringPtrSeq kind) 0, setRingSeq kind 1]

/-! ### Checkpoint slots (R328-R330) -/

def ckptBase (slot : Nat) : Nat := 0xF000 + 0x400 * slot

def State.ckptWord (s : State) (slot i : Nat) : Nat := s.recWord (ckptBase slot + 4 * i)

/-- State of slot A (0) or B (1): 0 INVALID, 1 VALID, 2 MISMATCH (R330). -/
def State.ckptState (s : State) (slot : Nat) : Nat :=
  let w := s.ckptWord slot
  if w 0 == 0x3C1EA5D7 && crc32 ((List.range 175).map fun i => w (i + 1)) == w 176 then
    (if w 5 == (s.reg IDENT_UID_LO).toNat && w 6 == (s.reg IDENT_UID_HI).toNat && w 3 / 2 ^ 24 == s.f AFE_CFG_NCELL then 1 else 2)
  else 0

/-- SUGGEST: the newer VALID slot, A when both are equal (R330). -/
def State.ckptSuggest (s : State) : Nat :=
  let a := s.ckptState 0 == 1
  let b := s.ckptState 1 == 1
  if a && b then (if newer 32 (s.ckptWord 1 1) (s.ckptWord 0 1) then 2 else 1) else if a then 1 else if b then 2 else 0

/-- The slots are judged (R330). -/
def ckptJudge : Prog := .dyn fun s =>
  whenB (!s.isMgr)
    (blk [set EST_CKPT_A_STATE (s.ckptState 0), set EST_CKPT_B_STATE (s.ckptState 1), set EST_CKPT_SUGGEST s.ckptSuggest,
      set EST_CKPT_SEQ (if s.ckptSuggest == 0 then 0 else s.ckptWord (s.ckptSuggest - 1) 1 % 65536)])

/-- The older slot (R328): an invalid one first, A before B, else that with the older SEQ. -/
def State.ckptOlder (s : State) : Nat :=
  if s.ckptState 0 == 0 then 0 else if s.ckptState 1 == 0 then 1
  else if newer 32 (s.ckptWord 0 1) (s.ckptWord 1 1) then 1 else 0

/-- SEQ of the checkpoint to be written (R329): one more than the newer slot's, 1 where neither is valid. -/
def State.ckptSeq (s : State) : Nat :=
  let a := s.ckptState 0 != 0
  let b := s.ckptState 1 != 0
  let x := s.ckptWord 0 1
  let y := s.ckptWord 1 1
  if a && b then ((if newer 32 y x then y else x) + 1) % 2 ^ 32
  else if a then (x + 1) % 2 ^ 32 else if b then (y + 1) % 2 ^ 32 else 1

/-- A rational rounded to nearest, ties away from zero. (DESIGN CHOICE, log entry 14; DEDUCED, log entry 17) -/
def rnd (x : Rat) : Int := rndDiv x.num x.den

/-- DEDUCED, log entry 17. -/
def rndNat (x : Rat) : Nat := (rnd x).toNat

def State.estCell (s : State) (c : Nat) : EstCell := s.eng.est.cells.getD c {}

/-- The seven words of a cell, in the formats of the EST_RS registers (R329). -/
def EstCell.words (x : EstCell) : List Nat :=
  [rndNat (x.z * 100000), rndNat (x.soc * 100000), rndNat x.q, rndNat x.rser, rndNat x.rpol, rndNat x.tpol,
    unsigned 16 (rnd (x.h * 100))]

/-- Words 1 to 175 of a checkpoint (R329). -/
def State.ckptWords (s : State) : List Nat :=
  [s.ckptSeq, s.epoch % 2 ^ 32, s.f AFE_CFG_NCELL * 2 ^ 24 + s.epoch / 2 ^ 32, s.f RTC_SEC_SEC,
    (s.reg IDENT_UID_LO).toNat, (s.reg IDENT_UID_HI).toNat, 0] ++
  (List.range 24).flatMap fun c => if c < s.cells then (s.estCell c).words else List.replicate 7 0

def State.anyUnrestored (s : State) : Bool := (List.range s.cells).any fun c => (s.estCell c).unrest

/-- A checkpoint trigger (R328). -/
def ckptTrigger : Prog := .dyn fun s =>
  whenB s.isWrk
    (if s.anyUnrestored || s.b (EST_STATUS_FLAGS.bit 2) then incSat EST_CNT_CKPT_SKIPS
    else blk [set (EST_STATUS_FLAGS.bit 2) 1, recArrive ⟨2, s.ckptOlder, s.ckptWords⟩])

/-! ### Completion (R527, R528, R530, R531) -/

/-- The words of the job in the order of its writing, with their offsets; the committing word comes last. -/
def State.jobWords (s : State) (j : RecJob) : List (Nat × Nat) :=
  if j.kind == 2 then
    let b := ckptBase j.slot
    (b, 0) :: (j.words ++ [crc32 j.words]).zipIdx.map (fun x => (b + 4 * (x.2 + 1), x.1)) ++ [(b, 0x3C1EA5D7)]
  else
    let r := ringOf j.kind
    let b := r.1 + 32 * s.f (ringNext j.kind)
    (b, 0) :: j.words.zipIdx.map (fun x => (b + 4 * (x.2 + 1), x.1)) ++ [(b, r.2.2 * 2 ^ 24 + s.ringSeq j.kind)]

def writePairs (l : List (Nat × Nat)) : Prog := forEach l fun x => setWordN (recBase + x.1) x.2

/-- The record ends as a whole. -/
def recCommit (j : RecJob) : Prog := .dyn fun s =>
  blk [writePairs (s.jobWords j), incSat REC_CNT_WRITES,
    if j.kind == 2 then .skip
    else blk [set (ringPtrSeq j.kind) (s.ringSeq j.kind), set (ringNext j.kind) ((s.f (ringNext j.kind) + 1) % (ringOf j.kind).2.1),
      setRingSeq j.kind ((s.ringSeq j.kind + 1) % 2 ^ 24), recEvent (if j.kind == 3 then 0 else 1)]]

/-- Word number `k` of the job in progress, in the order of its writing, reads back wrong twice (R527): what it holds is open. -/
def recWriteErr (j : RecJob) (k : Nat) : Prog := .dyn fun s =>
  let l := s.jobWords j
  let off := ((l[k]?).map Prod.fst).getD 0
  blk [writePairs (l.take k), withFree fun v => setWordN (recBase + off) v, set REC_ERR_VALID 1, set REC_ERR_OFFSET off,
    incSat REC_CNT_WRITE_ERRS, recEvent 3, send pgREC 0 0 0]

/-- The checkpoint's end at the estimator (R328). -/
def ckptEnd (ok : Bool) : Prog :=
  blk [set (EST_STATUS_FLAGS.bit 2) 0,
    if ok then blk [incSat EST_CNT_CKPTS, event (EST_EVT_RAW_EVENTS.bit 4), ckptJudge]
    else blk [event (EST_EVT_RAW_EVENTS.bit 5), firstRec EST_FIRST_VALID [(EST_FIRST_KIND, 2), (EST_FIRST_INST, 0)], send pgEST 0 2 0]]

/-- The job in progress ends: whole, with a poisoned source (R531), or with a write error at word `k`. -/
def recEnd (ckpt : Bool) (poison : Bool) (err : Option Nat) : Prog := .dyn fun s =>
  match s.eng.recs.cur with
  | none => .skip
  | some j =>
    whenB ((j.kind == 2) == ckpt)
      (blk [if poison then recEvent 4 else match err with
          | some k => recWriteErr j (k % (s.jobWords j).length)
          | none => recCommit j,
        recEng fun e => { e with cur := none }, whenB ckpt (ckptEnd (!poison && err.isNone)), recStart])

def recordDone (poison : Bool) (err : Option Nat) : Prog := recEnd false poison err

def checkpointDone (poison : Bool) (err : Option Nat) : Prog := recEnd true poison err

/-- Power is lost while a record is being written (R527, R530): as many words as were programmed stand, an open number. (DEDUCED, log entry 52) -/
def recTorn : Prog := .dyn fun s =>
  match s.eng.recs.cur with
  | none => .skip
  | some j => .seq (withFree fun n => writePairs ((s.jobWords j).take (n % ((s.jobWords j).length + 1))))
      (recEng fun e => { e with cur := none, queue := [] })

/-- A power-on or system reset: the record in progress completes, the queue is discarded (R533). -/
def recReset : Prog := .dyn fun s =>
  .seq (match s.eng.recs.cur with | some j => recCommit j | none => .skip)
    (recEng fun e => { e with cur := none, queue := [], lastDrop := none, ces := [] })

/-- REC_CMD (R532); its session level is judged by the access (R554). -/
def recCmd (op : Nat) : Prog := if op == 1 then ringClear 3 else if op == 2 then ringClear 1 else .skip

end Sys2Proof.Machine
end

