-- ==== Sys2Proof/Machine/Shadow.lean ====
section
/-!
DEFINITION. Shadow latching (R55-R58, R372) and staging (R59-R61).
-/
namespace Sys2Proof.Machine

def hdrShadow (p : Nat) : Nat := p * 0x1000 + 0x01C
def hdrEpochLo (p : Nat) : Nat := p * 0x1000 + 0x020
def hdrEpochHi (p : Nat) : Nat := p * 0x1000 + 0x024
def hdrStage (p : Nat) : Nat := p * 0x1000 + 0x028

def shadowSrc (p : Nat) : Fld := ⟨hdrShadow p, 0, 2⟩
def shadowSeq (p : Nat) : Fld := ⟨hdrShadow p, 16, 8⟩
def shadowFrozen (p : Nat) : Fld := ⟨hdrShadow p, 31, 1⟩
def stageView (p : Nat) : Fld := ⟨hdrStage p, 0, 1⟩
def stageDirty (p : Nat) : Fld := ⟨hdrStage p, 1, 1⟩
def stageHeld (p : Nat) : Fld := ⟨hdrStage p, 2, 1⟩
def stageOutcome (p : Nat) : Fld := ⟨hdrStage p, 8, 4⟩
def stageCommits (p : Nat) : Fld := ⟨hdrStage p, 16, 8⟩

/-- The SHD registers of a page, both epoch registers among them (R57). -/
def shdAddrs (p : Nat) : List Nat := hdrEpochLo p :: hdrEpochHi p :: pageAddrs p .shd

/-- A latch (R57): every SHD register takes its latest result, and SEQ increments. (DEDUCED, log entry 36) -/
def latch (p : Nat) : Prog :=
  .seq (.dyn fun s => forEach (shdAddrs p) fun a => .act (.shd a (s.reg a))) (incWrap (shadowSeq p))

/-- A result tagged `tag` completes on page `p` (R56, R372): `w` writes it; under AUTO, unless a bracket holds the shadow,
it is latched.  A bracket waiting for an earlier epoch keeps the results that stood before. (DEDUCED, log entry 36) -/
def newResult (p tag : Nat) (w : Prog) : Prog :=
  blk [.dyn fun s =>
      whenB (s.eng.epoch.brk == 1 && bitOf s.eng.epoch.brkPages p && !later s.eng.epoch.brkE tag &&
          !(s.eng.epoch.older.any fun x => x.1 == p))
        (eng fun e => { e with epoch := { e.epoch with
          older := (p, (shdAddrs p).map fun a => (a, s.reg a)) :: e.epoch.older } }),
    w, setEpoch ⟨hdrEpochLo p, 0, 32⟩ ⟨hdrEpochHi p, 0, 16⟩ tag,
    whenS (fun s => s.f (shadowSrc p) == 0 && !s.b (shadowFrozen p)) (latch p)]

/-- The latch of a bracket (R372, R374): the most recent result tagged strictly before its epoch. (DEDUCED, log entry 36) -/
def bracketLatch (p : Nat) : Prog :=
  .seq (.dyn fun s => match s.eng.epoch.older.find? fun x => x.1 == p with
      | some x => .seq (forEach x.2 fun y => .act (.shd y.1 y.2)) (incWrap (shadowSeq p))
      | none => latch p)
    (set (shadowFrozen p) 1)

/-- SHADOW written (R55, R56): SRC first, then REQ. -/
def shadowWrite (p : Nat) (w : Word) : Prog :=
  whenB (hasShd p)
    (.seq (whenB (getBits w 0 2 < 3) (set (shadowSrc p) (getBits w 0 2)))
      (whenS (fun s => bitOf w.toNat 2 && s.f (shadowSrc p) == 1 && !s.b (shadowFrozen p)) (latch p)))

/-! ### Staging (R59-R61) -/

/-- DIRTY: a staging copy differs from its active value. -/
def stageJudge (p : Nat) : Prog := .dyn fun s =>
  setB (stageDirty p) ((pageAddrs p .stg).any fun a => s.reg a != s.stg a)

/-- An STG register written: `v` goes to the staging copy (R61). -/
def stage (a : Nat) (v : Word) : Prog := .seq (.act (.stg a v)) (stageJudge (pageOf a))

/-- Every staging copy reloaded from its active value (R59). -/
def stageDiscard (p : Nat) : Prog :=
  .seq (.dyn fun s => forEach (pageAddrs p .stg) fun a => .act (.stg a (s.reg a))) (set (stageDirty p) 0)

/-- A commit has applied (R61). -/
def stageDone (p : Nat) : Prog :=
  blk [set (stageDirty p) 0, incWrap (stageCommits p), set (stageOutcome p) 1, set (stageHeld p) 0]

/-- A commit applies (R61). -/
def stageApply (p : Nat) : Prog :=
  .seq (.dyn fun s => forEach (pageAddrs p .stg) fun a => .act (.reg a (s.stg a))) (stageDone p)

/-- STAGE written (R59); with DISCARD set while HELD the word is LOCKED before it comes here (R61, R63). -/
def stageWrite (p : Nat) (w : Word) : Prog :=
  whenB (hasStg p) (.seq (set (stageView p) (getBits w 0 1)) (whenB (bitOf w.toNat 3) (stageDiscard p)))

end Sys2Proof.Machine
end

