-- ==== Sys2Proof/Machine/Afe.lean ====
section
/-!
DEFINITION. Sampling front end (11_sampling_front_end.md): reference and offset judgement, absent channels, the stack sum,
thermistors, trims, and the open-wire and path tests (R219-R240).
-/
namespace Sys2Proof.Machine

def afeEng (g : AfeEng → AfeEng) : Prog := eng fun e => { e with afe := g e.afe }

/-- Event `k` of AFE_EVT_RAW (R240). -/
def afeEvent (k : Nat) : Prog := event (AFE_EVT_RAW_EVENTS.bit k)

/-- AFE_FIRST and the message of kind `kind`, instance `inst` (R238): of the faults of one frame, the lowest instance is held (R240). -/
def afeMsg (kind inst : Nat) : Prog :=
  .seq (ifS (fun s => s.eng.afe.sameFrame && s.b AFE_FIRST_VALID && inst < s.f AFE_FIRST_INST)
      (.seq (set AFE_FIRST_KIND kind) (set AFE_FIRST_INST inst))
      (firstRec AFE_FIRST_VALID [(AFE_FIRST_KIND, kind), (AFE_FIRST_INST, inst)]))
    (send pgAFE inst kind 0)

/-- `p` judges one frame (R240). -/
def oneFrame (p : Prog) : Prog := .dyn fun s =>
  blk [afeEng fun e => { e with sameFrame := !s.b AFE_FIRST_VALID }, p, afeEng fun e => { e with sameFrame := false }]

/-- A 16-bit code as a number, none for the two codes that carry no measurement (R245). -/
def codeVal (c : Nat) : Option Int := if c == 0x8000 || c == 0x8001 then none else some (signed 16 c)

def frameVal (f : Frame) (ch : Nat) : Option Int := codeVal (f.samples.getD ch 0x8000)

/-- The frame carries a conversion: neither VOID nor SKIPPED (R244). -/
def frameTaken (f : Frame) : Bool := !bitOf f.flags 9 && !bitOf f.flags 8

/-! ### Trims (R231, R242) -/

/-- Code range of a channel (R242). -/
def codeRange (se : Bool) (ch : Nat) : Int × Int :=
  if ch < 24 then (-3200, 32000) else if ch == 24 then (0, 32000)
  else if ch == 25 then (-32000, 32000) else if ch == 26 then (if se then 0 else -32000, 32000)
  else if ch == 27 || ch == 28 then (0, 32000) else if ch == 29 then (0, 31992) else (-32000, 32000)

/-- The trimmed value of a raw code, before it is limited. -/
def State.trim (s : State) (ch : Nat) (raw : Int) : Int :=
  rndDiv ((16 * raw - (s.i (AFE_CAL_V_OFS ch) + s.i (AFE_CAL_U_OFS ch))) *
    (2 ^ 20 + s.i (AFE_CAL_V_GAIN ch) + s.i (AFE_CAL_U_GAIN ch))) (2 ^ 24)

/-- Calibrated code of a channel, and whether the sample was saturated (R219, R231, R242): the span is that of the trimmed value. -/
def State.calibrate (s : State) (ch : Nat) (raw : Int) : Nat × Bool :=
  let r := codeRange (s.b AFE_AUXCFG_AUX2_SE) ch
  let v := s.trim ch raw
  (unsigned 16 (clampInt r.1 r.2 v), v < r.1 || r.2 < v)

/-! ### Judgement of every frame (R221, R222, R227) -/

/-- One of the two checks of R227: `bad` beyond the fault level, `ok` within the clearing level. -/
def refCheck (flag : Fld) (ev kind : Nat) (bad ok : Bool) (nb no : Nat) : Prog :=
  ifS (fun s => s.b flag) (whenB (ok && 16 ≤ no) (set flag 0))
    (whenB (bad && 16 ≤ nb) (blk [set flag 1, afeEvent ev, afeMsg kind 0]))

def absi (i : Int) : Nat := i.natAbs

/-- The reference and offset channels of a taken frame (R227). -/
def afeRef (f : Frame) : Prog :=
  .seq (match frameVal f 30 with
    | some c => .dyn fun s =>
        let dev := rndDiv (c * 5) 32
        let bad := 1000 < absi dev
        let ok := absi dev ≤ 500
        let nb := if bad then s.eng.afe.refBad + 1 else 0
        let no := if ok then s.eng.afe.refOk + 1 else 0
        blk [set AFE_REF_VALID 1, setI AFE_REF_DEV dev,
          afeEng fun e => { e with refBad := nb, refOk := no }, refCheck AFE_STATUS_REF_BAD 1 0 bad ok nb no]
    | none => .skip)
   (match frameVal f 31 with
    | some c => .dyn fun s =>
        let bad := 6400 < absi c
        let ok := absi c ≤ 3200
        let nb := if bad then s.eng.afe.zeroBad + 1 else 0
        let no := if ok then s.eng.afe.zeroOk + 1 else 0
        .seq (afeEng fun e => { e with zeroBad := nb, zeroOk := no }) (refCheck AFE_STATUS_ZERO_BAD 2 1 bad ok nb no)
    | none => .skip)

/-- Absent channels beyond 50 mV (R221): raised at the 16th consecutive frame. -/
def afeAbsent (f : Frame) : Prog := .dyn fun s =>
  whenB (s.isWrk && s.f AFE_CFG_NCELL != 0)
    (forEach ((List.range 24).filter fun c => s.f AFE_CFG_NCELL ≤ c) fun c =>
      match frameVal f c with
      | some v =>
        let n := if 320 < absi v then countOf s.eng.afe.absent c + 1 else 0
        .seq (afeEng fun e => { e with absent := setCount e.absent c n })
          (whenB (n == 16) (.seq (afeEvent 7) (afeMsg 4 c)))
      | none => .skip)

/-- A test runs, past its wait (R244). -/
def State.diagRuns (s : State) : Bool := 2 ≤ s.f AFE_STATUS_DIAG

/-- STACK against the sum of the present cells (R222), in microvolts; a frame that lacks one of these samples compares nothing (R245), and
the check is suspended from a diagnostic's start, its wait included (R233). -/
def afeSum (f : Frame) : Prog := .dyn fun s =>
  whenB (s.isWrk && s.b AFE_CFG_SUM_EN && s.f AFE_CFG_NCELL != 0 && s.f AFE_STATUS_DIAG == 0)
    (match frameVal f 24, (List.range s.cells).mapM (frameVal f) with
    | some st, some l =>
      let sum : Int := l.foldl (· + ·) 0
      let diff : Int := st * 15000 * (s.f AFE_STACK_EXT_ATTEN : Int) - sum * 62500
      let n := if s.f AFE_CFG_SUM_TOL * 4000000 < diff.natAbs then s.eng.afe.sum + 1 else 0
      .seq (afeEng fun e => { e with sum := n }) (whenB (n == 16) (.seq (afeEvent 8) (afeMsg 5 0)))
    | _, _ => .skip)

/-! ### Thermistors (R228-R230) -/

/-- The enabled inputs of multiplexer A (0-7) or B (8-15), rising. -/
def State.muxInputs (s : State) (b : Bool) : List Nat :=
  (List.range 16).filter fun t => bitOf (s.f AFE_TMUX_EN) t && decide (8 ≤ t) == b

/-- The next enabled input after `t` (R229), 16 where none is enabled. -/
def State.muxNext (s : State) (b : Bool) (t : Nat) : Nat :=
  match (s.muxInputs b).find? (t < ·) with
  | some n => n
  | none => (s.muxInputs b).headD 16

def muxSelect (b : Bool) (t e : Nat) : Prog :=
  afeEng fun a => if b then { a with muxB := t, selB := e } else { a with muxA := t, selA := e }

/-- A multiplexer whose selected input is not enabled selects the lowest that is; it rests with none. -/
def muxFix : Prog := .dyn fun s =>
  forEach [false, true] fun b =>
    let cur := if b then s.eng.afe.muxB else s.eng.afe.muxA
    whenB (!(s.muxInputs b).contains cur) (muxSelect b ((s.muxInputs b).headD 16) s.epoch)

/-- AFE_TMUX written (R228, R240): inputs no longer enabled show DISABLED. -/
def tmuxWrite (w : Word) : Prog :=
  blk [set AFE_TMUX_STEP (max 500 (AFE_TMUX_STEP.of w)), set AFE_TMUX_EN (AFE_TMUX_EN.of w), muxFix,
    .dyn fun s => forEach ((List.range 16).filter fun t => !bitOf (s.f AFE_TMUX_EN) t) fun t => setReg (AUX_TEMP t) 0xC0000000]

/-- The temperature, in 0.01 °C, that a code of ρ / 32,000 gives with BETA in K and R25 in 10 Ω (R230). (DEDUCED, log entry 12) -/
def thermTemp (code beta r25 : Nat) : Int :=
  let ln := fxRat (fxLn (1000 * code) ((32000 - code) * r25))
  rnd (100 / (100 / 29815 + ln / (beta : Rat)) - 27315)

/-- A reading of input `t` (R230); `judge` is R258's rule. (DESIGN CHOICE, log entry 11) -/
def thReading (t : Nat) (code : Int) (judge : Nat → Int → Prog) : Prog := .dyn fun s =>
  let c := thermTemp code.toNat (s.f (AFE_TH_CFG_BETA t)) (s.f (AFE_TH_CFG_R25 t))
  .seq (if 0 < code && code < 32000 && -32768 ≤ c && c < 32768 then setI (AUX_TEMP_T t) c else withFree fun k => set (AUX_TEMP_T t) k)
    (if 31360 ≤ code || code ≤ 640 then
      let n := countOf s.eng.afe.bad t + 1
      blk [set (AUX_TEMP_STATE t) (if 31360 ≤ code then 1 else 2), afeEng fun e => { e with bad := setCount e.bad t n },
        whenB (n == 4) (.seq (afeEvent 9) (afeMsg 6 t))]
    else blk [set (AUX_TEMP_STATE t) 0, afeEng fun e => { e with bad := setCount e.bad t 0 }, judge t c])

/-- The channel that a path test holds: its first four frames carry the test value (R237). -/
def State.heldCh (s : State) : Option Nat :=
  if s.f AFE_STATUS_DIAG == 8 && s.eng.afe.pathFrames < 4 then some (s.f AFE_DIAG_STATUS_CHAN) else none

/-- The TA and TB samples of a taken frame (R229): a reading once STEP µs have passed since the selection.  A channel that a path test holds
gives none: its last sample from before the test either was a reading or fell too early for one (R237). -/
def thSamples (f : Frame) (judge : Nat → Int → Prog) : Prog :=
  forEach [false, true] fun b => .dyn fun s =>
    let t := if b then s.eng.afe.muxB else s.eng.afe.muxA
    let e0 := if b then s.eng.afe.selB else s.eng.afe.selA
    whenB (t < 16 && !later (e0 + s.f AFE_TMUX_STEP) f.epoch && s.heldCh != some (if b then 28 else 27))
      (.seq (match frameVal f (if b then 28 else 27) with | some c => thReading t c judge | none => .skip)
        (muxSelect b (s.muxNext b t) f.epoch))

/-! ### Diagnostics (R233-R237) -/

/-- An open-wire test ends with `res`, from which AUTO_PER counts (R233). -/
def owEnd (res : Nat) : Prog :=
  blk [set AFE_STATUS_DIAG 0, set AFE_DIAG_STATUS_LAST_OW res, afeEvent (if res == 3 then 10 else 3)]

def pathEnd (res : Nat) : Prog :=
  blk [set AFE_STATUS_DIAG 0, set AFE_DIAG_STATUS_LAST_PATH res, afeEvent (if res == 3 then 10 else 5)]

/-- OW_START (R233, R234): it waits for the shuttle. -/
def owStart : Prog := .dyn fun s =>
  if s.f AFE_STATUS_DIAG != 0 then .skip
  else if s.isMgr then owEnd 5
  else set AFE_STATUS_DIAG 1

/-- The channels that a path test covers (R237). -/
def State.pathChans (s : State) : List Nat := List.range s.cells ++ [24, 25, 26, 27, 28]

def pathStart : Prog := .dyn fun s =>
  if s.f AFE_STATUS_DIAG != 0 then .skip
  else if s.mode == 4 || s.mode == 5 || s.mode == 7 then
    blk [set AFE_STATUS_DIAG 8, set AFE_PATH_RES_FAIL 0, set AFE_DIAG_STATUS_CHAN (s.pathChans.headD 24),
      afeEng fun e => { e with pathFrames := 0 }]
  else pathEnd 5

/-- ABORT, a descent below ATTEND or a system reset ends a running diagnostic (R233). -/
def diagAbort : Prog := .dyn fun s =>
  if s.f AFE_STATUS_DIAG == 8 then pathEnd 3
  else if s.f AFE_STATUS_DIAG != 0 then .seq (owEnd 3) (afeEng fun e => { e with owHold := false })
  else .skip

def owPhase (st : Nat) : Prog := .dyn fun s =>
  .seq (set AFE_STATUS_DIAG st) (afeEng fun e => { e with phase := s.epoch, sums := [] })

/-- The shuttle is released from its slot, IDLE or LOCKED (R236): BASE begins, with bleeding and shuttle selection suspended. -/
def owShuttleFree : Prog :=
  whenS (fun s => s.f AFE_STATUS_DIAG == 1 && (s.f BAL_SH_STATUS_STATE == 0 || s.f BAL_SH_STATUS_STATE == 7)) (.seq (afeEng fun e => { e with owHold := true }) (owPhase 2))

def owBusyTimeout : Prog := whenS (fun s => s.f AFE_STATUS_DIAG == 1) (owEnd 4)

/-- The mean of a channel over a phase, in codes times the count. -/
def meanOf (l : List (Nat × Int × Nat)) (ch : Nat) : Option (Int × Nat) :=
  match l.find? fun x => x.1 == ch with
  | some (_, t, n) => if n == 0 then none else some (t, n)
  | none => none

/-- `b - a` in millivolts, for two means of cell codes, as a fraction (R235). -/
def deltaOf (a b : Int × Nat) : Int × Nat := (5 * (b.1 * a.2 - a.1 * b.2), 32 * a.2 * b.2)

/-- The verdict of node `k` from its ΔL, a fraction in millivolts (R235). -/
def owVerdict (k : Nat) (d : Int × Nat) (skip : Bool) : Prog := .dyn fun s =>
  let op := d.1 < -((s.f AFE_DIAG_CFG_OW_THR * 10 * d.2 : Nat) : Int)
  blk [setI (AFE_OW_DV_DV k) (rndDiv d.1 d.2), set (AFE_OW_DV_VERDICT k) (if skip then 2 else if op then 1 else 0),
    whenB (op && !skip) (set (AFE_OW_RES_OPEN.bit k) 1)]

/-- Node `k` between 1 and N (R235): a mean that no frame gave is an open value. -/
def owNode (k : Nat) : Prog := .dyn fun s =>
  let sink := if k % 2 == 1 then s.eng.afe.odd else s.eng.afe.even
  let skip := k % 2 == 0 && s.f (AFE_OW_DV_VERDICT (k - 1)) == 1
  match meanOf s.eng.afe.base (k - 1), meanOf sink (k - 1) with
  | some a, some b => owVerdict k (deltaOf a b) skip
  | _, _ => withFree fun v => owVerdict k ((v : Int) - 32768, 1) skip

/-- Node 0, from the DIAG reading in NODE0 (R235), 128 µV a code. -/
def owNode0 : Prog := .dyn fun s =>
  let go (t : Int) (n : Nat) : Prog :=
    let op := ((s.f AFE_DIAG_CFG_OW_THR * 10000 * n : Nat) : Int) < t * 128
    blk [setI (AFE_OW_DV_DV 0) (rndDiv (t * 128) (1000 * n)), set (AFE_OW_DV_VERDICT 0) (if op then 1 else 0),
      whenB op (set (AFE_OW_RES_OPEN.bit 0) 1)]
  match meanOf s.eng.afe.sums 29 with
  | some (t, n) => go t n
  | none => withFree fun v => go v 1

/-- The verdicts (R234, R235): odd nodes, then even ones, then node 0. -/
def owVerdicts : Prog := .dyn fun s =>
  blk [set AFE_OW_RES_OPEN 0,
    forEach ((List.range 24).filter fun k => s.cells < k + 1) fun k => setReg (AFE_OW_DV (k + 1)) 0xC0000000,
    forEach ((List.range 24).filter fun k => k % 2 == 0 && k + 1 ≤ s.cells) fun k => owNode (k + 1),
    forEach ((List.range 24).filter fun k => k % 2 == 1 && k + 1 ≤ s.cells) fun k => owNode (k + 1),
    owNode0,
    .dyn fun t =>
      let l := (List.range 25).filter fun k => bitOf (t.f AFE_OW_RES_OPEN) k
      blk [whenB (!l.isEmpty) (afeEvent 4), forEach l fun k => afeMsg 2 k, incSat AFE_CNT_OW_RUNS,
        whenB (!l.isEmpty) (incSat AFE_CNT_OW_FAILS), owEnd (if l.isEmpty then 1 else 2)]]

/-- A phase of length P ends (R234). -/
def owPhaseEnd : Prog := .dyn fun s =>
  let keep (g : AfeEng → AfeEng) (st : Nat) : Prog := .seq (afeEng g) (owPhase st)
  match s.f AFE_STATUS_DIAG with
  | 2 => keep (fun e => { e with base := e.sums }) 3
  | 3 => keep (fun e => { e with odd := e.sums }) 4
  | 4 => owPhase 5
  | 5 => keep (fun e => { e with even := e.sums }) 6
  | 6 => owPhase 7
  | 7 => owVerdicts
  | _ => .skip

/-- 1 ms after the verdicts (R234, R236), whatever diagnostic has been started since: one that waits for the shuttle, or a path test. -/
def owBleedResume : Prog :=
  whenS (fun s => !(2 ≤ s.f AFE_STATUS_DIAG && s.f AFE_STATUS_DIAG ≤ 7)) (afeEng fun e => { e with owHold := false })

/-- A channel's sum and count with one more sample. -/
def addSample (l : List (Nat × Int × Nat)) (f : Frame) (ch : Nat) : Nat × Int × Nat :=
  let o := ((l.find? fun x => x.1 == ch).map Prod.snd).getD (0, 0)
  match frameVal f ch with
  | some v => (ch, o.1 + v, o.2 + 1)
  | none => (ch, o.1, o.2)

/-- The samples of a frame that count for the open-wire phase in progress: strobe in its second half, [P/2, P) (R234). -/
def owFrame (f : Frame) (period : Nat) : Prog := .dyn fun s =>
  let p := max (s.f AFE_DIAG_CFG_OW_T * 1000) (4 * period)
  let d := (f.epoch + 2 ^ 48 - s.eng.afe.phase) % 2 ^ 48
  whenB (2 ≤ s.f AFE_STATUS_DIAG && s.f AFE_STATUS_DIAG ≤ 7 && !later s.eng.afe.phase f.epoch && p ≤ 2 * d && d < p)
    (afeEng fun e => { e with sums := (List.range 30).map (addSample e.sums f) })

/-- Expected value and tolerance of a path-test point, in codes scaled so that all are whole (R237); `se` is AUX2_SE. -/
def pathOk (se : Bool) (ch : Nat) (second : Bool) (code : Int) : Bool :=
  let t : Int × Int × Nat :=
    if ch < 24 then (1, if second then 25600 else 6400, 32)
    else if ch == 24 then (3750, if second then 100000000 else 20000000, 100000)
    else if ch < 27 then (if se && ch == 26 then 93750 else 3125, if second then 80000000 else 10000000, 200000)
    else (1, if second then 25600 else 6400, 64)
  (code * t.1 - t.2.1).natAbs ≤ t.2.2

/-- The channel under test is judged on its two points, codes `a` and `b`, and the test takes its next channel (R237). -/
def pathChannel (a b : Int) : Prog :=
  whenS (fun s => s.f AFE_STATUS_DIAG == 8) (.dyn fun s =>
    let ch := s.f AFE_DIAG_STATUS_CHAN
    blk [whenB (!(pathOk (s.b AFE_AUXCFG_AUX2_SE) ch false a && pathOk (s.b AFE_AUXCFG_AUX2_SE) ch true b))
        (blk [set (AFE_PATH_RES_FAIL.bit ch) 1, incSat AFE_CNT_PATH_FAILS, afeEvent 6, afeMsg 3 ch]),
      match s.pathChans.find? (ch < ·) with
      | some n => .seq (set AFE_DIAG_STATUS_CHAN n) (afeEng fun e => { e with pathFrames := 0 })
      | none => .dyn fun t => pathEnd (if t.f AFE_PATH_RES_FAIL == 0 then 1 else 2)])

/-- The sample of channel `ch` on which protection judges a frame (R237, R257). -/
def State.judged (s : State) (f : Frame) (ch : Nat) : Option Int :=
  if s.heldCh == some ch then codeVal (s.eng.afe.last.getD ch 0x8000) else frameVal f ch

/-- The device's own frame as protection judges it (R237). -/
def State.protFrame (s : State) (f : Frame) : Frame :=
  match s.heldCh with
  | some ch => { f with samples := f.samples.set ch (s.eng.afe.last.getD ch 0x8000) }
  | none => f

/-- What a taken frame leaves behind: every channel's last measurement (R245), but of the channel under test. -/
def lastFrame (f : Frame) : Prog := .dyn fun s =>
  let code (old : List Nat) (ch : Nat) : Nat :=
    if s.heldCh == some ch || (frameVal f ch).isNone then old.getD ch 0x8000 else f.samples.getD ch 0x8000
  afeEng fun e => { e with last := (List.range 32).map (code e.last) }

/-- A taken frame counts for the channel under test, once every consumer has had it (R237). -/
def pathFrame : Prog := afeEng fun e => { e with pathFrames := e.pathFrames + 1 }

/-- The last measurement of a channel, in codes (R245). (DESIGN CHOICE, log entry 116) -/
def State.lastCode (s : State) (ch : Nat) : Int := (codeVal (s.eng.afe.last.getD ch 0x8000)).getD (Config.noSample ch)

/-! ### Configuration -/

/-- UNDECLARED and CELLS_OFF follow the role and NCELL (R221). -/
def afeDeclare : Prog := .dyn fun s =>
  .seq (setB AFE_STATUS_UNDECLARED (s.isWrk && s.f AFE_CFG_NCELL == 0)) (setB AFE_STATUS_CELLS_OFF s.isMgr)

/-- AFE_CFG written (R221, R240). -/
def afeCfgWrite (w : Word) : Prog := .dyn fun s =>
  let n := AFE_CFG_NCELL.of w
  blk [set AFE_CFG_SUM_TOL (max 1 (AFE_CFG_SUM_TOL.of w)), set AFE_CFG_SUM_EN (AFE_CFG_SUM_EN.of w),
    whenB (!s.isMgr) (set AFE_CFG_NCELL (if n == 0 then 0 else clamp 8 24 n)), afeDeclare]

def calUWrite (c : Nat) (w : Word) : Prog := setReg (AFE_CAL_U c) w.toNat

def refShow : Prog := whenS (fun s => !s.b AFE_STATUS_REF_RDY) (.seq (set AFE_STATUS_REF_RDY 1) (afeEvent 0))

/-- The reference buffer runs (R226): not in DORMANT or SHELF, but in an ascent from there; nor while a power-on reset is held. -/
def State.refOn (s : State) : Bool :=
  (2 ≤ s.f MODE_CUR_MODE || s.b MODE_STATUS_ASCENDING) && !(s.eng.boot.fresh && s.f RST_BOOT_STEP == 0)

/-- VREF has settled after a start from off (R226); where a system reset came between, the load of step 2 shows it. -/
def refReady : Prog :=
  whenS State.refOn (.seq (afeEng fun e => { e with vref := true })
    (whenS (fun s => s.eng.boot.fresh || 3 ≤ s.f RST_BOOT_STEP) refShow))

/-- The AFE page is loaded in step 2: a buffer that the reset left on shows its settled reference again (R226). -/
def refLoaded : Prog := whenS (fun s => s.eng.afe.vref) refShow

/-- The manager strikes with FINE held at 1,280 (R366). -/
def fineRole : Prog := whenS (·.isMgr) (.seq (set AFE_STROBE_FINE 1280) (afeEng fun e => { e with fine := 1280 }))

/-- FINE of the next strike: at most 8 counts nearer to what the epoch unit asks for (R224). -/
def State.fineNext (s : State) : Nat :=
  ((s.f AFE_STROBE_FINE : Int) + clampInt (-8) 8 ((s.eng.afe.fine : Int) - s.f AFE_STROBE_FINE)).toNat

end Sys2Proof.Machine
end

