-- ==== Sys2Proof/Machine/Power.lean ====
section
/-!
DEFINITION. Regulators and supervisors (06_regulators_and_supervisors.md): ramps and retargeting, the supervisors' comparisons, states and
blanking, and the current limits of the regulators.
-/
namespace Sys2Proof.Machine

def pwrEng (g : PowerEng → PowerEng) : Prog := eng fun e => { e with pwr := g e.pwr }

def nth {α : Type} (l : List α) (n : Nat) (d : α) : α := l.getD n d

/-- Rail `r` of the phase controller. -/
def State.rail (s : State) (r : Nat) : RailEng := nth s.eng.pwr.rails r {}

def State.ph (s : State) (n : Nat) : PhaseEng := nth s.eng.pwr.phs n {}

def railEng (r : Nat) (g : RailEng → RailEng) : Prog := pwrEng fun e => { e with rails := e.rails.set r (g (nth e.rails r {})) }

def phEng (n : Nat) (g : PhaseEng → PhaseEng) : Prog := pwrEng fun e => { e with phs := e.phs.set n (g (nth e.phs n {})) }

/-! ### Ramps: regulators 0-9 and rails 10-13 -/

/-- Setpoint of ramped supply `k`. -/
def vsetOf (k : Nat) : Fld :=
  if k < 4 then REG_BK_VSET_VSET k else if k < 10 then REG_LD_VSET_VSET (k - 4) else PHC_RAIL_VSET_VSET (k - 10)

def vnowOf (k : Nat) : Fld :=
  if k < 4 then REG_BK_VNOW_VNOW k else if k < 10 then REG_LD_STATUS_VNOW (k - 4) else PHC_RAIL_VNOW_V (k - 10)

def supersedeOf (k : Nat) : Fld :=
  if k < 4 then REG_BK_SUPERSEDE_COUNT k else if k < 10 then REG_LD_SUPERSEDE_COUNT (k - 4) else PHC_RAIL_CNT_SUPERSEDE (k - 10)

def rateOf (k : Nat) : Fld :=
  if k < 4 then REG_BK_SLEW_RATE k else if k < 10 then REG_LD_CFG_RATE (k - 4) else PHC_RAIL_SLEW_RATE (k - 10)

/-- LIMITING, RAMPING, AT_SET and ON of a regulator, in bits 3 to 0 (R128). -/
def regState (k : Nat) : Fld := if k < 4 then ⟨REG_BK_STATUS k, 0, 4⟩ else REG_LD_STATUS_STATE (k - 4)

def doneEvt (k : Nat) : Fld := if k < 10 then REG_EVT_RAW_DONE.bit k else PHC_EVT_RAW_DONE.bit (k - 10)

/-- Ramp rate in microvolts per microsecond (R129); FIXED is the 250 µs soft start of the device rails. -/
def rateUv (code : Nat) : Nat := nth [100, 250, 500, 1000, 2500, 5000, 10000] code 0

def State.rampOf (s : State) (k : Nat) : Option Ramp := s.eng.pwr.ramps.find? fun r => r.k == k

def State.ramping (s : State) (k : Nat) : Bool := (s.rampOf k).isSome

/-- The instantaneous ramp target in 5 mV steps (R118, R119): it moves from the value the ramp left towards the setpoint, or 0 V in a
discharge (R141), at the programmed rate, in whole steps. -/
def State.vInst (s : State) (k : Nat) : Nat :=
  match s.rampOf k with
  | none => s.f (vnowOf k)
  | some r =>
    let moved := rateUv (s.f (rateOf k)) * (s.now - r.at0) / 5000
    let goal := if r.dn then 0 else s.f (vsetOf k)
    if r.fromV ≤ goal then min goal (r.fromV + moved) else max goal (r.fromV - moved)

def setRamp (k v : Nat) (dn : Bool) : Prog := .dyn fun s =>
  pwrEng fun e => { e with ramps := ⟨k, v, s.now, dn⟩ :: e.ramps.filter fun r => r.k != k }

def endRamp (k : Nat) : Prog := pwrEng fun e => { e with ramps := e.ramps.filter fun r => r.k != k }

/-- The ramped supply whose rate the register at `a` holds. -/
def rateReg (a : Nat) : Option Nat := (List.range 14).find? fun k => 3 ≤ k && (k < 4 || 7 ≤ k) && (rateOf k).reg == a

/-- A new rate is about to be written at `a`: a ramp that runs goes on from its present value. (DESIGN CHOICE, log entry 104) -/
def rampRebase (a : Nat) : Prog := .dyn fun s => match rateReg a with
  | some k => match s.rampOf k with
    | some r => setRamp k (s.vInst k) r.dn
    | none => .skip
  | none => .skip

/-! ### Supervisors -/

/-- The slot of a supervisor's source rail (R120, R123); `none` for a source that is no sequenced rail. -/
def svSlot (src : Nat) : Option Nat :=
  nth [none, some 0, some 1, some 2, some 3, some 1, some 2, some 2, some 4, some 5, some 6, some 7, some 8, some 9, some 10] src none

/-- The ramped supply of a supervisor's source. -/
def svRamp (src : Nat) : Option Nat :=
  if 1 ≤ src && src ≤ 10 then some (src - 1) else if 11 ≤ src && src ≤ 14 then some (src - 1) else none

def State.slotState (s : State) (n : Nat) : Nat := s.f (SEQ_SLOT_STAT_STATE n)

/-- The slot is up or starting: what STARTING and UP have in common. -/
def State.slotOn (s : State) (n : Nat) : Bool := s.slotState n == 2 || s.slotState n == 3

/-- What SV_CFG.SLOT names is up: the slot, or for ALL (0x1E) the sequence; NONE names nothing to wait for. (DESIGN CHOICE, log entry 105) -/
def State.namedUp (s : State) (slot : Nat) : Bool := if slot == 0x1E then s.f SEQ_STATUS_STATE == 2 else slot == 0x1F || s.slotState slot == 3

/-- What SV_CFG.SLOT names is off: the slot neither starts, runs nor stops, or for ALL the sequence is OFF. (DESIGN CHOICE, log entry 105) -/
def State.namedOff (s : State) (slot : Nat) : Bool :=
  if slot == 0x1E then s.f SEQ_STATUS_STATE == 0 else slot ≤ 18 && !s.slotOn slot && s.slotState slot != 4

/-- Supervisor `n` is blanked (R123); a slot that is stopping is off for this purpose. (DESIGN CHOICE, log entry 105) -/
def State.svBlanked (s : State) (n : Nat) : Bool :=
  let src := s.f (SV_CFG_SRC n)
  (match svSlot src with | some sl => !s.slotOn sl | none => false)
    || (match svRamp src with | some k => s.ramping k | none => false)
    || s.eng.pwr.svWait.contains n

/-- PFW_N is low while any supervisor is in WARN or TRIPPED; a low-going edge counts and triggers the emergency checkpoint
of the estimator (R125, R328). -/
def pfwUpdate : Prog := .dyn fun s =>
  let low := s.f SUP_FAULTED_MAP != 0
  if low && !s.b SUP_PFW_LOW then blk [set SUP_PFW_LOW 1, incSat SUP_PFW_COUNT, ckptTrigger] else setB SUP_PFW_LOW low

/-- Supervisor `n` enters state `st`: SUP_FAULTED and SUP_TIMING follow (R131). -/
def svEnter (n st : Nat) : Prog :=
  blk [set (SV_STAT_STATE n) st, setB (SUP_FAULTED_MAP.bit n) (st == 3 || st == 4), setB (SUP_TIMING_MAP.bit n) (st == 3),
    pfwUpdate]

/-- Supervisor `n` judges: it is enabled and names a source (R121); none does in SHELF (R123). -/
def State.svActive (s : State) (n : Nat) : Bool := s.b (SV_CFG_EN n) && s.f (SV_CFG_SRC n) != 0 && s.mode != 0

/-- The source of supervisor `n` in microvolts: `uv`, or for an EXT rail what the phase controller reconstructs (R121, R159). -/
def State.svSource (s : State) (n uv : Nat) : Nat :=
  let src := s.f (SV_CFG_SRC n)
  if 11 ≤ src && src ≤ 14 then 5000 * s.f (PHC_RAIL_VMEAS_V (src - 11)) else uv

/-- Microvolts of one threshold count (R121, R131). -/
def State.svUnit (s : State) (n : Nat) : Nat :=
  let src := s.f (SV_CFG_SRC n)
  if src ≤ 10 || src == 0x13 then 5000 else if src ≤ 14 then (if s.b (SV_CFG_SCALE n) then 20000 else 5000) else 20000

/-- Hysteresis in thousandths, and the filter in clocks of 25 ns (R122, R131). -/
def State.svHys (s : State) (n : Nat) : Nat := nth [5, 10, 20, 40] (s.f (SV_CFG_HYS n)) 0

def State.svFilt (s : State) (n : Nat) : Nat := nth [10, 40, 160, 640, 2560, 10240, 40000, 160000] (s.f (SV_CFG_FILT n)) 0

/-- The UV and OV conditions of supervisor `n` at `v` microvolts (R122): each exists beyond its threshold, and clears at the threshold with
its hysteresis. -/
def State.svUv (s : State) (n v : Nat) : Bool :=
  let t := s.f (SV_THR_UV n) * s.svUnit n
  s.b (SV_CFG_UV_EN n) && (v < t || (s.b (SV_STAT_UV_NOW n) && 1000 * v < t * (1000 + s.svHys n)))

def State.svOv (s : State) (n v : Nat) : Bool :=
  let t := s.f (SV_THR_OV n) * s.svUnit n
  s.b (SV_CFG_OV_EN n) && (t < v || (s.b (SV_STAT_OV_NOW n) && t * (1000 - s.svHys n) < 1000 * v))

/-- Supervisor `n` sees its source at `uv` microvolts: UV_NOW and OV_NOW, before filtering and in any state (R131). -/
def svLook (n uv : Nat) : Prog := .dyn fun s =>
  let v := s.svSource n uv
  .seq (setB (SV_STAT_UV_NOW n) (s.svActive n && s.svUv n v)) (setB (SV_STAT_OV_NOW n) (s.svActive n && s.svOv n v))

/-- A new VMEAS of rail `r` reaches the supervisors that watch it (R159). -/
def svRail (r : Nat) : Prog := .dyn fun s =>
  forEach ((List.range 16).filter fun n => s.f (SV_CFG_SRC n) == 11 + r && s.svActive n) fun n => svLook n 0

/-- The blanking causes of supervisor `n` looked at again (R123, R124). -/
def svBlank1 (n : Nat) : Prog :=
  .seq (whenS (fun s => s.eng.pwr.svWait.contains n && s.namedUp (s.f (SV_CFG_SLOT n)))
      (pwrEng fun e => { e with svWait := e.svWait.filter fun m => m != n }))
    (.dyn fun s => match s.f (SV_STAT_STATE n) with
      | 1 => if s.svBlanked n then .skip else svEnter n 2
      | 2 => if s.svBlanked n then svEnter n 1 else .skip
      | 4 => if s.namedOff (s.f (SV_CFG_SLOT n)) then
          .seq (pwrEng fun e => { e with svWait := n :: e.svWait.filter fun m => m != n }) (svEnter n 1) else .skip
      | _ => .skip)

/-- The waits of supervisors that have left TRIPPED end with what they wait for, of those that are off meanwhile too (R123). -/
def svWaits : Prog := .dyn fun s =>
  pwrEng fun e => { e with svWait := e.svWait.filter fun m => !s.namedUp (s.f (SV_CFG_SLOT m)) }

/-- Every enabled supervisor's blanking looked at again, after a slot or a ramp has changed. -/
def svBlank : Prog := .seq svWaits (.dyn fun s => blk (((List.range 16).filter s.svActive).map svBlank1))

/-- Supervisor `n` is switched off (R124): one that leaves TRIPPED so still waits for what it named (R123). -/
def svOff (n : Nat) : Prog := .dyn fun s =>
  blk [whenB (s.f (SV_STAT_STATE n) == 4) (pwrEng fun e => { e with svWait := n :: e.svWait.filter fun m => m != n }),
    set (SV_STAT_UV_NOW n) 0, set (SV_STAT_OV_NOW n) 0, svEnter n 0]

/-- A condition that is no longer enabled no longer exists (R122, R131). -/
def svUnlook (n : Nat) : Prog :=
  .seq (whenS (fun t => !t.b (SV_CFG_UV_EN n)) (set (SV_STAT_UV_NOW n) 0)) (whenS (fun t => !t.b (SV_CFG_OV_EN n)) (set (SV_STAT_OV_NOW n) 0))

/-- SV_CFG[n] written (R121, R124, R131); a supervisor with no source is OFF as one that is not enabled. (DEDUCED, log entry 106) -/
def svCfgWrite (n : Nat) (w : Word) : Prog := .dyn fun s =>
  let old := s.reg (SV_CFG n)
  let src := (SV_CFG_SRC n).of w
  let slot := (SV_CFG_SLOT n).of w
  blk [setReg (SV_CFG n) (w.toNat &&& 0xF3F03E3F),
    whenB (0x14 < src) (set (SV_CFG_SRC n) ((SV_CFG_SRC n).of old)),
    whenB (19 ≤ slot && slot ≤ 29) (set (SV_CFG_SLOT n) 0x1F),
    ifS (fun t => !t.b (SV_CFG_EN n) || t.f (SV_CFG_SRC n) == 0)
      (svOff n)
      (blk [svUnlook n, svWaits, whenS (fun t => t.f (SV_STAT_STATE n) == 0) (.dyn fun t => svEnter n (if t.svBlanked n then 1 else 2)), svBlank1 n])]

/-- SUP_FIRST takes the fault of supervisor `n`, `ov` its kind; of faults on the same filter clock, the lowest index (R131): the same
microsecond of model time. (DEDUCED, log entry 106) -/
def supFirst (n ov : Nat) : Prog := .dyn fun s =>
  whenB (!s.b SUP_FIRST_VALID || (s.eng.pwr.supAt == s.now && n < s.f SUP_FIRST_SV))
    (blk [set SUP_FIRST_VALID 1, set SUP_FIRST_OV ov, set SUP_FIRST_SV n, pwrEng fun e => { e with supAt := s.now }])

/-- The condition of supervisor `n` at `uv` microvolts has held for `clks` filter clocks without a break (R122, R124): a fault once that is
FILT; where both conditions hold, UV is the one reported. (DEDUCED, log entry 106) -/
def svFault (n uv clks : Nat) : Prog :=
  .seq (svLook n uv) (.dyn fun s =>
    let ov := !s.b (SV_STAT_UV_NOW n)
    whenB (s.svActive n && s.f (SV_STAT_STATE n) == 2 && (s.b (SV_STAT_UV_NOW n) || s.b (SV_STAT_OV_NOW n)) && s.svFilt n ≤ clks)
      (blk [incSat (SV_STAT_FAULTS n), svEnter n 3, supFirst n (b2n ov),
        event SUP_EVT_RAW_EARLY_WARN, send pgSUP n (b2n ov) 0]))

/-- The source of supervisor `n` is back at `uv` microvolts while in WARN: RIDE ends the warning, otherwise the timer continues (R124). -/
def svClear (n uv : Nat) : Prog :=
  .seq (svLook n uv)
    (whenS (fun s => s.svActive n && s.f (SV_STAT_STATE n) == 3 && s.b (SV_CFG_RIDE n) && !s.b (SV_STAT_UV_NOW n) && !s.b (SV_STAT_OV_NOW n))
      (blk [svEnter n 2, event SUP_EVT_RAW_RIDE_THROUGH, svBlank1 n]))

/-! ### Programmable regulators (R118, R119) -/

/-- ON, AT_SET and RAMPING of regulator `k`; LIMITING stays (R128). -/
def regShow (k v : Nat) : Prog := set ⟨(regState k).reg, (regState k).lo, 3⟩ v

def State.phState (s : State) (n : Nat) : Nat := s.f (PHC_PH_STATUS_STATE n)

/-- Active phases of rail `r`, in rising index. -/
def State.active (s : State) (r : Nat) : List Nat :=
  (List.range 8).filter fun n => s.phState n == 2 && s.f (PHC_PH_STATUS_RAIL n) == r

/-- The health counts of rail `r` restart, with a suspension of 64 periods (R171). -/
def healthRestart (r : Nat) : Prog := .dyn fun s =>
  .seq (railEng r fun e => { e with susp := 64 })
    (forEach (s.active r) fun n => phEng n fun e => { e with
      share := 0
      flat := 0 })

/-- A ramp starts from `v`: rails go to RAMP with power-good false, and their health counts restart (R171); regulators show RAMPING. -/
def rampStart (k v : Nat) : Prog :=
  blk [setRamp k v false, set (vnowOf k) v,
    if k < 10 then regShow k 0b101
    else blk [set (PHC_RAIL_STATUS_STATE (k - 10)) 1, healthRestart (k - 10), railEng (k - 10) fun e => { e with
      done := false
      good := 0 }]]

/-- The ramp ends at the setpoint: DONE (R119, R165). -/
def rampEnd (k : Nat) : Prog := .dyn fun s =>
  blk [endRamp k, set (vnowOf k) (s.f (vsetOf k)),
    if k < 10 then regShow k 0b011
    else blk [set (PHC_RAIL_STATUS_STATE (k - 10)) 2, healthRestart (k - 10), railEng (k - 10) fun e => { e with
      done := true
      good := 0 }],
    event (doneEvt k), svBlank]

/-- A regulator's slot starts it: a ramp from 0 V (R118). -/
def regStart (k : Nat) : Prog := .seq (rampStart k 0) svBlank

/-- Regulator `k` is off. (DEDUCED, log entry 107) -/
def regStop (k : Nat) : Prog :=
  blk [endRamp k, set (regState k) 0, set (vnowOf k) 0, pwrEng fun e => { e with limAt := e.limAt.filter fun x => x.1 != k }]

/-- Setpoint `v` written to ramped supply `k` (R119, R163, R165); `on` says whether it is switching and `newRamp` what
else a new ramp does.  A rail in a load-step response ramps at once. (DEDUCED, log entry 107) -/
def retarget (k v : Nat) (on : Bool) (newRamp : Prog) : Prog := .dyn fun s =>
  let old := s.f (vsetOf k)
  let inst := s.vInst k
  if !on || v = old then set (vsetOf k) v
  else if s.ramping k then
    blk [incSat (supersedeOf k), set (vsetOf k) v,
      if v ≤ inst + 1 && inst ≤ v + 1 then rampEnd k else .seq (rampStart k inst) svBlank]
  else if v ≤ old + 1 && old ≤ v + 1 then
    blk [set (vsetOf k) v, set (vnowOf k) v, event (doneEvt k)]
  else blk [set (vsetOf k) v, newRamp, rampStart k (s.f (vnowOf k)), svBlank]

/-- REG_BK_VSET[3] written (R114, R119); BK0-BK2 are fixed. -/
def bkVset (w : Word) : Prog := .dyn fun s =>
  retarget 3 (clamp 120 1000 ((REG_BK_VSET_VSET 3).of w)) (s.f (regState 3) % 2 == 1) .skip

/-- REG_LD_VSET[n] written, n = 3-5. -/
def ldVset (n : Nat) (w : Word) : Prog := .dyn fun s =>
  retarget (4 + n) (clamp 240 1000 ((REG_LD_VSET_VSET n).of w)) (s.f (regState (4 + n)) % 2 == 1) .skip

def regRampDone (k : Nat) : Prog := whenS (fun s => s.ramping k && k < 10) (rampEnd k)

/-- The limit of regulator `k` acts: LIMITING (R128), and a report once it has persisted (R115, R116). -/
def regIlim (k : Nat) (persist : Bool) : Prog :=
  whenS (fun s => s.f (regState k) % 2 == 1)
    (blk [set (regState k |>.bit 3) 1, .dyn fun s => pwrEng fun e => { e with limAt := (k, s.now) :: e.limAt.filter fun x => x.1 != k },
      whenB persist (blk [event (REG_EVT_RAW_ILIM.bit k), send pgREG k 0 0])])

/-- 64 switching cycles in microseconds, rounded up (R115, R128). -/
def State.fswUs (s : State) : Nat := nth [64, 32, 26] (s.f REG_FSW_FSW) 32

/-- LIMITING falls once no limit has acted for 64 switching cycles (R128). (DEDUCED, log entry 107) -/
def limTick : Prog := .dyn fun s =>
  forEach (s.eng.pwr.limAt.filter fun x => x.2 + s.fswUs ≤ s.now) fun x =>
    .seq (set ((regState x.1).bit 3) 0) (pwrEng fun e => { e with limAt := e.limAt.filter fun y => y.1 != x.1 })

end Sys2Proof.Machine
end

