-- ==== Sys2Proof/Machine/Phase.lean ====
section
/-!
DEFINITION. The phase controller (08_phase_controller.md): rails and their start and stop, the regulation of each switching period, gates,
current limits, load-step responses, phase health and power-good (R156-R178).
-/
namespace Sys2Proof.Machine

/-- PHC_FIRST and the message of kind `kind` and instance `inst` (R176). -/
def phcMsg (kind inst : Nat) : Prog :=
  .seq (firstRec PHC_FIRST_VALID [(PHC_FIRST_KIND, kind), (PHC_FIRST_INST, inst)]) (send pgPHC inst kind 0)

def State.railSt (s : State) (r : Nat) : Nat := s.f (PHC_RAIL_STATUS_STATE r)

def State.railOn (s : State) (r : Nat) : Bool := s.railSt r != 0

/-! ### What a rail started with (R174) -/

/-- Field `x`, a field of rail 0's register, in a latched word. -/
def latched (x : Fld) (w : Nat) : Nat := w / 2 ^ x.lo % 2 ^ x.wd

def RailEng.blank (e : RailEng) : Nat := latched (PHC_RAIL_TIMING_BLANK 0) e.timing

/-- Diode emulation in force: forced on in a ramp (R163) and off in a discharge (R141). -/
def State.railDe (s : State) (r : Nat) : Bool :=
  !(s.rail r).dis && (s.railSt r == 1 || latched (PHC_RAIL_CFG_DE 0) (s.rail r).cfg == 1)

def RailEng.acm (e : RailEng) : Bool := latched (PHC_RAIL_CFG_MODE 0) e.cfg == 1

/-- The period of a rail in CLK_PWM counts: on the HFRC the nearest multiple of 16 (R158). -/
def State.periodLen (s : State) (e : RailEng) : Nat := if s.b PHC_STATUS_CLK_RC then (e.period + 8) / 16 * 16 else e.period

/-! ### Conversions (R159, R160) -/

/-- FBT in feedback counts, to the nearest: VNOW × 5 mV × RATIO / 65,536 over 1.2 V / 4,096 (R159, R160). (DEDUCED, log entry 108) -/
def State.fbt (s : State) (r : Nat) : Nat := (s.vInst (10 + r) * (s.rail r).ratio + 1920) / 3840

/-- A feedback count as a rail voltage in 5 mV (R159). -/
def RailEng.volt (e : RailEng) (fb : Nat) : Nat := if e.ratio == 0 then 0 else (rndDiv (fb * 3840 : Nat) e.ratio).toNat

/-- A CS sample of 12 bits over −25 mV to +100 mV as a current in 10 mA (R159). -/
def PhaseEng.amps (e : PhaseEng) (cs : Nat) : Int :=
  if e.rsense == 0 then 0 else rndDiv ((cs * 1250000 : Nat) - 1024000000) (4096 * e.rsense)

/-- The input voltage of rail `r` in millivolts (R160): the stack as sampled last, VSYS, or the higher feed. (DEDUCED, log entry 108) -/
def State.railVin (s : State) (r : Nat) : Nat :=
  match latched (PHC_RAIL_CFG_VIN_SRC 0) (s.rail r).cfg with
  | 1 => (s.lastCode 24).toNat * (375 * s.f AFE_STACK_EXT_ATTEN) / 10000
  | 2 => 10 * s.f REG_VSYS_MV10
  | 3 => 20 * max (s.f FEED_VA_V) (s.f FEED_VB_V)
  | _ => 0

/-- FF = VNOW / VIN × 65,536, truncated; 0 with no source, or none measured yet (R160). (DEDUCED, log entry 108) -/
def State.railFf (s : State) (r : Nat) : Nat :=
  let vin := s.railVin r
  if vin == 0 then 0 else s.vInst (10 + r) * 5 * 65536 / vin

/-! ### Limits and power-good -/

/-- NACT and ILIM_EFF = ILIM × n_active / n_config, truncated (R168). -/
def railLimit (r : Nat) : Prog := .dyn fun s =>
  let cfg := popcount (s.rail r).phases
  let act := (s.active r).length
  blk [set (PHC_RAIL_STATUS_NACT r) act, set (PHC_RAIL_ILIM_EFF_ILIM_EFF r) (s.f (PHC_RAIL_ILIM_ILIM r) * act / cfg)]

/-- Rail power-good becomes false (R164): while the slot is UP this is reported. -/
def pgFalse (r : Nat) : Prog := .dyn fun s =>
  .seq (railEng r fun e => { e with good := 0 })
    (whenB (s.b (PHC_RAIL_STATUS_PG r))
      (blk [set (PHC_RAIL_STATUS_PG r) 0, set (PHC_PG_PG.bit r) 0,
        whenB (s.slotState (7 + r) == 3) (blk [event (PHC_EVT_RAW_PG_LOSS.bit r), phcMsg 3 (8 + r)])]))

/-- VMEAS within VSET ± WIN % (R164). -/
def State.railInWindow (s : State) (r : Nat) : Bool :=
  let v := s.f (PHC_RAIL_VMEAS_V r)
  let t := s.f (PHC_RAIL_VSET_VSET r)
  let d := if v ≤ t then t - v else v - t
  d * 100 ≤ t * s.f (PHC_RAIL_PG_WIN r)

/-- `k` periods in a row with VMEAS where it stands (R164): power-good rises after FILT of them within the window since DONE, and falls on
the first outside it. -/
def railJudge (r k : Nat) : Prog := .dyn fun s =>
  if s.railInWindow r then
    whenB ((s.rail r).done && s.railOn r && (s.active r != []))
      (.seq (railEng r fun e => { e with good := e.good + k })
        (whenB (s.f (PHC_RAIL_PG_FILT r) ≤ (s.rail r).good + k) (blk [set (PHC_RAIL_STATUS_PG r) 1, set (PHC_PG_PG.bit r) 1])))
  else pgFalse r

/-- FB of rail `r` reads `fb` (R159): VMEAS, and the supervisors that watch it. -/
def railSample (r fb : Nat) : Prog := .dyn fun s => .seq (setSat (PHC_RAIL_VMEAS_V r) ((s.rail r).volt (fb % 4096))) (svRail r)

/-! ### Start and stop (R156, R165) -/

/-- The check of R156 fails: a rail whose slot is on or starting names the phases it started with (R174), as does one that is still being
discharged. (DESIGN CHOICE, log entry 130) -/
def State.railBad (s : State) (r : Nat) : Bool :=
  let ph := s.f (PHC_RAIL_CFG_PHASES r)
  ph == 0 || (s.f (PHC_RAIL_CFG_VIN_SRC r) == 1 && s.isMgr) ||
    (List.range 4).any fun q => q != r && (s.slotOn (7 + q) || (s.rail q).dis) && ((s.rail q).phases &&& ph) != 0

/-- Phase `n`, which was lost, is OFF (R173). -/
def phFound (n : Nat) : Prog :=
  blk [set (PHC_PH_DIS_SENSE.bit n) 0, set (PHC_PH_DIS_OPEN.bit n) 0, set (PHC_PH_STATUS_STATE n) 1, set (PHC_PH_STATUS_RAIL n) 7,
    phEng n fun e => { e with rejoin := none }]

/-- All gates of rail `r` are low: its phases are UNUSED but for the lost ones, which keep the rail they were lost on (R157, R165, R173);
VMEAS, IMEAS and DUTY keep their last values. (DEDUCED, log entry 107) -/
def railGatesLow (r : Nat) : Prog := .dyn fun s =>
  blk [endRamp (10 + r), set (PHC_STATUS_ON.bit r) 0, set (PHC_RAIL_STATUS_LIMIT r) 0, set (PHC_RAIL_VNOW_V r) 0,
    forEach ((List.range 8).filter fun n => s.f (PHC_PH_STATUS_RAIL n) == r && s.phState n < 3) fun n =>
      blk [set (PHC_PH_STATUS_STATE n) 0, set (PHC_PH_STATUS_RAIL n) 7, set (PHC_PH_STATUS_LIMITING n) 0, phEng n fun _ => {}],
    forEach ((List.range 8).filter fun n => (s.ph n).rejoin == some r) phFound,
    railEng r fun _ => {}, railLimit r]

/-- Phase `n` joins rail `r` with the sense resistance that the rail started with (R174): average current mode starts from FF (R161). -/
def phStart (r n : Nat) : Prog := .dyn fun s =>
  blk [phFound n, set (PHC_PH_STATUS_STATE n) 2, set (PHC_PH_STATUS_RAIL n) r,
    phEng n fun e => { rsense := e.rsense, cl := s.f (PHC_PH_CL_CL_THR n), cs := e.cs, d := 16 * s.railFf r }]

/-- CS samples of eight phases spelt by `k`. -/
def csFree (k n : Nat) : Nat × Nat × Nat := (k / 4096 ^ (3 * n) % 4096, k / 4096 ^ (3 * n + 1) % 4096, k / 4096 ^ (3 * n + 2) % 4096)

/-- The CS samples of the phases of `l` for the period that begins: what they read is open, and DE takes PHn_LG low where the end of the
on-time reads at or below ZC_THR (R159, R162). (DEDUCED, log entries 7, 108) -/
def csDraw (r : Nat) (l : List Nat) : Prog := withFree fun k => .dyn fun s =>
  forEach l fun n => phEng n fun e => { e with
    cs := csFree k n
    zero := e.zero || s.railDe r && (csFree k n).2.2 * 5 ≤ 4096 + 5 * latched (PHC_RAIL_TIMING_ZC_THR 0) (s.rail r).timing }

/-- The slot of rail `r` starts (R156, R165): the words of R174 are taken, FB is sampled, and a soft start begins at VMEAS; the loop of R160
starts with u, y and both earlier errors 0. (DESIGN CHOICE, log entry 130) -/
def railStart (r : Nat) : Prog := .dyn fun s =>
  .seq (whenB (s.rail r).dis (railGatesLow r))
    (if s.railBad r then
      blk [railEng r fun _ => { phases := s.f (PHC_RAIL_CFG_PHASES r) }, set (PHC_RAIL_STATUS_CFG_ERR r) 1, event (PHC_EVT_RAW_CFG_ERR.bit r), phcMsg 4 (8 + r)]
    else
      let ph := s.f (PHC_RAIL_CFG_PHASES r)
      blk [set (PHC_RAIL_STATUS_CFG_ERR r) 0,
        railEng r fun _ => {
          phases := ph
          cfg := (s.reg (PHC_RAIL_CFG r)).toNat
          period := s.f (PHC_RAIL_PERIOD_PERIOD r)
          ratio := s.f (PHC_RAIL_FBDIV_RATIO r)
          timing := (s.reg (PHC_RAIL_TIMING r)).toNat
          ust := (s.reg (PHC_RAIL_UST r)).toNat },
        forEach ((List.range 8).filter fun n => bitOf ph n) fun n => phEng n fun e => { e with rsense := s.f (PHC_PH_CFG_RSENSE n) },
        csDraw r ((List.range 8).filter fun n => bitOf ph n), withFree (railSample r), .dyn fun t => rampStart (10 + r) (t.f (PHC_RAIL_VMEAS_V r)),
        forEach ((List.range 8).filter fun n => bitOf ph n) fun n => whenS (fun t => t.phState n < 3) (phStart r n),
        railLimit r, whenS (fun t => t.active r != []) (set (PHC_STATUS_ON.bit r) 1), svBlank])

/-- State and power-good of a rail that stops (R165). -/
def railOff (r : Nat) : Prog :=
  blk [set (PHC_RAIL_STATUS_STATE r) 0, set (PHC_RAIL_STATUS_PG r) 0, set (PHC_PG_PG.bit r) 0]

/-- The slot of rail `r` stops (R165, R141): with its discharge on, the target ramps from its present value to 0 V and the phases sink
current; else all gates are low. -/
def railStop (r : Nat) (dis : Bool) : Prog := .dyn fun s =>
  if dis && s.railOn r && s.active r != [] then
    blk [setRamp (10 + r) (s.vInst (10 + r)) true, railOff r, railEng r fun e => { e with dis := true }]
  else .seq (railOff r) (railGatesLow r)

/-- The discharge of rail `r` ends (R141): below DIS_LVL, or STUCK. -/
def railDisEnd (r : Nat) : Prog := whenS (fun s => (s.rail r).dis) (railGatesLow r)

/-- PHC_RAIL_VSET[r] written (R163, R165). -/
def railVset (r : Nat) (w : Word) : Prog := .dyn fun s =>
  retarget (10 + r) (clamp 120 16000 ((PHC_RAIL_VSET_VSET r).of w)) (s.railOn r) (pgFalse r)

def railRampDone (r : Nat) : Prog := whenS (fun s => s.ramping (10 + r) && s.railOn r) (rampEnd (10 + r))

/-! ### Phase health (R171-R173) -/

/-- Phase `n` of rail `r` fails, on sense or on share (R172): the rail goes on without it, or stops switching with its last one. -/
def phaseFail (r n : Nat) (sense : Bool) : Prog :=
  blk [set (PHC_PH_STATUS_STATE n) (if sense then 4 else 3), set (PHC_PH_STATUS_LIMITING n) 0,
    set ((if sense then PHC_PH_DIS_SENSE else PHC_PH_DIS_OPEN).bit n) 1, railLimit r, phcMsg (if sense then 2 else 1) n,
    event (PHC_EVT_RAW_PH_LOSS.bit n), healthRestart r,
    whenS (fun t => (t.active r).isEmpty) (blk [set (PHC_STATUS_ON.bit r) 0, set (PHC_RAIL_STATUS_LIMIT r) 0, pgFalse r])]

/-- The three CS samples of a phase's on-time: start, middle, end (R159). -/
abbrev CsSample := Nat × Nat × Nat

def csOf (l : List CsSample) (n : Nat) : CsSample := nth l n (0, 0, 0)

/-- A phase's count of `k` periods more where the condition holds, else from 0 (R171). -/
def runOf (old k : Nat) (c : Bool) : Nat := if c then old + k else 0

/-- Sum of the active phases' currents, in 10 mA (R159). -/
def State.railSum (s : State) (r : Nat) (cs : List CsSample) : Int :=
  ((s.active r).map fun n => (s.ph n).amps ((csOf cs n).2.1)).sum

/-- Deviation of phase `n` from the rail's mean current, times n_active (R171). -/
def State.shareDev (s : State) (r : Nat) (cs : List CsSample) (n : Nat) : Nat :=
  (((s.active r).length : Int) * (s.ph n).amps ((csOf cs n).2.1) - s.railSum r cs).natAbs

/-- The counts of phase `n` after `k` judged periods with the samples `cs` (R171): share deviation, strictly beyond 35%, and sense failure,
at a duty strictly above 20%.  A mean below SHARE_MIN restarts both. -/
def State.health (s : State) (r : Nat) (cs : List CsSample) (k n : Nat) : Nat × Nat :=
  let m := (s.active r).length
  let sum := s.railSum r cs
  let c := csOf cs n
  let low : Bool := sum < (m * s.f (PHC_RAIL_SHARE_SHARE_MIN r) : Nat)
  let dev : Bool := 2 ≤ m && 35 * sum < (100 * s.shareDev r cs n : Nat)
  let flat : Bool := 65536 < 5 * s.f (PHC_PH_DUTY_D n) && (c.2.2 : Int) - c.1 < s.f (PHC_RAIL_SHARE_FLAT_THR r)
  (runOf (s.ph n).share k (dev && !low), runOf (s.ph n).flat k (flat && !low))

/-- The phase of `l` that is disabled: the largest deviation, then the lowest index (R171). -/
def State.worstPhase (s : State) (r : Nat) (cs : List CsSample) (l : List Nat) : Option Nat :=
  l.foldl (fun b n => match b with
    | none => some n
    | some m => if s.shareDev r cs m < s.shareDev r cs n then some n else some m) none

/-- `k` periods of rail `r` in which its phases' CS samples are `cs` (R171): suspended periods count down first; a phase whose count reaches
64 fails, on sense ahead of share, and only one of several. -/
def railHealth (r k : Nat) (cs : List CsSample) : Prog := .dyn fun s =>
  if s.railSt r != 2 then healthRestart r
  else
    let j := k - (s.rail r).susp
    let h := fun n => s.health r cs j n
    let sense := s.worstPhase r cs ((s.active r).filter fun n => 64 ≤ (h n).2)
    let share := s.worstPhase r cs ((s.active r).filter fun n => 64 ≤ (h n).1)
    .seq (railEng r fun e => { e with susp := e.susp - k })
      (whenB (0 < j) (match sense, share with
        | some n, _ => phaseFail r n true
        | none, some n => phaseFail r n false
        | none, none => forEach (s.active r) fun n => phEng n fun e => { e with
            share := (h n).1
            flat := (h n).2 }))

/-- A lost phase joins rail `r` again (R173): ACTIVE, with the rail's counts restarted (R171). -/
def phRejoin (r n : Nat) : Prog := blk [phStart r n, set (PHC_STATUS_ON.bit r) 1, railLimit r, healthRestart r]

/-- PHC_CMD REENABLE (R173): the phase returns to ACTIVE on the running rail that started with it, at that rail's next period start, or at once
where the rail has stopped switching with its last phase; else to OFF. (DEDUCED, log entry 125) -/
def reenable (n : Nat) : Prog := .dyn fun s =>
  whenB (s.phState n == 3 || s.phState n == 4)
    (match (List.range 4).find? fun r => s.railOn r && bitOf (s.rail r).phases n with
      | some r => if s.active r == [] then phRejoin r n else phEng n fun e => { e with rejoin := some r }
      | none => phFound n)

/-! ### Current limits (R166-R168) -/

/-- PHn_HG is high `t` × 3.125 ns after it rose: its pulse of this period or of an undershoot response still runs. -/
def State.pulseOn (s : State) (n t : Nat) : Bool :=
  s.phState n == 2 && !(s.ph n).tripped && (match s.railSt (s.f (PHC_PH_STATUS_RAIL n)) with
    | 3 => true
    | 4 => false
    | _ => 2 * t < (s.ph n).width)

/-- Duty in Q16 of an on-time of `on` counts in a period of `len`. -/
def dutyOf (on len : Nat) : Nat := on * 65536 / len

/-- The sense of phase `n` stands at `uv` microvolts, `t` × 3.125 ns after PHn_HG rose (R166): beyond CL_THR once the blanking is over, the
pulse ends, 35 ns later at most; the period counts once. -/
def cycleLimit (n uv t : Nat) : Prog := .dyn fun s =>
  let e := s.rail (s.f (PHC_PH_STATUS_RAIL n))
  whenB (s.pulseOn n t && 500 * (s.ph n).cl < uv && e.blank ≤ t)
    (blk [set (PHC_PH_STATUS_LIMITING n) 1, whenB (!(s.ph n).limited) (incSat (PHC_PH_CNT_LIMITED n)), phEng n fun p => { p with
      tripped := true
      limited := true
      width := min p.width (2 * t + 22)
      duty := min p.duty (dutyOf (2 * t + 22) e.len) }])

/-- The limit of phase `n` has tripped in `k` consecutive periods (R167). -/
def phaseIlim (n k : Nat) : Prog :=
  whenS (fun s => s.phState n == 2 && 64 ≤ k) (blk [event (PHC_EVT_RAW_ILIM.bit n), phcMsg 0 n])

/-! ### Load steps (R169, R170) -/

/-- The halved threshold and the short holdoff are in force on rail `r`: within 2 ms of the last pull-in (R170). -/
def State.ustArmed (s : State) (r : Nat) : Bool := r == 0 && s.eng.pwr.armAt.any fun t => s.now < t + 2000

/-- Field `x`, of rail 0's PHC_RAIL_UST, as rail `r` has it in effect (R174). -/
def State.ustF (s : State) (r : Nat) (x : Fld) : Nat := latched x (s.rail r).ust

/-- UST_THR in force, in 0.25%, and the holdoff in periods (R169, R170). -/
def State.ustThr (s : State) (r : Nat) : Nat := (if s.ustArmed r then 1 else 2) * s.ustF r (PHC_RAIL_UST_UST_THR 0)

def State.ustHold (s : State) (r : Nat) : Nat := if s.ustArmed r then 2 else 8

/-- FB at `fb` counts lies strictly below the undershoot level; it has recovered half of the way (R169). -/
def State.under (s : State) (r fb : Nat) : Bool := 400 * fb < s.fbt r * (400 - s.ustThr r)

def State.recovered (s : State) (r fb : Nat) : Bool := s.fbt r * (800 - s.ustThr r) ≤ 800 * fb

/-- FB lies strictly above the overshoot level; it is at or below the release level (R169). -/
def State.above (s : State) (r fb : Nat) : Bool := s.fbt r * (200 + s.ustF r (PHC_RAIL_UST_OST_THR 0)) < 200 * fb

def State.fallenBack (s : State) (r fb : Nat) : Bool := 400 * fb ≤ s.fbt r * (400 + s.ustF r (PHC_RAIL_UST_OST_THR 0))

/-- FB of rail `r` falls to `fb` (R165, R169): every active phase raises PHn_HG. (DEDUCED, log entry 79) -/
def undershoot (r fb : Nat) : Prog :=
  whenS (fun s => s.railSt r == 2 && s.active r != [] && s.ustF r (PHC_RAIL_UST_UST_EN 0) == 1 && s.ustHold r ≤ (s.rail r).since && s.under r fb)
    (blk [set (PHC_RAIL_STATUS_STATE r) 3, set (PHC_RAIL_STATUS_LIMIT r) 0, incSat (PHC_RAIL_CNT_UST r), event (PHC_EVT_RAW_UST.bit r), healthRestart r,
      .dyn fun s => forEach (s.active r) fun n => phEng n fun e => { e with tripped := false }])

/-- FB of rail `r` rises to `fb` (R165, R169). (DEDUCED, log entry 79) -/
def overshoot (r fb : Nat) : Prog :=
  whenS (fun s => s.railSt r == 2 && s.active r != [] && s.ustF r (PHC_RAIL_UST_OST_EN 0) == 1 && s.above r fb)
    (blk [set (PHC_RAIL_STATUS_STATE r) 4, set (PHC_RAIL_STATUS_LIMIT r) 0, incSat (PHC_RAIL_CNT_UST r), healthRestart r])

/-- A response of rail `r` ends (R165, R169): REG, u and y preset so that d is the mean duty `d` of the response, average current mode at
FF, the holdoff, and the suspension of R171.  Every PHn_HG that its limit has not ended stays high for what is left of MIN_ON, `left` counts,
and the pulses go on at the next period start. (DEDUCED, log entry 108) -/
def responseEnd (r left d : Nat) : Prog := .dyn fun s =>
  let ff := s.railFf r
  let y : Int := 16 * ((min d 65535 : Nat) - (ff : Int))
  blk [set (PHC_RAIL_STATUS_STATE r) 2, railEng r fun e => { e with
      since := 0
      u := y
      y := y }, healthRestart r,
    forEach (s.active r) fun n => .seq (setSat (PHC_PH_DUTY_D n) d) (phEng n fun e => { e with
      d := 16 * ff
      duty := d
      idle := true
      start := (s.rail r).pos
      width := if e.tripped then 0 else left
      tripped := false })]

/-- MIN_ON of a rail in counts (R162). -/
def RailEng.minOn (e : RailEng) : Nat := 2 * e.blank + 16

/-- The undershoot response of rail `r` at feedback `fb`, `t` × 100 ns after it began, `trips` the phases whose cycle limit has tripped
(R169). -/
def undershootEnd (r fb t trips d : Nat) : Prog :=
  whenS (fun s => s.railSt r == 3 && (s.recovered r fb || s.ustF r (PHC_RAIL_UST_MAXON 0) ≤ t || (s.active r).all (bitOf trips)))
    (.dyn fun s => responseEnd r ((s.rail r).minOn - 64 * t) d)

def overshootEnd (r fb d : Nat) : Prog := whenS (fun s => s.railSt r == 4 && s.fallenBack r fb) (responseEnd r 0 d)

/-- `k` more periods have passed since the response ended (R169, R170). -/
def ustHoldoff (r k : Nat) : Prog := railEng r fun e => { e with since := min 8 (e.since + k) }

/-- CONT_ARM as EXT0 has it in effect (R170, R174). -/
def State.contArms (s : State) : Bool :=
  s.isMgr && (if s.railOn 0 then s.ustF 0 (PHC_RAIL_UST_CONT_ARM 0) == 1 else s.b (PHC_RAIL_UST_CONT_ARM 0))

/-- A coil pull-in starts: its 2 ms run from here, also where those of an earlier one do (R170). -/
def contArm : Prog := whenS State.contArms (.dyn fun s => pwrEng fun e => { e with armAt := some s.now })

/-- 2 ms have passed since the last pull-in (R170). -/
def contArmEnd : Prog := whenS (fun s => !s.ustArmed 0) (pwrEng fun e => { e with armAt := none })

/-! ### Regulation of a period (R160-R162, R168) -/

/-- u[k] in sixteenths for the error `ek` (R160). -/
def State.vmU (s : State) (r : Nat) (ek : Int) : Int :=
  let e := s.rail r
  e.u + s.i (PHC_RAIL_CV0_KP r) * (ek - e.e1) + s.i (PHC_RAIL_CV0_KI r) * ek + s.i (PHC_RAIL_CV1_KD r) * (ek - 2 * e.e1 + e.e2)

/-- y[k] in sixteenths from u[k] (R160). -/
def State.vmY (s : State) (r : Nat) (u : Int) : Int :=
  let e := s.rail r
  let kf : Int := if s.f (PHC_RAIL_CV1_KF r) == 0 then 256 else s.f (PHC_RAIL_CV1_KF r)
  e.y + kf * (u - e.y) / 256

/-- d of phase `n` in sixteenths, and ei, in average current mode: IREF / n against the phase's current (R161), both floored; in a discharge
IREF may sink (R141). (DEDUCED, log entry 108) -/
def State.acmLoop (s : State) (r : Nat) (y : Int) (n : Nat) (i : Int) : Int × Int :=
  let lim : Int := s.f (PHC_RAIL_ILIM_EFF_ILIM_EFF r)
  let iref := clampInt (if (s.rail r).dis then -lim else 0) lim (y * lim / (16 * 65536))
  let ei := iref / (s.active r).length - i
  ((s.ph n).d + s.i (PHC_RAIL_CI_KPI r) * (ei - (s.ph n).ei) + s.i (PHC_RAIL_CI_KII r) * ei, ei)

/-- In a discharge the phases sink more than ILIM_EFF (R141). -/
def State.sinkLimited (s : State) (r : Nat) (sum : Int) : Bool :=
  !(s.rail r).acm && (s.rail r).dis && sum < -(s.f (PHC_RAIL_ILIM_EFF_ILIM_EFF r) : Int)

/-- Voltage mode's current limit is acting: the rail current exceeds ILIM_EFF (R168), in a discharge in magnitude (R141). -/
def State.vmLimited (s : State) (r : Nat) (sum : Int) : Bool :=
  (!(s.rail r).acm && (s.f (PHC_RAIL_ILIM_EFF_ILIM_EFF r) : Int) < sum) || s.sinkLimited r sum

/-- The duty that phase `n` asks for in this period (R160, R161, R168, and the shortfall carried by R162), in Q16.  A limit reduces what this
period's loop asks for, and in a discharge the time left to the low side in the same proportion. (DESIGN CHOICE, log entry 130) -/
def State.dutyAsked (s : State) (r : Nat) (y sum : Int) (n : Nat) (i : Int) : Nat :=
  let lim : Int := s.f (PHC_RAIL_ILIM_EFF_ILIM_EFF r)
  let d := if (s.rail r).acm then (s.acmLoop r y n i).1 / 16 else (s.railFf r : Int) + y / 16
  let d := if s.sinkLimited r sum then 65536 - (65536 - d) * lim / -sum else if s.vmLimited r sum then d * lim / sum else d
  d.toNat + (s.ph n).carry

/-- CLK_PWM counts of one count of the controller: of 25 ns while it counts the HFRC (R158). -/
def State.grain (s : State) : Nat := if s.b PHC_STATUS_CLK_RC then 16 else 1

/-- The on-time that a duty asks for, in whole counts of `g`, and the clamps of R162, at those counts that keep them. (DEDUCED, log entry
108) -/
def onAsked (g d len : Nat) : Nat := d * (len / g) / 65536 * g

def onMost (g len : Nat) : Nat := (len - 52) / g * g

def onLeast (g blank : Nat) : Nat := (2 * blank + 16 + g - 1) / g * g

/-- A clamp of R162 acts on an asked on-time. -/
def onClamped (g blank len on : Nat) : Bool := onMost g len < on || on < onLeast g blank

/-- The on-time that results; 0 where the pulse is skipped. -/
def onGiven (de : Bool) (g blank len on : Nat) : Nat :=
  if onMost g len < on then onMost g len else if on < onLeast g blank then (if de then 0 else onLeast g blank) else on

/-- Phase `n`, the `j`-th of `m`, takes its pulse of this period: offset, on-time, duty (R157, R162); a clamp holds its own loop of R161. -/
def phPulse (r m j n d : Nat) (acm : Int × Int) : Prog := .dyn fun s =>
  let len := (s.rail r).len
  let g := s.grain
  let asked := onAsked g d len
  let hold := onClamped g (s.rail r).blank len asked
  let on := onGiven (s.railDe r) g (s.rail r).blank len asked
  phEng n fun e => { e with
      start := (2 * j * (len / g) + m) / (2 * m) * g
      width := on
      zero := s.railDe r && on == 0
      idle := false
      carry := if on == 0 then d else 0
      d := if hold then e.d else acm.1
      ei := if hold then e.ei else acm.2
      duty := dutyOf on len }

/-- What phase `n` shows of the period that ends: IMEAS, DUTY, LIMITING (R159, R178); CL_THR is taken for the next (R174). -/
def phShow (n : Nat) : Prog := .dyn fun s =>
  let e := s.ph n
  blk [setI (PHC_PH_IMEAS_I n) (e.amps e.cs.2.1), setSat (PHC_PH_DUTY_D n) e.duty, setB (PHC_PH_STATUS_LIMITING n) e.limited,
    phEng n fun e => { e with
      limited := false
      cl := s.f (PHC_PH_CL_CL_THR n) }]

/-- A period of rail `r` is regulated, with the feedback count `fb` and the CS samples `cs` of the period before (R157-R162, R168).  While the
current limit acts u is held; a clamp on any phase holds it as well, and the filter of y goes on from what is held.  In a response no period
computes the loop, so that e[k-1] and e[k-2] after it are those from before. (DESIGN CHOICE, log entry 130) -/
def railLoop (r fb : Nat) (cs : List CsSample) : Prog := .dyn fun s =>
  let act := s.active r
  let sum := s.railSum r cs
  let ek : Int := (s.fbt r : Int) - fb
  let lim := s.vmLimited r sum
  let u := if lim then (s.rail r).u else s.vmU r ek
  let y := s.vmY r u
  let amp := fun n => (s.ph n).amps (csOf cs n).2.1
  let len := s.periodLen (s.rail r)
  let asked := act.map fun n => (n, s.dutyAsked r y sum n (amp n))
  let u := if asked.any fun x => onClamped s.grain (s.rail r).blank len (onAsked s.grain x.2 len) then (s.rail r).u else u
  blk [setB (PHC_RAIL_STATUS_LIMIT r) lim,
    railEng r fun e => { e with
      len := len
      u := u
      y := s.vmY r u
      e1 := ek
      e2 := e.e1 },
    forEach asked.zipIdx fun x => phPulse r act.length x.2 x.1.1 x.1.2 (s.acmLoop r y x.1.1 (amp x.1.1)),
    forEach act fun n => phEng n fun e => { e with tripped := false }, csDraw r act]

/-- The rail is regulated: in RAMP and REG and in a discharge. -/
def State.railLoops (s : State) (r : Nat) : Bool := (s.railSt r == 1 || s.railSt r == 2 || (s.rail r).dis) && s.active r != []

/-- A switching period of rail `r` begins with the feedback count `fb` (R157-R164, R168, R171, R173, R174). -/
def railPeriod (r fb : Nat) : Prog := .dyn fun s0 =>
  let cs := (List.range 8).map fun n => (s0.ph n).cs
  blk [railSample r fb, forEach (s0.active r) phShow, .dyn fun s => setI (PHC_RAIL_IMEAS_I r) (s.railSum r cs),
    railHealth r 1 cs, railJudge r 1, ustHoldoff r 1,
    forEach ((List.range 8).filter fun n => (s0.ph n).rejoin == some r) (phRejoin r), railLimit r,
    railEng r fun e => { e with ust := (s0.reg (PHC_RAIL_UST r)).toNat },
    whenS (fun s => s.railLoops r) (railLoop r (fb % 4096) cs)]

/-- One microsecond of rail `r`: 640 counts, and a period each time its length has passed; what FB reads is open. (DEDUCED, log entry 7) -/
def railUs (r : Nat) : Prog := .dyn fun s =>
  let pos := (s.rail r).pos + 640
  if pos < (s.rail r).len then railEng r fun e => { e with pos := pos }
  else .seq (railEng r fun e => { e with pos := if e.len == 0 then 0 else pos - e.len }) (withFree (railPeriod r))

/-! ### Gates (R157, R162, R166, R169) -/

/-- Counts since phase `n`'s on-time began, in its rail's period. -/
def State.phPos (s : State) (n : Nat) : Nat :=
  let e := s.rail (s.f (PHC_PH_STATUS_RAIL n))
  if e.len == 0 then 0 else (e.pos + e.len - (s.ph n).start % e.len) % e.len

/-- PHn_HG. -/
def State.hg (s : State) (n : Nat) : Bool :=
  let r := s.f (PHC_PH_STATUS_RAIL n)
  s.phState n == 2 && (match s.railSt r with
    | 3 => !(s.ph n).tripped
    | 4 => false
    | _ => s.phPos n < (s.ph n).width)

/-- PHn_LG: DT_HL after PHn_HG has fallen until DT_LH before it rises; never beside PHn_HG. -/
def State.lg (s : State) (n : Nat) : Bool :=
  let r := s.f (PHC_PH_STATUS_RAIL n)
  let e := s.rail r
  s.phState n == 2 && !s.hg n && (match s.railSt r with
    | 3 => !s.railDe r
    | 4 => !s.railDe r
    | _ => !(s.ph n).zero && (s.ph n).width + latched (PHC_RAIL_TIMING_DT_HL 0) e.timing ≤ s.phPos n &&
        s.phPos n + latched (PHC_RAIL_TIMING_DT_LH 0) e.timing < e.len &&
        (!(s.ph n).idle || e.pos + latched (PHC_RAIL_TIMING_DT_LH 0) e.timing < e.len))

end Sys2Proof.Machine
end

