-- ==== Sys2Proof/Machine/Seq.lean ====
section
/-!
DEFINITION. The power sequencer (07_sequencer.md): slots, the power-up and power-down programs, failures and retries,
single-slot power-downs, latches, and the sequence's states (R132-R149).
-/
namespace Sys2Proof.Machine

def seqEng (g : SeqEng → SeqEng) : Prog := eng fun e => { e with seq := g e.seq }

def State.seqState (s : State) : Nat := s.f SEQ_STATUS_STATE

/-- The VSYS source slot, 7-10, or 0x1F (R134). -/
def State.vsysSlot (s : State) : Nat := s.f SEQ_CFG_VSYS_SLOT

/-- The VSYS source slot is up or starting. -/
def State.vsysOn (s : State) : Bool := 7 ≤ s.vsysSlot && s.vsysSlot ≤ 10 && s.slotOn s.vsysSlot

/-- The programmed slots 3-18, the VSYS source slot left out (R132, R134). -/
def State.progSlots (s : State) : List Nat := (List.range 19).filter fun n => 3 ≤ n && n != s.vsysSlot

/-- The marks of R142 and R146: STUCK stays while the slot waits or is HELD, FAULTED until it is cleared. -/
def State.stuck (s : State) (n : Nat) : Bool := s.b (SEQ_MAP_STUCK_MAP.bit n)

def State.faulted (s : State) (n : Nat) : Bool := s.b (SEQ_MAP_FAULT_MAP.bit n)

/-- A slot is wanted (R135). -/
def State.wanted (s : State) (n : Nat) : Bool :=
  s.b (SEQ_SLOT_CFG_EN n) && bitOf (s.f (SEQ_SLOT_CFG_MODES n)) s.mode && !s.b (SEQ_SLOT_STAT_OVR_OFF n) &&
    !s.faulted n && s.slotState n != 6

/-- Every slot that `n` depends on is up (R138). -/
def State.depsUp (s : State) (n : Nat) : Bool :=
  (List.range 19).all fun d => !bitOf (s.f (SEQ_SLOT_DEP_DEP n)) d || s.slotState d == 3

/-- Slots that depend on a slot of `l`, directly (R142, R146). -/
def State.depOn (s : State) (l : List Nat) : List Nat :=
  (List.range 19).filter fun n => !l.contains n && l.any fun d => bitOf (s.f (SEQ_SLOT_DEP_DEP n)) d

/-- Slot `n` with every slot that depends on it, directly or through other slots. -/
def State.closure (s : State) (n : Nat) : List Nat :=
  (List.range 19).foldl (fun l _ => l ++ s.depOn l) [n]

/-- What goes down with slot `n`: the VSYS source slot only by a fault of its own (R134). -/
def State.downWith (s : State) (n : Nat) : List Nat := (s.closure n).filter fun m => m == n || m != s.vsysSlot

/-- The check of R137 passes. -/
def State.seqCheck (s : State) : Bool :=
  (List.range 19).all fun n => !s.b (SEQ_SLOT_CFG_EN n) || (List.range 19).all fun d =>
    d < 3 || !bitOf (s.f (SEQ_SLOT_DEP_DEP n)) d ||
      (s.f (SEQ_SLOT_CFG_UP_STEP d) < s.f (SEQ_SLOT_CFG_UP_STEP n) && s.f (SEQ_SLOT_CFG_DN_STEP n) < s.f (SEQ_SLOT_CFG_DN_STEP d))

/-- Slot `n` takes state `st`; the maps follow (R154, R155).  The STUCK mark stays while the slot waits, is HELD or FAULTED, and ends with
its start (R142); a FAULTED mark stays. -/
def setSlot (n st : Nat) : Prog := .dyn fun s =>
  blk [set (SEQ_SLOT_STAT_STATE n) st, setB (SEQ_MAP_UP_MAP.bit n) (st == 3), setB (SEQ_MAP_HELD_MAP.bit n) (st == 6),
    setB (SEQ_MAP_FAULT_MAP.bit n) (st == 7 || s.faulted n),
    setB (SEQ_MAP_STUCK_MAP.bit n) (st == 5 || ((st == 1 || st == 6 || st == 7) && s.stuck n)),
    whenB (st != 3) (set (SEQ_SLOT_STAT_ADOPTED n) 0)]

/-- Slot `n` rests as its marks say: STUCK, FAULTED or OFF. (DESIGN CHOICE, log entry 109) -/
def slotRest (n : Nat) : Prog := .dyn fun s => setSlot n (if s.stuck n then 5 else if s.faulted n then 7 else 0)

/-- The FAULTED mark of slot `n` is cleared (R147, R148). -/
def faultClear (n : Nat) : Prog :=
  .seq (set (SEQ_MAP_FAULT_MAP.bit n) 0) (whenS (fun s => s.slotState n == 7) (slotRest n))

/-- What a slot controls switches on (R132); the GPIO of a GEN slot follows its state (State.gpioDrive). -/
def slotDrive (n : Nat) : Prog :=
  if n == 3 then regStart 3 else if 4 ≤ n && n ≤ 6 then regStart (n + 3)
  else if 7 ≤ n && n ≤ 10 then railStart (n - 7) else .skip

/-- What a slot controls switches off, `dis` with its active discharge (R141). -/
def slotCut (n : Nat) (dis : Bool) : Prog :=
  if n == 3 then regStop 3 else if 4 ≤ n && n ≤ 6 then regStop (n + 3)
  else if 7 ≤ n && n ≤ 10 then railStop (n - 7) dis else .skip

/-- The discharge of an EXT slot's phases ends (R141). -/
def slotDisEnd (n : Nat) : Prog := whenB (7 ≤ n && n ≤ 10) (railDisEnd (n - 7))

/-- The GEN slot in use that drives GPIO `g`; the lowest of several. (DESIGN CHOICE, log entry 109) -/
def State.genOf (s : State) (g : Nat) : Option Nat :=
  (List.range 19).find? fun n => 11 ≤ n && s.b (SEQ_SLOT_CFG_EN n) && s.f (SEQ_SLOT_CFG_OUT_GPIO n) == g

/-- The level the sequencer drives on GPIO `g` (R132, R141, R154): active, by POL, while its slot is STARTING or UP, else inactive; `none`
where no slot in use drives it. -/
def State.gpioDrive (s : State) (g : Nat) : Option Bool := (s.genOf g).map fun n => s.slotOn n != s.b (SEQ_SLOT_CFG_POL n)

/-- Level of a slot's power-good GPIO, as PG_SRC asks for it (R139). -/
def State.pgGpio (s : State) (n : Nat) : Bool :=
  let lvl := bitOf s.balls.gpio (s.f (SEQ_SLOT_CFG_PG_GPIO n))
  match s.f (SEQ_SLOT_CFG_PG_SRC n) with | 1 => lvl | 2 => !lvl | _ => true

/-- A slot's power-good source is true (R139). -/
def State.slotPg (s : State) (n : Nat) : Bool :=
  (if n == 3 then bitOf (s.f (regState 3)) 1 else if 4 ≤ n && n ≤ 6 then bitOf (s.f (regState (n + 3))) 1
   else if 7 ≤ n && n ≤ 10 then s.b (PHC_RAIL_STATUS_PG (n - 7)) else true) && s.pgGpio n

def seqFirst (kind n : Nat) : Prog := firstRec SEQ_FIRST_VALID [(SEQ_FIRST_KIND, kind), (SEQ_FIRST_SLOT, n)]

/-- A slot is marked HELD (R138, R142). -/
def slotHeld (n : Nat) : Prog := blk [setSlot n 6, event SEQ_EVT_RAW_HELD]

/-- A sequence ends in `st`; no step is in progress. -/
def seqEnter (st : Nat) : Prog :=
  blk [set SEQ_STATUS_STATE st, set SEQ_STATUS_STEP 0, seqEng fun e => { e with
      drop := []
      only := none }, svBlank]

/-- The sequence reaches OFF (R153). -/
def seqOff : Prog := .seq (seqEnter 0) (event SEQ_EVT_RAW_DOWN_DONE)

/-! ### Power-up (R138) -/

/-- A power-up ends: UP, UP_DONE (R148). -/
def upEnd : Prog := blk [seqEnter 2, incSat SEQ_CNT_UPS, event SEQ_EVT_RAW_UP_DONE]

/-- A wanted slot that a power-up has yet to start: off, or STUCK as a record only (R142), of those that a partial power-up is for (R135), and
not dropped from the running sequence (R146). -/
def State.toStart (s : State) (n : Nat) : Bool :=
  s.wanted n && (s.slotState n == 0 || s.slotState n == 5) && !s.eng.seq.drop.contains n &&
    (s.eng.seq.only.map fun l => l.contains n).getD true

/-- Slots that HOLD_DEP keeps off: a STUCK slot with it and every slot that depends on that slot (R142). (DEDUCED, log entry
125) -/
def State.heldBack (s : State) : List Nat :=
  (List.range 19).flatMap fun n => if s.stuck n && s.b (SEQ_SLOT_CFG_HOLD_DEP n) then s.downWith n else []

/-- The power-up goes to the lowest step from `k` that has a slot to start, or ends (R138). -/
def upFrom (k : Nat) : Prog := .dyn fun s =>
  let l := s.progSlots.filter fun n => s.toStart n && k ≤ s.f (SEQ_SLOT_CFG_UP_STEP n)
  match (l.map fun n => s.f (SEQ_SLOT_CFG_UP_STEP n)).min? with
  | none => upEnd
  | some st => blk [set SEQ_STATUS_STATE 1, set SEQ_STATUS_STEP st,
      forEach (l.filter fun n => s.f (SEQ_SLOT_CFG_UP_STEP n) == st) fun n => setSlot n 1]

/-- A STUCK slot with HOLD_DEP and every slot that depends on it are marked HELD, as far as they are off (R142). -/
def holdBack : Prog := .dyn fun s => forEach (s.heldBack.filter fun n => s.slotState n == 0 || s.slotState n == 5) slotHeld

/-- A power-up starts at step 1 (R138). -/
def upStart : Prog := .seq holdBack (upFrom 1)

/-- An on request whose power-up the check of R137 allows: COUNT returns to 0 (R143). -/
def upRequest : Prog := ifS State.seqCheck (.seq (set SEQ_RETRY_COUNT 0) upStart) (event SEQ_EVT_RAW_CFG_ERR)

/-- HELD slots are released (R142), but for those of `l`. -/
def heldRelease (l : List Nat) : Prog := .dyn fun s =>
  forEach ((List.range 19).filter fun n => s.slotState n == 6 && !l.contains n) slotRest

/-! ### Requests to power up (R145, R147, R148) -/

/-- The VSYS source slot starts (R134), off or STUCK as a record only (R142): its own power-good and timeout, no step. -/
def vsysStart : Prog := .dyn fun s =>
  let n := s.vsysSlot
  whenB (s.isWrk && 7 ≤ n && n ≤ 10 && (s.slotState n == 0 || s.slotState n == 5 && !s.b (SEQ_SLOT_CFG_HOLD_DEP n)))
    (blk [seqEng fun e => { e with vsysRetry := false }, setSlot n 2, incSat (SEQ_SLOT_CNT_STARTS n), slotDrive n, svBlank])

/-- What GO ends beside its power-up (R142, R146, R148): FAULTED marks, the VSYS source slot's too, and HELD marks whose cause has cleared. -/
def goMarks : Prog := .dyn fun s =>
  blk [forEach ((List.range 19).filter fun n => s.faulted n) faultClear, heldRelease s.heldBack,
    whenB (s.faulted s.vsysSlot) vsysStart]

/-- An on request is latched (R145), in the power-down of a failure too; a retry that runs takes the latch's place. (DEDUCED, log
entry 99) -/
def onLatch : Prog :=
  whenS (fun s => !s.b SEQ_STATUS_LATCHED_ON) (blk [set SEQ_STATUS_LATCHED_ON 1, event SEQ_EVT_RAW_ON_LATCHED])

/-- GO on a sequence that is UP (R148): the wanted slots that are not up are powered up; with none to start it stays UP. -/
def goUp : Prog :=
  blk [goMarks, set SEQ_RETRY_COUNT 0, holdBack,
    ifS (fun s => s.progSlots.any s.toStart) (upFrom 1) (.seq svBlank (event SEQ_EVT_RAW_UP_DONE))]

/-- SEQ_CTRL GO, or AUTO_UP at core release (R148). -/
def seqGo : Prog := .dyn fun s =>
  match s.seqState with
  | 0 => if s.seqCheck then blk [goMarks, set SEQ_RETRY_COUNT 0, upStart] else event SEQ_EVT_RAW_CFG_ERR
  | 1 => seqEng fun e => { e with goLatched := true }
  | 2 => if s.seqCheck then goUp else event SEQ_EVT_RAW_CFG_ERR
  | 5 => event SEQ_EVT_RAW_IGNORED
  | _ => .seq (seqEng fun e => { e with goLatched := true }) onLatch

/-- SLOT_ON and SLOT_OFF name a programmed slot other than the VSYS source slot (R147). -/
def State.cmdSlot (s : State) (n : Nat) : Bool := 3 ≤ n && n ≤ 18 && n != s.vsysSlot

/-- Slot `n` is on its way down, beside a sequence or in one. -/
def State.goesDown (s : State) (n : Nat) : Bool := s.slotState n == 4 || s.eng.seq.side.contains n

/-- SLOT_ON with no sequence running (R147); while the slot still goes down it is latched. -/
def slotOnNow (n : Nat) : Prog :=
  blk [set (SEQ_SLOT_STAT_OVR_OFF n) 0, whenS (fun s => s.goesDown n) (seqEng fun e => { e with slotOn := e.slotOn ++ [n] }), faultClear n, whenS (fun s => s.slotState n == 6) (slotRest n),
    whenS (fun s => s.seqState == 2 && s.toStart n && s.depsUp n && !s.heldBack.contains n) (setSlot n 1)]

/-- A partial power-up of the slots of `l`, an on request of its own (R135, R143). -/
def upPart (l : List Nat) : Prog := ifS State.seqCheck (.seq (seqEng fun e => { e with only := some l }) upRequest) (event SEQ_EVT_RAW_CFG_ERR)

/-- What was latched during a sequence is acted on once it has ended (R147, R148), and what a change of mode has added to a power-up
meanwhile (R135). (DESIGN CHOICE, log entry 110) -/
def seqLatched : Prog := .dyn fun s =>
  if s.seqState == 2 || s.seqState == 0 then
    blk [seqEng fun e => { e with goLatched := false, slotOn := [], addNext := [] }, forEach s.eng.seq.slotOn slotOnNow,
      if s.eng.seq.goLatched && s.seqState == 2 then seqGo
      else whenB (!s.eng.seq.addNext.isEmpty && s.seqState == 2) (upPart s.eng.seq.addNext)]
  else .skip

/-- The step in progress ends once no slot of it waits or starts (R138). -/
def upCheck : Prog :=
  whenS (fun s => s.seqState == 1 && s.progSlots.all fun n => s.slotState n != 1 && s.slotState n != 2)
    (.dyn fun s => .seq (upFrom (s.f SEQ_STATUS_STEP + 1)) seqLatched)

/-! ### Power-down (R141) -/

/-- The lowest DN_STEP among the slots of `l`. -/
def State.dnStep (s : State) (l : List Nat) : Nat := ((l.map fun n => s.f (SEQ_SLOT_CFG_DN_STEP n)).min?).getD 0

/-- What follows a latched or retried power-up, after MIN_OFF (R143, R145): OFF_WAIT. -/
def offWait : Prog := seqEnter 4

/-- An interrupted power-up goes on at step `k` (R144): the slots of that step still wanted start, and those that start already are waited
for. -/
def upResume (k : Nat) : Prog :=
  blk [set SEQ_STATUS_STATE 1, set SEQ_STATUS_STEP k,
    .dyn fun s => forEach (s.progSlots.filter fun n => s.toStart n && s.f (SEQ_SLOT_CFG_UP_STEP n) == k) fun n => setSlot n 1,
    .dyn fun s => whenB (s.progSlots.all fun n => s.slotState n != 1 && s.slotState n != 2) (upFrom (k + 1))]

/-- A power-down of the sequence ends (R148). (DEDUCED, log entry 99) -/
def dnEnd : Prog := .dyn fun s =>
  let e := s.eng.seq
  blk [seqEng fun e => { e with dnSet := [] },
    heldRelease [],
    match e.why with
    | .failure =>
      if s.f SEQ_RETRY_COUNT < s.f SEQ_RETRY_LIMIT then .seq (seqEng fun e => { e with retry := true }) offWait
      else blk [set SEQ_STATUS_LATCHED_ON 0, seqEng fun e => { e with
          slotOn := []
          goLatched := false }, seqEnter 5, incSat SEQ_CNT_FAILS,
        event SEQ_EVT_RAW_FAILED, send pgSEQ 0 3 0]
    | .resume => if s.b SEQ_STATUS_LATCHED_ON then offWait else upResume e.resumeAt
    | .shelf => if s.vsysOn then .seq (seqEng fun e => { e with why := .shelfVsys, dnSet := [s.vsysSlot] })
          (set SEQ_STATUS_STEP (s.dnStep [s.vsysSlot])) else seqOff
    | .shelfVsys => seqOff
    | .partialDn =>
      if s.b SEQ_STATUS_LATCHED_ON then offWait else seqEnter 2
    | .stop =>
      if s.b SEQ_STATUS_LATCHED_ON then offWait
      else seqOff,
    seqLatched]

/-- The power-down goes on to its next step, or ends (R141). -/
def dnNext : Prog := .dyn fun s =>
  whenB (s.seqState == 3)
    (if s.eng.seq.dnSet.isEmpty then dnEnd else set SEQ_STATUS_STEP (s.dnStep s.eng.seq.dnSet))

/-- The check of R137 before a power-down, which proceeds whatever it finds. -/
def seqJudge : Prog := whenS (fun s => !s.seqCheck) (event SEQ_EVT_RAW_CFG_ERR)

/-- A power-down of the slots of `l` that are up or starting; those that wait are skipped and stay OFF (R141, R144). -/
def dnStart (why : DnWhy) (l : List Nat) : Prog := .dyn fun s =>
  blk [seqJudge, forEach (l.filter fun n => s.slotState n == 1) slotRest,
    seqEng fun e => { e with
      why := why
      dnSet := l.filter fun n => s.slotOn n || s.slotState n == 4
      goLatched := e.goLatched && why != .stop && why != .shelf
      addNext := if why == .partialDn || why == .resume then e.addNext else [] },
    set SEQ_STATUS_STATE 3, svBlank, dnNext]

/-- Slot `n` has gone down: it leaves the running power-down and the single one (R141, R146). -/
def slotGone (n : Nat) : Prog :=
  blk [
    seqEng fun e => { e with
      dnSet := e.dnSet.filter (· != n)
      side := e.side.filter (· != n) },
    dnNext, upCheck, seqLatched, svBlank]

/-- Slot `n` is down (R141): OFF, or FAULTED when it was powered down for a fault (R146). -/
def slotDown (n : Nat) : Prog := blk [slotDisEnd n, whenB (7 ≤ n && n ≤ 10) (set (SEQ_SLOT_STAT_DIS_ON n) 0), slotRest n, slotGone n]

/-- Slot `n` may stop now: it belongs to the step in progress of the sequence's power-down or of a single one. -/
def State.mayStop (s : State) (n : Nat) : Bool :=
  (s.eng.seq.dnSet.contains n && s.f (SEQ_SLOT_CFG_DN_STEP n) == s.dnStep s.eng.seq.dnSet) ||
    (s.eng.seq.side.contains n && s.f (SEQ_SLOT_CFG_DN_STEP n) == s.dnStep s.eng.seq.side)

/-- Slot `n` is down with its rail at `uv` microvolts (R141): strictly below DIS_LVL, or for a GEN slot once its power-good GPIO is
inactive, at once where it has none. -/
def State.isDown (s : State) (n uv : Nat) : Bool :=
  if 11 ≤ n then s.f (SEQ_SLOT_CFG_PG_SRC n) == 0 || !s.pgGpio n else uv < 5000 * s.f (SEQ_SLOT_DIS_DIS_LVL n)

/-- DN_DLY of slot `n` elapses (R141): it switches off, with its discharge on if DIS_EN. -/
def slotStop (n : Nat) : Prog := .dyn fun s =>
  whenB (s.slotOn n && s.mayStop n)
    (blk [setSlot n 4, slotCut n (s.b (SEQ_SLOT_CFG_DIS_EN n)), setB (SEQ_SLOT_STAT_DIS_ON n) (n ≤ 10 && s.b (SEQ_SLOT_CFG_DIS_EN n)), svBlank,
      whenB (11 ≤ n && s.isDown n 0) (slotDown n)])

def slotDownEvt (n uv : Nat) : Prog := whenS (fun s => s.slotState n == 4 && s.isDown n uv) (slotDown n)

/-- Slot `n` is not down within DN_TMO (R141). -/
def slotStuck (n : Nat) : Prog :=
  whenS (fun s => s.slotState n == 4)
    (blk [setSlot n 5, incSat (SEQ_SLOT_CNT_STUCKS n), whenB (7 ≤ n && n ≤ 10) (set (SEQ_SLOT_STAT_DIS_ON n) 0), slotDisEnd n,
      seqFirst 1 n, event SEQ_EVT_RAW_STUCK, slotGone n])

/-- A STUCK slot's rail has stayed at `uv` microvolts for 1 ms (R142): below DIS_LVL the mark ends; a slot that is HELD or FAULTED as well
stays so. -/
def stuckClear (n uv : Nat) : Prog := .dyn fun s => whenB (s.stuck n && s.isDown n uv)
  (.seq (set (SEQ_MAP_STUCK_MAP.bit n) 0) (whenB (s.slotState n == 5) (.seq (slotRest n) svBlank)))

/-! ### Starting a slot (R138, R139) -/

/-- A slot of a running power-up, or of a SLOT_ON, is up: the step may end. -/
def slotUp (n : Nat) : Prog :=
  whenS (fun s => s.slotState n == 2 && s.slotPg n) (blk [setSlot n 3, svBlank, upCheck])

/-- UP_DLY of slot `n` elapses (R138): it starts if its dependencies are up, else it is HELD. -/
def slotStart (n : Nat) : Prog := .dyn fun s =>
  whenB (s.slotState n == 1)
    (if s.depsUp n then
      blk [setSlot n 2, incSat (SEQ_SLOT_CNT_STARTS n), set (SEQ_SLOT_STAT_DIS_ON n) 0, slotDrive n, svBlank,
        whenB (11 ≤ n) (slotUp n)]
    else .seq (slotHeld n) upCheck)

/-- Slot `n` is not up within UP_TMO (R139, R143; the VSYS source slot R134); of a slot that is being powered down nothing is awaited. -/
def upTimeout (n : Nat) : Prog := .dyn fun s =>
  whenB (s.slotState n == 2 && !s.eng.seq.dnSet.contains n && !s.eng.seq.side.contains n)
    (blk [send pgSEQ n 0 (s.f (SEQ_SLOT_CFG_UP_STEP n)), seqFirst 0 n, incSat (SEQ_SLOT_CNT_UP_FAILS n),
      if n == s.vsysSlot then blk [slotCut n false, setSlot n 0, seqEng fun e => { e with vsysRetry := true }, svBlank]
      else dnStart .failure s.progSlots])

/-! ### Requests to power down (R144-R147) -/

/-- An off request for the whole sequence: STOP, or a supervisor's ALL. (DEDUCED, log entry 99) -/
def offRequest : Prog := .dyn fun s =>
  match s.seqState with
  | 1 => dnStart .stop s.progSlots
  | 2 => dnStart .stop s.progSlots
  | 3 =>
    blk [set SEQ_STATUS_LATCHED_ON 0, seqEng fun e => { e with goLatched := false },
      if s.eng.seq.why == .failure then
        whenB (s.f SEQ_RETRY_COUNT < s.f SEQ_RETRY_LIMIT) (seqEng fun e => { e with why := .stop })
      else if s.eng.seq.why == .partialDn || s.eng.seq.why == .resume then dnStart .stop s.progSlots else .skip]
  | 4 => blk [set SEQ_STATUS_LATCHED_ON 0, seqEng fun e => { e with
        retry := false
        goLatched := false },
      if s.progSlots.any s.slotOn then dnStart .stop s.progSlots else .seq seqOff seqLatched]
  | _ => .skip

/-- Slots that go down at once (R146, R147), whatever sequence runs, those of a running power-down too; those that wait are skipped. -/
def sideStop (l : List Nat) : Prog := .dyn fun s =>
  blk [seqJudge, forEach (l.filter fun m => s.slotState m == 1) slotRest,
    seqEng fun e => { e with side := e.side ++ l.filter fun m => s.slotOn m && !e.side.contains m }]

/-- Slot `n` with its dependants powers down at once (R146, R147); a running sequence treats them as not wanted. -/
def sideDown (n : Nat) : Prog := .dyn fun s =>
  blk [sideStop (s.downWith n),
    whenB (s.seqState == 1 || s.seqState == 3) (seqEng fun e => { e with drop := e.drop ++ s.downWith n }), upCheck, svBlank]

/-- A supervisor requests a fault power-down of slot `n` (R146); none switches a fixed slot off (R133), and while the slot is FAULTED the
first request has been acted on (R124). -/
def faultDown (n : Nat) : Prog :=
  whenS (fun s => 3 ≤ n && !s.faulted n) (blk [set (SEQ_MAP_FAULT_MAP.bit n) 1, whenS (fun s => s.slotState n == 0) (setSlot n 7), sideDown n, seqFirst 2 n,
    event SEQ_EVT_RAW_SLOT_FAULT])

def slotOff (n : Nat) : Prog := whenS (fun s => s.cmdSlot n)
  (blk [set (SEQ_SLOT_STAT_OVR_OFF n) 1, seqEng fun e => { e with slotOn := e.slotOn.filter (· != n) }, sideDown n])

/-- SEQ_CTRL SLOT_ON (R147): latched while a sequence runs. -/
def slotOnCmd (n : Nat) : Prog := .dyn fun s =>
  if s.seqState == 5 then event SEQ_EVT_RAW_IGNORED
  else whenB (s.cmdSlot n)
    (if s.seqState == 1 || s.seqState == 3 || s.seqState == 4 then seqEng fun e => { e with slotOn := e.slotOn ++ [n] }
     else slotOnNow n)

/-- SEQ_CTRL CLEAR (R148, R152). -/
def seqClear : Prog := .dyn fun s =>
  blk [set SEQ_RETRY_COUNT 0, whenB (s.seqState == 5) (.seq seqOff seqLatched), set SEQ_FIRST_VALID 0,
    forEach ((List.range 19).filter fun n => s.slotState n == 6) slotRest]

/-- A GO that was latched acts with the power-up that takes its place (R145, R146). -/
def goTaken : Prog := whenS (fun s => s.eng.seq.goLatched) (.seq (seqEng fun e => { e with goLatched := false }) goMarks)

/-- MIN_OFF elapses in OFF_WAIT (R143, R148). (DEDUCED, log entry 99) -/
def minOffElapsed : Prog := .dyn fun s =>
  whenB (s.seqState == 4)
    (if s.eng.seq.retry then
      blk [seqEng fun e => { e with retry := false }, set SEQ_STATUS_LATCHED_ON 0, incSat SEQ_RETRY_COUNT, incSat SEQ_CNT_RETRIES,
        event SEQ_EVT_RAW_RETRY, goTaken, if s.seqCheck then upStart else .seq (event SEQ_EVT_RAW_CFG_ERR) seqOff, seqLatched]
    else if s.b SEQ_STATUS_LATCHED_ON then
      blk [set SEQ_STATUS_LATCHED_ON 0, goTaken,
        if s.seqCheck then .seq (set SEQ_RETRY_COUNT 0) upStart else .seq (event SEQ_EVT_RAW_CFG_ERR) seqOff, seqLatched]
    else .skip)

/-- Slot `n` was wanted in mode `m`; mode 8 stands for core release, before which no slot counts as wanted. -/
def State.wantedIn (s : State) (m n : Nat) : Bool := s.wanted n && bitOf (s.f (SEQ_SLOT_CFG_MODES n)) m

/-- MODE_CUR has changed from mode `old` (R135, R144, R148): the slots no longer wanted are powered down, and then those newly
wanted powered up; in a power-up, those whose step has passed follow when it ends. (DEDUCED, log entry 99; DESIGN CHOICE, log entry 110) -/
def seqModeChange (old : Nat) : Prog := .dyn fun s =>
  let gone := s.progSlots.filter fun n => (s.slotOn n || s.slotState n == 1) && !s.wanted n
  let more := s.progSlots.any fun n => s.wanted n && !s.wantedIn old n
  let come := s.progSlots.filter fun n => s.wanted n && (s.slotState n == 0 || s.slotState n == 5) && !s.wantedIn old n
  let late := come.filter fun n => s.f (SEQ_SLOT_CFG_UP_STEP n) ≤ s.f SEQ_STATUS_STEP
  match s.seqState with
  | 2 =>
    if !gone.isEmpty then .seq (seqEng fun e => { e with addNext := come }) (dnStart .partialDn gone)
    else whenB (!come.isEmpty) (upPart come)
  | 1 => .seq (seqEng fun e => { e with
        addNext := e.addNext ++ late
        only := e.only.map (· ++ come) })
      (whenB (!gone.isEmpty) (.seq (seqEng fun e => { e with resumeAt := s.f SEQ_STATUS_STEP }) (dnStart .resume gone)))
  | 3 => .seq (whenB (gone.any fun n => !s.eng.seq.dnSet.contains n) (sideStop (gone.filter fun n => !s.eng.seq.dnSet.contains n)))
      (whenB more onLatch)
  | 4 => .seq (whenB (!gone.isEmpty) (sideStop gone)) (whenB more onLatch)
  | _ => .skip

/-- SHELF is entered (R135): every programmed slot is powered down, and then the VSYS source slot; FAILED, in which no other slot is up,
stays FAILED (R143). -/
def seqShelf : Prog := .dyn fun s =>
  if s.seqState == 5 then whenB s.vsysOn (sideStop [s.vsysSlot])
  else whenB (s.seqState != 0 || s.progSlots.any s.slotOn || s.vsysOn) (dnStart .shelf s.progSlots)

/-- An entry into SHELF is abandoned (R84): slots that it has not yet stopped stay up; those that it took down rise again once it has ended,
by a partial power-up, and the VSYS source slot as after a failure. (DESIGN CHOICE, log entry 128) -/
def shelfAbandoned : Prog := .dyn fun s =>
  let shelf := s.eng.seq.why == .shelf || s.eng.seq.why == .shelfVsys
  let vsys := whenB (!s.faulted s.vsysSlot) (.seq (seqEng fun e => { e with
      side := e.side.filter fun n => n != s.vsysSlot || s.slotState n == 4
      vsysRetry := true }) vsysStart)
  if s.seqState == 5 then vsys
  else whenB shelf
    (.seq (if s.seqState == 3 then .seq (seqEng fun e => { e with
          why := .partialDn
          dnSet := e.dnSet.filter fun n => s.slotState n == 4
          addNext := s.progSlots }) dnNext
      else .seq (seqEng fun e => { e with why := .stop }) (whenB (s.seqState == 0) upRequest)) vsys)

/-- Every slot's power-down before SHELF has ended (R135). -/
def State.seqDown (s : State) : Bool := s.eng.seq.dnSet.isEmpty && s.eng.seq.side.isEmpty && !s.vsysOn

/-- The end of the entry into SHELF (R135): the fixed rails switch off in the reverse row order of R133; the slots' marks and discharges go
with the supplies. (DEDUCED, log entry 111) -/
def seqAllOff : Prog :=
  blk [forEach [[(5, 4), (6, 5)], [(2, 2), (4, 3)], [(0, 0), (1, 1)]] fun l =>
      forEach l fun x => .seq (regStop x.1) (set (REG_INT_MON_ABOVE.bit x.2) 0),
    forEach [2, 1, 0] fun n => setSlot n 0, set SEQ_MAP_STUCK_MAP 0, set SEQ_MAP_FAULT_MAP 0,
    forEach ((List.range 19).filter (3 ≤ ·)) fun n => blk [slotCut n false, slotDisEnd n, setSlot n 0, set (SEQ_SLOT_STAT_DIS_ON n) 0],
    seqEng fun _ => {}, whenS (fun s => s.seqState != 5) (seqEnter 0)]

/-- A supervisor's timer reaches SDLY (R124). -/
def svShutdown (n : Nat) : Prog := .dyn fun s =>
  let slot := s.f (SV_CFG_SLOT n)
  whenB (s.svActive n && s.f (SV_STAT_STATE n) == 3 && s.b (SUP_TIMING_MAP.bit n))
    (if slot == 0x1F then
      whenB (!s.b (SV_STAT_UV_NOW n) && !s.b (SV_STAT_OV_NOW n)) (.seq (svEnter n 2) (svBlank1 n))
    else blk [svEnter n 4, event SUP_EVT_RAW_SHUTDOWN, if slot == 0x1E then offRequest else faultDown slot, svBlank])

end Sys2Proof.Machine
end

