-- ==== Sys2Proof/Machine/Cont.lean ====
section
/-!
DEFINITION. Contactors, fast disconnect and fault loop (10_contactors_and_disconnect.md, R206-R218).
-/
namespace Sys2Proof.Machine

def contEng (g : ContEng → ContEng) : Prog := eng fun e => { e with cont := g e.cont }

/-- CONT_STATUS.STATE: 0 OPEN, 1 NEG, 2 PCHG, 3 POS, 4 RELEASE, 5 CLOSED, 6 OPENING, 7 CHECK (R218). -/
def State.cont (s : State) : Nat := s.f CONT_STATUS_STATE

/-- The states NEG to CLOSED (R210). -/
def State.closing (s : State) : Bool := 1 ≤ s.cont && s.cont ≤ 5

def State.onPm (s : State) : Nat := s.f CONT_SENSE_ON_PCT * 10
def State.offPm (s : State) : Nat := s.f CONT_SENSE_OFF_PCT * 10

/-- Event `k` of CONT_EVT_RAW (R218). -/
def contEvent (k : Nat) : Prog := event (CONT_EVT_RAW_EVENTS.bit k)

/-- CONT_FIRST and the message of kind `kind`, instance `inst` (R216). -/
def contMsg (kind inst : Nat) : Prog :=
  .seq (firstRec CONT_FIRST_VALID [(CONT_FIRST_KIND, kind), (CONT_FIRST_INST, inst)]) (send pgCONT inst kind 0)

def State.cts (s : State) (n : Nat) : Nat := s.f (CONT_VS_PM n)

/-- SENSED compares the readings with ON (R207, R218), and the floor follows (R80). -/
def contJudge : Prog := .dyn fun s =>
  .seq (forEach [0, 1, 2] fun n => setB (CONT_STATUS_SENSED.bit n) (s.onPm ≤ s.cts n)) (modeEval 2)

/-- The readings of CTS0-CTS2 in per mille (R207). -/
def contRead (p0 p1 p2 : Nat) : Prog :=
  .seq (forEach [(0, p0), (1, p1), (2, p2)] fun x => setSat (CONT_VS_PM x.1) x.2) contJudge

/-- A coil is pulled in (R208): fully on, and signalled to the phase controller (R170). -/
def pullIn (n : Nat) : Prog :=
  blk [set (CONT_STATUS_CMD.bit n) 1, set (CONT_COIL_STATE n) 1, contArm,
    whenB (n == 0) (.dyn fun s => contEng fun e => { e with blankPos := s.f CONT_FT_POS_BLANK != 0 })]

def coilOff (n : Nat) : Prog :=
  blk [set (CONT_STATUS_CMD.bit n) 0, whenS (fun s => s.f (CONT_COIL_STATE n) != 3) (set (CONT_COIL_STATE n) 0)]

/-- FDG goes high (R210), never while FT_LATCH stands (R212); BLANK starts. -/
def fdgOn : Prog :=
  whenS (fun s => !s.b CONT_STATUS_FT_LATCH)
    (blk [set CONT_STATUS_FD_ON 1, .dyn fun s => contEng fun e => { e with blankFd := s.f CONT_FT_BLANK != 0 }])

/-- The sequence enters `st`; the floor is looked at again (R80). -/
def contEnter (st : Nat) : Prog := .seq (set CONT_STATUS_STATE st) (modeEval 2)

/-- The open sequence starts (R211): FDG low, from any state NEG to CLOSED. -/
def contOpen : Prog := whenS State.closing (blk [set CONT_STATUS_FD_ON 0, contEnter 6])

/-- CONT_CMD CLOSE (R209, R210); every coil stays off until the welds have been looked for after core release (R213). (DEDUCED, log
entry 80) -/
def contClose : Prog := .dyn fun s =>
  if s.released && s.cont == 0 && s.f CONT_STATUS_WELD == 0 && !s.b CONT_STATUS_FT_LATCH && !s.b CONT_STATUS_LOOP_TRIP &&
      (s.b CONT_STATUS_LOOP_OK || !s.b CONT_LOOP_LOOP_EN) then
    blk [pullIn 1, contEnter 1]
  else if s.closing then .skip
  else contEvent 2

/-- A contact fault (R210, R216). -/
def contactFault (n : Nat) : Prog := blk [contEvent 8, contMsg 3 n, contOpen]

/-- A weld mark (R213): `neg` for the negative main. -/
def weld (neg : Nat) : Prog :=
  blk [set (CONT_STATUS_WELD.bit neg) 1, incSat CONT_CNT_WELDS, contMsg 6 neg, contEvent 7]

/-- CTS1 reaches ON in NEG (R210). -/
def negSensed : Prog :=
  whenS (fun s => s.cont == 1 && s.onPm ≤ s.cts 1)
    (.dyn fun s => if s.cts 0 < s.offPm then blk [fdgOn, pullIn 2, contEnter 2] else blk [weld 0, contOpen])

def pullTimeout : Prog := whenS (fun s => s.cont == 1) (contactFault 1)

/-- CTS2 reaches PC_PCT in PCHG (R210); CONT_OPS[2] counts it. -/
def prechargeReached : Prog :=
  whenS (fun s => s.cont == 2 && s.f CONT_PC_PC_PCT * 10 ≤ s.cts 2) (blk [pullIn 0, incSat (CONT_OPS_CLOSES 2), contEnter 3])

def pcTimeout : Prog := whenS (fun s => s.cont == 2) (blk [contEvent 3, contMsg 5 3, contOpen])

def posTime : Prog := whenS (fun s => s.cont == 3) (blk [coilOff 2, contEnter 4])

/-- DROP_T elapses in RELEASE (R210). -/
def releaseCheck : Prog :=
  whenS (fun s => s.cont == 4)
    (.dyn fun s => if s.onPm ≤ s.cts 0 then
        blk [incSat (CONT_OPS_CLOSES 0), incSat (CONT_OPS_CLOSES 1), contEnter 5, contEvent 0]
      else contactFault 0)

/-- CTS0 or CTS1 has stayed below ON for SAG_T in CLOSED (R210). -/
def sagFault : Prog :=
  whenS (fun s => s.cont == 5 && (s.cts 0 < s.onPm || s.cts 1 < s.onPm))
    (.dyn fun s => contactFault (if s.cts 0 < s.onPm then 0 else 1))

/-- Steps 2 to 4 of the open sequence (R211). -/
def openDelayEnd : Prog := whenS (fun s => s.cont == 6) (blk [coilOff 0, coilOff 2, modeEval 2])

def negDelayEnd : Prog :=
  whenS (fun s => s.cont == 6 && !bitOf (s.f CONT_STATUS_CMD) 0 && !bitOf (s.f CONT_STATUS_CMD) 2) (blk [coilOff 1, modeEval 2])

def checkEntry : Prog := whenS (fun s => s.cont == 6 && s.f CONT_STATUS_CMD == 0) (contEnter 7)

/-- WELD_T elapses in CHECK (R213). -/
def weldEval : Prog :=
  whenS (fun s => s.cont == 7)
    (.dyn fun s => blk [whenB (s.offPm ≤ s.cts 0) (weld 0), whenB (s.offPm ≤ s.cts 1) (weld 1), contEnter 0, contEvent 1])

def coilHold (n : Nat) : Prog := whenS (fun s => s.f (CONT_COIL_STATE n) == 1) (set (CONT_COIL_STATE n) 2)

/-- A coil fault (R208). -/
def coilFault (n : Nat) : Prog :=
  whenS (fun s => bitOf (s.f CONT_STATUS_CMD) n)
    (blk [set (CONT_STATUS_CMD.bit n) 0, set (CONT_COIL_STATE n) 3, contMsg 4 n, contOpen, modeEval 2, contEvent 9])

/-- CONT_TRIP records the epoch and the kind (R212). -/
def tripRecord (kind : Nat) : Prog := .dyn fun s =>
  blk [setEpoch CONT_TRIP_LO_EPOCH CONT_TRIP_HI_EPOCH s.epoch, set CONT_TRIP_HI_KIND kind]

/-- FT_THR is honoured (R212). -/
def State.ftHonoured (s : State) : Bool := !s.eng.cont.blankFd && !s.eng.cont.blankPos

/-- The rack current, `mag` in units of 0.5 mV across the shunt, is judged by the comparator (R212).  A trip opens from every state NEG to
CLOSED; in OPENING and CHECK it is latched with its event, and elsewhere, FDG being low, only the record changes (R210). (DEDUCED, log
entry 80) -/
def fastTrip (mag : Nat) : Prog := .dyn fun s =>
  let hard := s.f CONT_FT_HARD_THR < mag
  let ft := s.f CONT_FT_FT_THR < mag && s.ftHonoured
  let kind := if hard then 1 else 0
  whenB (s.isMgr && 3 ≤ s.mode && (hard || ft))
    (if s.b CONT_STATUS_FD_ON || s.closing then
      blk [set CONT_STATUS_FD_ON 0, set CONT_STATUS_FT_LATCH 1, tripRecord kind, incSat CONT_CNT_FT_TRIPS, contMsg kind 3,
        contOpen, contEvent 4]
    else .seq (tripRecord kind) (whenB (s.cont == 6 || s.cont == 7) (.seq (set CONT_STATUS_FT_LATCH 1) (contEvent 4))))

def blankingEnd (pos : Bool) : Prog :=
  contEng fun e => if pos then { e with blankPos := false } else { e with blankFd := false }

/-! ### Fault loop (R214, R215) -/

/-- The manager sources its loop output (R215). -/
def State.loopSourcing (s : State) : Bool := s.b CONT_LOOP_LOOP_EN && s.mode != 6

/-- The loop input is lost: below 4 mA for FILT. (DEDUCED, log entry 80) -/
def loopLost : Prog := .dyn fun s =>
  if s.isMgr then
    whenB (s.b CONT_STATUS_LOOP_OK)
      (blk [set CONT_STATUS_LOOP_OK 0,
        if s.loopSourcing && (s.f CONT_STATUS_CMD != 0 || s.closing) then
          blk [set CONT_STATUS_FD_ON 0, set CONT_STATUS_LOOP_TRIP 1, tripRecord 2, incSat CONT_CNT_LOOP_TRIPS, contMsg 2 4,
            contOpen, contEvent 6]
        else contEvent 5])
  else contEng fun e => { e with loopIn := false, loopOut := false }

/-- The loop input reaches 7 mA. -/
def loopOk : Prog := .dyn fun s =>
  if s.isMgr then set CONT_STATUS_LOOP_OK 1 else contEng fun e => { e with loopIn := true }

/-- A worker resumes 1 ms after its input is OK and it is out of SAFEHOLD; no loop current flows before core release (R109). -/
def loopResume : Prog :=
  whenS (fun s => s.isWrk && s.released && s.eng.cont.loopIn && s.mode != 6) (contEng fun e => { e with loopOut := true })

/-- The close class and the open class of CONT_CMD (R218); CONT_STATUS.STATE OPEN with nothing driven: contactors open. -/
def contCmd (op : Nat) : Prog :=
  match op with
  | 1 => accepted CONT_CMD 1 contClose
  | 2 => accepted CONT_CMD 2 contOpen
  | 3 => accepted CONT_CMD 2 (set CONT_STATUS_FT_LATCH 0)
  | 4 => accepted CONT_CMD 2 (set CONT_STATUS_WELD 0)
  | 5 => accepted CONT_CMD 2 (set CONT_STATUS_LOOP_TRIP 0)
  | _ => .skip

/-- Outputs of the block off after a reset, and CHECK at core release (R101, R213, R217). -/
def contRelease : Prog :=
  whenS State.isMgr (blk [set CONT_STATUS_STATE 7, set CONT_STATUS_CMD 0, set CONT_STATUS_FD_ON 0, forEach [0, 1, 2] fun n => set (CONT_COIL_STATE n) 0])

/-- CTn drives its coil: as commanded, and for 100 µs after a reset has taken FDG low (R101). -/
def State.ctOn (s : State) (n : Nat) : Bool :=
  bitOf (s.f CONT_STATUS_CMD) n || (bitOf s.eng.cont.tail n && s.now < s.eng.cont.tailAt + 100)

end Sys2Proof.Machine
end

