-- ==== Sys2Proof/Machine/Feed.lean ====
section
/-!
DEFINITION. Feeds, e-fuse, power path and backup charger (09_feeds_power_path_backup.md, R179-R205).
-/
namespace Sys2Proof.Machine

def feedEng (g : FeedEng → FeedEng) : Prog := eng fun e => { e with feed := g e.feed }

/-- PATH_STATUS.STATE: 0 NONE, 1 FEED, 2 HANDOVER, 3 BATTERY, 4 REQUAL, 5 HANDBACK (R205). -/
def State.path (s : State) : Nat := s.f PATH_STATUS_STATE

/-- FEED_STATUS.EF_STATE: 0 OFF, 1 PRECHARGE, 2 ON, 3 LIMIT, 4 COOL, 5 LATCHED, 6 CMD_OFF (R203). -/
def State.ef (s : State) : Nat := s.f FEED_STATUS_EF_STATE

def validOf (n : Nat) : Fld := if n == 0 then FEED_STATUS_A_VALID else FEED_STATUS_B_VALID
def gateOf (n : Nat) : Fld := if n == 0 then FEED_STATUS_A_ON else FEED_STATUS_B_ON
def feedVolt (n : Nat) : Fld := if n == 0 then FEED_VA_V else FEED_VB_V

def State.anyValid (s : State) : Bool := s.b FEED_STATUS_A_VALID || s.b FEED_STATUS_B_VALID
def State.anyIn (s : State) : Bool := s.eng.feed.inA || s.eng.feed.inB
def State.inLimits (s : State) (n : Nat) : Bool := if n == 0 then s.eng.feed.inA else s.eng.feed.inB

/-- Feed `n` as last seen, in 20 mV. -/
def State.feedV (s : State) (n : Nat) : Nat := if n == 0 then s.eng.feed.vA else s.eng.feed.vB

def seeFeed (n v : Nat) : Prog := feedEng fun e => if n == 0 then { e with vA := v } else { e with vB := v }

def seeBus (v : Nat) : Prog := feedEng fun e => { e with vpb := v }

/-- A voltage lies within FEED_QUAL, which no voltage does while UV exceeds OV (R181). -/
def State.qualOk (s : State) (v : Nat) : Bool := s.f FEED_QUAL_UV ≤ v && v ≤ s.f FEED_QUAL_OV

/-- The ORed bus in mV: the higher of the feeds whose FET is driven, less the forward drop (R182). (DEDUCED, log entry 112) -/
def State.orBus (s : State) : Nat :=
  ((([0, 1] : List Nat).filter fun n => s.b (gateOf n)).map fun n => 20 * s.feedV n - s.f FEED_OR_FWD).foldl max 0

/-- The protected bus stands at 95% of the ORed bus or more (R184, R185). -/
def State.busUp (s : State) : Bool := 95 * s.orBus ≤ 100 * (20 * s.eng.feed.vpb)

def setIn (n : Nat) (b : Bool) : Prog := feedEng fun e => if n == 0 then { e with inA := b } else { e with inB := b }

/-- Event `k` of PATH_EVT_RAW (R205). -/
def pathEvent (k : Nat) : Prog := event (PATH_EVT_RAW_EVENTS.bit k)

def feedFirst (kind : Nat) : Prog := firstRec FEED_FIRST_VALID [(FEED_FIRST_KIND, kind)]

/-! ### Charger (R195-R199) -/

/-- CHG_STATUS.PHASE: 0 IDLE, 1 DETECT, 2 PRECOND, 3 CC, 4 CV, 5 TOPOFF, 6 DONE, 7 SUSPEND, 8 STOPPED, 9 FAULT. -/
def State.chg (s : State) : Nat := s.f CHG_STATUS_PHASE

/-- The charger enters a phase; the floor is looked at again (R80). -/
def chgEnter (p : Nat) : Prog := .seq (set CHG_STATUS_PHASE p) (modeEval 2)

def chgElapsed0 : Prog := .seq (set CHG_ELAPSED_T8 0) (feedEng fun e => { e with part := 0 })

/-- The charger enters FAULT (R196), from FAULT too where the row is from any phase; the fault FET stays until its marks are cleared.
(DEDUCED, log entry 113) -/
def chgFault (code : Nat) : Prog :=
  whenS (fun s => s.chg != 9 || (s.f CHG_STATUS_FAULT != 4 && s.f CHG_STATUS_FAULT != code))
    (blk [set CHG_STATUS_FAULT code, feedEng fun e => { e with clrFeed := false, clrPath := false }, chgEnter 9,
      pathEvent 5, incSat CHG_CNT_FAULTS, send pgPATH 1 3 0])

/-- VREG in force, mV per cell: lowered under the fallback profile (R199). -/
def State.vreg (s : State) : Nat :=
  s.f CHG_VREG_VREG - (if bitOf (s.f CHG_STATUS_LIMITS) 3 then 10 * s.f CHG_FALLBACK_FB_VDROP else 0)

/-- Programmed charge current in mA before limiters (R197, R199). -/
def State.iprog (s : State) : Nat :=
  if s.chg == 2 then 10 * s.f CHG_ICHG_IPRE
  else 50 * (if bitOf (s.f CHG_STATUS_LIMITS) 3 then min (s.f CHG_ICHG_ICHG) (s.f CHG_FALLBACK_FB_ICHG) else s.f CHG_ICHG_ICHG)

/-- The protected bus stands at or above CELLS × VREG + 2 V (R196). -/
def State.headroom (s : State) : Bool := s.f CHG_PACK_CELLS * s.vreg + 2000 ≤ 20 * s.eng.feed.vpb

/-- The charger is eligible to start (R196). -/
def State.chgEligible (s : State) : Bool :=
  s.f CHG_PACK_CELLS != 0 && s.b PATH_STATUS_PACK_PRESENT && s.path == 1 && !s.b PATH_STATUS_SUPPLEMENT &&
    !s.b PATH_STATUS_LOCKED && s.headroom

/-- Temperature that thermistor CHG_TEMP.TH shows, in 0.01 °C (R197). -/
def State.packTemp (s : State) : Int := s.i (AUX_TEMP_T (s.f CHG_TEMP_TH))

/-- With CHG_TEMP.TEN = 1, the pack temperature lies outside [T_MIN, T_MAX] (R197). (DEDUCED, log entry 97) -/
def State.packTempOut (s : State) : Bool :=
  s.b CHG_TEMP_TEN && (s.packTemp < 100 * s.i CHG_TEMP_T_MIN || 100 * s.i CHG_TEMP_T_MAX < s.packTemp)

/-- A suspend condition of R197: the path, the bus headroom, or the pack's thermistor. (DEDUCED, log entry 97) -/
def State.chgHeld (s : State) : Bool :=
  s.path != 1 || s.b PATH_STATUS_SUPPLEMENT || s.b PATH_STATUS_LOCKED || !s.headroom || s.packTempOut

/-- A suspend condition arises (R196, R197). -/
def chgSuspend : Prog :=
  whenS (fun s => 2 ≤ s.chg && s.chg ≤ 5)
    (.dyn fun s => .seq (feedEng fun e => { e with phaseLeft := s.chg }) (chgEnter 7))

def chgPathCheck : Prog := whenS State.chgHeld chgSuspend

def chgResume : Prog :=
  whenS (fun s => s.chg == 7 && !s.chgHeld) (.dyn fun s => chgEnter s.eng.feed.phaseLeft)

/-- Pack voltage in mV as last seen; PACK_LOW falls once the pack is back at CELLS × VLOW (R192). (DEDUCED, log entry 30) -/
def vbak (mv : Nat) : Prog := .dyn fun s =>
  .seq (feedEng fun e => { e with pack := mv }) (whenB (s.f CHG_PACK_CELLS * 10 * s.f CHG_THR_VLOW ≤ mv) (set PATH_STATUS_PACK_LOW 0))

/-- IDLE becomes DETECT where the charger is eligible and is to start (R196). -/
def chgEligibleEvt (vpb : Nat) : Prog :=
  .seq (seeBus vpb)
    (whenS (fun s => s.chg == 0 && s.chgEligible && (s.b CHG_PACK_AUTO || s.eng.feed.startReq))
      (.seq (feedEng fun e => { e with startReq := false }) (chgEnter 1)))

def chgStart : Prog := .dyn fun s =>
  if s.chg == 8 then chgEnter 0
  else if s.chg == 0 then
    if s.chgEligible then chgEnter 1 else feedEng fun e => { e with startReq := true }
  else .skip

def chgStop : Prog := whenS (fun s => s.chg != 9) (.seq (feedEng fun e => { e with startReq := false }) (chgEnter 8))

def chgToIdle : Prog := blk [set CHG_STATUS_FAULT 0, chgElapsed0, chgEnter 0]

def chgClear : Prog := whenS (fun s => s.chg == 9 && s.f CHG_STATUS_FAULT != 4) chgToIdle

/-- DETECT ends with the pack at `mv` (R196). -/
def chgDetectDone (mv : Nat) : Prog :=
  .seq (vbak mv) (whenS (fun s => s.chg == 1) (.dyn fun s =>
    let c := s.f CHG_PACK_CELLS
    if mv < c * 10 * s.f CHG_THR_VPRE then .seq chgElapsed0 (chgEnter 2)
    else if mv < c * 10 * s.f CHG_THR_VRECH then .seq chgElapsed0 (chgEnter 3)
    else chgEnter 6))

/-- The pack has stood at `mv` for 1 s in PRECOND (R196). -/
def chgPrecondDone (mv : Nat) : Prog :=
  .seq (vbak mv) (whenS (fun s => s.chg == 2 && s.f CHG_PACK_CELLS * 10 * s.f CHG_THR_VPRE ≤ mv) (.seq chgElapsed0 (chgEnter 3)))

/-- The pack reaches `mv` in CC (R196). -/
def chgCvEntry (mv : Nat) : Prog :=
  .seq (vbak mv) (whenS (fun s => s.chg == 3 && s.f CHG_PACK_CELLS * s.vreg ≤ mv) (chgEnter 4))

/-- A charge ends in DONE (R196). -/
def chgDone : Prog := blk [pathEvent 6, incSat CHG_CNT_CYCLES, chgEnter 6]

/-- The current has stood at `ma` for 10 s in CV (R196). -/
def chgTerminate (ma : Nat) : Prog :=
  whenS (fun s => s.chg == 4 && ma ≤ 10 * s.f CHG_ICHG_ITERM) (ifS (fun s => s.f CHG_TIMER_TOPOFF != 0) (chgEnter 5) chgDone)

def chgTopoffDone : Prog := whenS (fun s => s.chg == 5) chgDone

/-- The pack has stood at `mv` for 10 s in DONE (R196). -/
def chgRecharge (mv : Nat) : Prog :=
  .seq (vbak mv) (whenS (fun s => s.chg == 6 && s.chgEligible && mv < s.f CHG_PACK_CELLS * 10 * s.f CHG_THR_VRECH)
    (blk [chgElapsed0, incSat CHG_CNT_RECHARGES, chgEnter 3]))

/-- The limit of ELAPSED in the phase that runs, in 0.125 s, and the fault it ends in (R196). -/
def State.chgLimit (s : State) : Option (Nat × Nat) :=
  if s.chg == 2 then some (s.f CHG_TIMER_PRE * 480, 2)
  else if 3 ≤ s.chg && s.chg ≤ 5 then some (s.f CHG_TIMER_SAFETY * 28800, 1) else none

/-- ELAPSED at or beyond its limit is an expiry (R196, R198). -/
def chgExpiry : Prog := .dyn fun s => match s.chgLimit with
  | some (lim, code) => whenB (lim ≤ s.f CHG_ELAPSED_T8) (chgFault code)
  | none => .skip

/-- The safety timer has advanced to `t8` (R198). -/
def chgSafety (t8 : Nat) : Prog := .dyn fun s =>
  whenB (s.chgLimit != none) (.seq (setSat CHG_ELAPSED_T8 (max t8 (s.f CHG_ELAPSED_T8))) chgExpiry)

/-- The pack has stood at `mv` for 1 s (R196). -/
def chgOvervolt (mv : Nat) : Prog :=
  .seq (vbak mv) (whenS (fun s => s.f CHG_PACK_CELLS != 0 && s.f CHG_PACK_CELLS * (s.vreg + 100) < mv) (chgFault 3))

/-! ### Limiters (R197) -/

/-- The target that the die's and the pack's temperature leave, in mA. -/
def State.chgThermal (s : State) : Nat :=
  s.iprog / ((if bitOf (s.f CHG_STATUS_LIMITS) 0 then 2 else 1) * (if bitOf (s.f CHG_STATUS_LIMITS) 2 then 2 else 1))

/-- How far the e-fuse current would exceed 90% of ILIM at a charge current of `t` mA, in mA: the charger draws its current in the ratio of
pack to bus voltage. (DEDUCED, log entry 114) -/
def State.shareExcess (s : State) (t : Nat) : Int :=
  let bus : Int := 20 * s.eng.feed.vpb
  10 * s.i FEED_IEF_I + (if bus = 0 then 0 else ((t : Int) - s.i PATH_IBAK_MA) * s.eng.feed.pack / bus) - 90 * s.f FEED_EF_ILIM

/-- The current target in mA with every limiter that acts (R197). (DEDUCED, log entry 114) -/
def State.chgTarget (s : State) : Nat :=
  let t := s.chgThermal
  if s.shareExcess t ≤ 0 || s.eng.feed.pack == 0 then t
  else ((t : Int) - (s.shareExcess t * (20 * s.eng.feed.vpb : Nat) + s.eng.feed.pack - 1) / s.eng.feed.pack).toNat

/-- One millisecond of the safety timer (R198): ELAPSED advances by 1 ms × r. -/
def chgMs : Prog := .dyn fun s =>
  let i : Rat := (s.i PATH_IBAK_MA : Int)
  let lim := s.f CHG_STATUS_LIMITS % 8 != 0
  let r : Rat := if 2 ≤ s.chg && s.chg ≤ 3 && lim then max (i / s.iprog) (1 / 8) else 1
  let tot := s.eng.feed.part + r
  let n := (tot / 125).floor.toNat
  whenB (s.chgLimit != none)
    (blk [feedEng fun e => { e with part := tot - 125 * n }, addSat CHG_ELAPSED_T8 n, chgExpiry])

/-- Per-cell defaults of a chemistry, and the range of VREG (R195). -/
def chemRow : Nat → Nat × Nat × Nat × Nat × Nat × Nat
  | 0 => (4200, 4000, 4350, 300, 410, 320)
  | 1 => (3600, 3400, 3650, 250, 345, 280)
  | _ => (2700, 2500, 2800, 180, 260, 190)

/-! ### Path (R187-R194) -/

/-- The path enters BATTERY (R189, R192). -/
def toBattery : Prog :=
  blk [set PATH_STATUS_STATE 3, whenS (fun s => s.isMgr && !s.b PATH_CFG_BAT_RUN) (send pgPATH 0 0 0)]

def lockoutCheck : Prog :=
  whenS (fun s => 8 < s.f PATH_BOUNCE_WINDOW && !s.b PATH_STATUS_LOCKED)
    (blk [set PATH_STATUS_LOCKED 1, pathEvent 3, incSat PATH_BOUNCE_LOCKOUTS, send pgPATH 0 2 0])

/-- A source loss (R187-R190): `bounce` unless EF_OFF caused it. -/
def sourceLoss (bounce : Bool) : Prog := .dyn fun s =>
  let p := s.path
  whenB (p == 1 || p == 4 || p == 5)
    (blk [set FEED_STATUS_PG 0, whenS (fun t => t.ef == 1 || t.ef == 2 || t.ef == 3) (set FEED_STATUS_EF_STATE 0),
      feedEng fun e => { e with pcGate := false },
      whenB bounce (.seq (incSat PATH_BOUNCE_LOSSES) (incSat PATH_BOUNCE_WINDOW)),
      if p == 1 then
        (if s.b PATH_STATUS_PACK_PRESENT then set PATH_STATUS_STATE 2 else set PATH_STATUS_STATE 0)
      else if s.b PATH_STATUS_PACK_PRESENT || s.anyValid then toBattery
      else set PATH_STATUS_STATE 0,
      set PATH_STATUS_SUPPLEMENT 0, lockoutCheck, chgPathCheck])

/-- The e-fuse and the path leave a trip behind them and may start (R184, R185, R189). -/
def State.mayPrecharge (s : State) : Bool :=
  s.anyValid && s.ef == 0 && !s.eng.feed.pcCool && !s.b PATH_STATUS_LOCKED && s.f PATH_STATUS_SHORTS == 0

def precharge : Prog :=
  blk [set PATH_STATUS_STATE 5, set FEED_STATUS_EF_STATE 1, feedEng fun e => { e with pcGate := true }]

/-- The path falls to NONE with its gates off (R189). -/
def toNone : Prog :=
  blk [set PATH_STATUS_STATE 0, whenS (fun s => 1 ≤ s.ef && s.ef ≤ 3) (set FEED_STATUS_EF_STATE 0), set FEED_STATUS_PG 0,
    feedEng fun e => { e with pcGate := false }]

/-- No pack and no valid feed are left (R189). -/
def pathLost : Prog :=
  whenS (fun s => (s.path == 3 || s.path == 4 || s.path == 5) && !s.b PATH_STATUS_PACK_PRESENT && !s.anyValid) toNone

/-- The moves of R189 that wait for a feed or for the pack. -/
def pathEval : Prog := .dyn fun s =>
  blk [whenB (s.path == 3 && s.anyIn && !s.b PATH_STATUS_LOCKED) (set PATH_STATUS_STATE 4),
    whenS (fun t => (t.path == 0 || t.path == 4) && t.mayPrecharge) precharge,
    whenS (fun t => t.path == 0 && t.b PATH_STATUS_PACK_PRESENT && !t.anyValid) toBattery]

/-- Feed `n` reads `v` (20 mV) and comes within its limits (R181). -/
def feedIn (n v : Nat) : Prog :=
  .seq (seeFeed n v) (whenS (fun s => s.qualOk v) (.seq (setIn n true) (whenS (fun s => s.path == 3) pathEval)))

/-- Feed `n` has stayed within its limits for 50 ms (R181). -/
def feedValid (n : Nat) : Prog :=
  whenS (fun s => s.inLimits n && s.qualOk (s.feedV n) && !s.b (validOf n))
    (blk [set (validOf n) 1, set (gateOf n) 1, event (FEED_EVT_RAW_VALID_CHG.bit n), pathEval])

/-- Feed `n` is valid no longer. -/
def validDrop (n : Nat) : Prog :=
  whenS (fun s => s.b (validOf n)) (blk [set (validOf n) 0, set (gateOf n) 0, event (FEED_EVT_RAW_VALID_CHG.bit n)])

/-- The feeds that are left carry the path no longer, or neither feed nor pack does (R187, R189). -/
def feedLook : Prog :=
  blk [whenS (fun s => (s.path == 4 && !s.anyIn) || ((s.path == 1 || s.path == 5) && !s.anyValid)) (sourceLoss true), pathLost, pathEval]

/-- Feed `n` reads `v` and has lain outside its limits long enough (R181, R187). -/
def feedInvalid (n v : Nat) : Prog :=
  .seq (seeFeed n v) (whenS (fun s => !s.qualOk v) (blk [setIn n false, validDrop n, feedLook]))

/-- FEED_QUAL has changed (R181): the counts of feeds outside it end, and with UV above OV no feed is valid. -/
def qualLook : Prog := .dyn fun s =>
  blk [forEach [0, 1] fun n => whenB (!s.qualOk (s.feedV n)) (setIn n false),
    whenB (s.f FEED_QUAL_OV < s.f FEED_QUAL_UV) (blk [validDrop 0, validDrop 1, feedLook])]

def oringReverse (n : Nat) : Prog :=
  whenS (fun s => s.b (gateOf n)) (.seq (set (gateOf n) 0) (event (FEED_EVT_RAW_REVERSE.bit n)))

def oringRedrive (n : Nat) : Prog := whenS (fun s => s.b (validOf n)) (set (gateOf n) 1)

/-- An e-fuse trip (R185): EF_TRIP, the count towards LATCHED, and a source loss. -/
def efTrip (kind : Nat) : Prog :=
  blk [feedEng fun e => { e with trips := e.trips + 1, pcGate := false }, incSat FEED_CNT_TRIPS,
    event FEED_EVT_RAW_EF_TRIP, feedFirst kind,
    ifS (fun s => s.f FEED_EF_RETRY + 1 ≤ s.eng.feed.trips)
      (blk [set FEED_STATUS_EF_STATE 5, event FEED_EVT_RAW_EF_LATCH, incSat FEED_CNT_LATCHES, feedFirst 2, send pgFEED 2 2 0])
      (set FEED_STATUS_EF_STATE 4),
    sourceLoss true]

/-- The e-fuse conducts: ON, or in LIMIT, where it regulates. -/
def State.efG (s : State) : Bool := s.ef == 2 || s.ef == 3

/-- The e-fuse as its current and the protected bus show it (R185, R189): at twice ILIM it trips, LIMIT while it regulates, PG while the bus
stands at 95%, with which a HANDBACK ends in FEED; a regulating e-fuse is ON for PG. (DEDUCED, log entry 112) -/
def efLook : Prog :=
  .seq (whenS State.efG (.dyn fun s =>
      let ma := s.i FEED_IEF_I
      let lim : Int := s.f FEED_EF_ILIM
      if 20 * lim ≤ ma then efTrip 0 else set FEED_STATUS_EF_STATE (if 10 * lim ≤ ma then 3 else 2)))
    (whenS (fun s => s.efG && !s.eng.feed.pcGate)
      (.seq (.dyn fun s => setB FEED_STATUS_PG s.busUp)
        (whenS (fun s => s.path == 5 && s.b FEED_STATUS_PG) (.seq (set PATH_STATUS_STATE 1) (pathEvent 2)))))

/-- The e-fuse current stands at `i` and has for `t` × 0.1 ms (R185): it regulates at ILIM, and TMO of that is a trip. -/
def efTimed (i t : Nat) : Prog :=
  blk [set FEED_IEF_I i, efLook, whenS (fun s => s.ef == 3 && s.f FEED_EF_TMO ≤ t) (efTrip 0)]

/-- The e-fuse current reaches `i`: twice ILIM is a trip without regulation (R185). -/
def efFast (i : Nat) : Prog := .seq (set FEED_IEF_I i) efLook

def efCoolEnd : Prog := whenS (fun s => s.ef == 4) (.seq (set FEED_STATUS_EF_STATE 0) pathEval)

def efTripsReset : Prog := whenS (fun s => s.ef == 2) (feedEng fun e => { e with trips := 0 })

/-- The protected bus stands at `vpb` × 20 mV in a pre-charge (R184): at 95% of the ORed bus EF_G goes on. -/
def prechargeDone (vpb : Nat) : Prog := .seq (seeBus vpb) (whenS (fun s => s.ef == 1 && s.busUp) (set FEED_STATUS_EF_STATE 2))

/-- PC_G goes off; with the bus at 95% PG rises and the path is FEED (R183-R185, R189). (DEDUCED, log entry 81) -/
def pcGateOff : Prog :=
  whenS (fun s => s.efG && s.eng.feed.pcGate) (.seq (feedEng fun e => { e with pcGate := false }) efLook)

def feedPcTimeout : Prog :=
  whenS (fun s => s.ef == 1)
    (blk [event FEED_EVT_RAW_PC_FAIL, incSat FEED_CNT_PC_FAILS, feedEng fun e => { e with pcCool := true }, efTrip 1])

def pcCoolEnd : Prog := .seq (feedEng fun e => { e with pcCool := false }) pathEval

/-- The gates, the e-fuse, the charger and the path are as check `k` of R186 requires; LIMIT is no ON here, and an ideal diode that does not
conduct is off. (DEDUCED, log entry 112) -/
def State.fetJudged (s : State) (k : Nat) : Bool := match k with
  | 0 => !s.b FEED_STATUS_A_ON
  | 1 => !s.b FEED_STATUS_B_ON
  | 2 => !s.efG && !s.eng.feed.pcGate
  | 3 => s.ef == 2
  | 4 => [0, 6, 8, 9].contains s.chg
  | _ => s.path == 1 && !s.b PATH_STATUS_SUPPLEMENT

/-- A FET check (R186): marks 0-3 of the FEED page, 4 CHG_SHORT, 5 DSG_SHORT; every finding faults the charger (R196). -/
def fetFinding (k : Nat) : Prog := whenS (fun s => s.fetJudged k) (
  if k < 4 then
    blk [set (FEED_FET_MARKS.bit k) 1, event FEED_EVT_RAW_FET_FAULT, feedFirst (3 + k), send pgFEED (min k 2) (3 + k) 0,
      if k == 2 then .seq (set FEED_STATUS_EF_STATE 5) (sourceLoss true)
      else whenB (k == 3) (efTrip 0), chgFault 4]
  else
    blk [set (PATH_STATUS_SHORTS.bit (k - 4)) 1, pathEvent 8, send pgPATH (if k == 4 then 1 else 0) 4 0,
      whenS (fun s => 1 ≤ s.ef && s.ef ≤ 3) (set FEED_STATUS_EF_STATE 0), sourceLoss false, chgFault 4])

/-- FET_CLEAR on one page (R186), and on both for the charge fault FET (R196). -/
def fetClear (onPath : Bool) : Prog :=
  blk [if onPath then set PATH_STATUS_SHORTS 0 else set FEED_FET_MARKS 0,
    feedEng fun e => if onPath then { e with clrPath := true } else { e with clrFeed := true },
    whenS (fun s => s.chg == 9 && s.f CHG_STATUS_FAULT == 4 && s.eng.feed.clrFeed && s.eng.feed.clrPath) chgToIdle,
    whenB onPath pathEval]

def handoverComplete : Prog :=
  whenS (fun s => s.path == 2)
    (.seq (ifS (fun s => s.anyIn && !s.b PATH_STATUS_LOCKED) (set PATH_STATUS_STATE 4) toBattery)
      (blk [pathEvent 1, pathLost, whenS (fun s => s.path == 4) pathEval]))

/-- The pack has stayed below CELLS × VLOW, here at `mv`, for 10 ms (R192). (DEDUCED, log entry 30) -/
def packLow (mv : Nat) : Prog := .seq (feedEng fun e => { e with pack := mv })
  (whenS (fun s => (s.path == 3 || s.path == 4 || s.b PATH_STATUS_LOCKED) && mv < s.f CHG_PACK_CELLS * 10 * s.f CHG_THR_VLOW)
    (blk [set PATH_STATUS_PACK_LOW 1, pathEvent 4, send pgPATH 0 1 0]))

/-- VBAK has stayed at `mv` for 100 ms (R193). -/
def packPresent (mv : Nat) : Prog :=
  .seq (vbak mv)
    (whenS (fun s => s.f CHG_PACK_CELLS != 0 && s.f CHG_PACK_CELLS * 1000 ≤ mv && !s.b PATH_STATUS_PACK_PRESENT)
      (blk [set PATH_STATUS_PACK_PRESENT 1, pathEvent 0, chgClear, whenS (fun s => s.path == 0) pathEval]))

/-- The pack becomes absent (R189, R193, R196): a charger in the fault FET stays there. (DEDUCED, log entry 113) -/
def packGone : Prog :=
  whenS (fun s => s.b PATH_STATUS_PACK_PRESENT)
    (blk [set PATH_STATUS_PACK_PRESENT 0, pathEvent 0,
      pathLost, chgElapsed0, whenS (fun s => !(s.chg == 9 && s.f CHG_STATUS_FAULT == 4)) chgToIdle])

/-- VBAK has stayed at `mv` for 100 ms (R193). -/
def packAbsent (mv : Nat) : Prog :=
  .seq (feedEng fun e => { e with pack := mv }) (whenS (fun s => mv < s.f CHG_PACK_CELLS * 500) packGone)

def supplementStart : Prog := whenS (fun s => s.path == 1) (.seq (set PATH_STATUS_SUPPLEMENT 1) chgSuspend)

def supplementEnd : Prog := set PATH_STATUS_SUPPLEMENT 0

def efOn : Prog := whenS (fun s => s.ef == 5 || s.ef == 6) (.seq (set FEED_STATUS_EF_STATE 0) pathEval)

/-- EF_OFF (R187, R203): a LATCHED e-fuse stays so (R185). -/
def efOff : Prog :=
  blk [sourceLoss false, whenS (fun s => s.ef != 5) (set FEED_STATUS_EF_STATE 6), feedEng fun e => { e with pcGate := false }]

/-- CLEAR_LOCKOUT (R190): the window empties and each feed's 50 ms count starts afresh. -/
def clearLockout : Prog :=
  blk [whenS (fun s => s.b PATH_STATUS_LOCKED) (.seq (validDrop 0) (validDrop 1)), set PATH_STATUS_LOCKED 0, set PATH_BOUNCE_WINDOW 0,
    pathEval]

def bounceExpiry : Prog := upd PATH_BOUNCE_WINDOW (· - 1)

/-- The host-contact timer stands at `sec` seconds (R199): it counts from core release or a KEEPALIVE.  HCT = 0 keeps a fallback from coming, and
leaves one in force until a KEEPALIVE. (DESIGN CHOICE, log entry 131) -/
def hostContactLost (sec : Nat) : Prog :=
  whenS (fun s => (s.released || s.eng.feed.alive) && s.f CHG_FALLBACK_HCT != 0 && s.f CHG_FALLBACK_HCT ≤ sec && !s.b PATH_STATUS_HOST_LOST)
    (blk [set PATH_STATUS_HOST_LOST 1, set (CHG_STATUS_LIMITS.bit 3) 1, pathEvent 7])

/-- The host-contact timer starts at core release unless a KEEPALIVE has started it (R199). -/
def contactStart : Prog := .dyn fun s => feedEng fun e => if e.alive then e else { e with contactAt := s.now }

/-- The host-contact timer as model time counts it (R199). -/
def contactLook : Prog := .dyn fun s => hostContactLost ((s.now - s.eng.feed.contactAt) / 1000000)

/-- KEEPALIVE (R199): FB falls, and HOST_LOST with it. (DESIGN CHOICE, log entry 131) -/
def keepalive : Prog := .dyn fun s => blk [feedEng fun e => { e with
    contactAt := s.now
    alive := true }, set PATH_STATUS_HOST_LOST 0, set (CHG_STATUS_LIMITS.bit 3) 0]

/-- CHG_PACK written (R195, R196, R205). -/
def chgPackWrite (w : Word) : Prog := .dyn fun s =>
  let chem := CHG_PACK_CHEM.of w
  let cells := min (CHG_PACK_CELLS.of w) 4
  let d := chemRow chem
  blk [set CHG_PACK_AUTO (CHG_PACK_AUTO.of w), set CHG_PACK_CELLS cells, set CHG_PACK_RSENSE (max 1 (CHG_PACK_RSENSE.of w)),
    whenB (chem < 3) (blk [set CHG_PACK_CHEM chem, set CHG_VREG_VREG d.1, set CHG_THR_VPRE d.2.2.2.1,
      set CHG_THR_VRECH d.2.2.2.2.1, set CHG_THR_VLOW d.2.2.2.2.2]),
    whenB (1 ≤ s.chg && s.chg ≤ 5) (chgEnter 0), whenB (cells == 0) packGone]

/-- CHG_VREG written: brought into the range of the chemistry (R195). -/
def chgVregWrite (w : Word) : Prog := .dyn fun s =>
  let d := chemRow (s.f CHG_PACK_CHEM)
  set CHG_VREG_VREG (clamp d.2.1 d.2.2.1 (CHG_VREG_VREG.of w))

/-- FEED_CMD and PATH_CMD, of the charger-control class whatever their OP (R201). -/
def feedCmd (op : Nat) : Prog :=
  accepted FEED_CMD 12 (match op with | 1 => efOn | 2 => efOff | 3 => fetClear false | _ => .skip)

def pathCmd (op : Nat) : Prog :=
  accepted PATH_CMD 12 (match op with
    | 1 => chgStart | 2 => chgStop | 3 => chgClear | 4 => clearLockout | 5 => keepalive | 6 => fetClear true | _ => .skip)

/-- The start logic powers up (R183, R200): the whole block is reset. -/
def startLogicUp : Prog :=
  blk [.act (.resetRegs fun a => pageOf a != pgFEED && pageOf a != pgPATH), feedEng fun _ => {}, modeEval 2]

/-- The effect of a power-on reset of the device on the block (R200): registers reset, path, feed, e-fuse and ELAPSED kept; a feed that a
lockout kept out of the path is qualified anew (R190).  `s` is the state before the reset; to be run after the pages have taken their reset
values. -/
def feedPor (s : State) : Prog :=
  blk [setReg FEED_STATUS (s.reg FEED_STATUS).toNat, setReg CHG_ELAPSED (s.reg CHG_ELAPSED).toNat, set PATH_STATUS_STATE s.path,
    feedEng fun e => { e with
      startReq := false
      alive := false },
    whenB (s.b PATH_STATUS_LOCKED) (.seq (validDrop 0) (validDrop 1))]

/-! ### Gates (R182, R184, R188, R194) -/

/-- PC_G. -/
def State.pcG (s : State) : Bool := s.eng.feed.pcGate

/-- DSG_G: 0 off, 1 an ideal diode towards the bus, 2 fully on (R188, R189, R191); off after an entry to SHELF until the next wake (R194). -/
def State.dsgG (s : State) : Nat := if s.eng.feed.shipped || s.path == 0 then 0 else if s.path == 1 then 1 else 2

/-- CHG_G switches: a charge runs, and nothing holds it (R196, R188). -/
def State.chgG (s : State) : Bool := 2 ≤ s.chg && s.chg ≤ 5 && s.path == 1

/-- The effect of a system reset (R101, R200): CHG_G off; a charger neither in FAULT nor in STOPPED returns to IDLE. -/
def feedSysReset : Prog := whenS (fun s => s.chg != 8 && s.chg != 9) (set CHG_STATUS_PHASE 0)

end Sys2Proof.Machine
end

