-- ==== Sys2Proof/Machine/Aes.lean ====
section
/-!
DEFINITION. AES-128 (FIPS 197) and AES-CMAC (SP 800-38B), which R353 and R563 name.  A state is a list of 16 bytes, column by
column; a key or block is a number of 128 bits, its first byte the most significant.
-/
namespace Sys2Proof.Machine.Aes

/-- The substitution table, byte 0x00's value lowest. -/
def table : Nat := 0x16BB54B00F2D99416842E6BF0D89A18CDF2855CEE9871E9B948ED9691198F8E19E1DC186B95735610EF6034866B53E708A8BBD4B1F74DDE8C6B4A61C2E2578BA08AE7A65EAF4566CA94ED58D6D37C8E779E4959162ACD3C25C2406490A3A32E0DB0B5EDE14B8EE4688902A22DC4F816073195D643D7EA7C41744975FEC130CCDD2F3FF1021DAB6BCF5389D928F40A351A89F3C507F02F94585334D43FBAAEFD0CF584C4A39BECB6A5BB1FC20ED00D153842FE329B3D63B52A05A6E1B1A2C830975B227EBE28012079A059618C323C7041531D871F1E5A534CCF73F362693FDB7C072A49CAFA2D4ADF04759FA7DC982CA76ABD7FE2B670130C56F6BF27B777C63

def subst (x : Nat) : Nat := table / 256 ^ x % 256
def unsubst (y : Nat) : Nat := ((List.range 256).find? fun x => subst x == y).getD 0

/-- Product in GF(2^8), modulo x^8 + x^4 + x^3 + x + 1, by the four bits of `k`. -/
def twice (x : Nat) : Nat := if x < 128 then 2 * x else (2 * x) ^^^ 0x11B
def times (k x : Nat) : Nat :=
  [(1, x), (2, twice x), (4, twice (twice x)), (8, twice (twice (twice x)))].foldl (fun r q => if k / q.1 % 2 == 1 then r ^^^ q.2 else r) 0

def added (a b : List Nat) : List Nat := List.zipWith (· ^^^ ·) a b

/-- Row r turns left by r (`s` = 1), or back (`s` = 3). -/
def shiftRows (s : Nat) (l : List Nat) : List Nat :=
  (List.range 16).map fun i => l.getD ((i / 4 + s * (i % 4)) % 4 * 4 + i % 4) 0

/-- Each column times the circulant matrix of first row `m`. -/
def mixColumns (m : List Nat) (l : List Nat) : List Nat :=
  (List.range 16).map fun i => (List.range 4).foldl (fun r j => r ^^^ times (m.getD ((j + 4 - i % 4) % 4) 0) (l.getD (i / 4 * 4 + j) 0)) 0

/-- The round keys behind the one that `k` is, with the round constant `c`. -/
def schedule : Nat → Nat → List Nat → List (List Nat)
  | 0, _, k => [k]
  | n + 1, c, k =>
    let g := [subst (k.getD 13 0) ^^^ c, subst (k.getD 14 0), subst (k.getD 15 0), subst (k.getD 12 0)]
    let w0 := added (k.take 4) g
    let w1 := added ((k.drop 4).take 4) w0
    let w2 := added ((k.drop 8).take 4) w1
    k :: schedule n (twice c) (w0 ++ w1 ++ w2 ++ added (k.drop 12) w2)

def roundKeys (key : Nat) : List (List Nat) := schedule 10 1 (Sha.bytesOf 16 key)

def rounds : List (List Nat) → List Nat → List Nat
  | [], l => l
  | [k], l => added (shiftRows 1 (l.map subst)) k
  | k :: ks, l => rounds ks (added (mixColumns [2, 3, 1, 1] (shiftRows 1 (l.map subst))) k)

/-- A block enciphered. -/
def encrypt (key x : Nat) : Nat :=
  let ks := roundKeys key
  Sha.numOf (rounds (ks.drop 1) (added (Sha.bytesOf 16 x) (ks.headD [])))

/-- The rounds back: from the last round key to the first. -/
def unrounds : List (List Nat) → List Nat → List Nat
  | [], l => l
  | [k], l => added ((shiftRows 3 l).map unsubst) k
  | k :: ks, l => unrounds ks (mixColumns [14, 11, 13, 9] (added ((shiftRows 3 l).map unsubst) k))

/-- A block deciphered. -/
def decrypt (key x : Nat) : Nat :=
  let ks := (roundKeys key).reverse
  Sha.numOf (unrounds (ks.drop 1) (added (Sha.bytesOf 16 x) (ks.headD [])))

/-- Doubling in GF(2^128). -/
def dbl (x : Nat) : Nat := if x < 2 ^ 127 then 2 * x else (2 * x - 2 ^ 128) ^^^ 0x87

/-- AES-CMAC of a byte list, as a number of 128 bits. -/
def cmac (key : Nat) (l : List Nat) : Nat :=
  let k1 := dbl (encrypt key 0)
  let n := (l.length - 1) / 16
  let x := (List.range n).foldl (fun v i => encrypt key (v ^^^ Sha.numOf ((l.drop (16 * i)).take 16))) 0
  let r := l.drop (16 * n)
  encrypt key (x ^^^ (if r.length == 16 then k1 ^^^ Sha.numOf r
    else dbl k1 ^^^ Sha.numOf (r ++ [128] ++ List.replicate (15 - r.length) 0)))

end Sys2Proof.Machine.Aes
end

