-- ==== Sys2Proof/Machine/Scan.lean ====
section
/-!
DEFINITION. Scan scheduling, frames, result windows and limits (12_conversion_and_scheduling.md, R241-R266; R502).
-/
namespace Sys2Proof.Machine

def scanEng (g : ScanEng → ScanEng) : Prog := eng fun e => { e with scan := g e.scan }

/-- Event `k` of SCAN_EVT_RAW, of ADC_EVT_RAW, CELL_EVT_RAW and AUX_EVT_RAW. -/
def scanEvent (k : Nat) : Prog := event (SCAN_EVT_RAW_EVENTS.bit k)
def adcEvent (k : Nat) : Prog := event (ADC_EVT_RAW_EVENTS.bit k)

/-! ### Schedule (R246, R502) -/

/-- SAFEHOLD entered from RUN keeps the RUN rate (R74, R246). -/
def State.fullRate (s : State) : Bool := s.mode == 4 || (s.mode == 6 && s.f MODE_CUR_PREV == 4)

/-- The frame period P of the mode in force, in microseconds (R246). (DESIGN CHOICE, log entry 16) -/
def State.period (s : State) : Option Nat :=
  match s.mode with
  | 0 => none | 1 => none | 2 => some 100000
  | 7 => if Config.testPeriod == 0 then none else some Config.testPeriod
  | _ => if s.fullRate then some 1 else some (s.f MODE_ATT_PER_PER)

/-- SCAN_STATUS.SCHED (R262). -/
def State.sched (s : State) : Nat :=
  match s.mode with
  | 0 => 0 | 1 => 0 | 2 => 1 | 7 => 5
  | _ => if s.fullRate then 3 else if s.eng.mode.check == 2 then 4 else 2

/-- SCHED follows the mode and a DORMANT check (R262). -/
def schedUpdate : Prog := .dyn fun s => set SCAN_STATUS_SCHED s.sched

/-- Interleaved capture is permitted (R74). -/
def State.captureMode (s : State) : Bool := s.fullRate || s.mode == 7

/-! ### The queue (R248-R254) -/

/-- SCAN_Q and QDEPTH follow the queue; a granted request still occupies its entry (R254). -/
def queueView : Prog := .dyn fun s =>
  .seq (set SCAN_Q_OCC (s.eng.scan.reqs.foldl (fun m r => withBit m r.entry true) 0))
    (set SCAN_STATUS_QDEPTH s.eng.scan.reqs.length)

def updReqs (g : ScanReq → ScanReq) : Prog := scanEng fun e => { e with reqs := e.reqs.map g }

/-- The request of entry `k` is complete (R254): `v` and the epoch of its tick are given, and the entry is free. -/
def reqFinish (k v : Nat) (na poison : Bool) (e : Nat) : Prog :=
  blk [set (SCAN_RES_VALUE k) v, setB (SCAN_RES_NA k) na, setB (SCAN_RES_POISON k) poison, set (SCAN_RES_VALID k) 1,
    set (SCAN_RES_EP_EPOCH k) e, scanEvent 2, set (SCAN_Q_ESC.bit k) 0,
    scanEng fun x => { x with reqs := x.reqs.filter fun r => r.entry != k }, queueView]

/-- The queued requests of core `c` are removed (R259); one that is granted runs on. -/
def reqsDrop (c : Nat) : Prog := .dyn fun s =>
  let gone := s.eng.scan.reqs.filter fun r => r.core == c && !r.granted
  blk [forEach gone fun r => set (SCAN_Q_ESC.bit r.entry) 0,
    scanEng fun e => { e with reqs := e.reqs.filter fun r => r.core != c || r.granted }, queueView]

/-- COUNT as the KIND in force takes it (R248, R262). -/
def reqCount (kind c : Nat) : Nat :=
  if kind == 1 then clamp 1 16 c else if kind == 2 then (clamp 64 2048 c + 63) / 64 * 64 else 1

/-- The lowest free entry of `l` (R251). -/
def State.freeEntry (s : State) (l : List Nat) : Option Nat := l.find? fun k => !(s.eng.scan.reqs.any fun r => r.entry == k)

/-- A request takes entry `k` (R253, R254): a BURST in a mode without interleaved capture completes at once. -/
def reqPlace (k core cls kind ch count : Nat) : Prog := .dyn fun s =>
  .seq (set (SCAN_RES_VALID k) 0)
    (if kind == 2 && !s.captureMode then reqFinish k 0 true false s.epoch
    else .seq (scanEng fun e => { e with reqs := e.reqs ++ [⟨k, core, cls, kind, ch, reqCount kind count, 0, false, none, none⟩] }) queueView)

/-- GO (R254): the lowest free host entry, or QFULL. -/
def scanPlace : Prog := .dyn fun s =>
  match s.freeEntry ((List.range 16).drop 4) with
  | none => .seq (scanEvent 3) (incSat SCAN_CNT_DROP_QFULL)
  | some k =>
    blk [set SCAN_REQ_LAST_VALID 1, set SCAN_REQ_LAST_ENTRY k,
      reqPlace k 3 (s.f SCAN_REQ_CFG_CLASS) (s.f SCAN_REQ_CFG_KIND) (s.f SCAN_REQ_CFG_CH) (s.f SCAN_REQ_CFG_COUNT)]

/-- A request of the firmware, Madder's (`core` 0) or Woad's (1), for the lowest free of entries 0 to 3; Madder issues PRIORITY alone, Woad the
three classes (R249, R251). (DESIGN CHOICE, log entry 117) -/
def fwPlace (core cls kind ch count : Nat) : Prog := .dyn fun s =>
  match s.freeEntry (List.range 4) with
  | none => .skip
  | some k => reqPlace k core (if core == 0 then 1 else clamp 1 3 cls) (min 2 kind) (min 31 ch) count

/-- SCAN_REQ GO: a BURST belongs to the capture-arm class (R254). -/
def scanGo : Prog := .dyn fun s => if s.f SCAN_REQ_CFG_KIND == 2 then accepted SCAN_REQ 5 scanPlace else scanPlace

/-- SCAN_REQ_CFG written (R262). -/
def scanCfgWrite (w : Word) : Prog :=
  blk [set SCAN_REQ_CFG_CLASS (max 1 (SCAN_REQ_CFG_CLASS.of w)),
    whenB (SCAN_REQ_CFG_KIND.of w < 3) (set SCAN_REQ_CFG_KIND (SCAN_REQ_CFG_KIND.of w)),
    set SCAN_REQ_CFG_CH (min 31 (SCAN_REQ_CFG_CH.of w)), set SCAN_REQ_CFG_COUNT (SCAN_REQ_CFG_COUNT.of w)]

/-- Does `a` come before `b` in the order class, age, entry (R251)? -/
def reqBefore (a b : ScanReq) : Bool :=
  if a.cls != b.cls then a.cls < b.cls else if a.age != b.age then b.age < a.age else a.entry < b.entry

/-- The head of the waiting requests. -/
def reqHead (l : List ScanReq) : Option ScanReq :=
  (l.filter fun r => !r.granted).foldl (fun h r => match h with
    | none => some r
    | some x => if reqBefore r x then some r else some x) none

/-- Escalation (R252). -/
def scanEscalate : Prog := .dyn fun s =>
  let due := s.eng.scan.reqs.filter fun r => !r.granted && 2 ≤ r.cls && s.f SCAN_AGE_LIMIT_LIMIT ≤ r.age
  forEach due fun r =>
    blk [updReqs fun x => if x.entry == r.entry then { x with cls := 1 } else x,
      set (SCAN_Q_ESC.bit r.entry) 1, scanEvent 1, incSat SCAN_CNT_ESC_COUNT]

/-- A code whose data path carried a poison mark (R245). -/
def isPoison (v : Int) : Bool := unsigned 16 v == 0x8001

/-- A burst's sample `v` of ADC1, matched to ADC0 by ADC_INTL_TRIM (R260): gain in 2^-20, offset in sixteenths of a code. (DEDUCED, log entry
132) -/
def State.intlTrim (s : State) (v : Int) : Int :=
  if isPoison v then v
  else clampInt (-32768) 32767 (rndDiv (16 * v * (2 ^ 20 + s.i ADC_INTL_TRIM_GAIN1) + 2 ^ 20 * s.i ADC_INTL_TRIM_OFS1) (2 ^ 24))

/-- Samples of a burst, at 0x7_F000 of the capture buffer (R253, R414): the converters take turns, ADC0 first. (DEDUCED, log entry 132) -/
def burstStore (l : List Int) : Prog := .dyn fun s =>
  forEach l.zipIdx fun x =>
    let v := if x.2 % 2 == 1 then s.intlTrim x.1 else x.1
    .seq (setByte (0x2107F000 + 2 * x.2) (BitVec.ofInt 8 v)) (setByte (0x2107F001 + 2 * x.2) (BitVec.ofNat 8 (unsigned 16 v / 256)))

/-- A burst ends short of its count, with the samples `l` delivered (R250, R253). -/
def burstTrunc (l : List Int) : Prog := .dyn fun s =>
  match s.eng.scan.reqs.find? fun r => r.granted && r.kind == 2 with
  | none => .skip
  | some r =>
    blk [burstStore l, scanEng fun e => { e with burst := 0 }, set ADC_STATUS_BURST 0, set SCAN_STATUS_BURST 0, set ADC_BURST_LEN l.length,
      setEpoch ADC_BURST_EP_LO_EPOCH ADC_BURST_EP_HI_EPOCH (r.at?.getD s.epoch), adcEvent 0, scanEvent 4,
      reqFinish r.entry l.length false (l.any isPoison) (r.at?.getD s.epoch)]

/-- The boundary of the present tick bars a grant (R251): the tick was skipped for throttling, or lies in a burst. -/
def State.grantBarred (s : State) : Bool :=
  (s.eng.scan.flight.any fun f => f.epoch == s.epoch && bitOf f.flags 8 && !bitOf f.flags 1) ||
    (s.b ADC_STATUS_BURST && (s.eng.scan.burst != 0 || s.eng.scan.lastTick == some s.epoch))

/-- Picoseconds of the strike of a tick with FINE `k` (R224). -/
def strikePs (e k : Nat) : Nat := e * 1000000 + k * 390625 / 1000

/-- Conversions of a granted DIRECT occupy its converter from its boundary on (R248), in picoseconds. -/
def State.directBusy (s : State) (r : ScanReq) (iv : Nat × Nat) : Bool :=
  let b := strikePs (r.at?.getD s.epoch) (s.f AFE_STROBE_FINE) + 500000
  b < iv.2 && iv.1 < b + r.count * 31250

/-- A DIRECT would find a trip conversion on its converter, and goes back to the queue (R250). -/
def State.directMet (s : State) (r : ScanReq) : Bool :=
  r.kind == 1 && s.eng.scan.trips.any fun i => i.2 == decide (16 ≤ r.ch) && s.directBusy r i.1

/-- The frame boundary (R251, R252): escalation, then one grant. -/
def windowEnd : Prog :=
  .seq scanEscalate (.dyn fun s =>
    whenB (!s.grantBarred)
      (match reqHead s.eng.scan.reqs with
      | none => .skip
      | some r =>
        if r.kind == 2 && !s.captureMode then reqFinish r.entry 0 true false s.epoch
        else if s.directMet r then .skip
        else .seq (updReqs fun x => if x.entry == r.entry then { x with
              granted := true
              at? := if x.kind == 1 then some s.epoch else none } else x)
          (whenB (r.kind == 2)
            (blk [scanEng fun e => { e with burst := r.count / 64 }, set ADC_STATUS_BURST 1, set SCAN_STATUS_BURST 1]))))

/-! ### Strike and trip (R246, R250, R253) -/

/-- The conversion window struck at `t` overlaps a trip interval (R241, R250). -/
def overlaps (t : Nat) (i : Nat × Nat) : Bool := t < i.2 && i.1 < t + 500000

/-- Flags that every frame struck now carries (R244). -/
def State.strikeFlags (s : State) : Nat :=
  64 * s.f AFE_STATUS_REF_BAD + 32 * s.f AFE_STATUS_ZERO_BAD + 16 * b2n s.diagRuns + 8 * b2n (s.isWrk && !s.b CLK_STATUS_TICK_LOCK)

def strikeAs (e flags fine : Nat) : Prog := .dyn fun s =>
  scanEng fun x => { x with flight := x.flight ++ [⟨e, flags, fine, s.period.getD 1⟩], lastTick := some e }

/-- A frame is struck at tick `e`, or abandoned for a trip interval that it overlaps (R224, R244, R250). -/
def strikeFrame (e flags : Nat) : Prog := .dyn fun s =>
  let k := s.fineNext
  let claim : Prog := updReqs fun r => if r.granted && r.kind == 0 && r.at?.isNone then { r with at? := some e } else r
  .seq (set AFE_STROBE_FINE k)
    (if s.eng.scan.trips.any (fun i => overlaps (strikePs e k) i.1) then .seq (scanEng fun y => { y with rerun := true }) (strikeAs e (flags + 0x200) k)
    else blk [claim, scanEng fun y => { y with rerun := false }, strikeAs e (flags + b2n s.eng.scan.rerun) k])

/-- A tick of the strobe at the present epoch (R246, R250, R253, R502): a burst whose first tick a trip interval overlaps is abandoned. -/
def frameStrike : Prog :=
  blk [.dyn fun s => match s.eng.scan.skipNext with
    | some k => whenB (s.epoch % 64 == 0)
        (.seq (scanEng fun x => { x with skipK := k, skipNext := none }) (setB SCAN_STATUS_SKIPPING (1 < k)))
    | none => .skip,
  .dyn fun s => whenB (0 < s.eng.scan.burst && s.eng.scan.trips.any fun i => s.epoch * 1000000 < i.1.2 && i.1.1 < (s.epoch + 1) * 1000000) (burstTrunc []),
  .dyn fun s =>
    let e := s.epoch
    let x := s.eng.scan
    let fl := s.strikeFlags
    let sched := match s.period with | some p => e % p == 0 | none => false
    let extra := x.reqs.any fun r => r.granted && r.kind == 0 && r.at?.isNone
    let hit := x.trips.any fun i => overlaps (strikePs e s.fineNext) i.1
    if !s.eng.epoch.running || !s.b AFE_STATUS_REF_RDY || x.lastTick.any (fun t => !later e t) || s.period.isNone then .skip
    else if 0 < x.burst then
      blk [updReqs fun r => if r.granted && r.kind == 2 && r.at?.isNone then { r with at? := some e } else r,
        scanEng fun y => { y with burst := y.burst - 1 }, strikeAs e (fl + 0x102) 0, incSat SCAN_CNT_SKIP_CAPTURE]
    else if sched && e % x.skipK != 0 then .seq (strikeAs e (fl + 0x100) 0) (incSat SCAN_CNT_SKIP_THROTTLE)
    else if sched || extra || (x.rerun && !hit) then strikeFrame e fl
    else .skip]

/-- A trip-class DIRECT on channel `ch` arrives `ps` picoseconds after the tick of the present epoch (R248, R250); `codes` are the samples
that a burst it ends has taken. -/
def tripRequest (ch ps : Nat) (codes : List Int) : Prog := .dyn fun s =>
  let arr := s.epoch * 1000000 + ps
  let last := s.eng.scan.trips.foldl (fun m i => max m i.1.2) 0
  let st := max (arr + 62500) last
  let iv := (st, st + 250000)
  let lost (f : Flight) : Bool := !bitOf f.flags 9 && !bitOf f.flags 8 && overlaps (strikePs f.epoch f.fine) iv
  let burst := s.eng.scan.reqs.find? fun r => r.granted && r.kind == 2
  blk [set ADC_STATUS_TRIP 1,
    scanEng fun e => { e with
      trips := (iv, decide (16 ≤ ch)) :: e.trips.filter (fun i => arr < i.1.2)
      tripRun := e.tripRun + 1
      rerun := e.rerun || e.flight.any lost
      flight := e.flight.map fun f => if lost f then { f with flags := f.flags / 2 * 2 + 0x200 } else f },
    updReqs fun r =>
      if r.granted && r.kind == 1 && r.ready.isNone && decide (16 ≤ r.ch) == decide (16 ≤ ch) && s.directBusy r iv then
        { r with granted := false, at? := none }
      else if r.granted && r.kind == 0 && s.eng.scan.flight.any (fun f => some f.epoch == r.at? && lost f) then
        { r with at? := none }
      else r,
    match burst with
    | some r =>
      let e0 := r.at?.getD (s.epoch + 1)
      whenB (e0 * 1000000 < iv.2 && iv.1 < e0 * 1000000 + r.count * 15625)
        (burstTrunc (if r.at?.isSome then codes.take (min r.count ((st - e0 * 1000000) / 15625)) else []))
    | none => .skip]

/-- A DIRECT conversion's mean code is ready (R248); a trip's goes to Madder, and TRIP falls with the last of them (R250). -/
def directReady (trip : Bool) (code : Int) (poison : Bool) : Prog := .dyn fun s =>
  if trip then .seq (scanEng fun e => { e with tripRun := e.tripRun - 1 }) (setB ADC_STATUS_TRIP (1 < s.eng.scan.tripRun))
  else match s.eng.scan.reqs.find? fun r => r.granted && r.kind == 1 && r.ready.isNone with
    | some r => updReqs fun x => if x.entry == r.entry then { x with ready := some (unsigned 16 code, poison) } else x
    | none => .skip

/-- The request of entry `k` completes (R254), once what it asked for is there. -/
def reqComplete (k : Nat) : Prog := .dyn fun s =>
  match s.eng.scan.reqs.find? fun r => r.entry == k with
  | some r => (match r.ready with
    | some (v, p) => reqFinish k v false p (r.at?.getD s.epoch)
    | none => .skip)
  | none => .skip

/-- A burst's ticks are consumed and its samples delivered at 0x7_F000 of the capture buffer (R253, R414). -/
def burstDone (codes : List Int) : Prog := .dyn fun s =>
  match s.eng.scan.reqs.find? fun r => r.granted && r.kind == 2 with
  | none => .skip
  | some r =>
    let l := codes.take r.count
    if l.length < r.count then burstTrunc l
    else
      blk [burstStore l, scanEng fun e => { e with burst := 0 }, set ADC_STATUS_BURST 0, set SCAN_STATUS_BURST 0, set ADC_BURST_LEN r.count,
        setEpoch ADC_BURST_EP_LO_EPOCH ADC_BURST_EP_HI_EPOCH (r.at?.getD s.epoch), adcEvent 1,
        updReqs fun x => if x.entry == r.entry then { x with ready := some (r.count, l.any isPoison) } else x]

/-! ### Windows (R255, R256) -/

def zeros : List Int := List.replicate 32 0

def Win.fresh (win p e : Nat) : Win :=
  let w := max p (win / p * p)
  ⟨w, p, e / w, 0, 0, e, zeros, List.replicate 32 0, zeros, zeros, false, false⟩

/-- A frame added: it counts unless VOID or SKIPPED; its flags always do (R255).  `lastE` is the epoch of the last frame taken (R256). -/
def Win.add (w : Win) (f : Frame) : Win :=
  let v (c : Nat) : Option Int := frameVal f c
  if frameTaken f then
    { w with
      nfr := w.nfr + 1
      flags := w.flags ||| f.flags
      lastE := f.epoch
      sum := (List.range 32).map fun c => w.sum.getD c 0 + (v c).getD 0
      cnt := (List.range 32).map fun c => w.cnt.getD c 0 + b2n (v c).isSome
      mn := (List.range 32).map fun c => match v c with
        | some x => if w.cnt.getD c 0 == 0 then x else min (w.mn.getD c 0) x
        | none => w.mn.getD c 0
      mx := (List.range 32).map fun c => match v c with
        | some x => if w.cnt.getD c 0 == 0 then x else max (w.mx.getD c 0) x
        | none => w.mx.getD c 0 }
  else { w with flags := w.flags ||| f.flags, lastE := if w.nfr == 0 then f.epoch else w.lastE }

/-- Mean of channel `ch` times `num / den`, rounded to nearest, into field `x`; an open value where nothing was counted. -/
def Win.mean (w : Win) (ch num den : Nat) (x : Fld) : Prog :=
  let n := w.cnt.getD ch 0
  if n == 0 then withFree fun k => set x k else setI x (rndDiv (w.sum.getD ch 0 * (num : Int)) (den * n))

/-- The minimum or maximum in microvolts of a cell. -/
def Win.ext (w : Win) (l : List Int) (ch : Nat) (x : Fld) : Prog :=
  if w.cnt.getD ch 0 == 0 then withFree fun k => set x k else setI x (rndDiv (l.getD ch 0 * 625) 4)

def nfrWrite (w : Win) (stale part flags nfr : Fld) (partial' : Bool) : Prog :=
  blk [setB stale (w.nfr == 0), setB part partial', set flags w.flags, set nfr w.nfr]

/-- Tag of a window: the epoch (k + 1)W − P, or, closed early, that of its last frame (R256). -/
def Win.tag (w : Win) (partial' : Bool) : Nat := if partial' then w.lastE else (w.idx + 1) * w.w - w.p

/-- A CELL window closes (R256, R264). -/
def cellClose (w : Win) (partial' : Bool) : Prog :=
  newResult pgCELL (w.tag partial')
    (.seq (nfrWrite w CELL_NFR_STALE CELL_NFR_PARTIAL CELL_NFR_FLAGS CELL_NFR_NFR partial')
      (whenB (w.nfr != 0) (.dyn fun s =>
        blk [w.mean 24 (75 * s.f AFE_STACK_EXT_ATTEN) 2 CELL_STACK_UV,
          forEach (List.range 24) fun c =>
            blk [w.mean c 625 4 (CELL_V_UV c), w.ext w.mn c (CELL_VMIN_UV c), w.ext w.mx c (CELL_VMAX_UV c)],
          .dyn fun t => setI CELL_SUM_UV (((List.range t.cells).map fun c => t.i (CELL_V_UV c)).foldl (· + ·) 0)])))

/-- R82: a rack current result of `ma` milliamperes with epoch `e` is judged against the idle threshold. -/
def curAbove (ma : Nat) (e : Nat) : Prog := .dyn fun s =>
  let thr := s.f MODE_IDLE_I_THR * 10
  whenB s.isMgr
    (if thr < ma then blk [set MODE_FLOOR_CUR_ABOVE 1, modeEng fun m => { m with belowSince := none }, modeEval 2]
    else if 5 * ma ≤ 4 * thr then
      match s.eng.mode.belowSince with
      | none => modeEng fun m => { m with belowSince := some e }
      | some e0 => whenB (e0 + 1000000 ≤ e && s.b MODE_FLOOR_CUR_ABOVE) (.seq (set MODE_FLOOR_CUR_ABOVE 0) (modeEval 2))
    else modeEng fun m => { m with belowSince := none })

/-- An AUX window closes (R256, R266). -/
def auxClose (w : Win) (partial' : Bool) : Prog :=
  .seq (newResult pgAUX (w.tag partial')
    (.seq (nfrWrite w AUX_NFR_STALE AUX_NFR_PARTIAL AUX_NFR_FLAGS AUX_NFR_NFR partial')
      (whenB (w.nfr != 0) (.dyn fun s =>
        let se := s.b AFE_AUXCFG_AUX2_SE
        let s1 := s.f AUX_SHUNT_S1
        blk [w.mean 24 (375 * s.f AFE_STACK_EXT_ATTEN) 10000 AUX_STACK_MV, w.mean 25 625 2 AUX_V1_V,
          w.mean 26 (if se then 18750 else 625) 2 AUX_V2_V,
          w.mean 25 31250 s1 AUX_I1_MA, w.mean 26 (if se then 937500 else 31250) (s.f AUX_SHUNT_S2) AUX_I2_MA,
          w.mean 30 125 8 AUX_REF_PPM, w.mean 31 125 4 AUX_ZERO_V, w.mean 29 128 1 AUX_DIAG_UV,
          if w.cnt.getD 25 0 == 0 then withFree fun k => set AUX_IMAX_MA k
          else set AUX_IMAX_MA (rndDiv ((max (absi (w.mn.getD 25 0)) (absi (w.mx.getD 25 0)) * 31250 : Nat) : Int) s1).toNat]))))
    (.dyn fun s => whenB (w.nfr != 0) (curAbove (absi (s.i AUX_I1_MA)) (w.tag partial')))

/-- A window is closed if `f` does not belong to it, `f` is added to the window of its epoch, and that window is closed if `f` is its last frame
(R255, R256): the one of its last scheduled tick, or its rerun where that is VOID and a rerun can still fall within the window; frames after
that count in no window.  Answers the window that stands and the closes, in order, with their PARTIAL. (DESIGN CHOICE, log entry 133) -/
def winStep (o : Option Win) (win p : Nat) (f : Frame) : Option Win × List (Win × Bool) :=
  let fits (w : Win) : Bool := w.p == p && w.idx == f.epoch / w.w
  let early := match o with | some w => if fits w || w.closed then [] else [(w, !w.last)] | none => []
  let cur := match o with | some w => if fits w then w else Win.fresh win p f.epoch | none => Win.fresh win p f.epoch
  let nw := cur.add f
  let last := nw.last || (nw.idx + 1) * nw.w - nw.p ≤ f.epoch
  if cur.closed then (some cur, early)
  else if last && !(bitOf f.flags 9 && f.epoch + 1 < (nw.idx + 1) * nw.w) then (some { nw with closed := true }, early ++ [(nw, false)])
  else (some { nw with last := last }, early)

/-- A published frame enters the windows of the CELL page (workers) and of the AUX page. -/
def winFrame (f : Frame) (p : Nat) : Prog := .dyn fun s =>
  let c := winStep s.eng.scan.cell (s.f CELL_CFG_WIN) p f
  let a := winStep s.eng.scan.aux (s.f AUX_CFG_WIN) p f
  blk [whenB s.isWrk (.seq (scanEng fun e => { e with cell := c.1 }) (forEach c.2 fun x => cellClose x.1 x.2)),
    scanEng fun e => { e with aux := a.1 }, forEach a.2 fun x => auxClose x.1 x.2]

/-- Frames stop, or P changes with the mode: the open windows close at the last frame taken (R256). -/
def winStop : Prog := .dyn fun s =>
  blk [scanEng fun e => { e with cell := none, aux := none },
    (match s.eng.scan.cell with | some w => whenB (!w.closed) (cellClose w (!w.last)) | none => .skip),
    match s.eng.scan.aux with | some w => whenB (!w.closed) (auxClose w (!w.last)) | none => .skip]

/-- The period changes: the windows of another period close. -/
def winPeriod : Prog := .dyn fun s =>
  let other (o : Option Win) : Bool := match o with | some w => some w.p != s.period | none => false
  whenB (other s.eng.scan.cell || other s.eng.scan.aux) winStop

/-! ### Limits (R257, R258) -/

/-- Cell channel `c` at code `v` (R257).  Limits in mV against codes of 156.25 µV. -/
def cellLimit (c : Nat) (v : Int) : Prog := .dyn fun s =>
  let ov : Int := s.f CELL_LIM_OV * 4000
  let uv : Int := s.f CELL_LIM_UV * 4000
  let hys : Int := s.f CELL_LIM_CNT_HYS * 4000
  let x := v * 625
  let n := s.f CELL_LIM_CNT_CNT
  let cross (hit : Bool) (l : List (Nat × Nat)) : Nat := if hit then countOf l c + 1 else 0
  let no := cross (ov < x) s.eng.scan.ov
  let nu := cross (x < uv) s.eng.scan.uv
  let nw := cross (uv + hys ≤ x && x ≤ ov - hys) s.eng.scan.within
  let fire (map ev : Fld) (k kind : Nat) (cnt : Nat) : Prog :=
    whenB (n ≤ cnt && !s.b (map.bit c))
      (blk [set (map.bit c) 1, set (CELL_STATUS_ANY.bit k) 1, event ev, send pgCELL c kind 0])
  blk [scanEng fun e => { e with ov := setCount e.ov c no, uv := setCount e.uv c nu, within := setCount e.within c nw },
    fire CELL_OV_MAP_MAP (CELL_EVT_RAW_EVENTS.bit 0) 0 0 no, fire CELL_UV_MAP_MAP (CELL_EVT_RAW_EVENTS.bit 1) 1 1 nu,
    whenB (n ≤ nw && (s.b (CELL_OV_MAP_MAP.bit c) || s.b (CELL_UV_MAP_MAP.bit c)))
      (blk [set (CELL_OV_MAP_MAP.bit c) 0, set (CELL_UV_MAP_MAP.bit c) 0, event (CELL_EVT_RAW_EVENTS.bit 2),
        .dyn fun t => .seq (setB (CELL_STATUS_ANY.bit 0) (t.f CELL_OV_MAP_MAP != 0))
          (setB (CELL_STATUS_ANY.bit 1) (t.f CELL_UV_MAP_MAP != 0))])]

/-- A thermistor reading of `c` in 0.01 °C (R258). -/
def tempLimit (t : Nat) (c : Int) : Prog := .dyn fun s =>
  let ot : Int := s.i AUX_TLIM_OT * 100
  let ut : Int := s.i AUX_TLIM_UT * 100
  let hys : Int := s.f AUX_TLIM_HYS * 100
  let n := s.f AUX_TLIM_CNT
  let cross (hit : Bool) (l : List (Nat × Nat)) : Nat := if hit then countOf l t + 1 else 0
  let no := cross (ot < c) s.eng.scan.ot
  let nu := cross (c < ut) s.eng.scan.ut
  let nw := cross (ut + hys ≤ c && c ≤ ot - hys) s.eng.scan.tWithin
  let fire (map : Fld) (k : Nat) (cnt : Nat) : Prog :=
    whenB (n ≤ cnt && !s.b (map.bit t))
      (blk [set (map.bit t) 1, set (AUX_STATUS_ANY.bit k) 1, event (AUX_EVT_RAW_EVENTS.bit k), send pgAUX t k 0])
  blk [scanEng fun e => { e with ot := setCount e.ot t no, ut := setCount e.ut t nu, tWithin := setCount e.tWithin t nw },
    fire AUX_T_MAP_OT 0 no, fire AUX_T_MAP_UT 1 nu,
    whenB (n ≤ nw && (s.b (AUX_T_MAP_OT.bit t) || s.b (AUX_T_MAP_UT.bit t)))
      (blk [set (AUX_T_MAP_OT.bit t) 0, set (AUX_T_MAP_UT.bit t) 0, event (AUX_EVT_RAW_EVENTS.bit 2),
        .dyn fun r => .seq (setB (AUX_STATUS_ANY.bit 0) (r.f AUX_T_MAP_OT != 0))
          (setB (AUX_STATUS_ANY.bit 1) (r.f AUX_T_MAP_UT != 0))])]

/-- Cell limits on one taken frame: every present channel (R257). -/
def limFrame (f : Frame) : Prog := .dyn fun s =>
  forEach (List.range s.cells) fun c => match s.judged f c with | some v => cellLimit c v | none => .skip

/-! ### Publication (R243-R245, R247) -/

/-- The samples of a frame from the raw codes: (16-bit codes, number saturated).  A channel that is off, or whose multiplexer rests, reads 0
(R219, R229), unless a path test holds it (R237). -/
def State.samples (s : State) (raw : List Int) (poison : Nat) : List Nat × Nat :=
  ((List.range 32).foldr (fun ch acc =>
    if (s.isMgr && ch < 24) || (27 ≤ ch && ch ≤ 28 && (s.muxInputs (ch == 28)).isEmpty && s.heldCh != some ch) then (0 :: acc.1, acc.2)
    else if bitOf poison ch then (0x8001 :: acc.1, acc.2)
    else
      let c := s.calibrate ch (raw.getD ch 0)
      (c.1 :: acc.1, acc.2 + b2n c.2)) ([], 0))

/-- The frame that the oldest strike becomes. -/
def State.assemble (s : State) (x : Flight) (raw : List Int) (poison : Nat) : Frame × Nat :=
  let ix := if s.isMgr then 0 else s.f RING_SELF_INDEX
  if bitOf x.flags 9 || bitOf x.flags 8 then (⟨x.epoch, ix, x.flags, List.replicate 32 0x8000⟩, 0)
  else
    let r := s.samples raw poison
    (⟨x.epoch, ix, x.flags + (if r.1.contains 0x8001 then 128 else 0) + (if r.2 == 0 then 0 else 4), r.1⟩, r.2)

/-- Counting and ageing at a publication (R252, R254, R261). -/
def publishCounts (f : Frame) (nsat : Nat) : Prog :=
  blk [incWrap SCAN_CNT_FRAMES_COUNT,
    whenB (bitOf f.flags 9) (blk [incSat SCAN_CNT_VOID_COUNT, scanEvent 0, setEpoch SCAN_LAST_VOID_LO_EPOCH SCAN_LAST_VOID_HI_EPOCH f.epoch]),
    whenB (nsat != 0) (.seq (addSat ADC_SAT_CNT_COUNT nsat) (adcEvent 2)),
    updReqs fun r =>
      let r := if !r.granted && 2 ≤ r.cls then { r with age := r.age + 1 } else r
      if r.granted && r.kind == 0 && r.at? == some f.epoch then { r with ready := some (0, bitOf f.flags 7) } else r]

/-- CONT_VRACK, in 0.1 V, from the STACK reading of a manager's frame (R207, R220). -/
def vrackFrame (f : Frame) : Prog := .dyn fun s =>
  match frameVal f 24 with
  | some v => whenB s.isMgr (setSat CONT_VRACK_V (rndDiv (v * (375 * s.f AFE_STACK_EXT_ATTEN : Nat)) 1000000).toNat)
  | none => .skip

/-- What the front end, the windows and the limits make of a published frame. -/
def frameJudge (f : Frame) : Prog := .dyn fun s =>
  let p := s.period.getD 1
  .seq (whenB (frameTaken f)
      (oneFrame (blk [vrackFrame f, afeRef f, afeAbsent f, afeSum f, thSamples f tempLimit, limFrame f, owFrame f p, lastFrame f])))
    (winFrame f p)

/-- The oldest struck frame is published: `use` is what its other consumers do with it (R247). -/
def publish (raw : List Int) (poison : Nat) (use : Frame → Prog) : Prog := .dyn fun s =>
  match s.eng.scan.flight with
  | [] => .skip
  | x :: rest =>
    let f := s.assemble x raw poison
    blk [scanEng fun e => { e with flight := rest, per := x.per }, publishCounts f.1 f.2, frameJudge f.1, use f.1, whenB (frameTaken f.1) pathFrame]

/-- A burst runs in the modes of R253 alone: one that a change of mode leaves running ends truncated, what its ticks have taken being open.
(DESIGN CHOICE, log entry 134) -/
def burstMode : Prog := .dyn fun s =>
  match s.eng.scan.reqs.find? fun r => r.granted && r.kind == 2 && r.ready.isNone with
  | some r => whenB (!s.captureMode) (withFree fun x =>
      burstTrunc ((List.range (if r.at?.isSome then r.count - 64 * s.eng.scan.burst else 0)).map fun j => (x / 2 ^ (16 * j) % 2 ^ 16 : Nat)))
  | none => .skip

/-- A change of the mode: the converters are powered where frames are taken; the schedule, and windows of another period (R246, R256). -/
def scanMode : Prog := blk [.dyn fun s => set ADC_STATUS_ON (if s.period.isSome then 3 else 0), schedUpdate, burstMode, winPeriod]

/-- A skip factor of the throttle level waits for its tick (R502). -/
def skipSchedule (k : Nat) : Prog := scanEng fun e => { e with skipNext := some k }

/-- It takes effect (R502). -/
def skipApply : Prog := .dyn fun s =>
  match s.eng.scan.skipNext with
  | some k => whenB (s.epoch % 64 == 0) (.seq (scanEng fun x => { x with skipK := k, skipNext := none }) (setB SCAN_STATUS_SKIPPING (1 < k)))
  | none => .skip

end Sys2Proof.Machine
end

