-- ==== Sys2Proof/Machine/Exc.lean ====
section
/-!
DEFINITION. The reference of the shuttle's current loop: the balancing reference and, in the impedance engine's turn, the multisine (R272, R281,
R292, R296), in the fixed point of Fixed.lean.
-/
namespace Sys2Proof.Machine

/-- Grid integer K of a point (R292). -/
def gridK (i : Nat) : Nat := (regReset (EIS_FREQ i)).toNat

/-- A tone of the multisine: its phasor at the present frame, and its turn in one frame. -/
structure Tone where
  z : Int × Int
  w : Int × Int

def cMul (a b : Int × Int) : Int × Int := (fxMul a.1 b.1 - fxMul a.2 b.2, fxMul a.1 b.2 + fxMul a.2 b.1)

/-- The greatest magnitude of the sum of the tones' cosines over `n` frames, or `m` where that is greater. -/
def tonePeak : Nat → List Tone → Int → Int
  | 0, _, m => m
  | n + 1, l, m => tonePeak n (l.map fun t => { t with z := cMul t.z t.w }) (max m (absi (l.foldl (fun x t => x + t.z.1) 0)))

/-- The tones of a plan (R296): tone m has the phase -π m (m - 1) / n at the start, and turns by K / 20,000,000 a frame (R292, R293). -/
def toneList (pts : List Nat) : List Tone :=
  pts.zipIdx.map fun x =>
    { z := fxCis (fxTurn (-((x.2 * (x.2 + 1) : Nat) : Int)) (2 * pts.length)), w := fxCis (fxTurn (gridK x.1) 20000000) }

/-- The peak of a tone in mA, in fixed point: RMS × √(2 / n) (R296). -/
def tonePk (rms n : Nat) : Int := rms * fxSqrt 2 n

/-- The planned peak Pk over one period T_w at frame resolution, in mA (R296). (DEDUCED, log entry 12) -/
def planPeak (kind : Nat) (pts : List Nat) (rms : Nat) : Rat :=
  if pts == [] then 0
  else fxRat (fxMul (tonePk rms pts.length) (tonePeak (if kind == 1 then 20000000 else 400000) (toneList pts) 0))

/-- The sum of the tones' cosines `d` frames after e0 (R296). -/
def toneSum (pts : List Nat) (d : Int) : Int :=
  (pts.zipIdx.map fun x =>
    (fxCis (fxTurn (gridK x.1 * d * pts.length - (x.2 * (x.2 + 1) * 10000000 : Nat)) (20000000 * pts.length))).1).foldl (· + ·) 0

/-- The excitation of a slot at epoch `e`, in mA, as planned (R296). -/
def EisSlot.wave (x : EisSlot) (e : Nat) : Rat :=
  if x.tones == [] then 0 else x.scale * fxRat (fxMul (tonePk x.rms x.tones.length) (toneSum x.tones ((e : Int) - x.e0)))

/-- The block is throttled (R281). -/
def State.throttled (s : State) : Bool := s.f THM_STATUS_LEVEL != 0

/-- Effective ILIM in 10 mA (R281). -/
def State.shIlim (s : State) : Nat := if s.throttled then s.f BAL_SH_CFG_ILIM * 5 else s.f BAL_SH_CFG_ILIM * 10

/-- The reference asked for at epoch `e`, in mA (R272): the DC reference and, in SETTLE and MEASURE, the excitation, both halved while throttled
(R281). -/
def State.shAsked (s : State) (e : Nat) : Rat :=
  let exc := match s.eng.eis.slot with
    | some x => if s.f EIS_STATUS_STATE == 3 || s.f EIS_STATUS_STATE == 4 then x.wave e else 0
    | none => 0
  (10 * (s.i BAL_SH_I_I : Rat) + exc) / (if s.throttled then 2 else 1)

/-- The clamp of R272 acts at epoch `e`. -/
def State.shClamps (s : State) (e : Nat) : Bool :=
  let x := s.shAsked e
  (10 * (s.shIlim : Rat) < x) || (x < -(10 * (s.shIlim : Rat)))

/-- The reference of the current loop at epoch `e`, in mA, clamped to the effective ILIM (R272). -/
def State.shRef (s : State) (e : Nat) : Rat := max (-(10 * (s.shIlim : Rat))) (min (10 * (s.shIlim : Rat)) (s.shAsked e))

end Sys2Proof.Machine
end

