-- ==== Sys2Proof/Machine/Bal.lean ====
section
/-!
DEFINITION. Passive and shuttle balancing (13_balancing.md, R267-R290).
-/
namespace Sys2Proof.Machine

def balEng (g : BalEng → BalEng) : Prog := eng fun e => { e with bal := g e.bal }

/-- Event `k` of BAL_EVT_RAW, and flag `k` of BAL_STATUS (R290). -/
def balEvent (k : Nat) : Prog := event (BAL_EVT_RAW_EVENTS.bit k)
def balFlag (k : Nat) : Fld := BAL_STATUS_FLAGS.bit k

def balMsg (kind inst : Nat) : Prog :=
  .seq (firstRec BAL_FIRST_VALID [(BAL_FIRST_KIND, kind), (BAL_FIRST_INST, inst)]) (send pgBAL inst kind 0)

/-- BAL_SH_STATUS.STATE: 0 IDLE, 1 RAMP_DOWN, 2 VERIFY_OFF, 3 BBM, 4 CLOSING, 5 RAMP_UP, 6 RUN, 7 LOCKED (R290). -/
def State.sh (s : State) : Nat := s.f BAL_SH_STATUS_STATE

def shEnter (st : Nat) : Prog := set BAL_SH_STATUS_STATE st

/-- The modes in which outputs run (R279). -/
def balRuns (m : Nat) : Bool := m == 3 || m == 4 || m == 5 || m == 7

/-- Outputs are permitted (R279): the mode, and that which a descent leads into, STOP, a lapsed lease. -/
def State.balPermitted (s : State) : Bool :=
  balRuns s.mode && (!s.b MODE_STATUS_DESCENDING || balRuns (s.f MODE_STATUS_ENTERING)) && !s.b (balFlag 7) && !s.b (balFlag 5)

/-- Effective BLEED_I in mA (R281). -/
def State.bleedI (s : State) : Nat := (if s.throttled then s.f BAL_PASS_CFG_BLEED_I / 2 else s.f BAL_PASS_CFG_BLEED_I) * 25

/-! ### Bleed switches (R267-R270) -/

/-- Estimated dissipation of switch `c` at `v` microvolts times 4, in units of 0.25 nW (R268, R269). -/
def State.bleedP (s : State) (c : Nat) (v4 : Int) : Nat :=
  let i := s.bleedI
  let r := if c == 0 then s.f BAL_PASS_CFG_RB else 2 * s.f BAL_PASS_CFG_RB
  i * (v4 - ((400 * i * r : Nat) : Int)).toNat

/-- Latest sample of channel `c` in microvolts times 4. -/
def State.cellV4 (s : State) (c : Nat) : Int := s.lastCode c * 625

def State.bleedSum (s : State) (m : Nat) : Nat :=
  ((List.range 24).filter fun c => bitOf m c).foldl (fun t c => t + s.bleedP c (s.cellV4 c)) 0

/-- PMAX in units of 0.25 nW. -/
def State.pmax4 (s : State) : Nat := s.f BAL_PASS_CFG_PMAX * 40000000

/-- Highest channel of a mask. -/
def topBit (m : Nat) : Option Nat := (List.range 24).reverse.find? fun c => bitOf m c

/-- `m` with its highest channels removed until the sum is within PMAX (R269). -/
def State.fit (s : State) : Nat → Nat → Nat
  | 0, m => m
  | n + 1, m => if s.bleedSum m ≤ s.pmax4 then m else match topBit m with
    | some c => s.fit n (withBit m c false)
    | none => m

/-- Channels whose bleed state is held while the impedance engine owns the shuttle (R286). -/
def State.heldBits (s : State) : Nat :=
  if s.f BAL_SH_STATUS_OWNER == 2 then
    let c := s.f BAL_SH_STATUS_CELL
    (List.range 24).foldl (fun m k => if k == c || k + 1 == c || k == c + 1 then withBit m k true else m) 0
  else 0

/-- Mask `m` with the held channels as they were when ownership passed (R286). -/
def State.withHeld (s : State) (m : Nat) : Nat := (m &&& (0xFFFFFF - s.heldBits)) ||| (s.eng.bal.heldMask &&& s.heldBits)

/-- The mask asked for: the policy's or the host's (R282), with the held channels as they were (R286). -/
def State.bleedAsked (s : State) : Nat :=
  if s.balPermitted && !s.eng.afe.owHold then s.withHeld (if s.f BAL_POLICY_MODE == 0 then 0 else s.f BAL_BLEED_MASK) else 0

def andNot (a b : Nat) : Nat := a &&& (0xFFFFFF - b % 2 ^ 24)

/-- The `n` lowest channels of a mask: no more than MAX_ON switches are on at once (R269). (DESIGN CHOICE, log entry 118) -/
def lowBits (n m : Nat) : Nat := (((List.range 24).filter fun c => bitOf m c).take n).foldl (fun a c => withBit a c true) 0

/-- BAL_BLEED_ON follows what is asked for and what stops a switch (R269, R270, R280), within MAX_ON; ACTIVE shows any output (R290). -/
def bleedApply : Prog := .dyn fun s =>
  let on := lowBits (s.f BAL_PASS_CFG_MAX_ON) (andNot (andNot (andNot s.bleedAsked s.eng.bal.removed) s.eng.bal.openOff) (s.f CELL_UV_MAP_MAP))
  blk [set BAL_BLEED_ON_MASK on, setB (balFlag 0) (on != 0 || (s.sh != 0 && s.sh != 7)),
    setB (balFlag 3) s.eng.afe.owHold, setB (balFlag 4) s.throttled]

/-- The two limits on every frame (R269). -/
def bleedBudget : Prog := .dyn fun s =>
  let on := s.f BAL_BLEED_ON_MASK
  let fit := s.fit 24 on
  blk [whenB (fit != on)
      (blk [balEng fun e => { e with removed := e.removed ||| andNot on fit }, set (balFlag 1) 1, balEvent 8]),
    bleedApply, .dyn fun t => setSat BAL_PDIE_MW (t.bleedSum (t.f BAL_BLEED_ON_MASK) / 4000000)]

/-- A removed switch returns after 1 s (R269). -/
def budgetReturn (c : Nat) : Prog :=
  whenS (fun s => bitOf s.eng.bal.removed c && s.bleedSum (withBit (s.f BAL_BLEED_ON_MASK) c true) ≤ s.pmax4)
    (blk [balEng fun e => { e with removed := withBit e.removed c false },
      whenS (fun s => s.eng.bal.removed == 0) (set (balFlag 1) 0), bleedApply])

/-- Estimated drop across switch `c`, in microvolts times 4 (R268). -/
def State.bleedDrop (s : State) (c : Nat) : Int :=
  s.cellV4 c - ((400 * s.bleedI * (if c == 0 then s.f BAL_PASS_CFG_RB else 2 * s.f BAL_PASS_CFG_RB) : Nat) : Int)

/-- A bleed switch's current has stood at `ma` mA for `ms` milliseconds: the switch is open (R270). -/
def bleedOpen (c ma ms : Nat) : Prog :=
  whenS (fun s => bitOf (s.f BAL_BLEED_ON_MASK) c && 2 * ma < s.bleedI && 10 ≤ ms && 1600000 ≤ s.bleedDrop c)
    (blk [balEng fun e => { e with openOff := withBit e.openOff c true }, bleedApply, balEvent 7, balMsg 3 c])

/-- A new mask, named by the policy or the host: open switches that it names may act again (R270).  Those removed by the dissipation limit stay
off until budgetReturn, whoever names them (R269). -/
def bleedMask (m : Nat) : Prog :=
  blk [set BAL_BLEED_MASK m, balEng fun e => { e with openOff := andNot e.openOff m }, bleedApply]

/-! ### The shuttle (R271-R278) -/

def gatesOff : Prog := blk [set BAL_NODE_CMD_MAP 0, balEng fun e => { e with closing := 31 }]

/-- The pair of channel `c` (R273). -/
def pairMask (c : Nat) : Nat := 3 * 2 ^ c

/-- Selection `c`, 31 for none, replaces the pending one (R273, R275, R276). -/
def balTarget (c : Nat) : Prog := .dyn fun s =>
  blk [set BAL_SEL_CELL c,
    match s.sh with
    | 0 => whenB (c != 31) (shEnter 2)
    | 4 => whenB (c != s.eng.bal.closing) (.seq gatesOff (shEnter 2))
    | 5 => whenB (c != s.f BAL_SH_STATUS_CELL) (shEnter 1)
    | 6 => whenB (c != s.f BAL_SH_STATUS_CELL) (shEnter 1)
    | _ => .skip,
    bleedApply]

/-- The shuttle is deselected, and a balancing slot ends with it. -/
def deselect : Prog := .seq (balEng fun e => { e with slot := none }) (balTarget 31)

/-- A rejected write of BAL_SEL, BAL_SH_I or BAL_BLEED (R273, R278, R282). -/
def balReject (cause : Nat) : Prog := .seq (set BAL_SH_STATUS_REJ cause) (balEvent 1)

/-- The outputs are not the writer's to drive (R273, R282): the host has MANUAL alone, a core every other MODE. (DEDUCED, log entry 83) -/
def State.balForeign (s : State) (core : Bool) : Bool := (s.f BAL_POLICY_MODE == 2) == core

/-- Why a selection is rejected, if it is (R273, R278, R279, R282, R284, R285). (DEDUCED, log entry 83) -/
def State.selCause (s : State) (core : Bool) (c : Nat) : Nat :=
  if s.sh == 7 then 3
  else if s.eng.afe.owHold || (c != 31 && s.f AFE_STATUS_DIAG == 1) then 5
  else if s.f BAL_SH_STATUS_OWNER == 2 || s.eng.bal.forEis then 4
  else if s.balForeign core then 1
  else if c != 31 && s.cells ≤ c then 2
  else 0

/-- A lease is refreshed (R279). -/
def leaseFresh : Prog := .dyn fun s => balEng fun e => { e with leaseAt := s.now }

/-- A write of BAL_SEL or BAL_BLEED in MANUAL ends a lapse of the host lease, which counts from it anew (R279). (DESIGN CHOICE, log entry 118) -/
def lapseEnd : Prog := whenS (fun s => s.b (balFlag 5)) (.seq (set (balFlag 5) 0) leaseFresh)

/-- BAL_SEL written by the host or by a core (R273, R279): in MANUAL it also ends a lapse of the host lease. -/
def balSelWrite (core : Bool) (c : Nat) : Prog := .dyn fun s =>
  if s.selCause core c != 0 then balReject (s.selCause core c)
  else .seq (whenB (!core) lapseEnd) (whenS State.balPermitted
    (.seq (set BAL_SH_STATUS_OWNER (if c == 31 then s.f BAL_SH_STATUS_OWNER else 1)) (balTarget c)))

/-- The current of a shuttle in RUN follows its reference, as measured, unless a stop of R280 holds it (R272). -/
def shFollow : Prog :=
  whenS (fun s => s.sh == 6 && !s.eng.bal.stopOv && !s.eng.bal.stopUv)
    (ifS (fun s => s.shRef s.epoch == 0) (set BAL_SH_STATUS_I 0) (withFree fun k => set BAL_SH_STATUS_I k))

/-- The DC reference, in 10 mA, within the field's ±ILIM (R290), which the current follows. -/
def shSetI (i : Int) : Prog := .dyn fun s =>
  let lim : Int := s.f BAL_SH_CFG_ILIM * 10
  .seq (setI BAL_SH_I_I (clampInt (-lim) lim i)) shFollow

/-- BAL_SH_I written (R272, R282). -/
def balShIWrite (core : Bool) (w : Word) : Prog := .dyn fun s =>
  if s.balForeign core then balReject 1 else shSetI (signed 16 (BAL_SH_I_I.of w))

/-- BAL_BLEED written (R269, R279, R282). -/
def balBleedWrite (core : Bool) (m : Nat) : Prog := .dyn fun s =>
  if s.balForeign core then balReject 1
  else whenB (popcount m ≤ s.f BAL_PASS_CFG_MAX_ON && m < 2 ^ s.cells) (.seq (whenB (!core) lapseEnd) (bleedMask m))

def shRampDownDone : Prog :=
  whenS (fun s => s.sh == 1) (blk [gatesOff, set BAL_SH_STATUS_I 0, set BAL_SH_STATUS_CELL 31, shEnter 2])

/-- Every node reads OFF. -/
def shNodesOff : Prog :=
  whenS (fun s => s.f BAL_NODE_CMD_MAP == 0)
    (.seq (set BAL_NODE_RB_MAP 0) (whenS (fun s => s.sh == 2) (shEnter 3)))

def lowBit (m : Nat) : Nat := ((List.range 32).find? fun k => bitOf m k).getD 0

/-- The shuttle locks (R276, R277). -/
def shLock (rb : Nat) : Prog :=
  blk [gatesOff, set BAL_NODE_RB_MAP rb, set BAL_SEL_CELL 31, set BAL_SH_STATUS_CELL 31, set BAL_SH_STATUS_I 0,
    set BAL_SH_STATUS_OWNER 0, incSat BAL_CNT_LOCKS, shEnter 7,
    balEng fun e => { e with slot := none, yielded := none, resuming := false, forEis := false, eisAsk := none }, bleedApply]

/-- VERIFY_OFF without every node OFF for 10 µs (R276); `fault` is what the impedance engine makes of a shuttle fault (R303). -/
def shStuckOn (rb : Nat) (fault : Prog) : Prog :=
  whenS (fun s => s.sh == 2) (blk [shLock rb, balEvent 3, balMsg 0 (lowBit rb), fault])

/-- 2 µs have passed with every node OFF (R275, R276). -/
def shBbmEnd : Prog :=
  whenS (fun s => s.sh == 3 && s.f BAL_NODE_RB_MAP == 0) (.dyn fun s =>
    let c := s.f BAL_SEL_CELL
    if c ≤ 23 then blk [set BAL_NODE_CMD_MAP (pairMask c), balEng fun e => { e with closing := c }, shEnter 4]
    else blk [shEnter 0, set BAL_SH_STATUS_OWNER 0, balEng fun e => { e with resuming := false }, bleedApply])

/-- Both nodes of the pair read ON (R275 step 5): the polarity of the secondary follows the parity of the channel (R271). -/
def shPairClosed : Prog :=
  whenS (fun s => s.sh == 4) (.dyn fun s =>
    blk [set BAL_NODE_RB_MAP (s.f BAL_NODE_CMD_MAP), set BAL_SH_STATUS_CELL s.eng.bal.closing, balEvent 0,
      incSat BAL_CNT_SELECTIONS, shEnter 5, balEng fun e => { e with oddPos := some (s.eng.bal.closing % 2 == 0) },
      whenB s.eng.bal.forEis (.seq (set BAL_SH_STATUS_OWNER 2)
        (balEng fun e => { e with forEis := false, heldMask := s.f BAL_BLEED_ON_MASK })),
      whenB s.eng.bal.resuming (.seq (balEvent 6) (balEng fun e => { e with resuming := false }))])

def shFailToClose (rb : Nat) (fault : Prog) : Prog :=
  whenS (fun s => s.sh == 4) (.dyn fun s =>
    blk [set BAL_NODE_RB_MAP rb, set BAL_SEL_CELL 31, balEvent 2, balMsg 1 s.eng.bal.closing, gatesOff,
      balEng fun e => { e with slot := none, forEis := false, resuming := false }, shEnter 2, fault])

/-- The reference is reached; `i` is the reconstructed current in 10 mA. -/
def shRampUpDone (i : Nat) : Prog := whenS (fun s => s.sh == 5) (.seq (set BAL_SH_STATUS_I i) (shEnter 6))

/-- Nodes of a readback that violate the interlock (R277): `rb` are not OFF and `on` read ON, and the nodes not commanded on have stood so for
`us` microseconds. -/
def State.badNodes (s : State) (rb on us : Nat) : List Nat :=
  let r := (List.range 25).filter fun k => bitOf rb k
  let o := r.filter fun k => bitOf on k
  r.filter fun k =>
    (10 < us && !bitOf (s.f BAL_NODE_CMD_MAP) k) || (r.any fun j => j != k && j % 2 == k % 2) ||
      (o.contains k && o.any fun j => j != k && j + 1 != k && k + 1 != j)

/-- The readback changes, and a violation of the interlock locks the shuttle (R277); a node that ceases to read OFF breaks the 2 µs of R275. -/
def shInterlock (rb on us : Nat) (fault : Prog) : Prog := .dyn fun s =>
  match s.badNodes rb on us with
  | [] => .seq (set BAL_NODE_RB_MAP rb) (whenB (s.sh == 3 && rb != 0) (shEnter 2))
  | k :: _ => blk [shLock rb, balEvent 4, balMsg 2 k, fault]

/-- The reconstructed current has stood at `i`, in 10 mA, for `us` microseconds (R272). -/
def shOvercurrent (i us : Nat) (fault : Prog) : Prog :=
  whenS (fun s => (s.sh == 1 || s.sh == 5 || s.sh == 6) && 50 * s.f BAL_SH_CFG_ILIM < 4 * (signed 16 i).natAbs && 10 ≤ us) (.dyn fun s =>
    blk [set BAL_SH_STATUS_I i, deselect, balEvent 11, balMsg 4 (s.f BAL_SH_STATUS_CELL), fault])

def balUnlock : Prog := whenS (fun s => s.sh == 7 && s.f BAL_NODE_RB_MAP == 0) (.seq (shEnter 0) bleedApply)

/-! ### When the outputs run (R279, R280) -/

/-- The shuttle is deselected and every bleed switch turned off, for as long as `bleedApply` finds no permission. -/
def outputsOff : Prog := .seq (whenS (fun s => s.sh != 7) deselect) bleedApply

def balStop : Prog := .seq (set (balFlag 7) 1) outputsOff

def balStart : Prog := .seq (set (balFlag 7) 0) bleedApply

/-- The lease of the owner in force, in milliseconds (R279). -/
def State.leaseMs (s : State) : Nat := if s.f BAL_POLICY_MODE == 1 then 2000 else s.f BAL_AUX_CFG_LEASE_T

/-- The lease of `mode` has gone `ms` milliseconds without a refresh (R279). -/
def leaseLapse (mode ms : Nat) : Prog :=
  whenS (fun s => s.f BAL_POLICY_MODE == mode && !s.b (balFlag 5) && s.leaseMs ≤ ms) (blk [set (balFlag 5) 1, balEvent 9, outputsOff])

/-- The end of a millisecond: the lease in force. -/
def leaseLook : Prog := whenS (·.isWrk) (.dyn fun s =>
  let ms := (s.now - s.eng.bal.leaseAt) / 1000
  .seq (leaseLapse 1 ms) (leaseLapse 2 ms))

/-- LEASE refreshes the host lease in MANUAL. -/
def hostLease : Prog := whenS (fun s => s.f BAL_POLICY_MODE == 2) leaseFresh

/-- BAL_CMD (R289): START and UNLOCK belong to the balancing-start class; STOP and LEASE are not commands. -/
def balCmd (op : Nat) : Prog :=
  match op with
  | 1 => accepted BAL_CMD 3 balStart | 2 => balStop | 3 => accepted BAL_CMD 3 balUnlock | 4 => hostLease | _ => .skip

/-- A mode in which no outputs run is being entered, from the start of the transition on (R279). -/
def balMode : Prog := whenS (fun s => !s.balPermitted) outputsOff

/-- The stops of R280 that concern the shuttle, for CELL_OV_MAP and CELL_UV_MAP, on a frame of epoch `e`: one begins with a reference into, or out
of, the connected cell, and holds until the map bit clears. -/
def State.shStops (s : State) (e : Nat) : Bool × Bool :=
  let c := s.f BAL_SH_STATUS_CELL
  let r := s.shRef e
  (c ≤ 23 && bitOf (s.f CELL_OV_MAP_MAP) c && (s.eng.bal.stopOv || 0 < r), c ≤ 23 && bitOf (s.f CELL_UV_MAP_MAP) c && (s.eng.bal.stopUv || r < 0))

/-- The shuttle is stopped on its cell (R280). -/
def State.shProt (s : State) : Bool := s.eng.bal.stopOv || s.eng.bal.stopUv

/-- The limit maps applied on a frame (R280): once a stop of the shuttle ends, its current follows the reference again. -/
def balProt (e : Nat) : Prog := .dyn fun s =>
  let st := s.shStops e
  let stop := st.1 || st.2
  let hit := stop || (s.bleedAsked &&& s.f CELL_UV_MAP_MAP) != 0
  blk [balEng fun x => { x with stopOv := st.1, stopUv := st.2 }, if stop then set BAL_SH_STATUS_I 0 else whenB s.shProt shFollow,
    whenB (hit && !s.b (balFlag 2)) (balEvent 10), setB (balFlag 2) hit, bleedApply]

/-- What balancing makes of a published frame (R269, R279, R280). -/
def balFrame (f : Frame) : Prog := whenS (·.isWrk) (.seq balMode (whenB (frameTaken f) (.seq (balProt f.epoch) bleedBudget)))

/-! ### Policy (R283) -/

/-- The basis in force: SOC falls back to VOLTAGE while a cell is unrestored (R283). -/
def State.socBasis (s : State) : Bool := s.b BAL_POLICY_BASIS && !bitOf (s.f EST_STATUS_FLAGS) 3

/-- x[c], in microvolts or in 0.001%. -/
def State.balX (s : State) (c : Nat) : Int := if s.socBasis then s.f (EST_SOC_SOC c) else s.i (CELL_V_UV c)

/-- START and STOP in the units of x. -/
def State.balStart? (s : State) : Int := s.f BAL_THR_START * (if s.socBasis then 10 else 100)
def State.balStop? (s : State) : Int := s.f BAL_THR_STOP * (if s.socBasis then 10 else 100)

def State.balXs (s : State) : List (Nat × Int) := (List.range s.cells).map fun c => (c, s.balX c)

def State.minV (s : State) (c : Nat) : Bool := (s.f BAL_POLICY_MIN_V * 20000 : Int) ≤ s.i (CELL_V_UV c)

/-- n(x[c] - mu), for n present cells. -/
def State.offMean (s : State) (c : Nat) : Int := s.balX c * s.cells - (s.balXs.map Prod.snd).foldl (· + ·) 0

/-- Insert by falling value, lower channel first on equality. -/
def insFalling (x : Nat × Int) : List (Nat × Int) → List (Nat × Int)
  | [] => [x]
  | y :: l => if y.2 < x.2 || (y.2 == x.2 && x.1 < y.1) then x :: y :: l else y :: insFalling x l

/-- Passive candidates taken in falling order, skipping those that, with the switches held (R286), would exceed MAX_ON or PMAX (R269, R283). -/
def State.policyMask (s : State) (need : Nat) : Nat :=
  let lo := (s.balXs.map Prod.snd).foldl min (s.balX 0)
  let l := ((s.balXs.filter fun x => bitOf need x.1 && s.minV x.1).foldl (fun l x => insFalling (x.1, x.2 - lo) l) [])
  l.foldl (fun m x =>
    let m' := withBit m x.1 true
    if popcount (s.withHeld m') ≤ s.f BAL_PASS_CFG_MAX_ON && s.bleedSum (s.withHeld m') ≤ s.pmax4 then m' else m) 0

/-- The shuttle's next channel (R283): one to be discharged only with its voltage at MIN_V or above. -/
def State.policyPick (s : State) : Option Nat :=
  let both := s.f BAL_POLICY_METHOD == 2
  let l := (List.range s.cells).filter fun c => s.balStart? * s.cells ≤ (s.offMean c).natAbs && (!both || s.offMean c < 0)
  match (l.foldl (fun l c => insFalling (c, ((s.offMean c).natAbs : Int)) l) []).head? with
  | some x => if s.offMean x.1 < 0 || s.minV x.1 then some x.1 else none
  | none => none

/-- The slot in progress ends early (R283). -/
def State.slotEarly (s : State) : Bool := match s.eng.bal.slot with
  | some (c, _) => (s.offMean c).natAbs ≤ s.balStop? * s.cells || (s.i BAL_SH_I_I < 0 && !s.minV c)
  | none => false

/-- A slot of `us` microseconds on channel `c` starts: the policy's reference and selection. -/
def slotBegin (c us : Nat) : Prog := .dyn fun s =>
  blk [shSetI (if s.offMean c < 0 then s.f BAL_SH_CFG_BAL_I * 10 else -(s.f BAL_SH_CFG_BAL_I * 10 : Int)),
    balEng fun e => { e with slot := some (c, s.now + us), slotLen := us }, set BAL_SH_STATUS_OWNER 1, balTarget c]

/-- No other request for the shuttle stands (R284). -/
def State.shFree (s : State) : Bool :=
  s.f BAL_SH_STATUS_OWNER != 2 && !s.eng.bal.forEis && s.eng.bal.eisAsk.isNone && s.f AFE_STATUS_DIAG != 1 &&
    !s.eng.afe.owHold && s.sh != 7

def balSlotStop : Prog :=
  whenS (fun s => s.eng.bal.slot.isSome && s.f BAL_SH_STATUS_OWNER != 2) (.seq (set BAL_SH_I_I 0) deselect)

/-- A slot has run for `us` microseconds (R283): it ends at its length, or early. -/
def balSlotEnd (us : Nat) : Prog := whenS (fun s => s.eng.bal.slotLen ≤ us || s.slotEarly) balSlotStop

/-- The slot in progress reaches its end in model time. -/
def slotLook : Prog := whenS (fun s => s.eng.bal.slot.any fun x => x.2 ≤ s.now) balSlotStop

/-- A tick of the policy in AUTO (R279, R283): it also refreshes the policy lease. -/
def policyTick : Prog :=
  whenS (fun s => s.isWrk && s.f BAL_POLICY_MODE == 1)
    (blk [leaseFresh, set (balFlag 5) 0, whenS State.balPermitted (.dyn fun s =>
      let lo := (s.balXs.map Prod.snd).foldl min (s.balX 0)
      let need := s.balXs.foldl (fun m x =>
        if s.balStart? ≤ x.2 - lo then withBit m x.1 true
        else if x.2 - lo ≤ s.balStop? then withBit m x.1 false else m) s.eng.bal.need
      let meth := s.f BAL_POLICY_METHOD
      blk [setB (balFlag 6) (s.b BAL_POLICY_BASIS && !s.socBasis), balEng fun e => { e with need := need },
        bleedMask (if meth == 1 then 0 else s.policyMask need),
        whenS State.slotEarly balSlotStop,
        .dyn fun t => whenB (meth != 0 && t.shFree && t.eng.bal.slot.isNone)
          (match s.policyPick with
          | some c => slotBegin c (s.f BAL_POLICY_SLOT_T * 1000000)
          | none => .skip)])])

/-! ### Lending (R284, R285) -/

/-- The impedance engine is served with channel `c` (R285). -/
def lend (c : Nat) : Prog := .dyn fun s =>
  let conn := s.f BAL_SH_STATUS_CELL
  match s.eng.bal.slot with
  | some (ch, ends) =>
    if ch == c && conn == c && (s.sh == 5 || s.sh == 6) then
      blk [balEng fun e => { e with slot := none, yielded := some (ch, ends - s.now), eisAsk := none, heldMask := s.f BAL_BLEED_ON_MASK },
        set BAL_SH_STATUS_OWNER 2, balEvent 5, incSat BAL_CNT_YIELDS]
    else
      blk [balEng fun e => { e with slot := none, yielded := some (ch, ends - s.now), eisAsk := none, forEis := true },
        balEvent 5, incSat BAL_CNT_YIELDS, balTarget c]
  | none => blk [balEng fun e => { e with eisAsk := none, forEis := true, yielded := none }, balTarget c]

/-- The impedance engine requests channel `c`: it waits in MANUAL and during an open-wire test (R284). -/
def shuttleRequest (c : Nat) : Prog := .dyn fun s =>
  if s.f BAL_POLICY_MODE == 2 || s.f AFE_STATUS_DIAG == 1 || s.eng.afe.owHold then balEng fun e => { e with eisAsk := some c }
  else if s.sh == 7 || s.b (balFlag 7) then .skip
  else lend c

/-- The impedance engine releases the shuttle (R285). -/
def shuttleRelease : Prog := .dyn fun s =>
  whenB (s.f BAL_SH_STATUS_OWNER == 2 || s.eng.bal.forEis)
    (blk [balEng fun e => { e with forEis := false, yielded := none }, set BAL_SH_STATUS_OWNER 1,
      match s.eng.bal.yielded with
      | some (c, rem) =>
        if s.f BAL_POLICY_MODE == 1 && s.balPermitted && s.f AFE_STATUS_DIAG != 1 && s.balStop? * s.cells < (s.offMean c).natAbs then
          .seq (slotBegin c rem)
            (.dyn fun t => if (t.sh == 5 || t.sh == 6) && t.f BAL_SH_STATUS_CELL == c then balEvent 6 else balEng fun e => { e with resuming := true })
        else .seq (set BAL_SH_I_I 0) deselect
      | none => .seq (set BAL_SH_I_I 0) deselect])

/-- An open-wire test asks for the shuttle (R284): a balancing owner deselects at once. -/
def balForOw : Prog :=
  whenS (fun s => s.f AFE_STATUS_DIAG == 1 && s.f BAL_SH_STATUS_OWNER != 2 && !s.eng.bal.forEis && s.sh != 7) deselect

/-- A commit changed MODE (R282): every output goes off, the bleeds held for the impedance engine with the others. -/
def balModeChange : Prog := blk [leaseFresh, set BAL_BLEED_MASK 0, set BAL_SH_I_I 0, set (balFlag 5) 0, balEng fun e => { e with heldMask := 0 },
  outputsOff,
  .dyn fun s => match s.eng.bal.eisAsk with
    | some c => whenB (s.f BAL_POLICY_MODE != 2 && s.f AFE_STATUS_DIAG != 1 && !s.eng.afe.owHold && s.sh != 7) (lend c)
    | none => .skip]

/-- Readback at core release (R288). -/
def balRelease (rb : Nat) : Prog :=
  whenS State.isWrk (.seq (set BAL_NODE_RB_MAP rb) (whenB (rb != 0) (blk [shLock rb, balEvent 3, balMsg 0 (lowBit rb)])))

/-- Bleed time and shuttle charge over one microsecond (R290). -/
def balUs : Prog := .dyn fun s =>
  let on := s.f BAL_BLEED_ON_MASK
  let c := s.f BAL_SH_STATUS_CELL
  let i := s.i BAL_SH_STATUS_I
  whenB (on != 0 || (c ≤ 23 && i != 0))
    (blk [balEng fun e => { e with
        onUs := (List.range 24).map fun k => e.onUs.getD k 0 + b2n (bitOf on k)
        q := (List.range 24).map fun k => e.q.getD k 0 + (if k == c then i else 0) },
      .dyn fun t => forEach (List.range 24) fun k =>
        blk [whenB (1000000 ≤ t.eng.bal.onUs.getD k 0)
            (.seq (incSat (BAL_BLEED_T_SEC k)) (balEng fun e => { e with onUs := e.onUs.set k (e.onUs.getD k 0 - 1000000) })),
          whenB (k == c) (setI (BAL_SH_Q_C k) (clampInt (-2 ^ 31) (2 ^ 31 - 1) ((t.eng.bal.q.getD k 0).tdiv 100000000)))]])

/-! ### Configuration (R290) -/

/-- A STOP at or above START is stored as START − 1. -/
def balThrOf (w : Word) : Nat :=
  let st := BAL_THR_START.of w
  let sp := BAL_THR_STOP.of w
  st * 65536 + (if st ≤ sp then st - 1 else sp)

end Sys2Proof.Machine
end

