-- ==== Sys2Proof/Machine/Demod.lean ====
section
/-!
DEFINITION. Demodulation in the impedance engine (14_impedance_engine.md, R294, R298-R300): missing samples, trend and phasor of a window
of one channel's samples, in the fixed point of Fixed.lean.
-/
namespace Sys2Proof.Machine

/-- T_w in frames (R293). -/
def windowLen (full : Bool) : Nat := if full then 20000000 else 400000

/-- Channel `ch` over the `n` epochs from `e` on, from the frames kept, oldest first: none where a sample is missing (R294). -/
def seriesGo (ch n e : Nat) : List Frame → List (Option Int)
  | [] => List.replicate n none
  | f :: l =>
    if f.epoch < e then seriesGo ch n e l
    else if e + n ≤ f.epoch then List.replicate n none
    else List.replicate (f.epoch - e) none ++ frameVal f ch :: seriesGo ch (n - (f.epoch - e) - 1) (f.epoch + 1) l

/-- The `k` samples missing before the valid `v`, the one before them being `p` (R294). -/
def gapFill (p : Option Int) (k : Nat) (v : Int) : List Int :=
  (List.range k).map fun j => match p with
    | some a => a + (v - a) * (j + 1 : Nat) / (k + 1 : Nat)
    | none => v

/-- Every missing sample replaced by linear interpolation, or at an edge by the nearest valid one (R294): `p` is the valid sample last met,
and `k` are missing since. -/
def fillGo (p : Option Int) (k : Nat) : List (Option Int) → List Int
  | [] => List.replicate k (p.getD 0)
  | some v :: l => gapFill p k (v * fxOne) ++ v * fxOne :: fillGo (some (v * fxOne)) 0 l
  | none :: l => fillGo p (k + 1) l

def missing (l : List (Option Int)) : Nat := (l.filter Option.isNone).length

/-- The missing fraction of a window in 0.01% (R294, R312). -/
def missOf (l : List (Option Int)) : Nat := 10000 * missing l / l.length

/-- More than 1 / `n` of a window is missing (R294). -/
def missOver (n : Nat) (l : List (Option Int)) : Bool := l.length < n * missing l

/-- A window without its trend: the least-squares straight line subtracted (R294). -/
def detrend (x : List Int) : List Int :=
  let n : Int := x.length
  let sx := x.foldl (· + ·) 0
  let sk := (x.zipIdx.foldl (fun a y => a + y.1 * (y.2 : Int)) 0)
  let b := (12 * sk - 6 * (n - 1) * sx) * fxOne / (n * (n * n - 1))
  let a := sx / n - b * (n - 1) / (2 * fxOne)
  x.zipIdx.map fun y => y.1 - a - b * (y.2 : Int) / fxOne

/-- x′ of a window (R294). -/
def windowOf (l : List (Option Int)) : List Int := detrend (fillGo none 0 l)

/-- The sum of x′ times the phasor `z`, which `w` turns from frame to frame. -/
def phasorGo (w : Int × Int) : List Int → Int × Int → Int × Int → Int × Int
  | [], _, a => a
  | x :: l, z, a => phasorGo w l (fxMul z.1 w.1 - fxMul z.2 w.2, fxMul z.1 w.2 + fxMul z.2 w.1) (a.1 + fxMul x z.1, a.2 + fxMul x z.2)

/-- X at bin `b` of a window, that is at the frequency b / T_w (R294), in 2⁻³² of the samples' unit. -/
def binOf (x : List Int) (b : Nat) : Phasor :=
  let r := phasorGo (fxCis (fxTurn (-(b : Int)) x.length)) x (fxOne, 0) (0, 0)
  let f (v : Int) : Int := rndDiv (2 * v) (x.length * 2 ^ 48)
  ⟨f r.1, f r.2⟩

def mag2 (x : Phasor) : Nat := x.re.natAbs ^ 2 + x.im.natAbs ^ 2

/-- The bin of a grid point (R292, R293). -/
def gridBin (full : Bool) (k : Nat) : Nat := if full then k else k / 50

/-- The nearest bins below and above `b` that carry none of the tones `ts` (R298). -/
def quietBins (ts : List Nat) (b : Nat) : Nat × Nat :=
  let free (x : Nat) : Bool := !ts.contains x
  (((List.range 64).map (b - 1 - ·)).find? free |>.getD 0, ((List.range 64).map (b + 1 + ·)).find? free |>.getD 0)

/-- Twice the mean square of V at the bins beside `b` (R298). -/
def noiseOf (x : List Int) (ts : List Nat) (b : Nat) : Nat :=
  let q := quietBins ts b
  mag2 (binOf x q.1) + mag2 (binOf x q.2)

/-- SNR in 0.01 dB (R298), from |V|² and twice the mean square of the noise; saturated to the field. -/
def snrOf (v2 n2 : Nat) : Nat :=
  if v2 == 0 then 0 else if n2 == 0 then 0xFFFF
  else min 0xFFFF (rndDiv (1000 * fxLn (2 * v2) n2) (fxLn 10 1).toNat).toNat

/-- One more window: V(f) × conj(I(f)) and |I(f)|². -/
def Cross.add (o : Cross) (v i : Phasor) (noise : Nat) : Cross :=
  { n := o.n + 1, re := o.re + (v.re * i.re + v.im * i.im), im := o.im + (v.im * i.re - v.re * i.im)
    ii := o.ii + mag2 i, vv := o.vv + mag2 v, nn := o.nn + noise }

/-- Z = S_VI / S_II in 0.1 µΩ, with V in cell codes and I in units of `ma` mA / `den`, both parts in 2⁻³² (R242, R300). -/
def Cross.z (o : Cross) (ma den : Nat) : Phasor :=
  let f (v : Int) : Int := rndDiv (v * (1562500 * den : Nat)) (o.ii * ma)
  ⟨f o.re, f o.im⟩

end Sys2Proof.Machine
end

