-- ==== Sys2Proof/Machine/Eis.lean ====
section
/-!
DEFINITION. Impedance engine (14_impedance_engine.md, R291-R312).
-/
namespace Sys2Proof.Machine

def eisEng (g : EisEng → EisEng) : Prog := eng fun e => { e with eis := g e.eis }

def eisEvent (k : Nat) : Prog := event (EIS_EVT_RAW_EVENTS.bit k)

/-- EIS_STATUS.STATE: 0 IDLE, 1 WAIT, 2 SELECT, 3 SETTLE, 4 MEASURE, 5 RELEASE, 6 PAUSED (R312). -/
def State.eisState (s : State) : Nat := s.f EIS_STATUS_STATE

def eisEnter (st : Nat) : Prog := set EIS_STATUS_STATE st

/-- Slots run only in RUN and FACTORY (R305). -/
def State.eisMode (s : State) : Bool := s.mode == 4 || s.mode == 7

/-- Frames run at 1 MHz (R246, R305): in FACTORY where the test sets that period. -/
def State.megaRate (s : State) : Bool := s.fullRate || (s.mode == 7 && Config.testPeriod == 1)

/-- The model time from which a scheduled slot may follow the last one (R304): GAP in 10 ms. -/
def State.slotFrom (s : State) : Nat := s.eng.eis.freeAt + s.f EIS_CFG_GAP * 10000

def State.masked (s : State) (i : Nat) : Bool :=
  if i < 32 then bitOf (s.f EIS_MASK_LO_MASK) i else bitOf (s.f EIS_MASK_HI_MASK) (i - 32)

def State.spectrum (s : State) (c kind : Nat) : Option Spectrum :=
  (s.eng.eis.spectra.find? fun x => x.1 == 3 * c + kind).map Prod.snd

/-- The latest VALID point `i` of a spectrum. -/
def Spectrum.valid (x : Spectrum) (i : Nat) : Option (Int × Int) :=
  match x.pts.find? fun p => p.1 == i with
  | some (_, re, im, q) => if bitOf q 29 then some (re, im) else none
  | none => none

/-! ### Slots (R301-R305) -/

/-- The next scheduled slot, kind and cell (R304): with METHOD RIPPLE no FAST slot runs (R300). -/
def State.eisNext (s : State) : Option (Nat × Nat) :=
  let e := s.eng.eis
  let rip := s.f EIS_CFG_METHOD == 1
  let fast := if rip then none else some (0, e.fast)
  if !e.on then none
  else match s.f EIS_CFG_PROFILE with
    | 1 => fast
    | 2 => some (1, e.full)
    | 3 => if e.fullDue || rip then some (1, e.full) else fast
    | _ => none

/-- The single slot asked for (R304), where it can run: with METHOD RIPPLE no FAST slot does (R300), and the request stays. (DESIGN CHOICE,
log entry 136) -/
def State.oneNext (s : State) : Option (Nat × Nat) := s.eng.eis.one.filter fun x => !(x.1 == 0 && s.f EIS_CFG_METHOD == 1)

/-- A slot falls due while Woad runs (R302, R310): the shuttle will be requested for it.  A single one goes before the scheduled ones, which
stand GAP apart (R304). (DESIGN CHOICE, log entry 136) -/
def eisSlotDue : Prog :=
  whenS (fun s => s.isWrk && s.eisState == 0 && s.eisMode && s.eng.boot.cores.getD 1 false) (.dyn fun s =>
    let go (kind c : Nat) (sched : Bool) : Prog :=
      blk [eisEng fun e => { e with slot := some { kind := kind, cell := c, sched := sched } },
        set EIS_STATUS_CELL c, set EIS_STATUS_KIND kind, eisEnter 1]
    match s.oneNext with
    | some (kind, c) => .seq (eisEng fun e => { e with one := none }) (go kind c false)
    | none => whenB (s.slotFrom ≤ s.now) (match s.eisNext with | some (kind, c) => go kind c true | none => .skip))

def updSlot (g : EisSlot → EisSlot) : Prog := eisEng fun e => { e with slot := e.slot.map g }

/-- The slot ends with `fin` (R302, R303). -/
def eisFin (fin : Nat) : Prog := .seq (updSlot fun x => { x with fin := some fin }) (eisEnter 5)

/-- An abort cause (R303): in SELECT, SETTLE or MEASURE (R302). -/
def eisAbort (fin : Nat) : Prog := whenS (fun s => 2 ≤ s.eisState && s.eisState ≤ 4) (eisFin fin)

/-- STOP in WAIT (R303, R304): the slot that waits is given up, and its request withdrawn. (DESIGN CHOICE, log entry 136) -/
def eisWithdraw : Prog :=
  whenS (fun s => s.eisState == 1)
    (blk [eisEng fun e => { e with slot := none }, balEng fun e => { e with eisAsk := none }, set EIS_STATUS_CELL 31, eisEnter 0])

/-- The points of a slot, by the staged values in force (R293). -/
def State.slotPts (s : State) (kind : Nat) : List Nat := (List.range 48).filter fun i => s.masked i && (kind == 1 || 20 ≤ i)

/-- The points of a slot that the multisine excites (R296, R299). -/
def State.tones (s : State) (kind c : Nat) : List Nat :=
  let fresh (i : Nat) : Bool := match s.spectrum c 2 with
    | some x => (x.valid i).isSome && !later s.epoch (x.epoch + 2 * s.f EIS_QUAL_RIP_AVG * 400000)
    | none => false
  if kind == 0 && s.f EIS_CFG_METHOD == 2 then (s.slotPts kind).filter fun i => !fresh i else s.slotPts kind

/-- Bias of a slot in 10 mA (R297). -/
def State.eisBias (s : State) (c : Nat) : Int :=
  if s.b EIS_EXC_BIAS_EN then s.i EIS_EXC_BIAS
  else if s.eng.bal.yielded.any fun y => y.1 == c then s.i BAL_SH_I_I else 0

/-- The epoch at which the first window of a slot that starts now will begin (R301). -/
def State.slotE0 (s : State) (kind : Nat) : Nat :=
  let w := if kind == 1 then s.f EIS_SLOT_L_W else s.f EIS_SLOT_F_W
  s.epoch + 1000 * (if kind == 1 then s.f EIS_SLOT_L_SLOT else s.f EIS_SLOT_F_SLOT) - 1000 - w * windowLen (kind == 1)

/-- The plan of R296: the scale factor, or NO_HEADROOM; the staged values in force now serve the whole slot (R301). -/
def eisPlan (c kind : Nat) : Prog := .dyn fun s =>
  let pk := planPeak kind (s.tones kind c) (s.f EIS_EXC_RMS * 10)
  let bias := s.eisBias c
  let h : Rat := ((s.shIlim * 10 - bias.natAbs * 10 : Nat) : Rat)
  blk [shSetI bias, set EIS_SCALE_S (if pk ≤ h then 32768 else rndNat (h / pk * 32768)),
    updSlot fun x => { x with
      throttled := s.throttled
      tones := s.tones kind c
      rms := s.f EIS_EXC_RMS * 10
      scale := if pk ≤ h then 1 else h / pk
      e0 := s.slotE0 kind
      pts := s.slotPts kind
      wn := s.f (if kind == 1 then EIS_SLOT_L_W else EIS_SLOT_F_W)
      snrMin := s.f EIS_QUAL_SNR_MIN
      vresp := s.f EIS_EXC_VRESP_MAX },
    whenB (h < pk) (.seq (updSlot fun x => { x with scaled := true }) (eisEvent 3)),
    if h < pk && 16 * h < pk then eisFin 4 else eisEnter 2]

/-- Ownership passes to the engine (R284, R285, R301): the request is served, then the plan made, in the modes in which slots run (R305). -/
def eisOwn : Prog :=
  whenS (fun s => s.eisState == 1 && s.eisMode) (.dyn fun s => match s.eng.eis.slot with
    | none => .skip
    | some x =>
      if s.f BAL_SH_STATUS_OWNER == 2 || s.eng.bal.forEis then eisPlan x.cell x.kind
      else .seq (shuttleRequest x.cell)
        (whenS (fun t => t.f BAL_SH_STATUS_OWNER == 2 || t.eng.bal.forEis) (eisPlan x.cell x.kind)))

/-- t0 + 1 ms (R302). -/
def eisExcite : Prog :=
  whenS (fun s => s.eisState == 2)
    (.dyn fun s => if s.f BAL_SH_STATUS_OWNER == 2 && s.f BAL_SH_STATUS_CELL ≤ 23 then eisEnter 3 else eisFin 7)

def eisWindowStart : Prog :=
  whenS (fun s => s.eisState == 3) (.dyn fun s => .seq (updSlot fun x => { x with e0 := s.epoch }) (eisEnter 4))

/-- A published frame is kept while a window that needs it is open or awaits its packet (R294, R299, R300).  CLIP records that the clamp of R272
acted at a frame of a window (R298). (DEDUCED, log entry 119) -/
def eisFrame (f : Frame) : Prog := .dyn fun s =>
  let rip := s.megaRate && (s.isMgr || s.f EIS_CFG_METHOD == 1 || s.f EIS_CFG_METHOD == 2)
  if s.eisState == 4 then
    .seq (eisEng fun e => { e with hist := f :: e.hist })
      (updSlot fun x => { x with clip := x.clip || (!later x.e0 f.epoch && s.shClamps f.epoch) })
  else if rip then eisEng fun e => { e with hist := f :: (if f.epoch % 400000 == 0 then e.hist.filter fun y => !later f.epoch (y.epoch + 400000) else e.hist) }
  else whenB (s.eng.eis.hist != []) (eisEng fun e => { e with hist := [] })

/-- The windows of a slot (R294, R301): for each, the cell's samples and the shuttle's current with the same samples missing, in µA. -/
def State.slotWindows (s : State) (x : EisSlot) (cur : List Int) : List (List (Option Int) × List (Option Int)) :=
  let n := windowLen (x.kind == 1)
  (List.range x.wn).map fun j =>
    let v := seriesGo x.cell n (x.e0 + j * n) s.eng.eis.hist.reverse
    (v, List.zipWith (fun a i => a.map fun _ => i) v (cur.drop (j * n)))

/-- The points of a slot from x′ of its windows, voltage and current: grid point, Z in 0.1 µΩ, SNR (R294-R298). -/
def slotZs (x : EisSlot) (l : List (List Int × List Int)) : List (Nat × Int × Int × Nat) :=
  let bin (i : Nat) : Nat := gridBin (x.kind == 1) (gridK i)
  let ts := x.tones.map bin
  x.tones.filterMap fun i =>
    let c := l.foldl (fun (o : Cross) w => o.add (binOf w.1 (bin i)) (binOf w.2 (bin i)) (noiseOf w.1 ts (bin i))) {}
    if c.ii == 0 then none else some (i, (c.z 1 1000).re, (c.z 1 1000).im, snrOf c.vv c.nn)

/-- The last window ends (R294, R302): `cur` is the shuttle's current at each frame of the windows, in µA. (DEDUCED, log entry 119) -/
def eisMeasureEnd (cur : List Int) : Prog :=
  whenS (fun s => s.eisState == 4) (.dyn fun s => match s.eng.eis.slot with
    | none => .skip
    | some x =>
      let ws := s.slotWindows x cur
      let lost := ws.any fun w => missOver 10 w.1
      let ys := if lost then [] else ws.map fun w => (windowOf w.1, windowOf w.2)
      .seq (updSlot fun x => { x with
          miss := (ws.map fun w => missOf w.1).foldl max 0
          gaps := ws.any fun w => missOver 1000 w.1
          nonlin := ys.any fun y => y.1.any fun v => (x.vresp * 100000 : Nat) * fxOne < ((v * 15625).natAbs : Int)
          throttled := x.throttled || s.throttled
          zs := slotZs x ys
          tag := x.e0 + x.wn * windowLen (x.kind == 1) - 1 })
        (eisFin (if lost then 5 else 0)))

/-- Throttling starts while a slot runs (R297). -/
def eisThrottle : Prog := .dyn fun s => whenB s.throttled (updSlot fun x => { x with throttled := true })

/-- The schedule after a slot that ends with `fin` (R303, R304). -/
def eisAdvance (x : EisSlot) (fin : Nat) : Prog := .dyn fun s =>
  let n := s.cells
  if !x.sched || fin == 1 || fin == 3 || fin == 6 then .skip
  else if x.kind == 0 then
    let last := n ≤ x.cell + 1
    .seq (eisEng fun e => { e with fast := if last then 0 else x.cell + 1, fullDue := last && s.f EIS_CFG_PROFILE == 3 })
      (whenB last (eisEvent 2))
  else
    let last := n ≤ x.cell + 1
    .seq (eisEng fun e => { e with full := if last then 0 else x.cell + 1, fullDue := false }) (whenB last (eisEvent 2))

/-- The current is at 0 and the slot over or aborted (R302): the shuttle is released. -/
def eisRelease : Prog :=
  whenS (fun s => s.eisState == 5) (.dyn fun s => match s.eng.eis.slot with
    | none => eisEnter 0
    | some x =>
      blk [shuttleRelease, eisEng fun e => { e with slot := none, done := some x, freeAt := s.now }, set EIS_STATUS_CELL 31,
        eisAdvance x (x.fin.getD 0), eisEnter (if (s.eng.eis.on || s.eng.eis.one.isSome) && !s.eisMode then 6 else 0)])

/-- The mode has changed (R303, R305): without frames at 1 MHz no ripple window runs, and none is live (R312). -/
def eisModeChange : Prog := .dyn fun s =>
  .seq (whenB (!s.megaRate) (set EIS_STATUS_RIP_LIVE 0))
    (if s.eisMode then whenB (s.eisState == 6) (eisEnter 0)
    else .seq (eisAbort 3) (whenS (fun t => t.eisState == 0 && (t.eng.eis.on || t.eng.eis.one.isSome)) (eisEnter 6)))

/-! ### Spectra and derived values (R298, R306-R308) -/

/-- Quality word of a point (R298, R312): SNR_MIN in dB, SNR in 0.01 dB. -/
def qualityOf (snrMin src snr : Nat) (clip nonlin few : Bool) : Nat :=
  let low := snr < 100 * snrMin
  src * 2 ^ 30 + b2n (!low && !clip && !nonlin && !few) * 2 ^ 29 + b2n low * 2 ^ 28 + b2n clip * 2 ^ 27 +
    b2n nonlin * 2 ^ 26 + min snr 0xFFFF

/-- The view's registers take the viewed spectrum (R308). -/
def viewWrite (c kind : Nat) (o : Option Spectrum) : Prog :=
  blk [setB EIS_V_STATUS_VALID o.isSome, set EIS_V_STATUS_KIND kind, set EIS_V_STATUS_CELL c,
    set EIS_V_STATUS_END ((o.map Spectrum.fin).getD 0), set EIS_V_STATUS_FLAGS ((o.map Spectrum.flags).getD 0),
    set EIS_V_STATUS_MISS (min 4095 ((o.map Spectrum.miss).getD 0)),
    forEach (List.range 48) fun i =>
      match (o.bind fun x => x.pts.find? fun p => p.1 == i) with
      | some (_, re, im, q) => blk [setI (EIS_ZRE_Z i) re, setI (⟨EIS_ZIM i, 0, 32⟩) im, setReg (EIS_ZQ i) q]
      | none => blk [setReg (EIS_ZRE i) 0, setReg (EIS_ZIM i) 0, setReg (EIS_ZQ i) 0]]

/-- The view is looked at again: at a storing of the viewed spectrum and at a write of EIS_VIEW. -/
def viewUpdate : Prog := .dyn fun s =>
  let o := s.spectrum (s.f EIS_VIEW_CELL) (s.f EIS_VIEW_KIND)
  newResult pgEIS ((o.map Spectrum.epoch).getD 0) (viewWrite (s.f EIS_VIEW_CELL) (s.f EIS_VIEW_KIND) o)

def storeSpectrum (c kind : Nat) (x : Spectrum) : Prog :=
  .seq (eisEng fun e => { e with spectra := (3 * c + kind, x) :: e.spectra.filter fun y => y.1 != 3 * c + kind })
    (whenS (fun s => s.f EIS_VIEW_CELL == c && s.f EIS_VIEW_KIND == kind) viewUpdate)

/-- RS, and whether a crossing was found (R306). -/
def Spectrum.rs (x : Spectrum) : Option (Int × Bool) :=
  let pair := (List.range 47).reverse.findSome? fun i =>
    match x.valid (i + 1), x.valid i with
    | some (r1, i1), some (r0, i0) =>
      if 0 ≤ i1 && i0 < 0 then some (rndDiv (r1 * (i1 - i0) + i1 * (r0 - r1)) (i1 - i0).toNat) else none
    | _, _ => none
  match pair with
  | some r => some (r, true)
  | none => ((List.range 48).reverse.findSome? fun i => x.valid i).map fun p => (p.1, false)

/-- The point of largest −Im(Z), with VALID neighbours on both sides and −Im(Z) > 0 (R306). -/
def Spectrum.peak (x : Spectrum) : Option (Nat × Int) :=
  let best := (List.range 48).foldl (fun (b : Option (Nat × Int × Int)) i => match x.valid i with
    | some (re, im) => (match b with
      | some (_, _, m) => if m < -im then some (i, re, -im) else b
      | none => some (i, re, -im))
    | none => b) none
  match best with
  | some (i, re, m) =>
    if 0 < m && 1 ≤ i && (x.valid (i - 1)).isSome && (x.valid (i + 1)).isSome then some (i, re) else none
  | none => none

/-- TAU in µs: 1 / (2π f), f = K × 0.05 Hz. -/
def tauUs (i : Nat) : Nat := (rndDiv (3183098861837907 : Int) (gridK i * 1000000000)).toNat

/-- Derived values of cell `c` after spectrum `x`; `full` where it was FULL (R306, R307). (DESIGN CHOICE, log entry 13) -/
def eisDerive (c : Nat) (x : Spectrum) (full : Bool) : Prog := .dyn fun s =>
  let fl (k : Nat) : Fld := (EIS_DSTAT_FLAGS c).bit (k - 27)
  let slope := s.i EIS_TEMP_CFG_SLOPE
  blk [match x.rs with
    | some (r, found) =>
      blk [setI (EIS_RS_Z c) r, set (fl 31) 1, setB (fl 30) (!found),
        match x.peak with
        | some (i, re) => blk [setI (EIS_RCT_Z c) (2 * (re - r)), setReg (EIS_TAU c) (tauUs i), set (fl 29) 1, setB (fl 28) full]
        | none => .skip]
    | none => set (fl 31) 0,
    match x.valid (s.f EIS_TEMP_CFG_TRACK_I) with
    | some (re, im) =>
      if slope != 0 && s.f (EIS_TREF_PHI c) != 0x8000 then
        .seq (setI (EIS_TINT_T c) (s.i (EIS_TREF_T c) * 10 + rndDiv (slope * (phaseOf im re - s.i (EIS_TREF_PHI c))) 100))
          (set (fl 27) 1)
      else set (fl 27) 0
    | none => set (fl 27) 0,
    incWrap (EIS_DSTAT_SEQ c), setEpoch (EIS_DEP_LO_EPOCH c) (EIS_DEP_HI_EPOCH c) x.epoch]

/-- The points of a shuttle slot's spectrum: those that it excited, and from the ripple those that it left out (R298-R300). -/
def State.slotPoints (s : State) (x : EisSlot) : List (Nat × Int × Int × Nat) :=
  let bad := x.fin != some 0
  x.pts.filterMap fun i =>
    if x.tones.contains i then
      (x.zs.find? fun z => z.1 == i).map fun z => (i, z.2.1, z.2.2.1, qualityOf x.snrMin 1 z.2.2.2 x.clip x.nonlin bad)
    else
      (s.spectrum x.cell 2).bind fun r => (r.pts.find? fun p => p.1 == i).map fun p =>
        (i, p.2.1, p.2.2.1, if bad then withBit p.2.2.2 29 false else p.2.2.2)

/-- The spectrum and the derived values are stored (R303, R306); `learn` is what the estimator takes from them. -/
def eisStored (learn : Nat → Prog) : Prog := .dyn fun s =>
  match s.eng.eis.done with
  | none => .skip
  | some x =>
    let fin := x.fin.getD 0
    let sp : Spectrum := ⟨x.tag, fin, b2n x.scaled * 4 + b2n x.throttled * 2 + b2n x.gaps, x.miss, s.slotPoints x⟩
    blk [eisEng fun e => { e with done := none }, storeSpectrum x.cell x.kind sp,
      if fin == 0 then blk [eisDerive x.cell sp (x.kind == 1), incSat EIS_CNT_DONE, eisEvent 0, learn x.cell]
      else .seq (incSat EIS_CNT_ABORTS) (eisEvent 1)]

def eisViewWrite (w : Word) : Prog := .dyn fun s =>
  whenB (!s.isMgr)
    (blk [whenB (EIS_VIEW_KIND.of w < 3) (set EIS_VIEW_KIND (EIS_VIEW_KIND.of w)),
      set EIS_VIEW_CELL (min 23 (EIS_VIEW_CELL.of w)), viewUpdate])

/-! ### Commands (R304, R307, R310) -/

def eisStart : Prog :=
  .seq (eisEng fun e => { e with on := true, fast := 0, full := 0, fullDue := false })
    (whenS (fun s => !s.eisMode && s.eisState == 0) (eisEnter 6))

def eisStop : Prog :=
  blk [eisAbort 6, eisWithdraw, eisEng fun e => { e with on := false, one := none }, whenS (fun s => s.eisState == 6) (eisEnter 0)]

def eisOne (kind c : Nat) : Prog := .dyn fun s =>
  whenB (kind < 2 && c < s.cells)
    (.seq (eisEng fun e => { e with one := some (kind, c) }) (whenB (!s.eisMode && s.eisState == 0) (eisEnter 6)))

/-- The latest FAST or FULL spectrum of a cell: the last stored, whether complete or not. -/
def State.latest (s : State) (c : Nat) : Option Spectrum :=
  (s.eng.eis.spectra.find? fun x => x.1 == 3 * c || x.1 == 3 * c + 1).map Prod.snd

/-- A temperature reference of one cell (R307). -/
def tref1 (c : Nat) : Prog := .dyn fun s =>
  let th := s.f (EIS_TREF_TH c)
  let no := eisEvent 6
  match s.latest c with
  | none => no
  | some x => match x.valid (s.f EIS_TEMP_CFG_TRACK_I) with
    | none => no
    | some (re, im) =>
      if !later s.epoch (x.epoch + 60000000) && s.f (AUX_TEMP_STATE th) == 0 then
        blk [setI (EIS_TREF_PHI c) (phaseOf im re), setI (EIS_TREF_T c) (rndDiv (s.i (AUX_TEMP_T th)) 10), eisEvent 5]
      else no

def eisTref (c : Nat) : Prog := .dyn fun s =>
  if c == 31 then forEach (List.range s.cells) tref1 else if c < s.cells then tref1 c else eisEvent 6

def eisCmd (op kind c : Nat) : Prog :=
  match op with
  | 1 => accepted EIS_CMD 4 eisStart | 2 => eisStop | 3 => accepted EIS_CMD 4 (eisOne kind c)
  | 4 => accepted EIS_CMD 4 (eisTref c) | _ => .skip

/-- A core reset of Woad (R310). -/
def eisWoadReset : Prog := eisAbort 8

/-! ### Ripple (R299, R300) -/

/-- The current phasors, in mA, of the manager's window that began at `e` (R299): AUX1 by its shunt; none where too much is missing. -/
def State.rippleCur (s : State) (e : Nat) : Option (Nat → Phasor) :=
  let l := seriesGo 25 400000 e s.eng.eis.hist.reverse
  if missOver 10 l then none
  else
    let x := windowOf l
    let sg : Int := if s.b EIS_CFG_RIP_INV then -1 else 1
    let f (v : Int) : Int := rndDiv (sg * v * 31250) (s.f AUX_SHUNT_S1 * 2 ^ 32)
    some fun i => ⟨f (binOf x (gridK i / 50)).re, f (binOf x (gridK i / 50)).im⟩

/-- A manager window ends (R299, R308): it is the one before the window of the present epoch. -/
def rippleWindow : Prog :=
  whenS (fun s => s.isMgr && s.megaRate) (.dyn fun s =>
    let e := s.epoch / 400000 * 400000 - 400000
    let o := s.rippleCur e
    let ph (i : Nat) : Phasor := match o with | some f => f i | none => ⟨0, 0⟩
    blk [set EIS_STATUS_RIP_LIVE 1, incSat EIS_CNT_RIP_USED, eisEvent 7,
      newResult pgEIS (e + 399999) (forEach ((List.range 48).filter (20 ≤ ·)) fun i =>
        blk [setI (EIS_ZRE_Z i) (ph i).re, setI (⟨EIS_ZIM i, 0, 32⟩) (ph i).im,
          setB ((EIS_ZQ_FLAGS i).bit 3) (o.isSome && (s.f EIS_QUAL_RIP_MIN) ^ 2 ≤ mag2 (ph i))])])

/-- RIPPLE spectra of every present cell after RIP_AVG windows (R300). -/
def ripStore (tag : Nat) (learn : Nat → Prog) : Prog := .dyn fun s =>
  let n := s.f EIS_QUAL_RIP_AVG
  let pts (c : Nat) : List (Nat × Int × Int × Nat) := ((List.range 48).filter s.masked).filterMap fun i =>
    match s.eng.eis.rip.find? fun x => x.1 == 48 * c + i with
    | some (_, o) =>
      if o.ii == 0 then none
      else some (i, (o.z 1 1).re, (o.z 1 1).im, qualityOf (s.f EIS_QUAL_SNR_MIN) 2 (snrOf o.vv o.nn) false false (2 * o.n < n))
    | none => none
  blk [forEach (List.range s.cells) fun c =>
      let m := countOf s.eng.eis.ripMiss c
      let sp : Spectrum := ⟨tag, 0, b2n (400 < m), 10000 * m / 400000, pts c⟩
      blk [storeSpectrum c 2 sp, whenB (s.f EIS_CFG_METHOD == 1) (.seq (eisDerive c sp false) (learn c))],
    incSat EIS_CNT_DONE, eisEvent 0, eisEng fun e => { e with ripN := 0, rip := [], ripMiss := [] }]

/-- The window from `start` on added for cell `c`, with the packet's currents `cur` at the points of `map` (R300). -/
def State.ripCell (s : State) (start map : Nat) (cur : List Phasor) (l : List (Nat × Cross)) (c : Nat) : List (Nat × Cross) :=
  let v := seriesGo c 400000 start s.eng.eis.hist.reverse
  if missOver 10 v then l
  else
    let x := windowOf v
    let ts := (List.range 28).map fun j => gridK (20 + j) / 50
    ((List.range 28).filter fun j => bitOf map j && s.masked (20 + j)).foldl (fun l j =>
      let k := 48 * c + 20 + j
      let i := cur.getD j ⟨0, 0⟩
      let o := ((l.find? fun y => y.1 == k).map Prod.snd).getD {}
      (k, o.add (binOf x (gridK (20 + j) / 50)) ⟨i.re * 2 ^ 32, i.im * 2 ^ 32⟩ (noiseOf x ts (gridK (20 + j) / 50))) :: l.filter fun y => y.1 != k) l

/-- By cell, the most samples missing in a window of those counted, with the one from `start` on (R294, R300). -/
def State.ripLost (s : State) (start : Nat) (l : List (Nat × Nat)) (c : Nat) : List (Nat × Nat) :=
  setCount l c (max (countOf l c) (missing (seriesGo c 400000 start s.eng.eis.hist.reverse)))

/-- A RIPPLE packet whose window began at `start` (R300): its currents and map.  One that comes more than 100 ms after the window's end does not
count. -/
def rippleRx (start map : Nat) (cur : List Phasor) (learn : Nat → Prog) : Prog :=
  whenS (fun s => s.isWrk && (s.f EIS_CFG_METHOD == 1 || s.f EIS_CFG_METHOD == 2) && s.megaRate && !later s.epoch (start + 500000)) (.dyn fun s =>
    blk [set EIS_STATUS_RIP_LIVE 1, incSat EIS_CNT_RIP_USED,
      eisEng fun e => { e with
        ripN := e.ripN + 1
        rip := (List.range s.cells).foldl (s.ripCell start map cur) e.rip
        ripMiss := (List.range s.cells).foldl (s.ripLost start) e.ripMiss },
      eisEvent 7,
      whenS (fun t => t.f EIS_QUAL_RIP_AVG ≤ t.eng.eis.ripN) (ripStore (start + 399999) learn)])

def rippleMissing : Prog :=
  whenS (fun s => s.isWrk && (s.f EIS_CFG_METHOD == 1 || s.f EIS_CFG_METHOD == 2) && s.megaRate)
    (blk [set EIS_STATUS_RIP_LIVE 0, incSat EIS_CNT_RIP_MISSING, eisEvent 4])

/-! ### Staged values (R312) -/

/-- SLOT and W as stored: a SETTLE below 10 ms gives W × T_w + 12 ms. -/
def slotOf (full : Bool) (w : Word) : Nat :=
  let n := clamp 1 (if full then 3 else 15) (getBits w 0 4)
  let sl := max 412 (getBits w 16 16)
  let need := n * (if full then 20000 else 400) + 12
  max sl need * 65536 + n

end Sys2Proof.Machine
end

