-- ==== Sys2Proof/Machine/Est.lean ====
section
/-!
DEFINITION. State estimation (15_state_estimation.md, R313-R336).  The filter runs on exact rationals; registers show them
rounded to nearest (notes/assumptions).
-/
namespace Sys2Proof.Machine

def estEng (g : EstEng → EstEng) : Prog := eng fun e => { e with est := g e.est }

def estEvent (k : Nat) : Prog := event (EST_EVT_RAW_EVENTS.bit k)

def estFlag (k : Nat) : Fld := EST_STATUS_FLAGS.bit k

/-- A message of the estimator with its first-fault record (R333). -/
def estMsg (kind inst : Nat) : Prog :=
  .seq (firstRec EST_FIRST_VALID [(EST_FIRST_KIND, kind), (EST_FIRST_INST, inst)]) (send pgEST inst kind 0)

def updCell (c : Nat) (g : EstCell → EstCell) : Prog :=
  estEng fun e => { e with cells := (List.range 24).map fun i => if i == c then g (e.cells.getD i {}) else e.cells.getD i {} }

/-- Milliampere-microseconds in a milliampere-hour. -/
def mAh : Rat := 3600000000

/-! ### Charge and currents (R317, R318) -/

/-- Charge accumulated up to epoch `t` at the last currents known (R317). -/
def estAcc (t : Nat) : Prog := estEng fun e =>
  let t0 := e.accT.getD t
  let dt : Rat := (t - t0 : Nat)
  let go (c : Nat) : EstCell :=
    let x := e.cells.getD c {}
    { x with
      chg := x.chg + e.cur.getD c 0 * dt
      total := x.total + e.cur.getD c 0 * dt }
  { e with
    accT := some (max t t0)
    cells := (List.range 24).map go }

/-- Current in mA of channel `ch` of a frame, as R266 reads it; none where the sample carries no measurement. -/
def State.frameCur (s : State) (f : Frame) (ch : Nat) : Option Rat :=
  (frameVal f ch).map fun v =>
    let k : Rat := if ch == 26 && s.b AFE_AUXCFG_AUX2_SE then 937500 else 31250
    (v : Rat) * k / ((if ch == 25 then s.f AUX_SHUNT_S1 else s.f AUX_SHUNT_S2 : Nat) : Rat)

/-- The string current at a frame (R318). -/
def State.stringCur (s : State) (f : Frame) : Rat :=
  let v : Rat := match s.f EST_CFG_ISRC with
    | 0 => if s.b (estFlag 6) then 0 else (s.eng.est.rack : Rat)
    | 1 => (s.frameCur f 26).getD s.eng.est.str
    | _ => (s.frameCur f 25).getD s.eng.est.str
  if s.b EST_CFG_I_INV then -v else v

/-- The current of a bleed switch in mA (R317). -/
def State.bleedCur (s : State) (c : Nat) : Rat :=
  let r := if c == 0 then s.f BAL_PASS_CFG_RB else 2 * s.f BAL_PASS_CFG_RB
  if bitOf (s.f BAL_BLEED_ON_MASK) c then min (s.bleedI : Rat) ((s.cellV4 c : Rat) / ((400 * r : Nat) : Rat)) else 0

/-- A cell's current (R317). -/
def State.cellCur (s : State) (str : Rat) (c : Nat) : Rat :=
  str + (if s.f BAL_SH_STATUS_CELL == c then ((s.i BAL_SH_STATUS_I * 10 : Int) : Rat) else 0) - s.bleedCur c

/-- The string current as a frame's charge counts it: a RACK value is counted by its own epoch when it arrives (R318). -/
def State.frameStr (s : State) (str : Rat) : Rat := if s.f EST_CFG_ISRC == 0 then 0 else str

/-- A published frame (R317): charge up to its strike at the currents known so far; a taken frame gives new currents and
samples. -/
def estFrame (f : Frame) : Prog :=
  whenS (·.isWrk) (blk [estAcc f.epoch, whenB (frameTaken f) (.dyn fun s =>
    let str := s.stringCur f
    let cur := (List.range 24).map fun c => s.cellCur (s.frameStr str) c
    let go (x : EstCell) (c : Nat) : EstCell := match frameVal f c with
      | some v => { x with
        vsum := x.vsum + v
        vcnt := x.vcnt + 1 }
      | none => x
    estEng fun e => { e with
      str := if s.b EST_CFG_I_INV then -str else str
      cur := cur
      cells := (List.range 24).map fun c => go (e.cells.getD c {}) c })])

/-- String charge in mA·µs added to every cell, as I_INV has it (R317, R318). -/
def estString (q : Rat) : Prog := .dyn fun s =>
  let d := if s.b EST_CFG_I_INV then -q else q
  whenB (s.f EST_CFG_ISRC == 0) (estEng fun e => { e with cells := e.cells.map fun x => { x with
    chg := x.chg + d
    total := x.total + d } })

/-- RACK_I for the millisecond from epoch `e` on (R318, R354): its charge is counted over that millisecond, and any gap since the last value at
that one, unless the current was lost. (DEDUCED, log entry 120) -/
def estRackI (e : Nat) (ma : Int) : Prog := .dyn fun s =>
  let t0 := s.eng.est.rackTo.getD e
  let gap : Rat := if s.b (estFlag 6) then 0 else ((s.eng.est.rack * (e - t0 : Nat) : Int) : Rat)
  blk [whenB (t0 ≤ e) (.seq (estString (gap + ((ma * 1000 : Int) : Rat))) (estEng fun x => { x with rackTo := some (e + 1000) })),
    estEng fun x => { x with rack := ma, rackAt := s.now }, set (estFlag 6) 0]

/-- `ms` milliseconds without one (R318): from 1 s on the string current counts as 0, and learning between rest points is spoilt (R321). -/
def estCurLost (ms : Nat) : Prog :=
  whenS (fun s => s.isWrk && s.f EST_CFG_ISRC == 0 && !s.b (estFlag 6) && 1000 ≤ ms)
    (blk [.dyn fun s => match s.eng.est.rackTo with
        | some t => .seq (estString ((s.eng.est.rack * (s.epoch - t : Nat) : Int) : Rat)) (estEng fun e => { e with rackTo := some (max t s.epoch) })
        | none => .skip,
      set (estFlag 6) 1, estEvent 8, estMsg 1 0,
      estEng fun e => { e with cells := e.cells.map fun x => { x with broken := true } }])

/-- The end of a millisecond: the last RACK value's age, wherever cores run. -/
def estLook : Prog := whenS (fun s => s.released && 2 ≤ s.mode) (.dyn fun s => estCurLost ((s.now - s.eng.est.rackAt) / 1000))

/-- At core release the wait for a RACK value begins. -/
def estStart : Prog := .dyn fun s => estEng fun e => { e with rackAt := s.now }

/-! ### The cell model (R313-R315) -/

/-- Model temperature of a cell: source and value in 0.01 °C (R314). -/
def State.estTemp (s : State) (c : Nat) : Nat × Rat :=
  let ok (t : Nat) : Bool := s.f (AUX_TEMP_STATE t) == 0
  let oks := (List.range 16).filter ok
  let dep := s.f (EIS_DEP_LO_EPOCH c) + 2 ^ 32 * s.f (EIS_DEP_HI_EPOCH c)
  let th := s.f (EST_THMAP_TH (c / 8) (c % 8))
  if bitOf (s.f (EIS_DSTAT_FLAGS c)) 0 && !later s.epoch (dep + 60000000) then (0, s.i (EIS_TINT_T c))
  else if ok th then (1, s.i (AUX_TEMP_T th))
  else if oks != [] then (2, ((oks.map fun t => s.i (AUX_TEMP_T t)).foldl (· + ·) 0 : Int) / ((oks.length : Nat) : Rat))
  else (3, 2500)

/-- A resistance at `t`, in 0.01 °C, over its value at 25 °C (R313). -/
def State.resFactor (s : State) (t : Rat) : Rat :=
  expOf ((s.f EST_MODEL_RTK : Nat) * (1 / (t / 100 + 27315 / 100) - 100 / 29815))

/-- OCV at knot `k` and temperature `t` in 0.01 °C, in mV: linear between 0, 25 and 45 °C, clamped beyond (R315). -/
def State.ocvAt (s : State) (t : Rat) (k : Nat) : Rat :=
  let v (i : Nat) : Rat := ((s.f (EST_OCV_MV i k) : Nat) : Rat)
  if t ≤ 0 then v 0 else if t < 2500 then v 0 + (v 1 - v 0) * t / 2500
  else if t < 4500 then v 1 + (v 2 - v 1) * (t - 2500) / 2000 else v 2

/-- The segment in which `z` lies. -/
def ocvSeg (z : Rat) : Nat := min 19 (z * 20).floor.toNat

/-- OCV(z, T) in mV (R315). -/
def State.ocv (s : State) (z t : Rat) : Rat :=
  let k := ocvSeg z
  s.ocvAt t k + (s.ocvAt t (k + 1) - s.ocvAt t k) * (z * 20 - ((k : Nat) : Rat))

/-- Its slope in mV per unit, at least 5 (R315). -/
def State.ocvSlope (s : State) (z t : Rat) : Rat := max 5 (20 * (s.ocvAt t (ocvSeg z + 1) - s.ocvAt t (ocvSeg z)))

/-- The inverse: the lowest z that gives `v`, within 0 and 1 (R315). -/
def State.ocvInv (s : State) (v t : Rat) : Rat :=
  if v ≤ s.ocvAt t 0 then 0
  else match (List.range 20).find? fun k => v ≤ s.ocvAt t (k + 1) with
    | some k => (((k : Nat) : Rat) + (v - s.ocvAt t k) / (s.ocvAt t (k + 1) - s.ocvAt t k)) / 20
    | none => 1

/-! ### The filter (R319) -/

def ratClamp (lo hi x : Rat) : Rat := if x < lo then lo else if hi < x then hi else x

def ratAbs (x : Rat) : Rat := if x < 0 then -x else x

/-- What one update sees of a cell: its charge, length in µs, mean voltage, temperature, and whether the current is lost. -/
structure EstIn where
  da : Rat
  dt : Nat
  v : Option Rat
  t : Rat
  lost : Bool

def EstIn.mean (i : EstIn) : Rat := i.da / ((i.dt : Nat) : Rat)

/-- The fresh values of R325. -/
def State.estFresh (s : State) (i : EstIn) (v : Rat) (x : EstCell) : EstCell :=
  let rn : Rat := ((10 * s.f EST_NOM_R_RSER_NOM : Nat) : Rat)
  let z := s.ocvInv (v - rn * i.mean / 10000000) i.t
  { x with
    known := true
    z := z
    soc := z
    v1 := 0
    h := 0
    q := ((s.f EST_QNOM_QNOM : Nat) : Rat)
    rser := rn
    rpol := ((10 * s.f EST_NOM_R_RPOL_NOM : Nat) : Rat)
    tpol := ((10000 * s.f EST_QNOM_TPOL_NOM : Nat) : Rat)
    p := [1 / 100, 0, 0, 0, 1, 0, 0, 0, 1]
    innov := 0 }

/-- The prediction of R319. -/
def State.estPredict (s : State) (i : EstIn) (x : EstCell) : EstCell :=
  let eta : Rat := if 0 < i.da then 1 - ((s.f EST_CFG_ETA : Nat) : Rat) / 10000 else 1
  let a := expOf (-(((i.dt : Nat) : Rat) / x.tpol))
  let b : Rat := 1 - min 1 (ratAbs i.da / mAh / (x.q * ((s.f EST_MODEL_HW : Nat) : Rat) / 1000))
  let sg : Rat := if 0 < i.da then 1 else if i.da < 0 then -1 else 0
  let fr := [1, a, b]
  let qz : Rat := ((s.f EST_NOISE_QZ * (if i.lost then 100 else 1) : Nat) : Rat) / 1000000000000
  let dg := [qz, ((s.f EST_NOISE_QV : Nat) : Rat) / 10000, ((s.f EST_NOISE_QH : Nat) : Rat) / 10000]
  { x with
    z := x.z + eta * i.da / mAh / x.q
    v1 := a * x.v1 + x.rpol * s.resFactor i.t * (1 - a) * i.mean / 10000000
    h := b * x.h + (1 - b) * sg * ((s.f EST_MODEL_HMAX : Nat) : Rat)
    p := (List.range 9).map fun k =>
      fr.getD (k / 3) 0 * x.p.getD k 0 * fr.getD (k % 3) 0 + (if k / 3 == k % 3 then dg.getD (k / 3) 0 else 0) }

/-- The correction of R319 at mean voltage `v`. -/
def State.estCorrect (s : State) (i : EstIn) (v : Rat) (x : EstCell) : EstCell :=
  let e := v - (s.ocv x.z i.t + x.h + x.v1 + x.rser * s.resFactor i.t * i.mean / 10000000)
  let hh := [s.ocvSlope x.z i.t, 1, 1]
  let row (l : List Rat) (j : Nat) : Rat := (List.range 3).foldl (fun acc k => acc + l.getD (3 * j + k) 0 * hh.getD k 0) 0
  let ph := (List.range 3).map (row x.p)
  let hp (j : Nat) : Rat := (List.range 3).foldl (fun acc k => acc + hh.getD k 0 * x.p.getD (3 * k + j) 0) 0
  let sv := (List.range 3).foldl (fun acc k => acc + hh.getD k 0 * ph.getD k 0) (((s.f EST_NOISE_RV : Nat) : Rat) / 100)
  let k (j : Nat) : Rat := ph.getD j 0 / sv
  { x with
    z := x.z + k 0 * e
    v1 := x.v1 + k 1 * e
    h := x.h + k 2 * e
    p := (List.range 9).map fun n => x.p.getD n 0 - k (n / 3) * hp (n % 3)
    innov := e }

/-- The filter: prediction, correction where there is a sample, and z brought within 0 and 1. -/
def State.estFilter (s : State) (i : EstIn) (x : EstCell) : EstCell :=
  let y := s.estPredict i x
  let w := match i.v with | some v => s.estCorrect i v y | none => y
  { w with z := ratClamp 0 1 w.z }

/-! ### What is reported (R322, R323) -/

/-- 1 charging, -1 discharging, 0 at rest (R322). -/
def State.estDir (s : State) (i : EstIn) : Int :=
  let r : Rat := ((s.f EST_REST_REST_I : Nat) : Rat)
  if i.mean < -r then -1 else if r < i.mean then 1 else 0

/-- R322: the reported charge follows the filter. -/
def State.estReport (s : State) (i : EstIn) (x : EstCell) : EstCell :=
  let dcc := ratAbs i.da / mAh / x.q
  let g := x.z - x.soc
  let slow := dcc * ((s.f EST_REPORT_SLOW : Nat) : Rat) / 256
  let fast := dcc * ((s.f EST_REPORT_FAST : Nat) : Rat)
  let rest : Rat := ((s.f EST_REPORT_REST_RATE * i.dt : Nat) : Rat) / 600000000000
  let n : Rat := if i.lost then x.soc
    else match s.estDir i with
      | -1 => if 0 ≤ g then x.soc - slow else max x.z (x.soc - fast)
      | 1 => if g ≤ 0 then x.soc + slow else min x.z (x.soc + fast)
      | _ => if 0 ≤ g then min x.z (x.soc + rest) else max x.z (x.soc - rest)
  { x with
    soc := ratClamp 0 1 n
    held := (s.estDir i == -1 && 0 < g) || (s.estDir i == 1 && g < 0) }

/-- R323: CUTOFF, and the fall of the reported charge while it stands. -/
def State.estCut (s : State) (i : EstIn) (x : EstCell) : EstCell :=
  let d : Rat := ((s.f EST_REPORT_CUT_RATE * i.dt : Nat) : Rat) / 1000000000
  let y : EstCell := if x.cutoff then { x with
      soc := ratClamp 0 1 (x.soc - d)
      held := false } else s.estReport i x
  let lim : Rat := ((s.f EST_CUTOFF_VCUT : Nat) : Rat)
  let above : Bool := match i.v with | some v => lim + 50 < v | none => false
  let at' : Bool := match i.v with | some v => v ≤ lim | none => false
  { y with cutoff := if s.estDir i == 1 then false else if x.cutoff then !above else at' }

/-- R324: the counts of the disagreement, on corrected updates. -/
def State.estAgree (s : State) (i : EstIn) (x : EstCell) : EstCell :=
  let n := s.f EST_CUTOFF_DIS_N
  let thr : Rat := ((s.f EST_CUTOFF_DIS_THR : Nat) : Rat)
  if i.v.isNone then x
  else
    let o := if thr < ratAbs x.innov then x.above + 1 else 0
    let u := if ratAbs x.innov ≤ thr / 2 then x.under + 1 else 0
    { x with
      above := min n o
      under := min n u
      disagree := if x.disagree then u < n else n ≤ o }

/-! ### Learning (R320, R321) -/

/-- The capacity after two rest points (R321). -/
def State.estLearnQ (s : State) (x : EstCell) (p1 p2 : Rat × Rat) : EstCell :=
  let dz := ratAbs (p2.1 - p1.1)
  let nom : Rat := ((s.f EST_QNOM_QNOM : Nat) : Rat)
  if x.broken || x.unrest || dz * 100 < ((s.f EST_LEARN_Q_DZ : Nat) : Rat) then x
  else
    let est := ratAbs (p2.2 - p1.2) / mAh / dz
    let st := x.q * ((s.f EST_LEARN_Q_STEP : Nat) : Rat) / 1000
    let d := ratClamp (-st) st ((est - x.q) * ((s.f EST_LEARN_Q_ALPHA : Nat) : Rat) / 256)
    { x with
      q := ratClamp (nom / 2) (nom * 11 / 10) (x.q + d)
      learned := true }

/-- R321's conditions for learning from the points `p` and `z`. -/
def State.estMayLearn (s : State) (x : EstCell) (z : Rat) : Bool :=
  match x.point with
  | some p => !x.broken && !x.unrest && ((s.f EST_LEARN_Q_DZ : Nat) : Rat) ≤ ratAbs (z - p.1) * 100
  | none => false

/-- Rest and rest points (R321), and whether the capacity was learned. -/
def State.estRest (s : State) (i : EstIn) (x : EstCell) : EstCell × Bool :=
  let no : EstCell := { x with
    rest := 0
    restDone := false }
  let y : EstCell := { x with rest := x.rest + i.dt }
  match s.estDir i == 0, i.v with
  | true, some v =>
    if x.restDone || y.rest < s.f EST_REST_REST_T * 1000000 then (y, false)
    else
      let z := s.ocvInv (v - x.h) i.t
      let w := { y with restDone := true }
      if s.ocvSlope z i.t < 50 then (w, false)
      else
        let l := match x.point with | some p => s.estLearnQ w p (z, x.total) | none => w
        ({ l with
          point := some (z, x.total)
          broken := false }, s.estMayLearn x z)
  | true, none => (y, false)
  | false, _ => (no, false)

/-- R320: a spectrum with RS, and with a RCT over the full grid, is blended into the cell's resistances. -/
def estLearn (c : Nat) : Prog := .dyn fun s =>
  let x := s.estCell c
  let fl (k : Nat) : Bool := bitOf (s.f (EIS_DSTAT_FLAGS c)) (k - 27)
  let k := s.resFactor (s.estTemp c).2
  let al : Rat := ((s.f EST_LEARN_R_ALPHA : Nat) : Rat) / 256
  let full := fl 29 && fl 28
  whenB (s.isWrk && fl 31 && x.known && !x.unrest)
    (.seq (updCell c fun x => { x with
        rser := x.rser + ((s.i (EIS_RS_Z c) : Rat) / k - x.rser) * al
        rpol := if full then x.rpol + ((s.i (EIS_RCT_Z c) : Rat) / k - x.rpol) * al else x.rpol
        tpol := if full then x.tpol + (((s.f (EIS_TAU_US c) : Nat) : Rat) - x.tpol) * al else x.tpol })
      (estEvent 3))

/-! ### The update (R316-R319) -/

/-- Length of an update interval in µs (R316). -/
def State.estU (s : State) : Nat := max (s.f EST_CFG_TS * 1000) (s.period.getD 0)

/-- The cell after its update. -/
def State.estNext (s : State) (i : EstIn) (x : EstCell) : EstCell × Bool :=
  let y : EstCell × Bool :=
    if !x.known then (match i.v with | some v => s.estFresh i v x | none => x, false)
    else s.estRest i (s.estAgree i (s.estCut i (s.estFilter i x)))
  ({ y.1 with
    broken := y.1.broken || i.v.isNone || i.lost || x.unrest
    chg := 0
    vsum := 0
    vcnt := 0 }, y.2)

/-- The registers of a cell. -/
def estShow (c : Nat) : Prog := .dyn fun s =>
  let x := s.estCell c
  let t := s.estTemp c
  blk [set (EST_SOC_SOC c) (rndNat (x.soc * 100000)), set (EST_Z_SOC c) (rndNat (x.z * 100000)), setSat (EST_Q_MAH c) (rndNat x.q),
    setSat (EST_RSER_Z c) (rndNat x.rser), setSat (EST_RPOL_Z c) (rndNat x.rpol), setSat (EST_TPOL_US c) (rndNat x.tpol),
    set (EST_TC_SRC c) t.1, setI (EST_TC_T c) (rnd t.2),
    set (EST_CSTAT_FLAGS c) (b2n x.unrest * 16 + b2n x.cutoff * 8 + b2n x.disagree * 4 + b2n x.learned * 2 + b2n x.held),
    setI (EST_CSTAT_INNOV c) (rnd (x.innov * 10))]

/-- One cell's update with its events and messages. -/
def estCellUpd (dt c : Nat) : Prog := .dyn fun s =>
  let x := s.estCell c
  let v : Option Rat := if x.vcnt == 0 then none else some ((x.vsum : Rat) * 15625 / 100000 / ((x.vcnt : Nat) : Rat))
  let i : EstIn := ⟨x.chg, dt, v, (s.estTemp c).2, s.b (estFlag 6)⟩
  let n := s.estNext i x
  blk [updCell c fun _ => n.1, whenB (n.1.cutoff && !x.cutoff) (estEvent 1),
    whenB (n.1.disagree && !x.disagree) (.seq (estEvent 0) (estMsg 0 c)),
    whenB n.2 (.seq (estEvent 2) (incSat EST_CNT_Q_UPDS)), estShow c]

/-- What an accepted ACCEPT or RESTORE gives a cell (R326, R327). -/
def EstCell.restored (x : EstCell) (w : List Nat) : EstCell :=
  let g (k : Nat) : Rat := ((w.getD k 0 : Nat) : Rat)
  { x with
    known := true
    unrest := false
    z := g 0 / 100000
    soc := g 1 / 100000
    q := g 2
    rser := g 3
    rpol := g 4
    tpol := g 5
    h := (signed 16 (w.getD 6 0) : Rat) / 100
    v1 := 0
    p := [1 / 10000, 0, 0, 0, 1, 0, 0, 0, 1]
    learned := false
    chg := 0 }

/-- A cell starts afresh (R325): its charge and samples stay. -/
def EstCell.renewed (x : EstCell) (unrest : Bool) : EstCell :=
  { chg := x.chg, total := x.total, vsum := x.vsum, vcnt := x.vcnt, unrest := unrest }

/-- The waiting ACCEPT, RESTORE or RENEW takes effect (R326, R327). -/
def estApply : Prog := .dyn fun s => match s.eng.est.pend with
  | none => .skip
  | some (k, l) =>
    blk [estEng fun e => { e with pend := none }, set (estFlag 1) 0,
      forEach l fun x => updCell x.1 fun c => if k == 3 then c.renewed false else c.restored x.2,
      whenB (k != 3) (.seq (estEvent 6) (set EST_CKPT_RESULT k))]

/-- The cells' flags in EST_STATUS, and EST_SUMMARY (R335). -/
def estFlags : Prog := .dyn fun s =>
  let cs := (List.range s.cells).map fun c => s.estCell c
  let lo := (List.range s.cells).foldl (fun b c => if s.f (EST_SOC_SOC c) < s.f (EST_SOC_SOC b) then c else b) 0
  blk [setB (estFlag 3) (cs.any (·.unrest)), setB (estFlag 4) (cs.any (·.cutoff)), setB (estFlag 5) (cs.any (·.disagree)),
    set EST_SUMMARY_MIN_CELL lo, set EST_SUMMARY_MIN_SOC (rndDiv (s.f (EST_SOC_SOC lo)) 10).toNat]

/-- Committed values of the page take effect (R334). -/
def estNextTake : Prog := .dyn fun s =>
  whenB (s.eng.est.next != []) (.seq (forEach s.eng.est.next fun x => .act (.reg x.1 x.2)) (estEng fun e => { e with next := [] }))

/-- A commit of the page (R61, R334): its values wait for the next update. -/
def estCommit : Prog := .dyn fun s =>
  estEng fun e => { e with next := (pageAddrs pgEST .stg).map fun a => (a, s.stg a) }

/-- An update epoch: updates run in ATTEND and above (R316), on Woad, and not within its core reset (R334). -/
def State.estDue (s : State) : Bool := s.isWrk && s.released && s.eng.boot.cores.getD 1 false && 3 ≤ s.mode && s.epoch % s.estU == 0

/-- An update, at its epoch (R316): committed values take effect first, and EN stops the rest (R336). -/
def estUpdate : Prog :=
  whenS State.estDue (blk [estNextTake, .dyn fun s => setB (estFlag 0) (s.b EST_CFG_EN), whenS (fun s => s.b EST_CFG_EN) (.dyn fun s =>
    let e := s.epoch
    let dt := max 1 (match s.eng.est.lastUpd with | some t => e - t | none => s.estU)
    blk [estAcc e, estApply,
      .dyn fun t => whenB ((List.range t.cells).any fun c => (t.estCell c).vcnt == 0) (incSat EST_CNT_GAPS),
      newResult pgEST e (blk [forEach (List.range s.cells) (estCellUpd dt), set EST_CUR_MA
        (unsigned 32 (rnd (if s.b EST_CFG_I_INV then -s.eng.est.str else s.eng.est.str))), estFlags]),
      estEng fun x => { x with lastUpd := some e }])])

/-- The mode changes: updates run in ATTEND and above. -/
def estMode : Prog := .dyn fun s => whenB (s.mode < 3) (set (estFlag 0) 0)

/-! ### Commands (R326-R330) -/

def State.rsWords (s : State) (c : Nat) : List Nat :=
  [EST_RS_Z c, EST_RS_SOC c, EST_RS_Q c, EST_RS_RSER c, EST_RS_RPOL c, EST_RS_TPOL c, EST_RS_H c].map fun a => (s.reg a).toNat

/-- Is every word of a cell within its range (R334)? -/
def State.rsOk (s : State) (w : List Nat) : Bool :=
  let g (k : Nat) := w.getD k 0
  let q := s.f EST_QNOM_QNOM
  g 0 ≤ 100000 && g 1 ≤ 100000 && q ≤ 2 * g 2 && 10 * g 2 ≤ 11 * q &&
    1 ≤ g 3 && g 3 ≤ 100 * s.f EST_NOM_R_RSER_NOM && 1 ≤ g 4 && g 4 ≤ 100 * s.f EST_NOM_R_RPOL_NOM &&
    1000 ≤ g 5 && g 5 ≤ 100000000

def State.rsCells (s : State) : List Nat := (List.range s.cells).filter fun c => bitOf (s.f EST_RS_MASK_MASK) c

def estPend (k : Nat) (l : List (Nat × List Nat)) : Prog := .seq (estEng fun e => { e with pend := some (k, l) }) (set (estFlag 1) 1)

def estResult (r : Nat) : Prog := set EST_CKPT_RESULT r

/-- While one waits for its update, a further one has no effect: BUSY (R327). -/
def unlessPending (p : Prog) : Prog := whenS (·.isWrk) (ifS (fun s => s.eng.est.pend.isSome) (estResult 6) p)

/-- ACCEPT (R327): the slot that EST_CKPT.SUGGEST names. -/
def estAccept : Prog := unlessPending (.dyn fun s =>
  if s.f EST_CKPT_SUGGEST == 0 then estResult 5
  else estPend 2 ((List.range s.cells).map fun c =>
    (c, (List.range 7).map fun k => s.ckptWord (s.f EST_CKPT_SUGGEST - 1) (8 + 7 * c + k))))

def estRestore : Prog := unlessPending (.dyn fun s =>
  let l := s.rsCells.map fun c => (c, s.rsWords c)
  if crc32 (l.flatMap Prod.snd) != s.f EST_RS_CRC_CRC then .seq (estResult 3) (estEvent 7)
  else if l.any fun x => !s.rsOk x.2 then .seq (estResult 4) (estEvent 7)
  else estPend 1 l)

def estRenew : Prog := unlessPending (.dyn fun s => estPend 3 (s.rsCells.map fun c => (c, [])))

/-- FORGET (R330): both MARKs become 0. -/
def estForget : Prog := whenS (·.isWrk) (blk [writeWords 0xF000 [0], writeWords 0xF400 [0], ckptJudge])

def estCmd (op : Nat) : Prog :=
  match op with
  | 1 => estAccept | 2 => estRestore | 3 => ckptTrigger | 4 => estForget | 5 => estRenew | _ => .skip

/-- A power-on or system reset, or an exit from SHELF, discards every cell state (R325, R334). -/
def estDiscard : Prog := .seq (estEng fun _ => {}) (set (estFlag 3) 1)

/-! ### The rack (R331, R332) -/

/-- The epoch, a multiple of 1,000,000, to which the rack's present second belongs (R331, R332). -/
def State.second (s : State) : Nat := s.epoch / 1000000 * 1000000

/-- A worker's summary (R331): D and C in mAh, S in 0.001%, of the second that has begun. -/
def State.estSummary (s : State) (w : Nat) : Summary :=
  let cs := (List.range s.cells).map fun c => (c, s.estCell c)
  let least (g : EstCell → Rat) : Nat × Rat := cs.foldl (fun b x => if g x.2 < b.2 then (x.1, g x.2) else b)
    (0, g (s.estCell 0))
  let lo := least (·.soc)
  let hi := least fun x => -x.soc
  let any (g : EstCell → Bool) : Nat := b2n (cs.any fun x => g x.2)
  ⟨w, s.second, rndNat (least fun x => x.soc * x.q).2, rndNat (least fun x => (1 - x.soc) * x.q).2, rndNat (lo.2 * 100000), lo.1,
    rndNat (-hi.2 * 100000), hi.1, any (·.unrest) + 2 * any (·.cutoff) + 4 * any (·.disagree)⟩

/-- The manager receives a summary (R331, R354). -/
def estSummaryRx (x : Summary) : Prog :=
  whenS (·.isMgr) (estEng fun e => { e with sums := x :: e.sums.filter fun y => y.worker != x.worker })

/-- Aggregation over the workers `ws` of the roster, 20 ms after each whole second (R332). -/
def estAggregate (ws : List Nat) : Prog := whenS (fun s => s.isMgr && s.epoch == s.second + 20000) (.dyn fun s =>
  let have' (w : Nat) : Option Summary := s.eng.est.sums.find? fun x => x.worker == w && !later s.epoch (x.epoch + 3000000)
  let ok := ws.filterMap have'
  let out := ws.filter fun w => (have' w).isNone
  let d := ok.foldl (fun m x => min m x.d) ((ok.head?.map Summary.d).getD 0)
  let c := ok.foldl (fun m x => min m x.c) ((ok.head?.map Summary.c).getD 0)
  let lo := ok.foldl (fun b x => if x.lo < b.lo then x else b) (ok.headD ⟨0, 0, 0, 0, 0, 0, 0, 0, 0⟩)
  let hi := ok.foldl (fun b x => if b.hi < x.hi then x else b) (ok.headD ⟨0, 0, 0, 0, 0, 0, 0, 0, 0⟩)
  let fl (k : Nat) : Nat := b2n (ok.any fun x => bitOf x.flags k)
  blk [forEach (out.filter fun w => !bitOf (s.f EST_RACK_MISS_MAP) (w - 1)) (fun w => .seq (estEvent 10) (estMsg 3 w)),
    setB (estFlag 7) (out != []),
    newResult pgEST s.epoch (blk [
      set EST_RACK_MISS_MAP (out.foldl (fun m w => m + 2 ^ (w - 1)) 0),
      set EST_RACK_STAT_NW ok.length, set EST_RACK_STAT_FLAGS (b2n (out != []) + 2 * fl 0 + 4 * fl 1 + 8 * fl 2),
      setSat EST_RACK_Q_MAH (d + c), set EST_RACK_SOC_SOC (if d + c == 0 then 0 else (rndDiv (d * 100000 : Nat) (d + c)).toNat),
      set EST_RACK_MIN_WORKER lo.worker, set EST_RACK_MIN_CELL lo.loCell, set EST_RACK_MIN_SOC lo.lo,
      set EST_RACK_MAX_WORKER hi.worker, set EST_RACK_MAX_CELL hi.hiCell, set EST_RACK_MAX_SOC hi.hi]),
    estEvent 9])

end Sys2Proof.Machine
end

