-- ==== Sys2Proof/Machine/Ring.lean ====
section
/-!
DEFINITION. Stemline ring (16_stemline_ring.md, R337-R362): ports, blocks, packets and their authentication, enumeration, arms,
breaks, and the own frames of a worker.
-/
namespace Sys2Proof.Machine

def ringEng (g : RingEng → RingEng) : Prog := eng fun e => { e with ring := g e.ring }

def ringEvent (k : Nat) : Prog := event (RING_EVT_RAW_EVENTS.bit k)

/-- A message of the ring with its first-fault record (R359). -/
def ringMsg (kind inst : Nat) : Prog :=
  .seq (firstRec RING_FIRST_VALID [(RING_FIRST_KIND, kind), (RING_FIRST_INST, inst)]) (send pgRING inst kind 0)

def State.port (s : State) (p : Nat) : Nat := s.f (RING_P_STATUS_STATE p)

def State.portUp (s : State) (p : Nat) : Bool := s.port p == 4

/-- Frames, packets and blocks pass only through ports in UP, TRAIN through one in ALIGN, IDLE through either, beacons through one in BEACON
(R340-R344); port 2 stands for both. -/
def State.sends (s : State) : Tx → Bool
  | .pkt p _ => if p == 2 then s.portUp 0 || s.portUp 1 else s.portUp p
  | .frame p _ _ => s.portUp p
  | .block p type _ => if type == 0x2D then s.port p == 3 else if type == 0x1E then 3 ≤ s.port p else s.portUp p
  | .beacon p _ => s.port p == 1

/-- A transmitter takes `x`; what its port cannot carry is lost. (DEDUCED, log entry 122) -/
def tx (x : Tx) : Prog := whenS (fun s => s.sends x) (ringEng fun e => { e with tx := e.tx ++ [x] })

def State.enumerated (s : State) : Bool := s.f RING_SELF_INDEX != 0

/-- RING_STATUS.STATE (R362). -/
def State.ringState (s : State) : Nat :=
  if !(s.portUp 0 || s.portUp 1) then
    if 2 ≤ s.port 0 || 2 ≤ s.port 1 then 2 else if s.port 0 == 1 || s.port 1 == 1 then 1 else 0
  else if s.isMgr && s.eng.ring.enumOut != 0 then 4
  else if (s.isMgr && s.f RING_ENUM_RESULT == 0) || (s.isWrk && !s.enumerated) then 3
  else if s.eng.ring.cut then 7 else if s.eng.ring.brk != [] then 6 else 5

/-- The registers that follow from what the ring knows. -/
def ringShow : Prog := .dyn fun s =>
  let b := s.eng.ring.brk
  blk [set RING_STATUS_STATE s.ringState, setB RING_STATUS_SESSION (s.eng.ring.keys != []),
    setB RING_BREAK_VALID (b != []), setB RING_BREAK_MULTI (2 ≤ b.length), set RING_BREAK_LINK (b.foldl min (b.headD 0)),
    setB RING_STATUS_DECIMATED (s.f RING_ARMS_DA != 0 || s.f RING_ARMS_DB != 0 || s.f RING_SELF_DEC != 0)]

/-! ### Packets (R351-R353) -/

/-- Bits of a 64-bit data block. -/
def bits64 (w lo n : Nat) : Nat := w / 2 ^ lo % 2 ^ n

/-- Data block `k` of a packet. -/
def pw (p : Pkt) (k : Nat) : Nat := p.data.getD k 0

/-- A broken link lies on the arm A side, on the arm B side, of position `p`. -/
def brokenA (b : List Nat) (p : Nat) : Bool := b.any fun k => k < p
def brokenB (b : List Nat) (p : Nat) : Bool := b.any fun k => p ≤ k

/-- Arm of worker `w` of `m` with the links `b` broken: 0 A, 1 B, 2 cut off (R347, R357). -/
def armOf (m : Nat) (b : List Nat) (w : Nat) : Nat :=
  let base := if w ≤ (m + 1) / 2 then 0 else 1
  if brokenA b w && brokenB b w then 2 else if brokenA b w then 1 else if brokenB b w then 0 else base

/-- The port of worker `w`'s arm, and of both for a broadcast (R347); while an enumeration runs the arm is its ENUM_SET's. -/
def State.portTo (s : State) (w : Nat) : Nat :=
  if w == 0x3F then 2
  else if s.eng.ring.enumOut != 0 || s.eng.rack.readmit == some w then armOf (s.f RING_ENUM_M) s.eng.ring.brk w % 2
  else if bitOf (s.f RING_MAP_B_MAP) (w - 1) then 1 else 0

/-! ### Session keys (R563, R564) -/

def secEng (g : SecEng → SecEng) : Prog := eng fun e => { e with sec := g e.sec }

def secEvent (k : Nat) : Prog := event (SEC_EVT_RAW_EVENTS.bit k)

/-- The bytes of data blocks, little-endian words (R354), and the blocks that bytes fill. -/
def blockBytes (l : List Nat) : List Nat := l.flatMap (Sha.lowBytes 8)
def blocksOf (l : List Nat) : List Nat := (List.range (l.length / 8)).map fun i => Sha.numOf ((l.drop (8 * i)).take 8).reverse

/-- The leftmost 64 bits of AES-CMAC as a data block (R353, R563). -/
def tagOf (key : Nat) (l : List Nat) : Nat := Sha.numOf (Sha.bytesOf 8 (Aes.cmac key l / 2 ^ 64)).reverse

/-- What the tag of a packet covers: the CTRL content, 7 bytes, and the data blocks (R351, R353). (DEDUCED, log entry 64) -/
def pktBytes (p : Pkt) : List Nat :=
  Sha.lowBytes 7 (p.dst * 2 ^ 50 + p.src * 2 ^ 44 + p.kind * 2 ^ 36 + p.data.length * 2 ^ 30 + p.seq) ++ blockBytes p.data

/-- The key shared with `peer`, 0x3F standing for all (R353). -/
def State.keyWith (s : State) (peer : Nat) : Nat :=
  if peer == 0x3F then s.eng.ring.group else countOf s.eng.ring.sess (if s.isMgr then peer else 0)

/-- The packet with its tag under the key shared with `peer`. -/
def State.tagged (s : State) (peer : Nat) (p : Pkt) : Pkt := { p with tag := tagOf (s.keyWith peer) (pktBytes p) }

/-- The tag of a received packet verifies. -/
def State.tagOk (s : State) (p : Pkt) : Bool := p.tag == tagOf (s.keyWith (if p.dst == 0x3F then 0x3F else p.src)) (pktBytes p)

/-- `n` words of 64 bits from the DRBG (R565), open values. -/
def withFrees : Nat → (List Nat → Prog) → Prog
  | 0, k => k []
  | n + 1, k => withFree fun x => withFrees n fun l => k (x % 2 ^ 64 :: l)

/-- Block 0 of a KEY packet (R563). -/
def keyWord (step gen : Nat) : Nat := step * 2 ^ 56 + gen * 2 ^ 48

/-- Weld is held in reset (R360). -/
def State.weldDown (s : State) : Bool := s.released && !s.eng.boot.cores.getD 2 false

def owe (x : Owed) : Prog := ringEng fun e => { e with owed := e.owed ++ [x] }

/-- A packet of Weld's without a sequence number; it waits for Weld's release (R360). -/
def weldTx (x : Tx) : Prog := ifS State.weldDown (owe (.raw x)) (tx x)

/-- A KEY packet of step `step` and generation `gen` with the blocks `l` behind block 0, out of port `port`. -/
def keyPkt (port dst step gen : Nat) (l : List Nat) : Prog := .dyn fun s =>
  weldTx (.pkt port ⟨dst, s.f RING_SELF_INDEX, 0x02, 0, keyWord step gen :: l, 0⟩)

/-- An ephemeral private key from four words of the DRBG. -/
def privateOf (l : List Nat) : Nat := l.foldl (fun x w => 2 ^ 64 * x + w) 0 % (Curve.order - 1) + 1

/-- Blocks 0 to 8 of OFFER and REPLY with the public key `q`, and their authentication under the pairing key (R563). -/
def helloBody (step gen : Nat) (q : Nat × Nat) : List Nat := keyWord step gen :: blocksOf (Sha.bytesOf 32 q.1 ++ Sha.bytesOf 32 q.2)
def helloMac (key uid body : List Nat) : List Nat := blocksOf (Sha.hmac key (blockBytes body ++ uid))

/-- Blocks 1 onwards of an OFFER or REPLY of this device. -/
def State.hello (s : State) (key : List Nat) (step gen d : Nat) : List Nat :=
  let b := helloBody step gen (Curve.publicOf d)
  b.drop 1 ++ helloMac key s.uidBytes b

/-- An OFFER or REPLY is authentic for the sender of identity `uid`. (DEDUCED, log entry 64) -/
def State.helloOk (s : State) (p : Pkt) (uid : List Nat) : Bool :=
  match s.pairKey with | some key => p.data.drop 9 == helloMac key uid (p.data.take 9) | none => false

/-- K_s from the shared secret with the public key of a hello (R563): none where that is no key. -/
def sessionKey (d gen : Nat) (p : Pkt) (uidM uidW : List Nat) : Option Nat :=
  (Curve.shared d (Sha.numOf (blockBytes ((p.data.drop 1).take 4))) (Sha.numOf (blockBytes ((p.data.drop 5).take 4)))).map fun z =>
    Sha.numOf ((Sha.hmac (Sha.bytesOf 32 z) (uidM ++ uidW ++ [gen])).take 16)

/-- Blocks 1 onwards of GROUP (R563). -/
def groupBlocks (ks gen group : Nat) : List Nat :=
  let b := blocksOf (Sha.bytesOf 16 (Aes.encrypt ks group))
  b ++ [tagOf ks (blockBytes (keyWord 3 gen :: b))]

def setupPut (x : KeySetup) : Prog := secEng fun e => { e with setups := e.setups.filter (fun y => y.w != x.w) ++ [x] }

/-- A fresh group key (R563). (DEDUCED, log entry 65) -/
def groupDraw : Prog := withFrees 2 fun l => ringEng fun e => { e with
  group := l.foldl (fun x w => 2 ^ 64 * x + w) 0
  seqOut := setCount e.seqOut 0x3F 0 }

/-- The setup with worker `w` starts, its `tries`-th try, with an OFFER; without entropy or a usable pairing key it only waits (R565).
(DEDUCED, log entry 65) -/
def keyTry (w gen tries : Nat) : Prog := .dyn fun s =>
  match s.pairKey, s.b SEC_RNG_OK with
  | some key, true => withFrees 4 fun l =>
    .seq (setupPut ⟨w, 2, tries, gen, privateOf l, 0, s.now⟩) (keyPkt (s.portTo w) w 1 gen (s.hello key 1 gen (privateOf l)))
  | _, _ => setupPut ⟨w, 2, tries, gen, 0, 0, s.now⟩

/-- The manager repeats the setup with the workers of `l` under the next generation (R564). -/
def keyRepeat (l : List Nat) : Prog :=
  blk [incWrap SEC_RING_GEN, secEng fun e => { e with rekey := e.rekey.filter (fun w => !l.contains w) ++ l },
    .dyn fun s => forEach l fun w => keyTry w (s.f SEC_RING_GEN) 1]

/-- A sequence number has reached 0x3F00_0000 (R564). (DEDUCED, log entry 65) -/
def keyWorn (peer q : Nat) : Prog := .dyn fun s =>
  whenB (s.isMgr && q == 0x3F000000)
    (if peer == 0x3F then .seq groupDraw (keyRepeat s.eng.ring.keys) else keyRepeat [peer])

/-- A packet of this device: the next sequence number; a worker's waits at its transmitter (R349), the manager's leaves by the port
of the worker's arm, a broadcast by both (R347). (DEDUCED, log entry 66) -/
def pktOut (dst kind : Nat) (data : List Nat) : Prog := .dyn fun s =>
  let q := (countOf s.eng.ring.seqOut dst + 1) % 2 ^ 30
  let x := s.tagged dst ⟨dst, s.f RING_SELF_INDEX, kind, q, data, 0⟩
  blk [ringEng fun e => { e with seqOut := setCount e.seqOut dst q },
    if s.isMgr then tx (.pkt (s.portTo dst) x) else ringEng fun e => { e with ctl := e.ctl ++ [x] },
    keyWorn dst q]

/-- A packet of this device; while Weld is held in reset only RACK_I and DIGEST leave (R360). (DEDUCED, log entry 140) -/
def sendPkt (dst kind : Nat) (data : List Nat) : Prog :=
  ifS (fun s => s.weldDown && kind != 0x31 && kind != 0x34) (owe (.pkt dst kind data)) (pktOut dst kind data)

/-- A REG_RD or REG_WR whose request has ended meanwhile is not sent (R377). -/
def State.owes (s : State) : Owed → Bool
  | .pkt _ kind data => !(kind == 0x10 || kind == 0x11) || s.eng.epoch.mir.any fun r => r.tid == data.headD 0 % 65536
  | .raw _ => true

/-- Weld runs again: what it owes leaves in its order (R360). -/
def weldResume : Prog := .dyn fun s =>
  .seq (ringEng fun e => { e with owed := [] })
    (forEach (s.eng.ring.owed.filter s.owes) fun x => match x with
      | .pkt dst kind data => pktOut dst kind data
      | .raw x => tx x)

/-- An authentication failure (R353). -/
def authFail (cnt : Fld) (src : Nat) : Prog := blk [incSat cnt, ringEvent 7, ringMsg 2 src]

/-- `dst` names this device alone; no worker is 0 (R351). -/
def State.isDst (s : State) (dst : Nat) : Bool := if s.isMgr then dst == 0 else s.enumerated && dst == s.f RING_SELF_INDEX

/-- A received packet of an authenticated kind at a port in UP (R341, R351, R353): `k` where its tag and SEQ are accepted.  A worker forwards
what is not for it alone, and takes a broadcast once. -/
def rxPkt (port kind : Nat) (p : Pkt) (k : Prog) : Prog := .dyn fun s =>
  let sender := if p.dst == 0x3F then 64 + p.src else p.src
  let last := countOf s.eng.ring.seqIn sender
  let ahead := (p.seq + 2 ^ 30 - last % 2 ^ 30) % 2 ^ 30
  let fresh : Bool := 1 ≤ ahead && ahead ≤ 2 ^ 29
  let known : Bool := s.isWrk && s.eng.ring.keys != [] || s.isMgr && s.eng.ring.keys.contains p.src
  let take : Prog :=
    if !s.tagOk p || !known then authFail RING_CNT_AUTH_MAC_FAIL p.src
    else if fresh then blk [ringEng fun e => { e with seqIn := setCount e.seqIn sender p.seq }, k, keyWorn p.src p.seq]
    else if p.dst == 0x3F then .skip
    else authFail RING_CNT_AUTH_SEQ_REJ p.src
  if p.kind != kind || !s.portUp port || (s.isMgr && p.src == 0) then .skip
  else
    .seq (whenB (s.isWrk && !s.isDst p.dst) (tx (.pkt (1 - port) p)))
      (whenB (s.isDst p.dst || (s.isWrk && p.dst == 0x3F)) take)

/-! ### Arms (R347, R355, R357) -/

/-- The enumerated workers. -/
def State.workers (s : State) : List Nat := (List.range (s.f RING_ENUM_M)).map (· + 1)

/-- Workers enumerated and not lost. -/
def State.liveWorkers (s : State) : List Nat :=
  s.workers.filter fun w => s.eng.ring.keys.contains w && !bitOf (s.f RING_MAP_LOST_MAP) (w - 1)

/-- What of `l`, the last first, stood at some time of the 8 ms before `e`: the entries since and the one before them. -/
def standing (at_ : α → Nat) (e : Nat) (l : List α) : List α :=
  l.takeWhile (fun x => later (at_ x + 8000) e) ++ (l.dropWhile fun x => later (at_ x + 8000) e).take 1

def mapOf (l : List Nat) : Nat := l.foldl (fun m w => m ||| 2 ^ (w - 1)) 0

/-- log2 of the decimation of an arm of `n` workers (R355): the least from DEC_MIN with n × 9 / (P × D) ≤ BUDGET. -/
def State.armDec (s : State) (n : Nat) : Nat :=
  let p := s.period.getD 1
  ((List.range 4).find? fun d => s.f RING_CFG_DEC_MIN ≤ d && n * 9 ≤ s.f RING_CFG_BUDGET * p * 2 ^ d).getD 3

/-- The first multiple of 64 at or after `e`. -/
def next64 (e : Nat) : Nat := (e + 63) / 64 * 64

/-- The link delays are to be read anew (R367). -/
def pathLook : Prog := whenS (·.isMgr) (eng fun e => { e with epoch := { e.epoch with pathDue := true } })

/-- The manager rebuilds the arms and broadcasts ARMS (R355, R357). -/
def armsSend : Prog := .dyn fun s =>
  let m := s.f RING_ENUM_M
  let b := s.eng.ring.brk
  let ws := s.workers
  let lost := ws.filter fun w => !s.eng.ring.keys.contains w || armOf m b w == 2
  let live := ws.filter fun w => !lost.contains w
  let a := live.filter fun w => armOf m b w == 0
  let bb := live.filter fun w => armOf m b w == 1
  let da := s.armDec a.length
  let db := s.armDec bb.length
  blk [set RING_MAP_A_MAP (mapOf a), set RING_MAP_B_MAP (mapOf bb), set RING_MAP_LOST_MAP (mapOf lost),
    set RING_ARMS_NA a.length, set RING_ARMS_NB bb.length, set RING_ARMS_DA da, set RING_ARMS_DB db,
    sendPkt 0x3F 0x05 [next64 (s.epoch + 50) * 2 ^ 16 + da * 2 ^ 12 + db * 2 ^ 10, mapOf bb, mapOf lost],
    ringEng fun e => { e with
      decs := (next64 (s.epoch + 50), da, db, mapOf bb) :: standing Prod.fst s.epoch e.decs
      losts := (s.epoch, mapOf lost) :: standing Prod.fst s.epoch e.losts },
    pathLook, ringEvent 6, ringShow]

/-- A D of an arm has changed with RING_CFG or with the frame period: ARMS is broadcast (R355). (DESIGN CHOICE, log entry 141) -/
def armsLook : Prog :=
  whenS (fun s => s.isMgr && s.eng.ring.enumOut == 0 && s.f RING_ENUM_RESULT != 0 && s.f RING_ENUM_M != 0 && s.period.isSome &&
      (s.armDec (s.f RING_ARMS_NA) != s.f RING_ARMS_DA || s.armDec (s.f RING_ARMS_NB) != s.f RING_ARMS_DB)) armsSend

/-- A worker takes ARMS (R355): it waits for its epoch. -/
def armsRx (port : Nat) (p : Pkt) : Prog :=
  whenS (·.isWrk) (rxPkt port 0x05 p (.dyn fun s =>
    let w := s.f RING_SELF_INDEX - 1
    let arm := b2n (bitOf (pw p 1) w)
    ringEng fun e => { e with arms := some (bits64 (pw p 0) 16 48, arm,
      if arm == 1 then bits64 (pw p 0) 10 2 else bits64 (pw p 0) 12 2, bitOf (pw p 2) w) }))

/-- The path delay no longer holds (R367). -/
def pathInvalid : Prog := .seq (set EPOCH_PATH_VALID 0) (set EPOCH_STATUS_PATH_VALID 0)

/-- The epoch of ARMS arrives (R355, R367). -/
def armsApply : Prog := .dyn fun s => match s.eng.ring.arms with
  | none => .skip
  | some (e0, arm, dec, lost) =>
    whenB (!later e0 s.epoch)
      (blk [ringEng fun e => { e with
          arms := none
          lastArm := arm
          cut := lost
          armDue := false
          decWas := (e0, s.f RING_SELF_DEC) },
        whenB (arm != s.eng.ring.lastArm) pathInvalid,
        set RING_SELF_ARM arm, set RING_SELF_DEC dec, ringEvent 6, ringShow])

/-! ### Breaks (R357, R358) -/

/-- An enumeration ends without success. -/
def enumFail (r : Nat) : Prog :=
  blk [ringEng fun e => { e with enumOut := 0 }, set RING_ENUM_RESULT r, ringEvent 5, ringMsg 3 r, ringShow]

/-- An enumeration runs. -/
def State.enumRuns (s : State) : Bool := s.isMgr && s.eng.ring.enumOut != 0

/-- A break is recorded; one during an enumeration ends it (R345). -/
def breakLearn (link : Nat) : Prog := .dyn fun s =>
  whenB (!s.eng.ring.brk.contains link)
    (blk [ringEng fun e => { e with brk := e.brk ++ [link], armDue := s.isWrk }, ringEvent 2, ringMsg 1 link, ringShow,
      whenB s.isMgr (if s.eng.ring.enumOut != 0 then enumFail 5 else whenB (s.f RING_ENUM_M != 0) armsSend)])

/-- A link is whole again. -/
def healLearn (link : Nat) : Prog := .dyn fun s =>
  whenB (s.eng.ring.brk.contains link)
    (blk [ringEng fun e => { e with brk := e.brk.filter (· != link) }, ringEvent 3, ringShow,
      whenB (s.isMgr && s.f RING_ENUM_M != 0) armsSend])

def breakBlock (link : Nat) (heal : Bool) : Nat := link * 2 ^ 58 + b2n heal * 2 ^ 57 + 0x66

/-- A BREAK block arrives at `port`, which is UP (R341, R357). -/
def breakRx (port link : Nat) (heal : Bool) : Prog :=
  whenS (fun s => s.portUp port) (.seq (whenS (·.isWrk) (tx (.block (1 - port) 0x66 (breakBlock link heal))))
    (if heal then healLearn link else breakLearn link))

/-- The link at this device's port `p` (R357). -/
def State.linkAt (s : State) (p : Nat) : Option Nat :=
  if s.isMgr then (if s.f RING_ENUM_M == 0 then none else some (if p == 0 then 0 else s.f RING_ENUM_M))
  else if s.f RING_SELF_POS == 0 then none
  else some (if p == 1 then s.f RING_SELF_POS - 1 else s.f RING_SELF_POS)

/-- At a frame boundary after a break (R357). -/
def armMove : Prog :=
  whenS (fun s => s.isWrk && s.enumerated && s.eng.ring.armDue) (.dyn fun s =>
    let p := s.f RING_SELF_POS
    let a := brokenA s.eng.ring.brk p
    let b := brokenB s.eng.ring.brk p
    blk [ringEng fun e => { e with armDue := false },
      if a && b then ringEng fun e => { e with cut := true }
      else if a && s.f RING_SELF_ARM == 0 then set RING_SELF_ARM 1
      else if b && s.f RING_SELF_ARM == 1 then set RING_SELF_ARM 0 else .skip,
      ringShow])

/-! ### Ports (R338, R341-R343) -/

/-- The port a worker sends out of (R347). -/
def State.outPort (s : State) : Nat := if s.f RING_SELF_ARM == 0 then 1 else 0

/-- Line settings of port `p` in force: SWING, DEEMPH and CTLE as its last training took them (R338). -/
def State.lineSwing (s : State) (p : Nat) : Nat := s.eng.ring.line.getD p 0 / 4096 % 16
def State.lineDeemph (s : State) (p : Nat) : Nat := s.eng.ring.line.getD p 0 / 256 % 16
def State.lineCtle (s : State) (p : Nat) : Nat := s.eng.ring.line.getD p 0 / 16 % 16

/-- Port `p` is in `st`; in SEEK it trains, with the line settings that RING_P_CFG gives now (R338, R341). -/
def portTo (p st : Nat) : Prog :=
  .seq (set (RING_P_STATUS_STATE p) st)
    (whenB (st == 2) (.dyn fun s => ringEng fun e => { e with line := e.line.set p (s.reg (RING_P_CFG p)).toNat }))

/-- Port `p` leaves UP for state `st` (R341, R342, R357); an enumeration that runs at the manager is aborted (R345). -/
def portLost (p st : Nat) (speak : Bool) : Prog := .dyn fun s =>
  blk [portTo p st, set (RING_P_DLY_VALID p) 0, incSat (RING_P_CNT_DOWN_COUNT p), ringEvent 0, ringMsg 0 p,
    (match s.linkAt p with
      | some k => .seq (whenB (speak && s.isWrk) (tx (.block (1 - p) 0x66 (breakBlock k false)))) (breakLearn k)
      | none => .skip), whenS State.enumRuns (enumFail 5), ringShow]

/-- `bad` of the last 64 blocks had an invalid sync header, or the received signal has been gone for `ns` (R342). -/
def portDown (p bad ns : Nat) : Prog :=
  whenS (fun s => s.portUp p && (16 ≤ bad || 100 ≤ ns)) (.seq (setB (RING_P_STATUS_SIG p) (ns < 100)) (portLost p 2 true))

/-- The link PLL loses lock: a loss at every port in UP (R342). -/
def portsUnlock : Prog := upTo 2 fun p => whenS (fun s => s.portUp p) (portLost p 2 true)

/-- The link PLL stops, or the device leaves the modes in which ports run (R341). -/
def portsDown : Prog := upTo 2 fun p =>
  .seq (ifS (fun s => s.portUp p) (portLost p 0 false) (set (RING_P_STATUS_STATE p) 0)) ringShow

/-- No beacon has come in at port `p` for 2 ms (R341). -/
def State.beaconQuiet (s : State) (p : Nat) : Bool :=
  match s.eng.ring.beaconAt.getD p none with | some t => t + 2000 ≤ s.now | none => true

/-- A port starts training (R341), not before core release (R106, R109); `training`: it receives training patterns. -/
def portSeek (p : Nat) (training : Bool) : Prog :=
  whenS (fun s => s.released && 3 ≤ s.mode && s.b CLK_STATUS_LPLL_LOCK && s.port p ≤ 1 && (training || s.beaconQuiet p)) (.seq (portTo p 2) ringShow)

/-- A TRAIN block (R339): sequence, own turnaround, timestamp. -/
def trainBlock (sq turn ts : Nat) : Nat := sq % 256 * 2 ^ 56 + turn % 65536 * 2 ^ 40 + ts % 2 ^ 32 * 2 ^ 8 + 0x2D

/-- Port `p` sends TRAIN with the timestamp `ts`, its own or the partner's echoed (R343). (DEDUCED, log entry 138) -/
def trainSend (p ts : Nat) : Prog := .dyn fun s =>
  .seq (tx (.block p 0x2D (trainBlock (s.eng.ring.train.getD p 0) (Config.turnaround p).toNat ts)))
    (ringEng fun e => { e with train := e.train.set p ((e.train.getD p 0 + 1) % 256) })

def portAlign (p : Nat) (inv : Bool) : Prog :=
  whenS (fun s => s.port p == 2) (.dyn fun s =>
    blk [set (RING_P_STATUS_STATE p) 3, set (RING_P_STATUS_SIG p) 1, ringEng fun e => { e with alignAt := e.alignAt.set p s.now },
      setB (RING_P_STATUS_POL_INV p) (inv && s.b (RING_P_CFG_POL_AUTO p)), trainSend p (Config.linkTime s.now).toNat, ringShow])

/-- The one-way delay in 1/16 UI of the round trips `rtt` (R343): half of what their mean exceeds the partner's turnaround by. -/
def linkDelay (rtt : List Nat) (turn : Nat) : Nat := (rndDiv ((rtt.foldl (· + ·) 0 : Nat) - (rtt.length * turn : Nat) : Int) (2 * rtt.length)).toNat

/-- 256 TRAIN exchanges are complete: `rtt` their round trips, `turn` the partner's turnaround, in 1/16 UI (R343). -/
def portReady (p : Nat) (rtt : List Nat) (turn : Nat) : Prog :=
  whenS (fun s => s.port p == 3 && rtt.length == 256)
    (blk [.dyn fun s => ringEng fun e => { e with upAt := e.upAt.set p s.now, inPkt := e.inPkt.set p 0 }, set (RING_P_STATUS_STATE p) 4,
      set (RING_P_DLY_VALID p) 1, setSat (RING_P_DLY_DLY p) (linkDelay rtt turn), ringEvent 1,
      whenS (fun s => p == s.outPort) (eng fun e => { e with epoch := { e.epoch with lockedUp := false } }), pathLook, ringShow])

def portAlignTimeout (p : Nat) : Prog :=
  whenS (fun s => s.port p == 3 && s.eng.ring.alignAt.getD p 0 + 1000 ≤ s.now) (.seq (portTo p 2) ringShow)

def ringRetrain (p : Nat) : Prog :=
  ifS (fun s => s.portUp p) (portLost p 2 true)
    (whenS (fun s => s.port p == 3) (.seq (portTo p 2) ringShow))

/-- The mode changes (R341): OFF in DORMANT and SHELF; in WATCH the link PLL is off and the ports beacon, on the HFRC as on the crystal.
(DESIGN CHOICE, log entry 135) -/
def ringMode : Prog := .dyn fun s =>
  if s.mode ≤ 2 then
    blk [whenB (s.port 0 != 1 || s.port 1 != 1) portsDown,
      whenB (s.mode == 2) (blk [set (RING_P_STATUS_STATE 0) 1, set (RING_P_STATUS_STATE 1) 1]), ringShow]
  else .skip

/-- LINK_HEAL at port `p`, UP for 100 ms (R358). -/
def linkHeal (p : Nat) : Prog :=
  whenS (fun s => s.portUp p && s.eng.ring.upAt.getD p 0 + 100000 ≤ s.now) (.dyn fun s => match s.linkAt p with
    | some k => whenB (s.eng.ring.brk.contains k) (.seq (whenB s.isWrk (tx (.block (1 - p) 0x66 (breakBlock k true)))) (healLearn k))
    | none => .skip)

/-- An invalid block, or a packet dropped (R339, R340, R352). -/
def invalidBlock (p : Nat) : Prog := incSat (RING_P_CNT_BLK_COUNT p)

/-- Blocks of a packet behind its CTRL block: LEN and, for an authenticated kind, the tag; none for an unknown kind (R351, R352). -/
def pktBlocks (kind len : Nat) : Option Nat :=
  if kind == 0x01 || kind == 0x02 then some len
  else if kind == 0x05 || (0x10 ≤ kind && kind ≤ 0x12) || (0x20 ≤ kind && kind ≤ 0x24) || (0x30 ≤ kind && kind ≤ 0x34) then some (len + 1)
  else none

/-- The packet that comes in at `p` ends, early where blocks of it are due; `n` blocks of the next one are due (R340). -/
def pktBegin (p n : Nat) : Prog := .dyn fun s =>
  .seq (whenB (s.eng.ring.inPkt.getD p 0 != 0) (invalidBlock p)) (ringEng fun e => { e with inPkt := e.inPkt.set p n })

/-- TRAIN in ALIGN: it is echoed (R343). -/
def trainRx (p w : Nat) : Prog :=
  whenS (fun s => s.port p == 3)
    (.seq (.dyn fun s => ringEng fun e => { e with alignAt := e.alignAt.set p s.now }) (trainSend p (bits64 w 8 32)))

/-- A block with sync header `hdr` and payload `w` arrives at `p` (R339, R340, R352): what it counts, and what of a packet it leaves due.
A control block of an invalid type, too, ends a packet. (DEDUCED, log entry 138) -/
def blockRx (p hdr w : Nat) : Prog :=
  let type := w % 256
  if hdr == 1 then ringEng fun e => { e with inPkt := e.inPkt.set p (e.inPkt.getD p 0 - 1) }
  else if hdr != 2 then invalidBlock p
  else if type == 0x1E || type == 0x33 then .skip
  else if type == 0x2D then .seq (pktBegin p 0) (trainRx p w)
  else if type == 0x66 || type == 0x78 then pktBegin p 0
  else if type == 0x4B then
    match pktBlocks (bits64 w 44 8) (bits64 w 38 6) with
    | some n => pktBegin p n
    | none => .seq (pktBegin p 0) (invalidBlock p)
  else if 0xC1 ≤ type && type ≤ 0xE0 then pktBegin p 8
  else .seq (pktBegin p 0) (invalidBlock p)

/-- IDLE of the transmitters, one in every 1,024 blocks at least (R340): 10 µs are 970 blocks. -/
def idleSend : Prog := whenS (fun s => s.now % 10 == 0) (.seq (tx (.block 0 0x1E 0x1E)) (tx (.block 1 0x1E 0x1E)))

/-! ### Beacons (R344) -/

def crc16Bit (r bit : Nat) : Nat :=
  let x := (r * 2) % 65536
  if (r / 32768 + bit) % 2 == 1 then x ^^^ 0x1021 else x

/-- CRC-16, polynomial 0x1021, initial value 0xFFFF, over the `n` low bits of `v`, most significant first. -/
def crc16 (v n : Nat) : Nat := (List.range n).reverse.foldl (fun r k => crc16Bit r (v / 2 ^ k % 2)) 0xFFFF

/-- The 56 bits of a beacon: TYPE, floor, contactors-open flag, epoch bits [31:0], CRC (R344). -/
def beaconBits (type floor : Nat) (co : Bool) (e : Nat) : Nat :=
  let v := (type * 16 + floor % 8 * 2 + b2n co) * 2 ^ 32 + e % 2 ^ 32
  v * 65536 + crc16 v 40

/-- The contactors-open flag: the manager's own, or the worker's last received (R81). -/
def State.coFlag (s : State) : Bool := if s.isMgr then !s.contClosed else s.eng.mode.rackOpen

def beaconSend (p type : Nat) : Prog :=
  whenS (fun s => s.port p == 1 && (s.isMgr || s.portUp (1 - p))) (.dyn fun s =>
    tx (.beacon p (beaconBits (type % 2) (s.f MODE_FLOOR_RACK) s.coFlag s.epoch)))

/-- The worker takes a rack floor and flag (R81). -/
def takeFloor (floor : Nat) (co : Bool) : Prog :=
  blk [modeEng fun e => { e with rackOpen := co }, set MODE_FLOOR_RACK floor, set MODE_FLOOR_RX_STALE 0, modeEval 2]

/-- A beacon arrives at `p` (R341, R344, R87): one with a bad CRC, or of an invalid type, is dropped. -/
def beaconRx (p bits : Nat) : Prog :=
  .seq (.seq (.dyn fun s => ringEng fun e => { e with beaconAt := e.beaconAt.set p (some s.now) })
      (whenS (fun s => s.port p == 2) (.seq (portTo p 1) ringShow)))
    (whenS (fun s => s.isWrk && s.port p == 1 && s.mode == 2 && crc16 (bits / 65536) 40 == bits % 65536 && bits64 bits 52 4 ≤ 1)
      (blk [tx (.beacon (1 - p) bits), takeFloor (bits64 bits 49 3) (bitOf bits 48),
        whenB (bits64 bits 52 4 == 1 || 3 ≤ bits64 bits 49 3) (wake MODE_WAKE_SRC_BEACON)]))

/-! ### Enumeration (R345, R346) -/

def enumBlock (count : Nat) (fin : Bool) (origin : Nat) : Nat :=
  count * 2 ^ 58 + b2n fin * 2 ^ 57 + origin * 2 ^ 56 + 0x78

def ringEnum : Prog :=
  whenS (·.isMgr) (.dyn fun s =>
    let ps := [0, 1].filter s.portUp
    if ps == [] then enumFail 2
    else blk [ringEng fun e => { e with
        enumOut := ps.length
        enumA := 0
        enumB := 0
        chain := false
        keys := []
        sess := []
        decs := []
        losts := []
        autoDue := false
        brk := [] },
      forEach [RING_MAP_A, RING_MAP_B, RING_MAP_LOST, RING_ARMS] fun a => setReg a 0, groupDraw,
      set RING_ENUM_RESULT 0, set RING_ENUM_M 0, forEach ps fun p => tx (.block p 0x78 (enumBlock 0 false p)), ringShow])

/-- A worker receives ENUM at a port in UP (R345 step 2); an END block on its way back passes unchanged. -/
def enumBlockRx (p count : Nat) (fin : Bool) (origin : Nat) : Prog :=
  whenS (fun s => s.isWrk && s.portUp p) (.dyn fun s =>
    if fin then tx (.block (1 - p) 0x78 (enumBlock count true origin))
    else blk [set RING_SELF_INDEX 0, ringEng fun e => { e with
          enumCount := count + 1
          enumPort := p
          own := []
          cut := false
          brk := []
          sess := []
          keys := [] },
        tx (if s.portUp (1 - p) then .block (1 - p) 0x78 (enumBlock (count + 1) false origin)
          else .block p 0x78 (enumBlock (count + 1) true origin)), ringShow])

/-- ENUM_SET to position `w` (R345 step 4): the data are the position, which is the index, the arm, and M.
(DESIGN CHOICE, log entry 137) -/
def enumSetSend (w : Nat) : Prog := .dyn fun s =>
  let arm := armOf (s.f RING_ENUM_M) s.eng.ring.brk w % 2
  weldTx (.pkt arm ⟨0x3E, 0, 0x01, 0, [w, arm, s.f RING_ENUM_M], 0⟩)

/-- All blocks are back: M is known; ENUM_SET goes to each position (R345 steps 3, 4). -/
def enumSize (m : Nat) : Prog := .dyn fun s =>
  if 32 < m then enumFail 3
  else blk [set RING_ENUM_M m, setB RING_ENUM_CHAIN s.eng.ring.chain,
    whenB s.eng.ring.chain (ringEng fun e => { e with brk := [s.eng.ring.enumA] }),
    forEach ((List.range m).map (· + 1)) fun w => .seq (enumSetSend w) (keyTry w (s.f SEC_RING_GEN) 1)]

/-- A block returns to the manager (R345 step 3). -/
def enumBlockReturn (p count : Nat) (fin : Bool) (origin : Nat) : Prog :=
  whenS (fun s => s.enumRuns && s.portUp p && s.f RING_ENUM_M == 0) (.dyn fun s =>
    let left := s.eng.ring.enumOut - 1
    if !fin && p != origin then enumSize count
    else blk [ringEng fun e => { e with
          enumOut := max left 1
          chain := true
          enumA := if origin == 0 then count else e.enumA
          enumB := if origin == 1 then count else e.enumB },
        .dyn fun t => whenB (left == 0) (enumSize (t.eng.ring.enumA + t.eng.ring.enumB))])

/-- The position of a worker that has counted an ENUM block, of `m` (R345 step 3): COUNT from the A side, which reaches its port B. -/
def State.enumPos (s : State) (m : Nat) : Nat := if s.eng.ring.enumPort == 1 then s.eng.ring.enumCount else m + 1 - s.eng.ring.enumCount

/-- An ENUM_SET for position `w` of `m` is for this worker: at the position it counted; one that has counted none since its reset takes what
reaches it while it has no index. (DESIGN CHOICE, log entry 137) -/
def State.setMine (s : State) (w m : Nat) : Bool := if s.eng.ring.enumCount == 0 then !s.enumerated else s.enumPos m == w

/-- ENUM_SET arrives at `port` (R345 step 4): the worker of the position takes it, others forward it. -/
def enumSetRx (port : Nat) (p : Pkt) : Prog :=
  whenS (fun s => s.isWrk && s.portUp port && p.kind == 0x01 && p.dst == 0x3E) (.dyn fun s =>
    if s.setMine (pw p 0) (pw p 2) then
      blk [set RING_SELF_INDEX (pw p 0), set RING_SELF_POS (pw p 0), set RING_SELF_ARM (pw p 1),
        ringEng fun e => { e with
          lastArm := pw p 1
          cut := false
          owe := false }, ringShow]
    else tx (.pkt (1 - port) p))

/-- Key setup is over (R345 steps 5, 6). -/
def enumDone : Prog :=
  whenS (fun s => s.enumRuns && s.f RING_ENUM_M != 0) (.dyn fun s =>
    let ok := s.workers.all fun w => s.eng.ring.keys.contains w
    blk [ringEng fun e => { e with enumOut := 0 }, set RING_ENUM_RESULT (if ok then 1 else 4), armsSend, ringEvent 4,
      whenB (!ok) (.seq (ringEvent 5) (ringMsg 3 4)), ringShow])

/-! ### KEY packets (R563, R564) -/

/-- A setup with worker `w` fails: the worker is KEY_FAIL and has no index (R345, R564). (DEDUCED, log entry 65) -/
def keyFail (w : Nat) : Prog :=
  blk [secEng fun e => { e with
      setups := e.setups.filter fun x => x.w != w
      rekey := e.rekey.filter (· != w) },
    incSat SEC_RING_FAILS, set SEC_RING_LAST_W w, incSat SEC_CNT_KEY_FAILS, secEvent 2, send pgSEC w 1 0,
    ringEng fun e => { e with
      keys := e.keys.filter (· != w)
      sess := e.sess.filter fun x => x.1 != w }, whenS (·.isWrk) (set RING_SELF_INDEX 0), ringShow,
    whenS (fun s => s.isMgr && s.eng.ring.enumOut == 0 && s.f RING_ENUM_RESULT != 0) armsSend]

/-- The new key with `peer` is in force: SEQ restarts (R564). -/
def keyInForce (peer own ks : Nat) : Prog :=
  .seq (ringEng fun e => { e with
    seqOut := setCount e.seqOut peer 0
    seqIn := setCount e.seqIn peer 0
    sess := setCount e.sess peer ks
    keys := own :: e.keys.filter (· != own) })
    (.seq (set SEC_RING_SESSION 1) ringShow)

/-- A KEY packet arrives at `port`, which is UP: `k` at the device it is for; a worker forwards the others (R341, R351). -/
def keyRx (port step : Nat) (p : Pkt) (k : Nat → Prog) : Prog := .dyn fun s =>
  if p.kind != 0x02 || bits64 (pw p 0) 56 8 != step || !s.portUp port then .skip
  else if s.isDst p.dst then k (bits64 (pw p 0) 48 8)
  else whenB s.isWrk (tx (.pkt (1 - port) p))

/-- A worker answers OFFER with REPLY; its own setup is held under index 0, and `uid` is the manager's identity. -/
def keyOfferRx (port : Nat) (p : Pkt) (uid : List Nat) : Prog :=
  whenS (·.isWrk) (keyRx port 1 p fun gen => .dyn fun s =>
    if !s.helloOk p uid then keyFail (s.f RING_SELF_INDEX)
    else whenB (s.b SEC_RNG_OK) (withFrees 4 fun l =>
      match sessionKey (privateOf l) gen p uid s.uidBytes with
      | none => keyFail (s.f RING_SELF_INDEX)
      | some ks => .seq (secEng fun e => { e with setups := [⟨0, 3, 1, gen, privateOf l, ks, s.now⟩] })
        (keyPkt port 0 2 gen (s.hello (s.pairKey.getD []) 2 gen (privateOf l)))))

/-- The manager takes REPLY of the worker of identity `uid` and sends GROUP. -/
def keyReplyRx (port : Nat) (p : Pkt) (uid : List Nat) : Prog :=
  keyRx port 2 p fun gen => whenS (·.isMgr) (.dyn fun s =>
    match s.eng.sec.setups.find? fun x => x.w == p.src && x.await == 2 && x.gen == gen with
    | none => .skip
    | some x =>
      if !s.helloOk p uid then keyFail x.w
      else match sessionKey x.d gen p s.uidBytes uid with
        | none => keyFail x.w
        | some ks => .seq (setupPut { x with await := 4, ks := ks, t := s.now }) (keyPkt (s.portTo x.w) x.w 3 gen (groupBlocks ks gen s.eng.ring.group)))

/-- The worker takes the group key and answers CONFIRM; the new key is in force for it. -/
def keyGroupRx (port : Nat) (p : Pkt) : Prog :=
  whenS (·.isWrk) (keyRx port 3 p fun gen => .dyn fun s =>
    match s.eng.sec.setups.find? fun x => x.await == 3 && x.gen == gen with
    | none => .skip
    | some x =>
      if pw p 3 != tagOf x.ks (blockBytes (p.data.take 3)) then keyFail (s.f RING_SELF_INDEX)
      else
        let g := Aes.decrypt x.ks (Sha.numOf (blockBytes ((p.data.drop 1).take 2)))
        blk [secEng fun e => { e with setups := [] }, keyPkt port 0 4 gen [tagOf x.ks (blockBytes [keyWord 4 gen])], set SEC_RING_GEN gen,
          ringEng fun e => { e with
            seqIn := if g == e.group then e.seqIn else setCount e.seqIn 64 0
            group := g }, keyInForce 0 (s.f RING_SELF_INDEX) x.ks])

/-- CONFIRM arrives at the manager: the new key is in force. -/
def keyConfirmRx (port : Nat) (p : Pkt) : Prog :=
  keyRx port 4 p fun gen => whenS (·.isMgr) (.dyn fun s =>
    match s.eng.sec.setups.find? fun x => x.w == p.src && x.await == 4 && x.gen == gen with
    | none => .skip
    | some x =>
      if pw p 1 != tagOf x.ks (blockBytes (p.data.take 1)) then keyFail p.src
      else blk [whenB (s.eng.sec.rekey.contains p.src) (.seq (incSat SEC_RING_REKEYS) (secEvent 3)),
        secEng fun e => { e with
          setups := e.setups.filter fun y => y.w != p.src
          rekey := e.rekey.filter (· != p.src) },
        keyInForce p.src p.src x.ks])

/-- A step of a setup of the manager's has gone unanswered for 20 ms (R564). -/
def KeySetup.late (x : KeySetup) (now : Nat) : Bool := x.w != 0 && x.t + 20000 ≤ now

/-- A step of the setup with worker `w` has gone unanswered for 20 ms: three tries are made. -/
def keyStepTimeout (w : Nat) : Prog := .dyn fun s =>
  match s.eng.sec.setups.find? fun x => x.w == w && x.late s.now with
  | none => .skip
  | some x => if x.tries < 3 then keyTry w x.gen (x.tries + 1) else keyFail w

/-! ### Stream frames (R348-R350) -/

/-- The words of a frame as R243 lays it out. -/
def frameWords (f : Frame) : List Nat :=
  [f.epoch % 65536 * 65536 + f.index * 1024 + f.flags % 1024, f.epoch / 65536 % 2 ^ 32] ++
    (List.range 16).map fun k => f.samples.getD (2 * k) 0x8000 % 65536 + f.samples.getD (2 * k + 1) 0x8000 % 65536 * 65536

/-- The CRC-32 that frame assembly computes (R348). -/
def frameCrc (f : Frame) : Nat := crc32 (frameWords f)

/-- log2 of the D of the worker's arm in force at epoch `e` (R349, R355). -/
def State.decAt (s : State) (e : Nat) : Nat := if later s.eng.ring.decWas.1 e then s.eng.ring.decWas.2 else s.f RING_SELF_DEC

/-- A published frame at a worker (R349): frames that the period and the arm's decimation in force at their epoch name, and the RERUN of a VOID
one that it queued. -/
def ringOwn (f : Frame) : Prog :=
  whenS (fun s => s.isWrk && s.enumerated) (.dyn fun s =>
    let due := f.epoch % (s.eng.scan.per * 2 ^ s.decAt f.epoch) == 0
    let r := s.eng.ring
    ringEng fun e => { e with
      own := if due || (bitOf f.flags 0 && r.owe) then e.own ++ [f] else e.own
      owe := if bitOf f.flags 9 then r.owe || due else r.owe && !bitOf f.flags 0 })

/-- The oldest own frame is discarded (R349). -/
def frameAged : Prog := .dyn fun s => match s.eng.ring.own with
  | [] => .skip
  | f :: rest =>
    let first : Bool := match s.eng.ring.lastAged with | some t => t + 1000000 ≤ s.now | none => true
    whenB (!later (f.epoch + 4096) s.epoch)
      (blk [ringEng fun e => { e with
          own := rest
          lastAged := some s.now },
        incSat RING_CNT_AGED_COUNT, ringEvent 8, whenB first (ringMsg 4 0)])

/-- The transmitter has room (R349): own control packets first, then own frames, oldest first. (DEDUCED, log entry 90) -/
def frameTransmit : Prog :=
  whenS (fun s => s.isWrk && s.portUp s.outPort) (.dyn fun s => match s.eng.ring.ctl, s.eng.ring.own with
    | p :: rest, _ => .seq (ringEng fun e => { e with ctl := rest }) (tx (.pkt s.outPort p))
    | [], [] => .skip
    | [], f :: rest =>
      if !later (f.epoch + 4096) s.epoch then frameAged
      else blk [ringEng fun e => { e with
            own := rest
            sent := (f.epoch, frameCrc f) :: e.sent.filter fun x => later (x.1 + 8000) s.epoch },
          incWrap (RING_P_CNT_TX_COUNT s.outPort), tx (.frame s.outPort f (frameCrc f))])

/-- The epoch of which `x` gives bits [13:0] (R348). -/
def rebuildEpoch (now x : Nat) : Nat :=
  let e := now / 16384 * 16384 + x % 16384
  if now < e then (e + 2 ^ 48 - 16384) % 2 ^ 48 else e

/-- The manager receives a stream frame at port `p` (R348): `use` takes it where it is accepted. -/
def streamRx (p w e14 flags : Nat) (samples : List Nat) (crc : Nat) (use : Frame → Prog) : Prog :=
  whenS (fun s => s.isMgr && s.portUp p) (.dyn fun s =>
    let f : Frame := ⟨rebuildEpoch s.epoch e14, w, flags, samples⟩
    let onArm := bitOf (if p == 0 then s.f RING_MAP_A_MAP else s.f RING_MAP_B_MAP) (w - 1)
    blk [incWrap (RING_P_CNT_RX_COUNT p), ringEng fun e => if p == 0 then { e with loadA := e.loadA + 1 } else { e with loadB := e.loadB + 1 },
      if frameCrc f == crc && 1 ≤ w && w ≤ 32 && onArm then
        .seq (ringEng fun e => { e with rx := (w, f.epoch, crc) :: e.rx.filter fun x => later (x.2.1 + 8000) s.epoch }) (use f)
      else incSat (RING_P_CNT_CRC_COUNT p)])

/-- A worker passes another's frame on (R348). (DEDUCED, log entry 90) -/
def streamForward (p w e14 flags : Nat) (samples : List Nat) (crc : Nat) : Prog :=
  whenS (fun s => s.isWrk && s.portUp p) (.dyn fun s =>
    let f : Frame := ⟨rebuildEpoch s.epoch e14, w, flags, samples⟩
    blk [incWrap (RING_P_CNT_RX_COUNT p), whenB (frameCrc f != crc) (incSat (RING_P_CNT_CRC_COUNT p)),
      whenS (fun s => s.portUp (1 - p)) (.seq (incWrap (RING_P_CNT_TX_COUNT (1 - p))) (tx (.frame (1 - p) f crc)))])

/-- The manager expects a frame of worker `w` at epoch `e` (R349, R350): the P of its STATUS, the D of its arm in force at `e`. -/
def State.expects (s : State) (w e : Nat) : Bool :=
  match s.eng.ring.decs.find? fun x => !later x.1 e with
  | some (_, da, db, m) => s.f (ROSTER_W_INFO_P w) != 0 && e % (s.f (ROSTER_W_INFO_P w) * 2 ^ (if bitOf m (w - 1) then db else da)) == 0
  | none => false

/-- Worker `w` was enumerated and not lost at epoch `e` (R350). -/
def State.liveAt (s : State) (w e : Nat) : Bool :=
  s.workers.contains w && (s.eng.ring.losts.find? fun x => !later x.1 e).any fun x => !bitOf x.2 (w - 1)

/-- The expected frame of epoch `e` of worker `w` has not arrived by e + 4,200 µs (R350). -/
def frameMissing (w e : Nat) : Prog :=
  whenS (fun s => s.isMgr && s.liveAt w e && s.expects w e && !later (e + 4200) s.epoch && later (e + 8000) s.epoch &&
      !(s.eng.ring.rx.any fun x => x.1 == w && x.2.1 == e) && !s.eng.ring.missed.contains (w, e))
    (.dyn fun s => blk [ringEng fun r => { r with missed := (w, e) :: r.missed.filter fun x => later (x.2 + 8000) s.epoch },
      incSat RING_CNT_MISS_COUNT, ringEvent 9])

/-- RING_LOAD at the end of a millisecond (R362), and the beacons of 1 ms (R344). -/
def ringMs : Prog := .dyn fun s =>
  blk [whenB s.isMgr (blk [setSat RING_LOAD_A (s.eng.ring.loadA * 9 / 10), setSat RING_LOAD_B (s.eng.ring.loadB * 9 / 10),
      ringEng fun e => { e with
        loadA := 0
        loadB := 0 }]),
    beaconSend 0 0, beaconSend 1 0, linkHeal 0, linkHeal 1]

/-- A microsecond of the ring: IDLE, a D that has changed, the frame boundary behind a break, the epoch of ARMS, the age of the oldest own frame, the frames due 4,200 µs
ago (R349, R350, R355, R357). -/
def ringUs : Prog := .seq idleSend (.dyn fun s =>
  if s.isMgr then .seq armsLook <| forEach s.workers fun w => frameMissing w ((s.epoch + 2 ^ 48 - 4200) % 2 ^ 48)
  else blk [armMove, armsApply, frameAged])

/-! ### RACK_I, SUMMARY, RIPPLE, DIGEST (R353, R354) -/

def rackIRx (port : Nat) (p : Pkt) : Prog :=
  whenS (·.isWrk) (rxPkt port 0x31 p (estRackI (bits64 (pw p 0) 16 48) (signed 32 (bits64 (pw p 1) 0 32))))

def rackISend (e : Nat) (ma : Int) : Prog := whenS (·.isMgr) (sendPkt 0x3F 0x31 [e * 65536, unsigned 32 ma])

/-- SUMMARY, within 10 ms of a whole second and stamped with it (R331, R354). -/
def summarySend : Prog :=
  whenS (fun s => s.isWrk && s.enumerated && !later s.epoch (s.second + 10000)) (.dyn fun s =>
    let x := s.estSummary (s.f RING_SELF_INDEX)
    sendPkt 0 0x32 [x.epoch * 65536, x.d * 2 ^ 32 + x.c % 2 ^ 32,
      x.lo * 2 ^ 47 + x.loCell * 2 ^ 42 + x.hi * 2 ^ 25 + x.hiCell * 2 ^ 20 + x.flags])

def summaryRx (port : Nat) (p : Pkt) : Prog :=
  rxPkt port 0x32 p (whenS (·.isMgr) (estSummaryRx ⟨p.src, bits64 (pw p 0) 16 48, bits64 (pw p 1) 32 32, bits64 (pw p 1) 0 32,
    bits64 (pw p 2) 47 17, bits64 (pw p 2) 42 5, bits64 (pw p 2) 25 17, bits64 (pw p 2) 20 5, bits64 (pw p 2) 0 3⟩))

/-- A RIPPLE packet's window, map and currents (R354). -/
def ripplePktRx (port : Nat) (p : Pkt) (use : Nat → Nat → List Phasor → Prog) : Prog :=
  whenS (·.isWrk) (rxPkt port 0x30 p (use (bits64 (pw p 0) 16 48) (bits64 (pw p 1) 0 28)
    ((List.range 28).map fun i => ⟨signed 32 (bits64 (pw p (2 + i)) 32 32), signed 32 (bits64 (pw p (2 + i)) 0 32)⟩)))

def rippleSend (start map : Nat) (cur : List Phasor) : Prog :=
  sendPkt 0x3F 0x30 ([start * 65536, map] ++ (List.range 28).map fun i =>
    unsigned 32 (cur.getD i ⟨0, 0⟩).re * 2 ^ 32 + unsigned 32 (cur.getD i ⟨0, 0⟩).im)

/-- The digest over frames, by epoch and CRC-32 (R353). -/
def digestOf (key : Nat) (l : List (Nat × Nat)) : Nat :=
  tagOf key ((l.mergeSort fun x y => x.1 ≤ y.1).flatMap fun x => Sha.leBytes x.2)

/-- DIGEST (R353): the packet's blocks are not stated; here the end of the millisecond, the number of frames, the digest. (DEDUCED, log entry 66) -/
def digestSend : Prog :=
  whenS (fun s => s.isWrk && s.enumerated && s.epoch % 1000 == 0) (.dyn fun s =>
    let l := s.eng.ring.sent.filter fun x => !later s.epoch (x.1 + 1000) && later s.epoch x.1
    sendPkt 0 0x34 [s.epoch * 65536, l.length, digestOf (s.keyWith 0) l])

/-- The manager checks a digest against the frames it holds. -/
def digestRx (port : Nat) (p : Pkt) : Prog :=
  rxPkt port 0x34 p (whenS (·.isMgr) (.dyn fun s =>
    let e := bits64 (pw p 0) 16 48
    let l := (s.eng.ring.rx.filter fun x => x.1 == p.src && !later e (x.2.1 + 1000) && later e x.2.1).map Prod.snd
    if l.length == pw p 1 then
      (if digestOf (s.keyWith p.src) l == pw p 2 then incSat RING_CNT_DIGEST_DIG_OK else .seq (ringEvent 7) (ringMsg 2 p.src))
    else incSat RING_CNT_DIGEST_DIG_SKIP))

def ringCmd (op port : Nat) : Prog :=
  match op with
  | 1 => ifS (·.isMgr) (accepted RING_CMD 8 ringEnum) .skip
  | 2 => ringRetrain port
  | _ => .skip

/-- AUTO_ENUM (R346): both ports are UP, or one has been for 100 ms. -/
def autoEnum : Prog :=
  whenS (fun s => s.isMgr && s.eng.ring.autoDue && !s.weldDown && s.b RING_CFG_AUTO_ENUM && s.accepts 8 &&
      (s.portUp 0 && s.portUp 1 || [0, 1].any fun p => s.portUp p && s.eng.ring.upAt.getD p 0 + 100000 ≤ s.now)) ringEnum

end Sys2Proof.Machine
end

