-- ==== Sys2Proof/Machine/Epoch.lean ====
section
/-!
DEFINITION. Epochs (17_epochs_and_coherence.md, R363-R392): distribution and alignment, read brackets, staged commit.
-/
namespace Sys2Proof.Machine

def epochEng (g : EpochEng → EpochEng) : Prog := eng fun e => { e with epoch := g e.epoch }

def epochEvent (k : Nat) : Prog := event (EPOCH_EVT_RAW_EVENTS.bit k)

/-- A message of the epoch unit (R389): 0 unlock, 1 step, 2 in doubt. -/
def epochMsg (kind : Nat) : Prog := send pgEPOCH 0 kind 0

/-- R365: at an RTC second boundary. -/
def epochRtc (sec : Nat) : Prog := .dyn fun s =>
  .seq (set EPOCH_RTC_SEC sec) (setEpoch EPOCH_RTC_EP_LO_EPOCH EPOCH_RTC_EP_HI_EPOCH s.epoch)

/-- A read of EPOCH_NOW_LO captures the high bits (R364). -/
def epochCapture : Prog := .dyn fun s =>
  .seq (set EPOCH_NOW_LO_EPOCH (s.epoch % 2 ^ 32)) (set EPOCH_NOW_HI_EPOCH (s.epoch / 2 ^ 32))

/-! ### Distribution and alignment (R356, R366-R370) -/

/-- EPOCH block content (R339): epoch, rack floor, contactors-open flag. -/
def epochBlock (e floor : Nat) (co : Bool) : Nat := e * 2 ^ 16 + floor % 8 * 2 ^ 13 + b2n co * 2 ^ 12 + 0x33

def epochBlockSend : Prog :=
  whenS (fun s => s.isMgr && s.eng.epoch.running && s.epoch % 64 == 0) (.dyn fun s =>
    forEach ([0, 1].filter s.portUp) fun p => tx (.block p 0x33 (epochBlock s.epoch (s.f MODE_FLOOR_RACK) s.coFlag)))

def syncTo (v : Nat) : Prog := .seq (set EPOCH_STATUS_SYNC v) (setB CLK_STATUS_TICK_LOCK (v == 2))

/-- LOCKED to HOLDOVER (R370). -/
def syncLoss : Prog :=
  whenS (fun s => s.f EPOCH_STATUS_SYNC == 2) (blk [syncTo 3, epochEvent 1, incSat EPOCH_SYNC_CNT_UNLOCKS, epochMsg 0])

/-- A step of the count to phase 0 (R369); `phi` is in picoseconds, positive where the worker's tick is late. -/
def epochStep (phi : Int) : Prog :=
  blk [epochEng fun e => { e with
      count := unsigned 48 ((e.count : Int) + rndDiv phi 1000000) },
    epochEvent 2, incSat EPOCH_SYNC_CNT_STEPS, epochMsg 1]

/-- Strobe error in picoseconds (R368). -/
def sigmaOf (phi : Int) (fine : Nat) : Int := phi + rndDiv (((fine : Int) - 1280) * 390625) 1000

/-- FINE that a block asks for (R368); the strikes approach it (R224). -/
def fineOf (phi : Int) : Nat := (clampInt 0 2559 (1280 - rndDiv (phi * 1000) 390625)).toNat

/-- A steering value in 0.001 ppm (R17): one outside the range saturates at the nearer limit and sets STEER_LIMIT. -/
def steerTo (lim v : Int) : Prog :=
  .seq (setI CLK_STEER_STEER (clampInt (-lim) lim v)) (whenB (v < -lim || lim < v) (event CLK_EVT_RAW_STEER_LIMIT))

/-- Steering (R17, R368): the loop's coefficients are not stated, so what it asks for is open; what is applied stays within ±200 ppm. (DEDUCED,
log entry 89) -/
def workerSteer : Prog := withFree fun n => steerTo 200000 ((n % 1048577 : Nat) - 524288)

/-- One EPOCH block on the arm's port with the path delay known (R368-R370). -/
def syncBlock (phi : Int) : Prog := .dyn fun s =>
  let sg := sigmaOf phi (s.f AFE_STROBE_FINE)
  let near := if sg.natAbs ≤ 1000 && phi.natAbs ≤ 400000 then s.eng.epoch.near + 1 else 0
  let far := if 4000 < sg.natAbs then s.eng.epoch.far + 1 else 0
  let sy := s.f EPOCH_STATUS_SYNC
  blk [setI EPOCH_ERR_SIGMA (rndDiv sg 10), setI EPOCH_ERR_PHI (rndDiv phi 1000), workerSteer,
    afeEng (fun e => { e with fine := fineOf phi }), epochEng fun e => { e with
      near := min 16 near
      far := min 4 far },
    if sy == 2 && 4 ≤ far then syncLoss
    else if sy != 2 && 16 ≤ near then
      blk [syncTo 2, epochEvent 0, epochEng fun e => { e with lockedUp := true }]
    else .skip,
    whenB (sy != 2 && 400000 < phi.natAbs) (syncTo 1),
    whenB (400000 < phi.natAbs || (!s.eng.epoch.lockedUp && near < 16 && phi != 0)) (epochStep phi)]

/-- An EPOCH block arrives at `port` (R81, R368): its epoch is the expected tick's; `phi` is the phase measured. (DEDUCED, log entry 89) -/
def epochBlockRx (port floor : Nat) (co : Bool) (e : Nat) (phi : Int) : Prog :=
  whenS (fun s => s.isWrk && s.portUp port)
    (blk [whenS (fun s => s.portUp (1 - port)) (tx (.block (1 - port) 0x33 (epochBlock e floor co))), takeFloor floor co,
      whenS (fun s => port == s.outPort)
        (.seq (.dyn fun s => epochEng fun e => { e with blockAt := s.now }) (whenS (fun s => s.b EPOCH_PATH_VALID) (syncBlock phi)))])

/-- No EPOCH block for 1,024 µs (R370). -/
def State.blocksLost (s : State) : Bool := s.eng.epoch.blockAt + 1024 ≤ s.now

/-- A LOCKED worker without EPOCH blocks or without its path delay is in HOLDOVER (R370); without blocks its rack floor is held (R81). (DEDUCED,
log entry 89) -/
def syncTimeout : Prog :=
  whenS (·.isWrk) (.seq (whenS (fun s => s.blocksLost || !s.b EPOCH_PATH_VALID) syncLoss)
    (whenS (fun s => s.blocksLost && 3 ≤ s.mode) (set MODE_FLOOR_RX_STALE 1)))

/-- D_path of a worker (R367) from the link delays in 1/16 UI: of links 0 to p - 1 on arm A, of links p to M on arm B. -/
def pathDelay (m p arm : Nat) (links : List Nat) : Nat :=
  let ks := if arm == 0 then List.range p else (List.range (m + 1)).filter (p ≤ ·)
  (ks.map fun k => links.getD k 0).foldl (· + ·) 0 + (ks.length - 1) * 3072

/-- A new path delay arrives at the worker (R367). -/
def pathWrite (w : Word) : Prog :=
  blk [set EPOCH_PATH_VALID (getBits w 31 1), set EPOCH_PATH_DLY (getBits w 0 20), set EPOCH_STATUS_PATH_VALID (getBits w 31 1), epochEvent 12]

/-! ### Mirror packets (R376) -/

/-- A REG_RD or REG_WR to worker `w` (0: broadcast) with its session level. -/
def sendReg (kind w addr level use j : Nat) (words : List Nat) (count : Nat) : Prog := .dyn fun s =>
  let t := (s.eng.epoch.tid + 1) % 65536
  let pairs := (List.range ((words.length + 1) / 2)).map fun k => words.getD (2 * k) 0 + words.getD (2 * k + 1) 0 * 2 ^ 32
  .seq (epochEng fun e => { e with
      tid := t
      mir := e.mir ++ [⟨t, w, addr, count, use, j, s.now, false⟩] })
    (sendPkt (if w == 0 then 0x3F else w) kind ((addr * 2 ^ 32 + count * 2 ^ 24 + level * 2 ^ 20 + t) :: pairs))

/-- Arm of worker `w` as the manager's map gives it, and the port that its arm's EPOCH blocks arrive on (R347). -/
def State.armNow (s : State) (w : Nat) : Nat := b2n (bitOf (s.f RING_MAP_B_MAP) (w - 1))
def State.epochPort (s : State) (w : Nat) : Nat := 1 - s.armNow w

/-- The manager starts to read the delay of every link at the end that its arm's EPOCH blocks arrive on (R367). -/
def pathAsk : Prog :=
  whenS (·.isMgr) (.dyn fun s =>
    .seq (epochEng fun e => { e with
        links := []
        pathDue := false })
      (forEach s.liveWorkers fun w => sendReg 0x10 w (RING_P_DLY (s.epochPort w)) 3 4 (s.epochPort w) [] 1))

/-- The delay of link `k` of an arm: arm A's is measured at worker k + 1, arm B's at worker k (R367). -/
def State.linkRead (s : State) (arm k : Nat) : Option Nat :=
  (s.eng.epoch.links.find? fun x => x.1 == (1 - arm, if arm == 0 then k + 1 else k)).map Prod.snd

/-- The links between the manager and worker `w`, by number (R367). -/
def State.pathLinks (s : State) (w : Nat) : List (Option Nat) :=
  let m := s.f RING_ENUM_M
  (if s.armNow w == 0 then List.range w else (List.range (m + 1)).filter (w ≤ ·)).map (s.linkRead (s.armNow w))

/-- The manager writes a worker's EPOCH_PATH (R367). -/
def pathUpdate (w : Nat) : Prog := .dyn fun s =>
  let m := s.f RING_ENUM_M
  let links := (List.range (m + 1)).map fun k => (s.linkRead (s.armNow w) k).getD 0
  sendReg 0x11 w EPOCH_PATH 3 3 0 [2 ^ 31 + pathDelay m w (s.armNow w) links % 2 ^ 20] 1

/-- Worker `w` answers with the delay measured at its port `p`: every path that this completes is written (R367). -/
def pathLearn (p w dly : Nat) : Prog :=
  .seq (epochEng fun e => { e with links := ((p, w), dly) :: e.links.filter (·.1 != (p, w)) }) (.dyn fun s =>
    forEach (s.liveWorkers.filter fun x => s.epochPort x == p && (if p == 1 then w ≤ x else x ≤ w) && (s.pathLinks x).all Option.isSome) pathUpdate)

/-- Within 5 ms of an ENUM_DONE, an ARMS_CHG or a port's return to UP (R367): here in the next microsecond. (DESIGN CHOICE, log entry 141) -/
def pathUs : Prog := whenS (fun s => s.isMgr && s.eng.epoch.pathDue && s.eng.ring.enumOut == 0 && !s.weldDown) pathAsk

/-! ### Read brackets (R372-R375) -/

def brkResult (r : Nat) : Prog := set EPOCH_BRK_STATUS_RESULT r

/-- A bracket opens at `e` over `pages` (R373). -/
def bracketOpen (e pages : Nat) (rack snap : Bool) : Prog :=
  blk [epochEng fun x => { x with
      brk := 1
      brkE := e
      brkPages := pages
      brkSnap := snap
      brkRack := rack
      older := [] },
    set EPOCH_STATUS_BRK_OPEN 1, brkResult 1, set EPOCH_BRK_MAP_MAP 0, incSat EPOCH_CNT_BRACKETS,
    whenB rack (.dyn fun s =>
      .seq (sendReg 0x11 0 EPOCH_BRK_PG_LO 3 1 0
          [pages % 2 ^ 32, pages / 2 ^ 32, e % 2 ^ 32, s.f EPOCH_BRK_EP_HI_TMO * 2 ^ 16 + e / 2 ^ 32] 4)
        (sendReg 0x11 0 EPOCH_CMD 3 1 1 [0xE9C00001] 1))]

/-- The epoch a bracket chooses (R373). -/
def State.autoEpoch (s : State) (rack : Bool) : Nat := next64 (s.epoch + if rack then 100 else 10)

/-- BRK_OPEN (R373): NOT_MANAGER, BUSY and LATE are judged in that order. (DESIGN CHOICE, log entry 139) -/
def brkOpen : Prog := .dyn fun s =>
  let rack := s.b EPOCH_BRK_EP_HI_SCOPE
  let e0 := s.f EPOCH_BRK_EP_LO_EPOCH + 2 ^ 32 * s.f EPOCH_BRK_EP_HI_EPOCH
  let pages := s.f EPOCH_BRK_PG_LO_PAGES + 2 ^ 32 * s.f EPOCH_BRK_PG_HI_PAGES
  if rack && !s.isMgr then brkResult 6
  else if s.eng.epoch.brk != 0 || s.eng.epoch.snapE.isSome then brkResult 5
  else if e0 == 0 then
    .seq (setEpoch EPOCH_BRK_EP_LO_EPOCH EPOCH_BRK_EP_HI_EPOCH (s.autoEpoch rack)) (bracketOpen (s.autoEpoch rack) pages rack false)
  else if later (s.epoch + if rack then 100 else 10) e0 then brkResult 4
  else bracketOpen e0 pages rack false

/-- The pages of a mask that latch under a bracket (R374). -/
def State.brkTargets (s : State) (mask : Nat) : List Nat :=
  (List.range 40).filter fun p => bitOf mask p && s.present p && hasShd p

/-- E + 2 µs (R372, R374). -/
def brkLatch : Prog :=
  whenS (fun s => s.eng.epoch.brk == 1 && !later (s.eng.epoch.brkE + 2) s.epoch) (.dyn fun s =>
    blk [forEach (s.brkTargets s.eng.epoch.brkPages) bracketLatch, epochEng fun x => { x with brk := 2 }, epochEvent 3])

/-- The bracket closes with RESULT `r` and event `k` (R375). -/
def bracketEnd (r k : Nat) : Prog :=
  whenS (fun s => s.eng.epoch.brk != 0) (.dyn fun s =>
    blk [forEach (s.brkTargets s.eng.epoch.brkPages) fun p => set (shadowFrozen p) 0,
      epochEng fun x => { x with
        brk := 0
        older := []
        brkSnap := false
        brkRack := false },
      set EPOCH_STATUS_BRK_OPEN 0, brkResult r, epochEvent k,
      whenB (s.isMgr && s.eng.epoch.brkRack) (sendReg 0x11 0 EPOCH_CMD 3 1 0 [0xE9C00002] 1)])

/-- EPOCH_CMD OP = BRK_CLOSE (R375). -/
def brkClose : Prog := bracketEnd 2 4

/-- TMO milliseconds after E (R375). -/
def brkTimeout : Prog :=
  whenS (fun s => s.eng.epoch.brk != 0 && !later (s.eng.epoch.brkE + 1000 * s.f EPOCH_BRK_EP_HI_TMO) s.epoch) (bracketEnd 3 5)

/-! ### Snapshots: the start (R379) -/

def State.snapPages (s : State) : List Nat := [s.f EPOCH_SNAP_PG_PAGE0, s.f EPOCH_SNAP_PG_PAGE1, s.f EPOCH_SNAP_PG_PAGE2]

/-- Members of a snapshot: 0 is this device (R379). -/
def State.snapMembers (s : State) : List Nat :=
  if !s.isMgr then [0]
  else (if s.b EPOCH_SNAP_CFG_MGR then [0] else []) ++
    (if s.f EPOCH_SNAP_MEM_MAP == 0 then s.liveWorkers else (List.range 32).map (· + 1) |>.filter fun w => bitOf (s.f EPOCH_SNAP_MEM_MAP) (w - 1))

/-- A snapshot is commanded or falls due (R379). -/
def snapStart : Prog := .dyn fun s =>
  if s.eng.epoch.brk != 0 || s.eng.epoch.snapE.isSome then set EPOCH_SNAP_STATUS_RESULT 3
  else
    let e := s.autoEpoch s.isMgr
    let pages := (s.snapPages.filter (· < 40)).foldl (fun m p => m ||| 2 ^ p) 0
    blk [epochEng fun x => { x with
        snapE := some e
        snapWant := s.snapMembers
        snapGot := []
        snapBuf := if x.snapSeq == 0 then 0 else 1 - s.f EPOCH_SNAP_STATUS_BUF },
      set EPOCH_STATUS_SNAP_BUSY 1, bracketOpen e pages s.isMgr true]

/-! ### Staged commit (R382-R388) -/

def cmState (v : Nat) : Prog := set EPOCH_STATUS_CM_STATE v

def cmOut (w : Nat) : Fld := EPOCH_CM_OUT_OUT ((w - 1) / 8) ((w - 1) % 8)

/-- The pages of a mask that have STG registers, in this role (R382). -/
def State.stgTargets (s : State) (mask : Nat) : List Nat :=
  (List.range 40).filter fun p => bitOf mask p && s.present p && hasStg p

/-- Named pages take HELD, and the hold is recorded (R382, R383). -/
def holdTake (h : CmHold) : Prog := .dyn fun s =>
  .seq (forEach (s.stgTargets h.pages) fun p => set (stageHeld p) 1)
    (epochEng fun e => { e with holds := e.holds ++ [h] })

/-- A hold ends with its pages still staged: OUTCOME `o`, where given (R385, R386). -/
def holdDrop (h : CmHold) (o : Option Nat) : Prog := .dyn fun s =>
  .seq (forEach (s.stgTargets h.pages) fun p =>
      .seq (set (stageHeld p) 0) (match o with | some v => set (stageOutcome p) v | none => .skip))
    (epochEng fun e => { e with holds := e.holds.filter (· != h) })

def ackData (e id phase code : Nat) : List Nat := [e * 2 ^ 16 + id * 2 ^ 8 + phase * 2 ^ 4 + code]

/-- PREPARE (R382). -/
def cmPrepare : Prog := .dyn fun s =>
  let e := s.f EPOCH_CM_EP_LO_EPOCH + 2 ^ 32 * s.f EPOCH_CM_EP_HI_EPOCH
  let rack := s.b EPOCH_CM_EP_HI_SCOPE
  let pages := s.f EPOCH_CM_PG_LO_PAGES + 2 ^ 32 * s.f EPOCH_CM_PG_HI_PAGES
  let id := (s.f EPOCH_CM_EP_HI_ID + 1) % 256
  let mem := if !rack then [] else if s.f EPOCH_CM_MEM_MAP == 0 then s.liveWorkers
    else ((List.range 32).map (· + 1)).filter fun w => bitOf (s.f EPOCH_CM_MEM_MAP) (w - 1)
  if later (s.epoch + 200) e then set EPOCH_CM_STATUS_RESULT 2
  else if s.eng.epoch.cm.isSome || s.eng.epoch.holds != [] then set EPOCH_CM_STATUS_RESULT 3
  else if rack && !s.isMgr then set EPOCH_CM_STATUS_RESULT 4
  else blk [set EPOCH_CM_EP_HI_ID id, set EPOCH_CM_STATUS_RESULT 1, cmState 1,
    epochEng fun x => { x with cm := some ⟨id, e, pages, rack, mem, false, false⟩ },
    holdTake ⟨id, e, pages, false, none, false, none⟩,
    forEach ((List.range 32).map (· + 1)) fun w => set (cmOut w) (if mem.contains w then 1 else 0),
    whenB rack (sendPkt 0x3F 0x20 [e * 2 ^ 16 + id * 2 ^ 8, pages, mapOf mem])]

def cmAbort : Prog := epochEng fun x => { x with cm := x.cm.map fun c => if c.decided then c else { c with abort := true } }

/-- The manager enters SAFEHOLD (R384). -/
def cmSafehold : Prog := cmAbort

/-- The commit has ended for the device that started it. -/
def cmEnd : Prog := .seq (epochEng fun x => { x with cm := none }) (whenS (fun s => s.eng.epoch.holds == []) (cmState 0))

/-- Every member of the rack's commit has reported (R387). (DEDUCED, log entry 40) -/
def cmReported : Prog := .dyn fun s => match s.eng.epoch.cm with
  | some c => whenB (c.rack && c.decided && c.mem.all fun w => 5 ≤ s.f (cmOut w)) cmEnd
  | none => .skip

/-- The recorded decision leaves in both directions, at Weld's release where Weld is held in reset (R384). -/
def decSend (id e : Nat) (ok : Bool) : Prog :=
  ifS (fun s => s.eng.boot.cores.getD 2 false)
    (.seq (epochEng fun x => { x with decWait := false }) (sendPkt 0x3F (if ok then 0x22 else 0x23) [e * 2 ^ 16 + id * 2 ^ 8]))
    (epochEng fun x => { x with decWait := true })

/-- Weld runs again. -/
def decResume : Prog := whenS (fun s => s.eng.epoch.decWait) (.dyn fun s => match s.eng.epoch.lastDec with
  | some (id, e, ok) => decSend id e ok
  | none => .skip)

/-- E − 50 µs (R384, R387). (DEDUCED, log entry 40) -/
def cmDecide : Prog := .dyn fun s => match s.eng.epoch.cm with
  | none => .skip
  | some c =>
    let own := s.eng.epoch.holds.find? fun h => h.id == c.id && !h.rack
    let ok := own.isSome && !c.abort && c.mem.all fun w => s.f (cmOut w) == 2
    whenB (!c.decided && !later c.e (s.epoch + 50)) (blk [
      set EPOCH_CM_STATUS_RESULT (if ok then 5 else 6), cmState 2, incSat (if ok then EPOCH_CNT_COMMITS else EPOCH_CNT_ABORTS),
      epochEng fun x => { x with
        cm := some { c with decided := true }
        lastDec := some (c.id, c.e, ok) },
      forEach (c.mem.filter fun w => s.f (cmOut w) == 1) (fun w => set (cmOut w) 4),
      whenB c.rack (decSend c.id c.e ok),
      if ok then epochEng fun x => { x with holds := x.holds.map fun h =>
        if h.id == c.id && !h.rack then { h with apply := some (c.e, 1) } else h }
      else .seq (match own with | some h => holdDrop h (some 2) | none => .skip) (.seq (epochEvent 9) (if c.rack then cmReported else cmEnd))])

/-- A worker receives PREPARE (R383). -/
def prepareRx (port : Nat) (p : Pkt) : Prog :=
  whenS (·.isWrk) (rxPkt port 0x20 p (.dyn fun s =>
    let e := bits64 (pw p 0) 16 48
    let id := bits64 (pw p 0) 8 8
    let pages := bits64 (pw p 1) 0 40
    let vote := if (s.stgTargets pages).any fun q => s.b (stageHeld q) then 1
      else if later (s.epoch + 50) e then 2 else if s.mode == 2 || s.mode == 6 then 3 else 0
    whenB (bitOf (pw p 2) (s.f RING_SELF_INDEX - 1))
      (.seq (.seq (epochEng fun x => { x with named := some id }) <| whenB (vote == 0) (.seq (holdTake ⟨id, e, pages, true, none, false, none⟩) (cmState 1))) (sendPkt 0 0x21 (ackData e id 0 vote)))))

/-- The manager receives an ACK (R383, R387, R388). (DEDUCED, log entry 40) -/
def ackRx (port : Nat) (p : Pkt) : Prog :=
  rxPkt port 0x21 p (whenS (·.isMgr) (.dyn fun s =>
    let id := bits64 (pw p 0) 8 8
    let phase := bits64 (pw p 0) 4 4
    let code := bits64 (pw p 0) 0 4
    let w := p.src
    whenB (1 ≤ w && w ≤ 32 && id == s.f EPOCH_CM_EP_HI_ID)
      (if phase == 0 then
        whenB (s.eng.epoch.cm.any fun c => !c.decided && c.mem.contains w) (set (cmOut w) (if code == 0 then 2 else 3))
      else whenB (s.f (cmOut w) != 0) (.seq (match code with
          | 1 => set (cmOut w) 5 | 2 => set (cmOut w) 6 | 3 => set (cmOut w) 7 | 4 => set (cmOut w) 8 | 5 => set (cmOut w) 9
          | 6 => set (cmOut w) 8 | _ => .skip) cmReported))))

def State.holdOf (s : State) (id : Nat) : Option CmHold := s.eng.epoch.holds.find? fun h => h.id == id && h.rack

/-- A member receives COMMIT (R385, R388). -/
def commitRx (port : Nat) (p : Pkt) : Prog :=
  whenS (·.isWrk) (rxPkt port 0x22 p (.dyn fun s =>
    let e := bits64 (pw p 0) 16 48
    let id := bits64 (pw p 0) 8 8
    let recon := bitOf (pw p 0) 0
    let go (h : CmHold) (x : Nat × Nat) : Prog := .seq (cmState 2) (epochEng fun y => { y with
      holds := y.holds.map fun k => if k == h then { h with apply := some x } else k })
    match s.holdOf id with
    | some h =>
      if recon then go h (e, 5)
      else if h.apply.isSome then .skip
      else if later h.e s.epoch then go h (h.e, 1)
      else whenB (!later s.epoch (h.e + 10050)) (go h (next64 (s.epoch + 2), 2))
    | none => whenB recon (sendPkt 0 0x21 (ackData e id 1 6))))

/-- A member receives ABORT (R385, R388): one that the PREPARE of this ID named reports, whatever its vote, and one that is asked alone. -/
def abortRx (port : Nat) (p : Pkt) : Prog :=
  whenS (·.isWrk) (rxPkt port 0x23 p (.dyn fun s =>
    let e := bits64 (pw p 0) 16 48
    let id := bits64 (pw p 0) 8 8
    .seq (match s.holdOf id with
        | some h => blk [holdDrop h (some 2), epochEvent 9, incSat EPOCH_CNT_ABORTS, cmState 0]
        | none => .skip)
      (whenB (p.dst != 0x3F || s.eng.epoch.named == some id || (s.holdOf id).isSome) (sendPkt 0 0x21 (ackData e id 1 3)))))

/-- A page's staged values apply (R61), those of EST from the next update on (R334); a change of BAL_POLICY.MODE turns the outputs off (R282). -/
def pageApply (p : Nat) : Prog := .dyn fun s =>
  .seq (if p == pgEST then .seq estCommit (stageDone p) else stageApply p) (whenS (fun t => t.f BAL_POLICY_MODE != s.f BAL_POLICY_MODE) balModeChange)

/-- The pages of the holds that are due apply (R385). -/
def cmApply : Prog := .dyn fun s =>
  forEach (s.eng.epoch.holds.filter fun h => h.apply.any fun x => !later x.1 s.epoch) fun h => .dyn fun t =>
    blk [forEach (t.stgTargets h.pages) pageApply, epochEng fun x => { x with holds := x.holds.filter (· != h) }, epochEvent 8,
      if h.rack then blk [cmState 0, incSat EPOCH_CNT_COMMITS, sendPkt 0 0x21 (ackData h.e h.id 1 ((h.apply.map Prod.snd).getD 1))]
      else if t.eng.epoch.cm.any fun c => c.rack then cmReported else cmEnd]

/-- The manager answers a QUERY (R386). -/
def queryRx (port : Nat) (p : Pkt) : Prog :=
  rxPkt port 0x24 p (whenS (·.isMgr) (.dyn fun s => match s.eng.epoch.lastDec with
    | some (id, e, ok) => whenB (bits64 (pw p 0) 8 8 == id) (sendPkt p.src (if ok then 0x22 else 0x23) [e * 2 ^ 16 + id * 2 ^ 8])
    | none => .skip))

/-- Holds of the ring without a decision. -/
def State.waiting (s : State) : List CmHold := s.eng.epoch.holds.filter fun h => h.rack && h.apply.isNone && !h.doubt

/-- E + 50 µs and every 1 ms after (R386). -/
def cmQuery : Prog := .dyn fun s =>
  forEach (s.waiting.filter fun h => !later (h.e + 50) s.epoch && h.asked.all fun t => !later (t + 1000) s.epoch) fun h =>
    blk [epochEng fun x => { x with holds := x.holds.map fun k => if k == h then { h with asked := some s.epoch } else k },
      cmState 3, sendPkt 0 0x24 [h.e * 2 ^ 16 + h.id * 2 ^ 8]]

/-- E + 10.05 ms (R386). -/
def cmInDoubt : Prog := .dyn fun s =>
  forEach (s.waiting.filter fun h => !later (h.e + 10050) s.epoch) fun h => .dyn fun t =>
    blk [forEach (t.stgTargets h.pages) (fun p => set (stageOutcome p) 3),
      epochEng fun x => { x with holds := x.holds.map fun k => if k == h then { h with doubt := true } else k },
      cmState 4, epochEvent 10, incSat EPOCH_CNT_INDOUBTS, epochMsg 2, sendPkt 0 0x21 (ackData h.e h.id 1 4)]

/-- HOLD seconds after (R386). -/
def cmHoldEnd : Prog := .dyn fun s =>
  forEach (s.eng.epoch.holds.filter fun h =>
    h.doubt && h.apply.isNone && !later (h.e + 10050 + 1000000 * s.f EPOCH_CM_CFG_HOLD) s.epoch) fun h => .seq (holdDrop h none) (cmState 0)

/-- E + 20 ms (R387). -/
def cmDeadline : Prog := .dyn fun s => match s.eng.epoch.cm with
  | some c => whenB (c.rack && c.decided && !later (c.e + 20000) s.epoch)
      (.seq (forEach (c.mem.filter fun w => s.f (cmOut w) < 5) fun w => set (cmOut w) 10) cmEnd)
  | none => .skip

/-- RECONCILE (R388). -/
def cmReconcile : Prog := .dyn fun s => match s.eng.epoch.lastDec with
  | some (id, e, ok) =>
    forEach (((List.range 32).map (· + 1)).filter fun w => s.f (cmOut w) == 8 || s.f (cmOut w) == 10) fun w =>
      if ok then sendPkt w 0x22 [next64 (s.epoch + 200) * 2 ^ 16 + id * 2 ^ 8 + 1] else sendPkt w 0x23 [e * 2 ^ 16 + id * 2 ^ 8]
  | none => .skip

def epochCmd (op : Nat) : Prog :=
  match op with
  | 1 => brkOpen | 2 => brkClose | 3 => snapStart | 4 => accepted EPOCH_CMD 7 cmPrepare | 5 => cmAbort | 6 => cmReconcile | _ => .skip

/-! ### Resets (R363, R390) -/

/-- The count starts at 0 once the main PLL has locked at bring-up (R363). -/
def epochGo : Prog := epochEng fun e => { e with
  count := 0
  running := true }

end Sys2Proof.Machine
end

