-- ==== Sys2Proof/Machine/Cap.lean ====
section
/-!
DEFINITION. Waveform capture (18_rack_services.md, R410-R414, R426).
-/
namespace Sys2Proof.Machine

def capEng (g : CapEng → CapEng) : Prog := eng fun e => { e with cap := g e.cap }

def capEvent (k : Nat) : Prog := event (CAP_EVT_RAW_EVENTS.bit k)

/-- CAP_STATUS.STATE: 0 IDLE, 1 ARMED, 2 POST, 3 SETTLE, 4 HELD. -/
def State.capState (s : State) : Nat := s.f CAP_STATUS_STATE

/-- Start and size in bytes of the buffer in use: the rack capture assembly, or the local capture buffer (R410). -/
def State.capBuf (s : State) : Nat × Nat := if s.b CAP_STATUS_RACK then (0x22000000, 0x100000) else (0x21000000, 0x7F000)

def State.capRecords (s : State) : Nat := if s.b CAP_STATUS_RACK then 8192 else 4064

/-- Record `k`: a frame's words and word 18 (R410). -/
def capRecord (k : Nat) (f : Frame) (stored : Bool) : Prog := .dyn fun s =>
  forEach ((frameWords f ++ [b2n stored * 2 ^ 30]).zipIdx) fun x => setWordN (s.capBuf.1 + 128 * k + 4 * x.2) x.1

/-- Every record of physical slot `j` is written EMPTY with epoch `e` (R410). (DEDUCED, log entry 84) -/
def capEmpty (j e : Nat) : Prog := .dyn fun s =>
  let c := s.eng.cap
  forEach c.members.zipIdx.reverse fun x => capRecord (j * c.members.length + x.2) ⟨e, x.1, 0, List.replicate 32 0x8000⟩ false

/-- Slot `k` is entered: every record of it is written EMPTY (R411). -/
def capEnter (k : Nat) : Prog := .dyn fun s => capEmpty (k % s.eng.cap.slots) (k * s.eng.cap.stride)

/-- An accepted frame while the ring runs (R411, R413). -/
def capFrame (f : Frame) : Prog := .dyn fun s =>
  let c := s.eng.cap
  let k := f.epoch / c.stride
  let lim : Bool := s.capState == 1 || k ≤ c.trig + c.post
  match c.members.findIdx? (· == f.index) with
  | some j =>
    whenB (1 ≤ s.capState && s.capState ≤ 3 && f.epoch % c.stride == 0 && lim && 0 < c.slots)
      (blk [upTo (min c.slots (k - c.top)) (fun i => capEnter (k - i)), capEng fun e => { e with top := max e.top k },
        whenB (c.top < k + c.slots) (capRecord (k % c.slots * c.members.length + j) f true)])
  | none => .skip

/-- Sources fire together at epoch `t` (R412): `src` has the bits of CAP_TRIG, bit 7 for FORCE. -/
def capFire (src t : Nat) : Prog := .dyn fun s =>
  let at' := if s.isMgr then src else src &&& 0b10100001
  let en := at' &&& (s.eng.cap.en ||| 0x80)
  if en == 0 then .skip
  else if s.capState == 1 then
    blk [set CAP_STATUS_STATE 2, setEpoch ⟨CAP_TRIG_EP_LO, 0, 32⟩ CAP_TRIG_EP_HI_EPOCH t, set CAP_TRIG_EP_HI_SRC en,
      capEng fun e => { e with trig := t / e.stride }, capEvent 0]
  else whenB (2 ≤ s.capState) (.seq (incSat CAP_CNT_MISSED) (capEvent 2))

/-- A source of the manager's own, at the present epoch. -/
def capSource (src : Nat) : Prog := .dyn fun s => capFire src s.epoch

/-- The level trigger on a frame of MEMBER (R412). -/
def capLevel (f : Frame) : Prog := .dyn fun s =>
  let lv := s.i CAP_LVL_LEVEL
  let fall := s.b CAP_LVL_EDGE
  match frameVal f (s.f CAP_LVL_CH) with
  | some v =>
    whenB (f.index == s.f CAP_LVL_MEMBER)
      (.seq (whenB (s.eng.cap.prev.any fun p => if fall then lv < p && v ≤ lv else p < lv && lv ≤ v) (capFire 1 f.epoch))
        (capEng fun e => { e with prev := some v }))
  | none => .skip

/-- P × D of a member (R349, R411). -/
def State.memberStep (s : State) (w : Nat) : Nat :=
  if !s.isMgr || w == 0 then s.period.getD 1
  else s.f (ROSTER_W_INFO_P w) * 2 ^ (if bitOf (s.f RING_MAP_B_MAP) (w - 1) then s.f RING_ARMS_DB else s.f RING_ARMS_DA)

/-- ARM (R411, R413). (DEDUCED, log entries 84, 85) -/
def capArm : Prog := .dyn fun s =>
  let rack := s.isMgr && s.b CAP_CFG_RACK
  let mem := if rack then
      (if s.b CAP_CFG_MGR then [0] else []) ++ s.liveWorkers.filter fun w => bitOf (s.f CAP_MEM_MAP) (w - 1)
    else [if s.isMgr then 0 else s.f RING_SELF_INDEX]
  let step := mem.foldl (fun m w => max m (s.memberStep w)) 1
  let st := (s.f CAP_CFG_STRIDE + step - 1) / step * step
  .seq (setB CAP_STATUS_RACK rack) (.dyn fun t =>
    let l := t.capRecords / mem.length
    let b := t.capBuf
    blk [.act (.clearMem fun a => !(b.1 ≤ a && a < b.1 + b.2)),
      capEng fun _ => ⟨mem, l, st, min (s.f CAP_CFG_POST) (l - 1), s.f CAP_TRIG_EN, s.epoch / st, 0, none, 0⟩,
      forEach (List.range l).reverse fun j =>
        capEmpty j (unsigned 48 (((s.epoch / st : Nat) - ((s.epoch / st + l - j) % l : Nat) : Int) * st)),
      set CAP_LAYOUT_L l, set CAP_LAYOUT_N mem.length, set CAP_LAYOUT_OLDEST 0, set CAP_STRIDE_S st, set CAP_STATUS_STATE 1])

def capRelease : Prog := whenS (fun s => s.capState == 4) (set CAP_STATUS_STATE 0)

def capAbort : Prog := whenS (fun s => 1 ≤ s.capState && s.capState ≤ 3) (.seq (set CAP_STATUS_STATE 0) (capEvent 3))

/-- Slot k_T + POST is complete. -/
def capPostDone : Prog :=
  whenS (fun s => s.capState == 2 && !later ((s.eng.cap.trig + s.eng.cap.post) * s.eng.cap.stride) s.epoch)
    (.dyn fun s => .seq (set CAP_STATUS_STATE 3) (capEng fun e => { e with settleAt := s.epoch }))

/-- 4,200 µs of SETTLE are over. -/
def capSettled : Prog :=
  whenS (fun s => s.capState == 3 && !later (s.eng.cap.settleAt + 4200) s.epoch) (.dyn fun s =>
    let c := s.eng.cap
    blk [set CAP_STATUS_STATE 4, set CAP_LAYOUT_OLDEST ((c.trig + c.post + 1) % c.slots), capEvent 1, incSat CAP_CNT_CAPTURES])

def capCmd (op : Nat) : Prog :=
  match op with
  | 1 => accepted CAP_CMD 5 capArm | 2 => capSource 0x80 | 3 => capRelease | 4 => capAbort | _ => .skip

end Sys2Proof.Machine
end

