-- ==== Sys2Proof/Machine/Rack.lean ====
section
/-!
DEFINITION. Rack services at the manager (18_rack_services.md, R393-R409): the stream processor, the roster, rack means and
limits, the series-arc detector, the insulation monitor.
-/
namespace Sys2Proof.Machine

def rackEng (g : RackEng → RackEng) : Prog := eng fun e => { e with rack := g e.rack }

/-! ### Roster (R395-R398) -/

def rosterEvent (k : Nat) : Prog := event (ROSTER_EVT_RAW_EVENTS.bit k)

def rosterMsg (kind inst : Nat) : Prog :=
  .seq (firstRec ROSTER_FIRST_VALID [(ROSTER_FIRST_KIND, kind), (ROSTER_FIRST_INST, inst)]) (send pgROSTER inst kind 0)

/-- Workers whose entry is in state `st`. -/
def State.rosterIn (s : State) (st : Nat) : List Nat := s.workers.filter fun w => s.f (ROSTER_W_STAT_STATE w) == st

def State.anyClosed (s : State) : Bool := s.f CONT_STATUS_CMD != 0 || s.f CONT_STATUS_SENSED % 4 != 0

/-- Every entry is OK. -/
def State.allOk (s : State) : Bool := s.workers.all fun w => s.f (ROSTER_W_STAT_STATE w) == 1

/-- Some entry is not OK that was (R397). -/
def State.anyBad (s : State) : Bool := s.workers.any fun w => 2 ≤ s.f (ROSTER_W_STAT_STATE w)

/-- The count of R397 runs while some entry is bad and some contactor closed. -/
def blindRun : Prog := .dyn fun s => rackEng fun e => { e with
  blindAt := if s.isMgr && s.anyBad && s.anyClosed then some (e.blindAt.getD s.now) else none }

/-- The maps and counts that follow from the entries (R396, R397). -/
def rosterShow : Prog := .dyn fun s =>
  blk [set ROSTER_MAP_OK_MAP (mapOf (s.rosterIn 1)), set ROSTER_MAP_STALE_MAP (mapOf (s.rosterIn 2)),
    set ROSTER_MAP_MISMATCH_MAP (mapOf (s.rosterIn 5)), set ROSTER_STATUS_NENUM s.workers.length,
    set ROSTER_STATUS_NOK (s.rosterIn 1).length, whenB (s.allOk || !s.anyClosed) (set ROSTER_STATUS_BLIND 0),
    setB ROSTER_STATUS_READMITTING s.eng.rack.readmit.isSome, blindRun]

/-- Entry `w` moves to state `st` (R396); while the ring is in BEACON no entry changes. -/
def rosterTo (w st : Nat) : Prog := .dyn fun s =>
  let old := s.f (ROSTER_W_STAT_STATE w)
  whenB (old != st && s.f RING_STATUS_STATE != 1)
    (blk [set (ROSTER_W_STAT_STATE w) st,
      match st with
      | 1 => whenB (old != 0) (rosterEvent 2)
      | 2 => blk [rosterEvent 0, incSat ROSTER_CNT_STALES, incSat (ROSTER_W_CNT_STALES w), rosterMsg 0 w]
      | 3 => .seq (rosterEvent 1) (rosterMsg 1 w)
      | 5 => .seq (rosterEvent 4) (rosterMsg 2 w)
      | _ => .skip,
      rosterShow])

/-- No STATUS of worker `w` for STALE_T (R396). -/
def State.statusLate (s : State) (w : Nat) : Bool :=
  max s.eng.rack.clearAt (countOf s.eng.rack.statusAt w) + 1000 * s.f ROSTER_CFG_STALE_T ≤ s.now

/-- Worker `w` is shown LOST and is lost no longer. -/
def State.wasLost (s : State) (w : Nat) : Bool := s.f (ROSTER_W_STAT_STATE w) == 3 && !bitOf (s.f RING_MAP_LOST_MAP) (w - 1)

/-- LOST follows RING_MAP_LOST; an entry whose bit clears is OK where its last STATUS is younger than STALE_T (R396). -/
def rosterSync : Prog :=
  whenS (·.isMgr) (.dyn fun s =>
    blk [forEach (s.workers.filter fun w => bitOf (s.f RING_MAP_LOST_MAP) (w - 1) && s.f (ROSTER_W_STAT_STATE w) != 5) fun w => rosterTo w 3,
      forEach (s.workers.filter fun w => s.wasLost w && !s.statusLate w) fun w => rosterTo w 1, rosterShow])

/-- A new enumeration empties the roster. -/
def rosterClear : Prog := whenS (·.isMgr)
  (blk [upTo 32 fun k => blk [setReg (ROSTER_W_STAT (k + 1)) 0, setReg (ROSTER_W_UID_LO (k + 1)) 0, setReg (ROSTER_W_UID_HI (k + 1)) 0],
    .dyn fun s => rackEng fun e => { e with
      seen := []
      readmit := none
      readmitWait := none
      clearAt := s.now
      statusAt := [] }, rosterShow])

def rosterStale (w : Nat) : Prog :=
  whenS (fun s => s.isMgr && s.workers.contains w && (s.f (ROSTER_W_STAT_STATE w) ≤ 1 || s.wasLost w) && (s.portUp 0 || s.portUp 1) && s.statusLate w)
    (rosterTo w 2)

/-- AUTO_ENUM, and what a new enumeration does to the roster. -/
def autoEnumLook : Prog := .dyn fun s => .seq autoEnum (whenS (fun t => t.eng.ring.enumOut != s.eng.ring.enumOut) rosterClear)

/-- BLIND_T has passed (R397). -/
def rosterBlind : Prog :=
  whenS (fun s => s.isMgr && s.f ROSTER_CFG_BLIND_T != 0 && !s.b ROSTER_STATUS_BLIND && s.anyBad && s.anyClosed &&
      s.eng.rack.blindAt.any fun t => t + 1000 * s.f ROSTER_CFG_BLIND_T ≤ s.now)
    (blk [set ROSTER_STATUS_BLIND 1, rosterEvent 5, incSat ROSTER_CNT_BLINDS, rosterMsg 3 0])

/-- STATUS blocks of a worker (R395). -/
def State.statusData (s : State) : List Nat :=
  let any (g : EstCell → Bool) : Nat := b2n ((List.range s.cells).any fun c => g (s.estCell c))
  let tj := max (s.i THM_MAX_T_F) (s.i THM_MAX_T_L)
  [s.epoch * 65536 + s.mode * 2 ^ 13 + s.f FLT_STATUS_HIGH % 8 * 2 ^ 10 + b2n s.eng.cont.loopIn * 512 + b2n s.eng.cont.loopOut * 256 +
      s.f CLK_STATUS_TICK_LOCK * 128 + b2n s.throttled * 64 + s.f KEEP_STATUS_IN_CONTROL * 32 + any (·.unrest) * 16 +
      b2n (s.f CELL_OV_MAP_MAP != 0) * 8 + b2n (s.f CELL_UV_MAP_MAP != 0) * 4 + b2n (s.f AUX_T_MAP_OT != 0) * 2 + b2n (!s.enumerated),
    s.period.getD 0 * 2 ^ 44 + s.f AFE_CFG_NCELL * 2 ^ 32 + unsigned 16 tj * 65536 + s.f THM_STATUS_LEVEL,
    (s.reg IDENT_UID_HI).toNat * 2 ^ 32 + (s.reg IDENT_UID_LO).toNat]

/-- What of a STATUS makes a change (R395). -/
def statusKey (l : List Nat) : List Nat := [l.getD 0 0 % 65536, l.getD 1 0 % 4, l.getD 1 0 / 2 ^ 44]

/-- STATUS is due (R395): at a multiple of 10,000 and after a change; every 100 ms while unenumerated. (DEDUCED,
log entry 123) -/
def State.statusDue (s : State) : Bool :=
  match s.eng.rack.statusSent with
  | none => true
  | some (t, k) => if s.enumerated then (s.epoch % 10000 == 0 && t != s.now) || k != statusKey s.statusData else t + 100000 ≤ s.now

def statusSend : Prog :=
  whenS (fun s => s.isWrk && (s.portUp 0 || s.portUp 1) && s.statusDue) (.dyn fun s =>
    .seq (rackEng fun e => { e with statusSent := some (s.now, statusKey s.statusData) }) <|
    if s.enumerated then sendPkt 0 0x33 s.statusData else weldTx (.pkt 2 ⟨0, 0x3E, 0x33, 0, s.statusData, 0⟩))

/-- Re-admission of worker `w` starts (R398): ENUM_SET to its position; key setup follows.  It waits while Weld is in reset (R416). -/
def readmit (w : Nat) : Prog := .dyn fun s =>
  if !s.eng.boot.cores.getD 2 false then rackEng fun e => { e with readmitWait := some w }
  else blk [rackEng fun e => { e with readmit := some w }, ringEng fun e => { e with keys := e.keys.filter (· != w), sess := e.sess.filter fun x => x.1 != w },
    enumSetSend w, keyTry w (s.f SEC_RING_GEN) 1, rosterShow]

/-- Weld runs again (R416). -/
def readmitResume : Prog := .dyn fun s => match s.eng.rack.readmitWait with
  | some w => .seq (rackEng fun e => { e with readmitWait := none }) (readmit w)
  | none => .skip

/-- The re-admitted worker's key is in force (R398). -/
def readmitDone (w : Nat) : Prog :=
  whenS (fun s => s.eng.rack.readmit == some w)
    (blk [rackEng fun e => { e with readmit := none, seen := [] }, armsSend, rosterTo w 1, rosterEvent 3, incSat ROSTER_CNT_READMITS,
      incSat (ROSTER_W_CNT_READMITS w), rosterShow])

/-- Its key setup failed (R564). -/
def readmitFail (w : Nat) : Prog :=
  whenS (fun s => s.eng.rack.readmit == some w) (.seq (rackEng fun e => { e with readmit := none }) rosterShow)

/-- An unauthenticated STATUS arrives at the manager (R398). -/
def unenumStatus (port hops uid : Nat) : Prog := .dyn fun s =>
  let m := s.f RING_ENUM_M
  let w := if port == 0 then hops + 1 else m - hops
  let known := s.f ⟨ROSTER_W_UID_LO w, 0, 32⟩ + 2 ^ 32 * s.f ⟨ROSTER_W_UID_HI w, 0, 32⟩
  let other := s.eng.rack.seen.any fun x => x.1 == uid && x.2.1 != port && x.2.2 != w
  whenB (1 ≤ w && w ≤ m) (blk [
    rackEng fun e => { e with seen := (uid, port, w) :: e.seen.filter fun x => !(x.1 == uid && x.2.1 == port) },
    if other || known != uid then rosterTo w 5
    else blk [rosterTo w 4, whenB (s.b ROSTER_CFG_READMIT) (whenS (fun t => t.f (ROSTER_W_STAT_STATE w) == 4 && t.eng.rack.readmit.isNone) (readmit w))]])

/-- STATUS arrives (R395, R396). -/
def statusRx (port : Nat) (p : Pkt) : Prog := whenS (fun s => s.portUp port) <| .dyn fun s =>
  if p.src == 0x3E then
    if s.isMgr then unenumStatus port (bits64 (pw p 1) 38 6) (pw p 2)
    else tx (.pkt (1 - port) { p with data := [pw p 0, pw p 1 + 2 ^ 38, pw p 2] })
  else rxPkt port 0x33 p (.dyn fun s =>
    let w := p.src
    let lo := bits64 (pw p 0) 0 16
    let e := bits64 (pw p 0) 16 48
    let first := s.f (ROSTER_W_STAT_STATE w) == 0
    let safe := lo / 2 ^ 13 == 6
    blk [whenB first (.seq (setReg (ROSTER_W_UID_LO w) (pw p 2 % 2 ^ 32)) (setReg (ROSTER_W_UID_HI w) (pw p 2 / 2 ^ 32))),
      rackEng fun r => { r with statusAt := setCount r.statusAt w s.now }, set (ROSTER_W_STAT_LAST w) lo,
      setReg (ROSTER_W_EP_LO w) (e % 2 ^ 32), set (ROSTER_W_EP_HI_EPOCH w) (e / 2 ^ 32),
      set (ROSTER_W_INFO_P w) (bits64 (pw p 1) 44 20), set (ROSTER_W_INFO_NCELL w) (bits64 (pw p 1) 32 6),
      set (ROSTER_W_INFO_LEVEL w) (bits64 (pw p 1) 0 2), set (ROSTER_W_TJ_T w) (bits64 (pw p 1) 16 16),
      whenB (safe && !bitOf (s.f ROSTER_MAP_SAFE_MAP) (w - 1)) (.seq (rosterEvent 6) (incSat (ROSTER_W_CNT_SAFEHOLDS w))),
      setB (ROSTER_MAP_SAFE_MAP.bit (w - 1)) safe, rosterTo w 1])

def rosterCmd (op w : Nat) : Prog :=
  let ok (s : State) : Bool := s.isMgr && s.workers.contains w
  match op with
  | 1 => accepted ROSTER_CMD 8 (whenS (fun s => ok s && s.f (ROSTER_W_STAT_STATE w) == 4) (readmit w))
  | 2 => accepted ROSTER_CMD 8 (whenS (fun s => ok s && 4 ≤ s.f (ROSTER_W_STAT_STATE w)) (.dyn fun s =>
    match s.eng.rack.seen.find? fun x => x.2.2 == w with
    | some (uid, _) => blk [setReg (ROSTER_W_UID_LO w) (uid % 2 ^ 32), setReg (ROSTER_W_UID_HI w) (uid / 2 ^ 32), readmit w]
    | none => .skip))
  | _ => .skip

/-! ### Rack means and limits (R399, R400) -/

def rackEvent (k : Nat) : Prog := event (RACK_EVT_RAW_EVENTS.bit k)

/-- A frame's STACK and AUX1 enter the means of its millisecond (R399). -/
def rackAdd (f : Frame) : Prog := .dyn fun s =>
  let k := f.epoch / 1000
  let add (o : Option Int) (x : Int × Nat) : Int × Nat := match o with | some v => (x.1 + v, x.2 + 1) | none => x
  let l := s.eng.rack.sums
  let old := ((l.find? fun x => x.1 == f.index && x.2.1 == k).map fun x => x.2.2).getD (0, 0, 0, 0)
  let v := add (frameVal f 24) (old.1, old.2.1)
  let i := add (frameVal f 25) (old.2.2.1, old.2.2.2)
  let rest := l.filter fun x => !(x.1 == f.index && x.2.1 == k) && k ≤ x.2.1 + 4
  rackEng fun e => { e with sums := (f.index, k, v.1, v.2, i.1, i.2) :: rest }

/-- Mean codes of worker `w` in millisecond `k`: STACK and AUX1. -/
def State.msMean (s : State) (w k : Nat) : Option Rat × Option Rat :=
  match s.eng.rack.sums.find? fun x => x.1 == w && x.2.1 == k with
  | some (_, _, v, nv, i, ni) =>
    (if nv == 0 then none else some ((v : Rat) / ((nv : Nat) : Rat)), if ni == 0 then none else some ((i : Rat) / ((ni : Nat) : Rat)))
  | none => (none, none)

/-- Rack current in mA of a mean AUX1 code (R266, R399). -/
def State.rackMa (s : State) (c : Rat) : Rat :=
  (if s.b RACK_LIM_CNT_I_INV then -c else c) * 31250 / ((s.f AUX_SHUNT_S1 : Nat) : Rat)

/-- RACK_I for the millisecond that ended (R354). -/
def rackIOut : Prog :=
  whenS (fun s => s.isMgr && later (s.epoch / 1000 * 1000) (s.eng.rack.iNext * 1000)) (.dyn fun s =>
    let k := s.epoch / 1000 - 1
    .seq (rackEng fun e => { e with iNext := k + 1 }) <| match (s.msMean 0 k).2 with
    | some c => rackISend (k * 1000) (rnd (s.rackMa c))
    | none => .skip)

/-- One of the five conditions on a result (R400): `hit`, `within`. -/
def rackJudge (k : Nat) (hit within : Bool) : Prog := .dyn fun s =>
  let n := s.f RACK_LIM_CNT_CNT
  let h := if hit then s.eng.rack.hits.getD k 0 + 1 else 0
  let c := if within then s.eng.rack.clears.getD k 0 + 1 else 0
  let on := s.b (RACK_STATUS_FLAGS.bit k)
  blk [rackEng fun e => { e with hits := e.hits.set k (min n h), clears := e.clears.set k (min n c) },
    whenB (!on && n ≤ h) (blk [set (RACK_STATUS_FLAGS.bit k) 1, rackEvent (k + 1), incSat RACK_CNT_LIMITS,
      firstRec RACK_FIRST_VALID [(RACK_FIRST_KIND, k)], send pgRACK 0 k 0]),
    whenB (on && n ≤ c) (.seq (set (RACK_STATUS_FLAGS.bit k) 0) (rackEvent 6))]

/-- The millisecond whose result has fallen due last (R399). -/
def State.resMs (s : State) : Nat := (s.epoch + 2 ^ 48 - 1200) % 2 ^ 48 / 1000

/-- E + 1,200 µs (R399, R400). -/
def rackResult : Prog :=
  whenS (fun s => s.isMgr && !later (s.eng.rack.resNext * 1000) (s.resMs * 1000)) (.dyn fun s =>
    let k := s.resMs
    .seq (rackEng fun e => { e with resNext := k + 1 }) <| match s.msMean 0 k with
    | (some v, some i) =>
      let mv := rnd (v * ((375 * s.f AFE_STACK_EXT_ATTEN : Nat) : Rat) / 10000)
      let ma := rnd (s.rackMa i)
      let ws := s.workers
      let missing := ws.filter fun w => (s.msMean w k).1.isNone && (s.msMean w k).2.isNone
      blk [newResult pgRACK (k * 1000) (blk [
          setI RACK_V_MV mv, setI RACK_I_MA ma, setI RACK_P_W (rndDiv (mv * ma) 1000000),
          forEach ws fun w => .seq
            (match (s.msMean w k).1 with | some c => setI (RACK_VMOD_MV w) (rnd (c * 375 / 100)) | none => .skip)
            (match (s.msMean w k).2 with | some c => setI (RACK_VSEGW_UV w) (rnd (c * 3125 / 1000)) | none => .skip),
          .dyn fun t => .seq (setI RACK_VSUM_MV ((ws.map fun w => t.i (RACK_VMOD_MV w)).foldl (· + ·) 0))
            (setI RACK_VSEG_MV (rndDiv ((ws.map fun w => t.i (RACK_VSEGW_UV w)).foldl (· + ·) 0) 1000))]),
        setB (RACK_STATUS_FLAGS.bit 5) (missing != []), whenB (missing != []) (incSat RACK_CNT_INCOMPLETE), rackEvent 0,
        .dyn fun t =>
          let vmax : Int := s.f RACK_LIM_V_VMAX * 100
          let vmin : Int := s.f RACK_LIM_V_VMIN * 100
          let hys : Int := s.f RACK_LIM_CNT_HYS * 1000
          let chg : Int := s.f RACK_LIM_I_ICHG * 1000
          let dsg : Int := s.f RACK_LIM_I_IDSG * 1000
          let sum := (mv - t.i RACK_VSUM_MV - t.i RACK_VSEG_MV).natAbs
          let tol := s.f RACK_LIM_CNT_SUM_TOL * 1000
          blk [rackJudge 0 (vmax < mv) (mv ≤ vmax - hys), rackJudge 1 (mv < vmin) (vmin + hys ≤ mv),
            rackJudge 2 (chg < ma) (10 * ma ≤ 9 * chg), rackJudge 3 (dsg < -ma) (-10 * ma ≤ 9 * dsg),
            whenB (missing == []) (rackJudge 4 (tol < sum) (sum ≤ tol))]]
    | _ => .skip)

/-! ### Series arcs (R401-R407) -/

def arcEvent (k : Nat) : Prog := event (ARC_EVT_RAW_EVENTS.bit k)

/-- A frame's samples enter the arc balance (R402). -/
def arcAdd (f : Frame) : Prog :=
  let x : ArcSample := match frameVal f 24, frameVal f 25 with
    | some v, some i => ⟨f.epoch, f.index, v, i, frameTaken f⟩
    | _, _ => ⟨f.epoch, f.index, 0, 0, false⟩
  rackEng fun e => { e with arc := x :: e.arc.filter fun y => later (y.e + 500) f.epoch }

/-- ARC_STATUS.STATE (R422). -/
def State.arcState (s : State) (blind : Bool) : Nat :=
  if !s.b ARC_CTRL_EN then 0
  else if s.eng.rack.decided then 5
  else if !(s.fullRate && s.anyClosed) then 1
  else if blind then 4 else if !s.b ARC_STATUS_LEARNED then 2 else 3

def arcShow (blind : Bool) : Prog := .dyn fun s => set ARC_STATUS_STATE (s.arcState blind)

/-- The balance at one epoch in volts, where complete (R402): B, the segment drops, I in A. (DEDUCED, log entry 91) -/
def State.arcAt (s : State) (e : Nat) : Option (Rat × List Rat × Rat) :=
  let get (w : Nat) : Option ArcSample := s.eng.rack.arc.find? fun x => x.e == e && x.w == w && x.ok
  match get 0 with
  | none => none
  | some o =>
    let ws := s.workers.map get
    if ws.all Option.isSome then
      let l := ws.filterMap id
      let vr : Rat := (o.v : Rat) * ((375 * s.f AFE_STACK_EXT_ATTEN : Nat) : Rat) / 10000000
      let seg := l.map fun x => (x.i : Rat) * 3125 / 1000000000
      some (vr - (l.map fun x => (x.v : Rat) * 375 / 100000).foldl (· + ·) 0 - seg.foldl (· + ·) 0, seg, s.rackMa (o.i : Rat) / 1000)
    else none

/-- The balance epochs of block `b`: those at which R350 expects a frame of every worker (R402). -/
def State.arcEpochs (s : State) (b : Nat) : List Nat :=
  ((List.range 100).map (100 * b + ·)).filter fun e => s.workers.all fun w => s.liveAt w e && s.expects w e

def ratMean (l : List Rat) : Rat := l.foldl (· + ·) 0 / ((l.length : Nat) : Rat)

/-- A blind block (R402, R405, R406). -/
def arcBlind : Prog := .dyn fun s =>
  let first : Bool := match s.eng.rack.lastBlind with | some t => t + 1000000 ≤ s.now | none => true
  blk [set ARC_STATUS_COUNT 0, arcEvent 2, incSat ARC_CNT_BLINDS, rackEng fun e => { e with lastBlind := some s.now },
    whenB first (send pgARC 0 2 0), arcShow true]

/-- The location of an arc from the mean XSEG, worker 1 first, in volts (R405). -/
def arcLoc (th : Rat) (xs : List Rat) : Nat :=
  let best := xs.zipIdx.foldl (fun (b : Nat × Rat) x => if b.2 < ratAbs x.1 then (x.2 + 1, ratAbs x.1) else b) (0, -1)
  if best.2 < th then 0 else best.1

/-- A decision (R405, R407). -/
def arcDecide (xs : List Rat) : Prog := .dyn fun s =>
  let loc := arcLoc (((s.f ARC_CFG_SEG_TH : Nat) : Rat) / 1000) xs
  let act := s.b ARC_CTRL_ACT
  blk [rackEng fun e => { e with decided := true }, set ARC_LAST_VALID 1, setB ARC_LAST_TRIP act, set ARC_LAST_LOC loc,
    setReg ARC_LAST_EP_LO (s.eng.rack.runStart % 2 ^ 32), set ARC_LAST_EP_HI_EPOCH (s.eng.rack.runStart / 2 ^ 32),
    incSat ARC_CNT_DECISIONS, arcEvent 1, send pgARC loc (if act then 0 else 1) 0]

/-- The number of the block whose evaluation falls due next (R402). -/
def State.arcBlock (s : State) : Nat := (s.epoch - 10 * s.f ARC_CFG_WAIT) / 100

/-- A block is evaluated (R402-R406); `hfe` is the rms of the band-pass filter over it in mA (R404). (DEDUCED, log entry 91) -/
def arcEval (hfe : Nat) : Prog :=
  whenS (fun s => s.isMgr && s.eng.boot.cores.getD 1 false && later (s.arcBlock * 100) (s.eng.rack.blockNext * 100)) (.dyn fun s =>
    let b := s.arcBlock - 1
    .seq (rackEng fun e => { e with blockNext := b + 1 }) <|
    let es := s.arcEpochs b
    let got := es.filterMap s.arcAt
    if got == [] || 2 * got.length < es.length then arcBlind
    else
      let r := s.eng.rack
      let i := ratMean (got.map fun x => x.2.2)
      let bm := ratMean (got.map fun x => x.1)
      let seg := (List.range s.workers.length).map fun j => ratMean (got.map fun x => x.2.1.getD j 0)
      let x := bm - r.rEnd * i
      let xs := seg.zipIdx.map fun y => y.1 - r.rSeg.getD y.2 0 * i
      let vth : Rat := ((s.f ARC_CFG_VTH : Nat) : Rat) / 10
      let k := 2 ^ s.f ARC_LEARN_K
      let learn : Bool := ((s.f ARC_LEARN_I_MIN : Nat) : Rat) ≤ ratAbs i && (!s.b ARC_STATUS_LEARNED || ratAbs x ≤ vth)
      let up (o v : Rat) : Rat := o + (v / i - o) / ((k : Nat) : Rat)
      let qual : Bool := vth < ratAbs x && ((s.f ARC_HF_HF_RATIO : Nat) : Rat) * r.hfb ≤ 4 * ((hfe : Nat) : Rat) && s.f ARC_HF_HF_FLOOR ≤ hfe
      let ohm (v : Rat) : Int := rnd (v * 10000000)
      blk [
        whenB learn (blk [rackEng fun e => { e with
            rEnd := up e.rEnd bm
            rSeg := seg.zipIdx.map fun y => up (e.rSeg.getD y.2 0) y.1
            learnt := min k (e.learnt + 1) },
          .dyn fun t => blk [setI ARC_REND_Z (ohm t.eng.rack.rEnd), forEach t.eng.rack.rSeg.zipIdx fun y => setI (ARC_RSEG_Z (y.2 + 1)) (ohm y.1),
            whenB (k ≤ t.eng.rack.learnt) (set ARC_STATUS_LEARNED 1)]]),
        whenB (!qual) (rackEng fun e => { e with hfb := e.hfb + (((hfe : Nat) : Rat) - e.hfb) / 65536 }),
        .dyn fun t => newResult pgARC (100 * b) (blk [setI ARC_X_MV (rnd (x * 1000)), set ARC_HFE_MA hfe, set ARC_HFB_MA (rndNat t.eng.rack.hfb),
          forEach xs.zipIdx fun y => setI (ARC_XSEG_UV (y.2 + 1)) (rnd (y.1 * 1000000))]),
        if qual then
          blk [whenB (s.f ARC_STATUS_COUNT == 0) (rackEng fun e => { e with runStart := 100 * b }), incSat ARC_STATUS_COUNT,
            arcEvent 0, incSat ARC_CNT_CANDIDATES,
            .dyn fun t =>
              let dec := !t.eng.rack.decided && t.b ARC_CTRL_EN && t.b ARC_STATUS_LEARNED && t.fullRate && t.anyClosed &&
                t.f ARC_CFG_N ≤ t.f ARC_STATUS_COUNT
              .seq (whenB dec (arcDecide xs)) (capSource (if dec then 6 else 2))]
        else set ARC_STATUS_COUNT 0,
        arcShow false])

def arcClear : Prog := blk [rackEng fun e => { e with decided := false }, set ARC_STATUS_COUNT 0, arcShow false]

def arcRelearn : Prog :=
  blk [rackEng fun e => { e with rEnd := 0, rSeg := [], learnt := 0 }, set ARC_STATUS_LEARNED 0, setReg ARC_REND 0,
    upTo 32 fun k => setReg (ARC_RSEG (k + 1)) 0, arcShow false]

def arcCmd (op : Nat) : Prog := match op with | 1 => arcClear | 2 => arcRelearn | _ => .skip

def arcCtrlWrite (w : Word) : Prog :=
  whenS (·.isMgr) (blk [set ARC_CTRL_ACT (getBits w 1 1), set ARC_CTRL_EN (getBits w 0 1), arcShow false, modeEval 2])

/-- A core reset of Woad (R416). -/
def arcWoadReset : Prog := whenS (·.isMgr) (set ARC_STATUS_COUNT 0)

/-! ### Insulation (R408, R409) -/

def isoEvent (k : Nat) : Prog := event (ISO_EVT_RAW_EVENTS.bit k)

def isoMsg (kind : Nat) : Prog := .seq (firstRec ISO_FIRST_VALID [(ISO_FIRST_KIND, kind)]) (send pgISO 0 kind 0)

/-- The monitor runs, holds or is off (R408). -/
def isoRun : Prog := .dyn fun s =>
  let run := s.b ISO_CTRL_EN && 3 ≤ s.mode
  let st := s.f ISO_STATUS_STATE
  .seq (set ISO_STATUS_STATE (if !s.b ISO_CTRL_EN then 0 else if !run then 3 else if st == 1 || st == 2 then st else 1))
    (rackEng fun e => { e with
      isoPos := if run then e.isoPos else none
      isoAt := if run && (st == 1 || st == 2) then e.isoAt else s.now })

def isoCtrlWrite (w : Word) : Prog := whenS (·.isMgr) (.seq (set ISO_CTRL_EN (getBits w 0 1)) isoRun)

/-- A threshold of R409: entry below it, clearing at 1.1 times it. -/
def isoThr (flag : Fld) (ev kind thr : Nat) (r : Rat) (cnt : Prog) : Prog := .dyn fun s =>
  let t : Rat := ((thr : Nat) : Rat)
  if !s.b flag && r < t then blk [set flag 1, isoEvent ev, isoMsg kind, cnt]
  else whenB (s.b flag && t * 11 / 10 ≤ r) (.seq (set flag 0) (isoEvent 5))

/-- A result (R409): `r` in kΩ, none where no current difference was seen, and IDC in 0.1 µA. -/
def isoResult (r : Option Rat) (idc : Rat) : Prog := .dyn fun s =>
  let big : Rat := 50000
  let v := r.getD (big + 1)
  blk [newResult pgISO s.epoch (.seq (setReg ISO_R (if big < v then 0xFFFFFFFF else rndNat v)) (setI ISO_IDC_I (rnd idc))),
    set ISO_STATUS_NETWORK 0, incSat ISO_CNT_RESULTS, isoEvent 0,
    isoThr ISO_STATUS_WARN 1 0 (s.f ISO_THR_WARN) v .skip,
    isoThr ISO_STATUS_ALARM 2 1 (s.f ISO_THR_ALARM) v (incSat ISO_CNT_ALARMS)]

/-- A half ends (R409): means of ISOS in µV over its last two tenths, and whether a sample lay at the converter's limit. (DEDUCED, log entry 92) -/
def isoHalfEnd (m80 m90 : Int) (limit : Bool) : Prog :=
  whenS (fun s => s.isMgr && (s.f ISO_STATUS_STATE == 1 || s.f ISO_STATUS_STATE == 2) &&
      s.eng.rack.isoAt + 100000 * s.f ISO_CFG_T_HALF ≤ s.now) (.dyn fun s => .seq (rackEng fun e => { e with isoAt := s.now }) <|
    let d := (m90 - m80).natAbs
    let ok : Bool := d * 100 ≤ max m80.natAbs m90.natAbs || d ≤ 1000
    if s.f ISO_STATUS_STATE == 1 then
      .seq (rackEng fun e => { e with isoPos := some (m90, ok, limit) }) (set ISO_STATUS_STATE 2)
    else
      .seq (match s.eng.rack.isoPos with
        | none => .skip
        | some (p, okP, limP) =>
          let rm := s.f ISO_CFG_R_M
          let dm := (p - m90).natAbs
          let r : Rat := ((2000 * s.f ISO_NET_INJ_V * rm : Nat) : Rat) / ((dm : Nat) : Rat) - ((s.f ISO_NET_R_SER : Nat) : Rat)
          if !ok || !okP then .seq (isoEvent 4) (incSat ISO_CNT_UNSETTLED)
          else if limit || limP || (dm != 0 && r ≤ 0) then
            whenB (!s.b ISO_STATUS_NETWORK) (blk [set ISO_STATUS_NETWORK 1, isoEvent 3, isoMsg 2])
          else isoResult (if dm == 0 then none else some r) (((p + m90 : Int) : Rat) / ((2 * rm : Nat) : Rat)))
        (.seq (rackEng fun e => { e with isoPos := none }) (set ISO_STATUS_STATE 1)))

/-! ### Stream processor (R393) and resets (R416) -/

/-- What the stream processor does with an accepted frame, and with the manager's own, which protection judges by R237; a worker's local capture
takes its own. -/
def streamProcess (f : Frame) (exportIt : Frame → Prog) : Prog :=
  blk [capFrame f, whenS (·.isMgr) (.dyn fun s =>
    let g := if f.index == 0 then s.protFrame f else f
    .seq (rackAdd g) (arcAdd g)), capLevel f, whenS (·.isMgr) (exportIt f)]

/-- ISOI in mV against ISOG: +2.500 V in the positive half, −2.500 V in the negative one, else 0 V (R408). -/
def State.isoOut (s : State) : Int := match s.f ISO_STATUS_STATE with | 1 => 2500 | 2 => -2500 | _ => 0

/-- A microsecond of the rack services: STATUS where it has changed or falls due, the results of R399, RACK_I, and a capture's end.
(DEDUCED, log entry 123) -/
def rackUs : Prog :=
  blk [whenS (fun s => s.now % 100 == 0 || s.epoch % 10000 == 0) statusSend, whenS (fun s => 50 ≤ s.epoch % 1000) rackIOut, rackResult,
    capPostDone, capSettled]

/-- A millisecond of the roster (R396, R397). -/
def rackMs : Prog :=
  blk [autoEnumLook, rosterSync, blindRun, .dyn fun s => whenB s.isMgr (forEach s.workers rosterStale), rosterBlind]

/-- The mode changes. -/
def rackMode : Prog := whenS (·.isMgr) (blk [isoRun, arcShow false, rosterSync])

/-- A re-admission follows its key setup (R398, R564): complete once the key is in force, over once the setup has failed. -/
def readmitLook (w : Nat) : Prog := .dyn fun s =>
  if s.eng.ring.keys.contains w then readmitDone w
  else whenB (!s.eng.sec.setups.any fun x => x.w == w) (readmitFail w)

/-- One microsecond of the key setups: steps unanswered for 20 ms (R564). -/
def keyUs : Prog := .dyn fun s =>
  forEach ((s.eng.sec.setups.filter (·.late s.now)).map (·.w)) fun w => blk [keyStepTimeout w, readmitLook w, rosterSync]

end Sys2Proof.Machine
end

