-- ==== Sys2Proof/Machine/Export.lean ====
section
/-!
DEFINITION. Stream export (R435-R437) and the general-purpose pins (R444-R449).
-/
namespace Sys2Proof.Machine

def hostEng (g : HostEng → HostEng) : Prog := eng fun e => { e with host := g e.host }

def hostEvent (k : Nat) : Prog := event (HOST_EVT_RAW_EVENTS.bit k)

/-! ### Stream export (R435-R437) -/

def expShow : Prog := .dyn fun s => set HOST_EXP_STATUS_LEVEL s.eng.host.fifo.length

/-- Frames of member `w` that are selected for export (R435). -/
def State.expSelected (s : State) (w : Nat) : Bool :=
  if s.isWrk || w == 0 then s.b HOST_EXP_CFG_MGR else bitOf (s.f HOST_EXP_MAP_MAP) (w - 1)

/-- Frame period of a member (R435). -/
def State.memberP (s : State) (w : Nat) : Nat := if s.isWrk || w == 0 then s.period.getD 1 else s.f (ROSTER_W_INFO_P w)

/-- An accepted or own frame (R435, R436). -/
def expFrame (f : Frame) : Prog := .dyn fun s =>
  let w := if s.isWrk then 0 else f.index
  let due : Bool := f.epoch % max 1 (s.memberP w * 2 ^ s.f HOST_EXP_CFG_DEC) == 0
  let rerun : Bool := bitOf f.flags 0 && s.eng.host.voids.contains w
  whenB (s.b HOST_STATUS_EXP_ON && s.expSelected w && (due || rerun))
    (.seq (whenB rerun (hostEng fun e => { e with voids := e.voids.erase w }))
      (if 512 ≤ s.eng.host.fifo.length then
        blk [hostEng fun e => { e with dropped := satInc 16 e.dropped }, incSat HOST_EXP_CNT_DROPS, hostEvent 5]
      else blk [hostEng fun e => { e with
            voids := if bitOf f.flags 9 then w :: e.voids else e.voids
            fifo := e.fifo ++ [(f, e.dropped)]
            dropped := 0 },
          whenB (s.eng.host.fifo.length + 1 == s.f HOST_EXP_CFG_LEVEL) (hostEvent 4), expShow]))

/-- The 20 words of an export record (R437). -/
def expRecord (x : Frame × Nat) : List Nat := frameWords x.1 ++ [2 ^ 31 + x.2, crc32 (frameWords x.1)]

/-- STREAM_READ of `n` words (R437): records read whole are removed. -/
def expRead (n : Nat) : Prog := .dyn fun s =>
  let q := s.eng.host.fifo
  let words := (q.flatMap expRecord ++ List.replicate n 0).take n
  let done' := min (n / 20) q.length
  blk [.act (.resp (words.map (BitVec.ofNat 32))), hostEng fun e => { e with fifo := e.fifo.drop done' },
    upd HOST_EXP_CNT_EXPORTED (· + done'), expShow]

def expStart : Prog := set HOST_STATUS_EXP_ON 1

def expStop : Prog := set HOST_STATUS_EXP_ON 0

def expFlush : Prog := .seq (hostEng fun e => { e with fifo := [] }) expShow

def expCmd (op : Nat) : Prog :=
  match op with
  | 1 => accepted HOST_EXP_CMD 5 expStart | 2 => expStop | 3 => expFlush | _ => .skip

/-- The mode leaves RUN, SERVICE and FACTORY (R436). -/
def expMode : Prog :=
  whenS (fun s => s.b HOST_STATUS_EXP_ON && s.mode != 4 && s.mode != 5 && s.mode != 7) (.seq (set HOST_STATUS_EXP_ON 0) (hostEvent 6))

/-! ### Pins (R444-R449) -/

/-- GPIOs that enabled GEN slots drive (R447). -/
def State.gpioOwner (s : State) : Nat :=
  ((List.range 8).map (· + 11)).foldl (fun m n => if s.b (SEQ_SLOT_CFG_EN n) then m ||| 2 ^ s.f (SEQ_SLOT_CFG_OUT_GPIO n) else m) 0

/-- GPIO_OUT takes `v` but for the owned bits (R446, R447). -/
def gpioOut (v : Nat) : Prog := .dyn fun s =>
  let own := s.gpioOwner
  set GPIO_OUT_VALUE ((List.range 16).foldl (fun m n => if bitOf (if bitOf own n then s.f GPIO_OUT_VALUE else v) n then m + 2 ^ n else m) 0)

def gpioSet (m : Nat) : Prog := .dyn fun s => gpioOut (s.f GPIO_OUT_VALUE ||| m % 65536)

def gpioClr (m : Nat) : Prog := .dyn fun s =>
  gpioOut ((List.range 16).foldl (fun r n => if bitOf (s.f GPIO_OUT_VALUE) n && !bitOf m n then r + 2 ^ n else r) 0)

/-- GPIO_CFG[n] written (R444, R447, R451). -/
def gpioCfg (n : Nat) (w : Word) : Prog := .dyn fun s =>
  blk [set (GPIO_CFG_DEB n) (min 5 (getBits w 8 3)), set (GPIO_CFG_EDGE n) (getBits w 4 2),
    whenB (!bitOf s.gpioOwner n) (.seq (set (GPIO_CFG_OD n) (getBits w 2 1)) (set (GPIO_CFG_STATE n) (getBits w 0 2)))]

/-- The filtered level of ball `n` changes (R445, R448); in SHELF nothing is detected. -/
def gpioLevel (n : Nat) (high : Bool) : Prog := .dyn fun s =>
  let e := s.f (GPIO_CFG_EDGE n)
  whenB (bitOf s.balls.gpio n != high)
    (blk [.act (.balls fun b => { b with gpio := withBit b.gpio n high }),
      whenB (s.mode != 0 && ((high && (e == 1 || e == 3)) || (!high && (e == 2 || e == 3)))) (eventAt GPIO_EVT_RAW_EDGE n)])

end Sys2Proof.Machine
end

