-- ==== Sys2Proof/Machine/Icu.lean ====
section
/-!
DEFINITION. Interrupt controller (20_interrupt_controller.md, R452-R462).
-/
namespace Sys2Proof.Machine

def icuEng (g : IcuEng → IcuEng) : Prog := eng fun e => { e with icu := g e.icu }

/-- Page, first line and number of lines (R452). -/
def icuLines : List (Nat × Nat × Nat) :=
  [(pgMODE, 0, 6), (pgCLK, 6, 5), (pgRST, 11, 3), (pgOTP, 14, 4), (pgSEC, 18, 8), (pgICU, 26, 2), (pgFLT, 28, 8), (pgWDG, 36, 8),
    (pgTHM, 44, 6), (pgSEQ, 50, 10), (pgSUP, 60, 3), (pgREG, 63, 10), (pgPHC, 73, 8), (pgPATH, 81, 9), (pgFEED, 90, 8),
    (pgCONT, 98, 10), (pgRTC, 108, 4), (pgMEM, 112, 4), (pgAFE, 116, 11), (pgADC, 127, 3), (pgSCAN, 130, 5), (pgCELL, 135, 3),
    (pgAUX, 138, 3), (pgBAL, 141, 12), (pgEIS, 153, 8), (pgEST, 161, 11), (pgARC, 172, 3), (pgISO, 175, 6), (pgRING, 181, 10),
    (pgEPOCH, 191, 13), (pgHOST, 204, 8), (pgGPIO, 212, 8), (pgREC, 220, 4), (pgCAP, 224, 4), (pgSVC, 228, 4), (pgKEEP, 232, 4),
    (pgTEST, 236, 1), (pgROSTER, 237, 7), (pgRACK, 244, 7)]

/-- Line `l` is asserted (R452, R453). -/
def State.lineOn (s : State) (l : Nat) : Bool :=
  if 251 ≤ l then l < 256 && bitOf (s.f ICU_SWI_SW) (l - 251)
  else match icuLines.find? fun x => x.2.1 ≤ l && l < x.2.1 + x.2.2 with
    | some (p, base, c) =>
      s.present p && (List.range 32).any fun n =>
        n % c == l - base && bitOf (s.reg (p * 0x1000 + 0x00C)).toNat n && bitOf (s.reg (p * 0x1000 + 0x010)).toNat n
    | none => false

/-- Targets of a line: CMASK in bits 0-2, HMASK in bits 3 and 4. -/
def State.lineMask (s : State) (l : Nat) : Nat := s.f (ICU_LINE_CMASK l) + 8 * s.f (ICU_LINE_HMASK l)

/-- Priority of a line at a target (R454). -/
def State.linePrio (s : State) (l t : Nat) : Nat := if t < 3 then s.f (ICU_LINE_CPRIO l) else s.f (ICU_LINE_HPRIO l)

def State.groupOf (s : State) (prio : Nat) : Nat := prio / 2 ^ s.f ICU_GROUP_SUB

def State.stack (s : State) (t : Nat) : List (Nat × Nat) := s.eng.icu.claims.getD t []

/-- Running group of a target; 256 when idle, less urgent than every group (R455). -/
def State.running (s : State) (t : Nat) : Nat := match s.stack t with | x :: _ => s.groupOf x.2 | [] => 256

def State.eligible (s : State) (t : Nat) : Bool := bitOf (s.f ICU_STATUS_ELIG) t

/-- The routing in force (R457). -/
def State.route (s : State) : Nat :=
  if s.mode == 6 || s.b KEEP_STATUS_IN_CONTROL then 3 else if s.mode == 7 then 2 else if s.eng.icu.startUp then 1 else 0

/-- Pending lines of a target, most urgent first by the whole priority and then the line index (R454). -/
def State.pendOf (s : State) (t : Nat) : List Nat := (s.eng.icu.pend.filter fun x => x.2 == t).map Prod.fst

def State.urgent (s : State) (t : Nat) (l : List Nat) : Option Nat :=
  l.foldl (fun b x => match b with
    | some y => if s.linePrio x t * 256 + x < s.linePrio y t * 256 + y then some x else some y
    | none => some x) none

/-- The most urgent line that may pre-empt at `t` (R455). -/
def State.presentable (s : State) (t : Nat) : Option Nat :=
  s.urgent t ((s.pendOf t).filter fun l => s.groupOf (s.linePrio l t) < s.running t)

/-- Lines in service anywhere. -/
def State.inService (s : State) (l : Nat) : Bool := s.eng.icu.claims.any fun st => st.any fun x => x.1 == l

/-- Asserted lines with a mask that wait undelivered (R457). -/
def State.icuWaiting (s : State) : List Nat :=
  (List.range 256).filter fun l => s.lineMask l != 0 && s.lineOn l && !s.inService l && !(s.eng.icu.pend.any fun x => x.1 == l)

/-- Gate, presentation and the registers of target `t` (R440, R459). (DEDUCED, log entry 93) -/
def icuShow (t : Nat) : Prog := .dyn fun s =>
  let e := s.eng.icu
  let p := (s.presentable t).isSome
  let was := e.shown.getD t false
  let g0 := e.gate.getD t false && !(was && !p)
  let n := if was && !p then 0 else e.since.getD t 0
  let g := g0 || (!(was && !p) && (s.f (ICU_T_MOD_COUNT t) ≤ n && n != 0)) || (s.b (ICU_T_MOD_BYPASS t) && s.stack t == [] && p)
  let top := (s.stack t).headD (0, 0)
  let best := s.urgent t (s.pendOf t)
  blk [icuEng fun x => { x with
      gate := x.gate.set t g
      shown := x.shown.set t (g && p)
      since := x.since.set t n },
    set (ICU_T_RUN_DEPTH t) (s.stack t).length, set (ICU_T_RUN_PRIO t) top.2, set (ICU_T_RUN_LINE t) top.1,
    setB (ICU_T_PEND_PRESENTED t) (g && p), setB (ICU_T_PEND_GATE t) g, set (ICU_T_PEND_NPEND t) (s.pendOf t).length,
    set (ICU_T_PEND_PRIO t) (match best with | some l => s.linePrio l t | none => 0), set (ICU_T_PEND_LINE t) (best.getD 0),
    whenB (t == 3) (setB HOST_STATUS_HIRQ0 (g && p)), whenB (t == 4) (setB HOST_STATUS_HIRQ1 (g && p))]

def icuShowAll : Prog := .dyn fun s =>
  blk [set ICU_STATUS_ROUTE s.route, upTo 5 icuShow, set ICU_STATUS_WAITING s.icuWaiting.length]

/-- The target chosen for a line (R457). -/
def State.icuTarget (s : State) (l : Nat) : Option Nat :=
  let el := (List.range 5).filter fun t => bitOf (s.lineMask l) t && s.eligible t
  if s.route == 0 then
    let last := ((s.eng.icu.last.find? fun x => x.1 == l).map Prod.snd).getD 4
    match el.find? (last < ·) with | some t => some t | none => el.head?
  else el.foldl (fun b t => match b with | some u => if s.running u < s.running t then some t else some u | none => some t) none

/-- A line is delivered (R457). (DEDUCED, log entry 93) -/
def icuDeliver (l : Nat) : Prog := .dyn fun s =>
  whenB (s.lineOn l && s.lineMask l != 0 && !s.inService l && !(s.eng.icu.pend.any fun x => x.1 == l))
    (match s.icuTarget l with
    | some t => blk [icuEng fun e => { e with
          pend := e.pend ++ [(l, t)]
          last := setCount e.last l t
          since := e.since.set t (e.since.getD t 0 + 1)
          firstAt := if e.since.getD t 0 == 0 then e.firstAt.set t s.now else e.firstAt },
        incSat (ICU_T_CNT_DELIVERED t), icuShowAll]
    | none => icuShowAll)

/-- A pending line is withdrawn where R458 says so, and delivered again if it is still asserted. (DEDUCED, log entry 93) -/
def icuWithdraw (l : Nat) : Prog := .dyn fun s => match s.eng.icu.pend.find? fun x => x.1 == l with
  | some (_, t) =>
    whenB (!s.lineOn l || !s.eligible t || !bitOf (s.lineMask l) t)
      (blk [icuEng fun e => { e with pend := e.pend.filter fun x => x.1 != l }, icuShowAll, icuDeliver l])
  | none => .skip

/-- A CLAIM read by its target (R456): the word read. -/
def icuClaim (t : Nat) (k : Word → Prog) : Prog := .dyn fun s => match s.presentable t with
  | none => k 0
  | some l =>
    if 8 ≤ (s.stack t).length then .seq (eventAt ICU_EVT_RAW_EVENTS 1) (k 0)
    else
      let p := s.linePrio l t
      blk [icuEng fun e => { e with
          pend := e.pend.filter fun x => x.1 != l
          claims := e.claims.set t ((l, p) :: e.claims.getD t []) },
        incSat (ICU_T_CNT_CLAIMS t), icuShowAll, k (BitVec.ofNat 32 (2 ^ 31 + p * 65536 + l))]

/-- A DONE write by its target (R456). -/
def icuDone (t l : Nat) : Prog := .dyn fun s => match s.stack t with
  | (x, _) :: rest =>
    if x == l then blk [icuEng fun e => { e with claims := e.claims.set t rest }, icuShowAll, icuDeliver l]
    else eventAt ICU_EVT_RAW_EVENTS 0
  | [] => eventAt ICU_EVT_RAW_EVENTS 0

/-- The software lines (R453). -/
def icuSwi (v : Nat) : Prog := .seq (set ICU_SWI_SW v) (upTo 5 fun n => .seq (icuWithdraw (251 + n)) (icuDeliver (251 + n)))

/-- ICU_LINE written by the host or by a core (R458, R461): each writes its own fields. -/
def icuLineWrite (l : Nat) (w : Word) (core : Bool) : Prog :=
  blk [if core then .seq (set (ICU_LINE_CPRIO l) (getBits w 16 8)) (set (ICU_LINE_CMASK l) (getBits w 0 3))
      else .seq (set (ICU_LINE_HPRIO l) (getBits w 24 8)) (set (ICU_LINE_HMASK l) (getBits w 3 2)),
    icuWithdraw l, icuDeliver l, icuShowAll]

/-- ICU_T_MOD written: the host those of targets 3 and 4, a core those of targets 0 to 2 (R461). -/
def icuModWrite (t : Nat) (w : Word) : Prog :=
  blk [set (ICU_T_MOD_BYPASS t) (getBits w 31 1), set (ICU_T_MOD_COUNT t) (clamp 1 255 (getBits w 16 8)),
    set (ICU_T_MOD_TIME t) (getBits w 0 16), icuShow t]

/-- TIME µs have passed since the first delivery to `t` with its gate closed (R459). -/
def State.gateDue (s : State) (t : Nat) : Bool :=
  !s.eng.icu.gate.getD t false && s.f (ICU_T_MOD_TIME t) != 0 && s.eng.icu.since.getD t 0 != 0 &&
    s.eng.icu.firstAt.getD t 0 + s.f (ICU_T_MOD_TIME t) ≤ s.now

/-- TIME after the first delivery (R459). -/
def icuModTimeout (t : Nat) : Prog :=
  whenS (fun s => s.gateDue t) (.seq (icuEng fun e => { e with gate := e.gate.set t true }) (icuShow t))

/-- START_T ms have passed since the release (R457). -/
def State.startUpOver (s : State) : Bool := s.eng.icu.startUp && s.eng.icu.startAt + s.f ICU_CFG_START_T * 1000 ≤ s.now

def icuStartupEnd : Prog := whenS (·.startUpOver) (.seq (icuEng fun e => { e with startUp := false }) icuShowAll)

/-- A target becomes eligible or stops being so (R457, R458, R460). -/
def icuElig (t : Nat) (on : Bool) : Prog := .dyn fun s =>
  blk [setB (ICU_STATUS_ELIG.bit t) on,
    whenB (!on) (icuEng fun e => { e with claims := e.claims.set t [] }),
    whenB (!on) (forEach (s.pendOf t) icuWithdraw), whenB on (.dyn fun u => forEach u.icuWaiting icuDeliver), icuShowAll]

/-- Core release (R457): START_UP routing runs for START_T. (DEDUCED, log entry 127) -/
def icuRelease : Prog := .dyn fun s =>
  .seq (icuEng fun e => { e with startUp := s.f ICU_CFG_START_T != 0, startAt := s.now }) icuShowAll

/-- One microsecond of the controller: lines that fell are withdrawn, asserted ones delivered, and gates and routing follow their times
(R457-R459). (DEDUCED, log entry 93) -/
def icuUs : Prog :=
  blk [.dyn fun s => forEach s.eng.icu.pend fun x => icuWithdraw x.1, .dyn fun s => forEach s.icuWaiting icuDeliver, upTo 5 icuModTimeout,
    icuStartupEnd]

end Sys2Proof.Machine
end

