-- ==== Sys2Proof/Machine/Wdg.lean ====
section
/-!
DEFINITION. Watchdogs and task monitor (22_watchdogs_and_keeper.md, R479-R488, R493-R496).
-/
namespace Sys2Proof.Machine

def wdgEng (g : WdgEng → WdgEng) : Prog := eng fun e => { e with wdg := g e.wdg }

/-- Core `c` runs: 0 Madder, 1 Woad, 2 Weld. -/
def State.coreRuns (s : State) (c : Nat) : Bool := s.eng.boot.cores.getD c false

/-- KEEP_STATUS.STATE: 0 IDLE, 1 RESET_HOLD, 2 PROBATION, 3 HELD (R498). -/
def State.keep (s : State) : Nat := s.f KEEP_STATUS_STATE

/-- Outside the modes of R479, and while its core is held, a watchdog is frozen. -/
def State.wdgFrozen (s : State) (n : Nat) : Bool :=
  match n with
  | 0 => !(2 ≤ s.mode && s.coreRuns 0 && (s.keep == 0 || s.keep == 2))
  | 3 => !(3 ≤ s.mode && s.released)
  | _ => !(3 ≤ s.mode && s.coreRuns n)

def State.wdgRuns (s : State) (n : Nat) : Bool := s.b (WDG_CFG_EN n) && !s.wdgFrozen n

/-- The count of watchdog `n` restarts at 0. -/
def wdgZero (n : Nat) : Prog := .dyn fun s =>
  .seq (set (WDG_CNT_COUNT n) 0) (wdgEng fun e => { e with at0 := e.at0.set n s.now })

/-- The watchdog counts TICK1M, not the LF clock (R480). -/
def State.wdgFast (s : State) (n : Nat) : Bool := s.b (WDG_CFG_CLK n) != s.b (WDG_STATUS_CLK_SW.bit n)

/-- PERIOD, converted to the other tick and rounded up while CLK_SW (R480). -/
def State.wdgPeriod (s : State) (n : Nat) : Nat :=
  let p := s.f (WDG_CFG_PERIOD n)
  if !s.b (WDG_STATUS_CLK_SW.bit n) then p
  else if s.b (WDG_CFG_CLK n) then (p * 32768 + 999999) / 1000000 else (p * 1000000 + 32767) / 32768

/-- Ticks of watchdog `n` since model time `t`: one a microsecond on TICK1M, 32,768 a second on the LF clock. (DEDUCED, log entry 68) -/
def State.wdgSince (s : State) (n t : Nat) : Nat := if s.wdgFast n then s.now - t else (s.now - t) * 32768 / 1000000

/-- Ticks since the count was last stored. -/
def State.wdgTicks (s : State) (n : Nat) : Nat := s.wdgSince n (s.eng.wdg.at0.getD n 0)

/-- The count now (R481). -/
def State.wdgCnt (s : State) (n : Nat) : Nat :=
  min (s.wdgPeriod n) (s.f (WDG_CNT_COUNT n) + if s.wdgRuns n then s.wdgTicks n else 0)

/-- The count is stored as it stands, and goes on from there. -/
def wdgStore (n : Nat) : Prog := .dyn fun s =>
  .seq (set (WDG_CNT_COUNT n) (min (s.wdgPeriod n) (s.f (WDG_CNT_COUNT n) + s.wdgTicks n)))
    (wdgEng fun e => { e with at0 := e.at0.set n s.now })

/-- The watchdogs and the task monitor look at modes, cores and the keeper (R479, R487). -/
def wdgLook : Prog :=
  .seq (upTo 4 fun n => .dyn fun s =>
    blk [whenB (!s.wdgRuns n && s.eng.wdg.run.getD n false) (wdgStore n), setB (WDG_STATUS_RUN.bit n) (s.wdgRuns n), setB (WDG_STATUS_FROZEN.bit n) (s.wdgFrozen n),
      whenB (s.wdgRuns n && !s.eng.wdg.run.getD n false) (.seq (wdgZero n) (set (WDG_STATUS_ARMED.bit n) 0)),
      wdgEng fun e => { e with run := e.run.set n (s.wdgRuns n) }])
  (.dyn fun s =>
    let on : Bool := s.b WDG_TM_CFG_EN && 3 ≤ s.mode && s.released
    blk [whenB (on && !s.eng.wdg.tm) (.seq (upTo 16 fun k => set (WDG_TM_SLOT_COUNT k) 0)
        (wdgEng fun e => { e with above := [], tmAt := s.now })),
      wdgEng fun e => { e with tm := on }])

/-- The count at which the window opens (R481). -/
def State.wdgOpen (s : State) (n : Nat) : Nat :=
  let k := s.f (WDG_CFG_OPEN n)
  if k == 0 then 0 else s.wdgPeriod n - s.wdgPeriod n * k / 8

/-- An expiry (kind 0) or a violation of watchdog `n` at count `c` (R484, R486): event, evidence, message, count; `act` is the
action of WDG_CFG.ACT. -/
def wdgEvent (n kind c val : Nat) (act : Nat → Prog) : Prog := .dyn fun s =>
  blk [setReg (WDG_EVID n) (2 ^ 31 + kind * 2 ^ 28 + c % 2 ^ 24), setReg (WDG_EVID_EP n) (s.epoch % 2 ^ 32), setReg (WDG_EVID_VAL n) val,
    incSat (WDG_STAT_EVENTS n), event (WDG_EVT_RAW_EVENTS.bit n), whenB (kind < 6) (send pgWDG n kind (c % 4096)),
    wdgZero n, set (WDG_STATUS_ARMED.bit n) 0, act n]

/-- A valid service (R481). -/
def wdgServed (n : Nat) : Prog := blk [wdgZero n, set (WDG_STATUS_ARMED.bit n) 0, incSat (WDG_STAT_SERVICES n)]

/-- The decisive moment of a service at count `c` (R481). -/
def wdgService (n c : Nat) (act : Nat → Prog) : Prog :=
  ifS (fun s => c < s.wdgOpen n) (wdgEvent n 1 c 0 act) (wdgServed n)

/-- The oldest write of watchdog `n`, once its 2 ticks of synchronisation have passed (R482). -/
def State.wdgDue (s : State) (n : Nat) : Option WdgSync :=
  (s.eng.wdg.sync.find? fun x => x.n == n).filter fun x => 2 ≤ s.wdgSince n x.t

/-- A synchronised value arrives (R481-R483). -/
def wdgArrival (n : Nat) (act : Nat → Prog) : Prog := .dyn fun s =>
  match s.wdgDue n with
  | none => .skip
  | some x =>
    let c := s.wdgCnt n
    let v := x.v
    .seq (wdgEng fun e => { e with sync := e.sync.erase x })
      (whenB (s.wdgRuns n)
        (if s.wdgPeriod n ≤ c then wdgEvent n 0 (s.wdgPeriod n) 0 act
        else if s.b WDG_STATUS_COMPAT then (if v == 0x6B1D then wdgService n c act else wdgEvent n 2 c v act)
        else if v == 0xA5C3 then .seq (set (WDG_STATUS_ARMED.bit n) 1) (wdgEng fun e => { e with armed := e.armed.set n c })
        else if v == 0x3C5A then
          (if s.b (WDG_STATUS_ARMED.bit n) && c ≤ s.eng.wdg.armed.getD n 0 + 8 then wdgService n c act
           else wdgEvent n 3 c 0 act)
        else wdgEvent n 2 c v act))

/-- WDG_SVC[n] written (R479, R482). -/
def wdgWrite (n v : Nat) (host : Bool) (act : Nat → Prog) : Prog := .dyn fun s =>
  whenB (host == (n == 3))
    (if (s.eng.wdg.sync.filter fun x => x.n == n).length < 2 then wdgEng fun e => { e with sync := e.sync ++ [⟨n, v, s.now⟩] }
     else whenB (s.wdgRuns n) (wdgEvent n 4 (s.wdgCnt n) v act))

/-- 8 ticks have passed since key A armed watchdog `n`, and no write arrives now (R483). -/
def State.armOver (s : State) (n : Nat) : Bool := s.eng.wdg.armed.getD n 0 + 8 ≤ s.wdgCnt n && s.wdgDue n == none

/-- 8 ticks after key A without key B (R483). -/
def wdgDisarm (n : Nat) : Prog := whenS (fun s => s.b (WDG_STATUS_ARMED.bit n) && s.armOver n) (set (WDG_STATUS_ARMED.bit n) 0)

/-- The count of a running watchdog stands at PERIOD (R481). -/
def State.wdgOver (s : State) (n : Nat) : Bool := s.wdgRuns n && s.wdgPeriod n ≤ s.wdgCnt n

/-- The count reaches PERIOD (R481, R484): a service that arrives with it is discarded. -/
def wdgExpire (n : Nat) (act : Nat → Prog) : Prog :=
  whenS (fun s => s.wdgOver n)
    (.dyn fun s => .seq (wdgEng fun e => { e with sync := e.sync.filter fun x => s.wdgDue n != some x }) (wdgEvent n 0 (s.wdgPeriod n) 0 act))

/-- The tick of watchdog `n` has stopped at count `c`, which the nominal count has reached by the time the stop is found (R480). (DEDUCED,
log entry 68) -/
def wdgClkStop (n c : Nat) (act : Nat → Prog) : Prog :=
  whenS (fun s => s.wdgRuns n && c ≤ s.wdgCnt n) (.seq (set (WDG_STATUS_CLK_SW.bit n) 1) (wdgEvent n 5 c 0 act))

/-- The START fuse of watchdog `n` (R485, R541). -/
def State.wdgStart (s : State) (n : Nat) : Bool :=
  s.f (OTP_REGION_STATE 3) == 2 || bitOf (s.f (OTP_OPT_ROW 1)) (4 * n + 3)

/-- WDG_CFG[n] written (R484, R485, R496): by the host that of watchdog 3, by the cores the others. -/
def wdgCfgWrite (n : Nat) (w : Word) : Prog := .dyn fun s =>
  let act := (WDG_CFG_ACT n).of w
  blk [whenB (s.wdgRuns n) (wdgStore n), setB (WDG_CFG_EN n) ((WDG_CFG_EN n).of w == 1 || s.wdgStart n),
    whenB (act ≤ 2 && n != 0) (set (WDG_CFG_ACT n) (if act == 1 && n == 3 then 0 else act)),
    set (WDG_CFG_CLK n) ((WDG_CFG_CLK n).of w), set (WDG_CFG_OPEN n) ((WDG_CFG_OPEN n).of w),
    set (WDG_CFG_PERIOD n) (max 64 ((WDG_CFG_PERIOD n).of w)), set (WDG_STATUS_CLK_SW.bit n) 0, wdgLook]

/-! ### Task monitor (R487, R488) -/

def tmCheckin (k : Nat) : Prog := .dyn fun s =>
  whenB (s.b (WDG_TM_SLOT_EN k))
    (.seq (incSat (WDG_TM_SLOT_COUNT k))
      (whenB (s.f (WDG_TM_SLOT_COUNT k) == s.f (WDG_TM_SLOT_MAX k)) (wdgEng fun e => { e with above := e.above ++ [k] })))

def State.tmMissing (s : State) : List Nat :=
  (List.range 16).filter fun k => s.b (WDG_TM_SLOT_EN k) && s.f (WDG_TM_SLOT_COUNT k) < s.f (WDG_TM_SLOT_MIN k)

def State.tmExcess (s : State) : List Nat :=
  (List.range 16).filter fun k => s.b (WDG_TM_SLOT_EN k) && s.f (WDG_TM_SLOT_MAX k) < s.f (WDG_TM_SLOT_COUNT k)

/-- The offender of R488: the earliest check-in in excess, else the lowest slot at the period's end. (DEDUCED, log entry 69) -/
def State.tmFirst (s : State) : Option (Nat × Bool) :=
  match s.eng.wdg.above.find? fun k => s.tmExcess.contains k with
  | some k => some (k, true)
  | none => ((List.range 16).find? fun k => s.tmExcess.contains k || s.tmMissing.contains k).map fun k => (k, s.tmExcess.contains k)

def maskOf (l : List Nat) : Nat := l.foldl (fun m k => withBit m k true) 0

/-- PER ms of the task monitor's period have passed. -/
def State.tmOver (s : State) : Bool := s.eng.wdg.tm && s.eng.wdg.tmAt + s.f WDG_TM_CFG_PER * 1000 ≤ s.now

/-- DEDUCED, log entry 69. -/
def tmPeriodEnd (act : Nat → Prog) : Prog := .dyn fun s =>
  let bad := (s.tmMissing.map fun k => (k, 6)) ++ s.tmExcess.map fun k => (k, 7)
  whenB s.tmOver
    (blk [set WDG_TM_MISSING_MAP (maskOf s.tmMissing), set WDG_TM_EXCESS_MAP (maskOf s.tmExcess), incSat WDG_TM_CNT_PERIODS,
      (match s.tmFirst with
      | some x => firstRec WDG_TM_FIRST_VALID [(WDG_TM_FIRST_EXCESS, b2n x.2), (WDG_TM_FIRST_SLOT, x.1)]
      | none => .skip),
      forEach bad fun x => .seq (send pgWDG x.1 x.2 (s.f (WDG_TM_SLOT_COUNT x.1))) (incSat WDG_TM_CNT_OFFENCES),
      whenB (bad != []) (event (WDG_EVT_RAW_EVENTS.bit 4)), event (WDG_EVT_RAW_EVENTS.bit 5),
      upTo 16 fun k => set (WDG_TM_SLOT_COUNT k) 0,
      wdgEng fun e => { e with above := [], tmAt := s.now },
      whenB (s.b WDG_TM_CFG_TO_WD3 && bad != []) (.dyn fun t => wdgEvent 3 6 (t.wdgCnt 3) 0 act)])

end Sys2Proof.Machine
end

