-- ==== Sys2Proof/Machine/Trans.lean ====
section
/-!
DEFINITION. Transitions between modes (04_operating_modes.md, R73-R76, R81-R87): what every block does when MODE_CUR changes,
arrivals and descents, the check of R86, requests, and the entry into and exit from SAFEHOLD.
-/
namespace Sys2Proof.Machine

/-- Every block looks at the new mode (R74 and the rules it names). -/
def modeBlocks : Prog :=
  blk [scanMode, balMode, eisModeChange, estMode, ringMode, rackMode, expMode, wdgLook, icuShowAll]

/-- The cause of a movement that nothing else explains: a wake event that holds the target, the floor, the request, the selection (R95). -/
def State.causeNow (s : State) : Nat :=
  if s.eng.mode.wakeHold && s.mode ≤ 4 && max s.asked (s.f MODE_FLOOR_EFF) < 3 then 3
  else if s.asked < s.f MODE_FLOOR_EFF then 2 else if s.f MODE_REQ_TARGET != 15 then 1 else 0

/-- The evaluation of R79 and R84 under the cause that applies. -/
def modeLook : Prog := .dyn fun s => modeEval s.causeNow

/-- MODE_CUR takes mode `m`, the transition completed (R85): counted and recorded unless it belongs to a check (R86); `old` is the mode
that the sequencer leaves. -/
def enterModeFrom (old m cause : Nat) (rec : Bool) : Prog := .dyn fun s =>
  blk [set MODE_CUR_MODE m, set MODE_STATUS_ASCENDING 0, set MODE_STATUS_DESCENDING 0, set MODE_STATUS_ENTERING m,
    modeEng fun e => { e with aborted := false },
    whenB rec
      (blk [set MODE_CUR_PREV s.mode, incWrap MODE_TRANS_CNT_COUNT, set MODE_LAST_TRANS_CAUSE cause, set MODE_LAST_TRANS_FROM s.mode,
        set MODE_LAST_TRANS_TO m, eventQ MODE_EVT_RAW_TRANS_DONE]),
    seqModeChange old, modeBlocks]

def enterMode (m cause : Nat) (rec : Bool) : Prog := .dyn fun s => enterModeFrom s.mode m cause rec

/-! ### DORMANT and SHELF (R74, R75, R226, R390) -/

/-- The windows that DORMANT does not retain: snapshot memory and both capture buffers (R32, R75). -/
def volatileByte (a : Nat) : Bool := (0x20000000 ≤ a && a < 0x30000000) || (0xC0000 ≤ a && a < 0x3C0000)

/-- What WATCH switches off: the link PLL (R74). -/
def linkOff : Prog := set CLK_STATUS_LPLL_LOCK 0

/-- What a descent into DORMANT or SHELF takes away: root, PLLs, the reference buffer, frames, the epoch's advance, and the
content of the volatile windows. -/
def goDormant : Prog :=
  blk [set CLK_STATUS_MPLL_LOCK 0, set CLK_STATUS_LPLL_LOCK 0, set CLK_STATUS_HOLDOVER 0, set AFE_STATUS_REF_RDY 0, afeEng fun e => { e with vref := false },
    .act (.clearMem fun a => !volatileByte a),
    eng fun e => { e with
      clk := { e.clk with
        startWait := false
        retry := false
        lpllOn := false }
      epoch := { e.epoch with running := false } }]

/-- The root runs again on an ascent from DORMANT: the count resumes from the held value (R363). -/
def wakeDormant : Prog := epochEng fun e => { e with running := true }

/-! ### Arrivals -/

/-- What comes before a descent into DORMANT or SHELF (R75, R135): the emergency checkpoint, and for SHELF the slots' power-down. -/
def descentPrep (m : Nat) : Prog := .seq (whenB (m ≤ 1) ckptTrigger) (whenB (m == 0) seqShelf)

/-- A descent from SERVICE, which has just started, leads into DORMANT or SHELF (R75, R85); balancing's outputs go off with it (R279). -/
def serviceLeft : Prog := .dyn fun s =>
  whenB (s.mode == 5 && s.b MODE_STATUS_DESCENDING) (.seq (descentPrep (s.f MODE_STATUS_ENTERING)) balMode)

/-- An ascent arrives (R85, R84, R86).  One out of DORMANT needs the main PLL's lock (R591), one from SHELF is a bring-up (R75). -/
def ascentDone : Prog := .dyn fun s =>
  let m := s.f MODE_STATUS_ENTERING
  whenB (s.b MODE_STATUS_ASCENDING && s.mode != 0 && (s.mode != 1 || m == 1 || s.b CLK_STATUS_MPLL_LOCK))
    (blk [whenB (s.mode == 1 && m != 1) wakeDormant,
      if s.eng.mode.aborted then
        blk [set MODE_STATUS_ASCENDING 0, set MODE_STATUS_ENTERING s.mode, modeEng fun e => { e with aborted := false }, shelfAbandoned]
      else if s.eng.mode.check == 1 then .seq (modeEng fun e => { e with
          check := 2
          checkHit := false }) (enterMode 3 0 false)
      else .seq (modeEng fun e => { e with check := 0 }) (enterMode m s.eng.mode.cause true),
      modeLook, serviceLeft])

/-- The target has stayed below MODE_CUR for DWELL (R84, R75). -/
def dwellExpiry : Prog := .dyn fun s =>
  whenB (s.released && 1 ≤ s.mode && s.mode ≤ 4 && !s.inTransition && s.target < s.mode)
    (blk [descentPrep s.target, startTrans s.target false s.eng.mode.cause, balMode])

/-- A descent arrives (R85); into SHELF once the sequencer has powered its slots down (R135). -/
def descentDone : Prog := .dyn fun s =>
  let m := s.f MODE_STATUS_ENTERING
  whenB (s.b MODE_STATUS_DESCENDING && (m != 0 || s.seqDown))
    (blk [whenB (m < 3) (blk [diagAbort, winStop, linkOff]), whenB (m ≤ 1) goDormant, whenB (m == 0) seqAllOff,
      if s.eng.mode.check == 3 then .seq (enterMode 1 0 false) (modeEng fun e => { e with check := 0 })
      else enterMode m s.eng.mode.cause true,
      whenB (m == 0 && s.b PATH_CFG_SHIP) (feedEng fun e => { e with shipped := true }),
      modeLook])

/-! ### The DORMANT check (R86) -/

def dormantCheck : Prog := .dyn fun s =>
  whenB (s.mode == 1 && !s.inTransition)
    (blk [set MODE_WAKE_SRC_CHECK 1, modeEng fun e => { e with
        check := 1
        checkHit := false }, startTrans 3 true s.eng.mode.cause])

/-- The 16 frames are taken; `hit`: a limit was crossed. -/
def dormantCheckDone (hit : Bool) : Prog := .dyn fun s =>
  whenB (s.mode == 3 && s.eng.mode.check == 2)
    (if hit || s.f CELL_OV_MAP_MAP != 0 || s.f CELL_UV_MAP_MAP != 0 || s.f AUX_T_MAP_OT != 0 || s.f AUX_T_MAP_UT != 0 || 1 < s.target then
      blk [modeEng fun e => { e with check := 0 }, schedUpdate, modeLook]
    else blk [modeEng fun e => { e with check := 3 }, descentPrep 1, startTrans 1 false s.eng.mode.cause, balMode])

/-! ### Wake events (R87) -/

/-- DWELL has passed since the wake event. -/
def wakeHoldExpiry : Prog := .seq (modeEng fun e => { e with wakeHold := false }) modeLook

/-- An access of the host that WATCH does not serve (R76). -/
def hostWake : Prog := whenS (fun s => s.mode == 2 && s.b MODE_CFG_HOST_WAKE) (wake MODE_WAKE_SRC_HOST)

/-! ### SAFEHOLD (R83, R85, R470) -/

/-- What SAFEHOLD brings beside the change of mode: contactors open, the fault loop stops sourcing, an undecided commit aborts. -/
def safeholdEffects : Prog := blk [whenS State.isMgr contOpen, whenS State.isWrk (contEng fun e => { e with loopOut := false }), cmSafehold]

/-- SAFEHOLD entered from DORMANT or SHELF starts the root, with the main PLL on the HFRC until it locks, the fill and the frames (R74,
R591, R525). (DEDUCED, log entry 34) -/
def safeholdRoot : Prog := whenS (fun s => s.mode ≤ 1) (.seq rootStart wakeDormant)

/-- Entry into SAFEHOLD. (DEDUCED, log entry 34) -/
def safeholdEnter (cause : Nat) : Prog :=
  whenS (fun s => s.mode != 6)
    (blk [set FLT_STATUS_HOLDING 1, modeEng fun e => { e with
        check := 0
        wakeHold := false }, safeholdRoot, enterMode 6 cause true, safeholdEffects])

/-- Exit from SAFEHOLD into ATTEND (R83, R472). -/
def safeholdExit : Prog :=
  blk [set FLT_STATUS_HOLDING 0, set FLT_HOLD_MAP 0, whenS (fun s => s.f MODE_REQ_TARGET == 6) (set MODE_REQ_TARGET 15),
    enterMode 3 5 true, modeLook]

/-! ### Requests (R83) -/

/-- Contactors open: at the manager its own state, at a worker the flag of its rack floor. -/
def State.contOpenNow (s : State) : Bool := if s.isMgr then s.cont == 0 && !s.contClosed else s.eng.mode.rackOpen

/-- TARGET 0-4, AUTO, and 5 and 7 once accepted; the write is the cause, of AUTO too. (DEDUCED, log entry 103) -/
def modeReqPin (t : Nat) : Prog := .dyn fun s => blk [set MODE_REQ_TARGET t, modeEval 1, whenB (!s.inTransition) serviceLeft]

/-- TARGET 5; the session level is judged by the access (R554). -/
def modeReqService : Prog := ifS (fun s => s.contOpenNow) (modeReqPin 5) (refuse MODE_REQ 0)

/-- TARGET 6: a message of the MODE page, and FLT_HOLD.HOST except in FACTORY. -/
def modeReqSafehold : Prog :=
  blk [set MODE_REQ_TARGET 6, set MODE_STATUS_PINNED 1, send pgMODE 0 0 0, whenS (fun s => s.mode != 7) (set (FLT_HOLD_MAP.bit 6) 1)]

/-- MODE_REQ written at a sufficient level: a mode request is refused in SAFEHOLD unless its TARGET is 6 (R88). -/
def modeReqWrite (t : Nat) : Prog :=
  if t == 6 then .seq (setOutc .ok) modeReqSafehold
  else accepted MODE_REQ 0
    (if t == 5 then modeReqService else if 8 ≤ t && t ≤ 14 then .skip else modeReqPin t)

/-- The session's level falls below SERVICE (R83, R558): TARGET 5 becomes AUTO and SERVICE ends. -/
def serviceLapse : Prog :=
  whenS (fun s => s.f MODE_REQ_TARGET == 5 || s.mode == 5)
    (.dyn fun s => blk [whenS (fun s => s.f MODE_REQ_TARGET == 5) (set MODE_REQ_TARGET 15), modeEval 6, whenB (!s.inTransition) serviceLeft])

end Sys2Proof.Machine
end

