-- ==== Sys2Proof/Machine/Flt.lean ====
section
/-!
DEFINITION. The fault collector (21_fault_collection.md, R463-R478): classes, escalation, evidence, reactions, the quiet period
and release.
-/
namespace Sys2Proof.Machine

def fltEvent (k : Nat) : Prog := eventAt FLT_EVT_RAW_EVENTS k

/-- The word of a message (R463). -/
def Msg.word (m : Msg) : Nat := m.src % 256 * 2 ^ 24 + m.inst % 64 * 2 ^ 18 + m.kind % 64 * 2 ^ 12 + m.detail % 4096

/-! ### Classes: 1 NOTE, 2 MINOR, 3 MAJOR, 4 SEVERE -/

/-- Base classes by page, one entry a kind from 0 (R465 and the chapters it names); 0 where no table has the kind. -/
def classRow (src : Nat) : List Nat :=
  if src == pgMODE then [4] else if src == pgCLK then [3] else if src == pgRST then [2]
  else if src == pgOTP then [3, 2] else if src == pgSEC then [3, 3, 1]
  else if src == pgTHM then [2, 2, 3, 2, 3]
  else if src == pgSEQ then [2, 0, 0, 4] else if src == pgSUP then [3, 3] else if src == pgREG then [2]
  else if src == pgPHC then [2, 3, 3, 2, 3] else if src == pgPATH then [4, 4, 3, 2, 3]
  else if src == pgFEED then [0, 0, 3, 3, 3, 3, 3] else if src == pgCONT then [4, 4, 4, 3, 3, 3, 3]
  else if src == pgMEM then [2, 3, 3] else if src == pgAFE then [3, 2, 3, 3, 3, 3, 2, 3]
  else if src == pgCELL then [4, 4] else if src == pgAUX then [4, 3] else if src == pgBAL then [3, 2, 4, 2, 3]
  else if src == pgEST then [2, 2, 2, 3] else if src == pgARC then [4, 3, 2] else if src == pgISO then [2, 3, 3]
  else if src == pgRING then [2, 3, 3, 3, 2] else if src == pgEPOCH then [2, 2, 3]
  else if src == pgREC then [2, 2] else if src == pgSVC then [2, 3, 1]
  else if src == pgKEEP then [4, 3, 4, 1] else if src == pgROSTER then [2, 3, 3, 4]
  else if src == pgRACK then [4, 4, 4, 4, 3] else []

/-- The base class of a message (R465): those of the watchdogs depend on the instance (R493), any page's access kinds are fixed,
and a message of no table is MAJOR. -/
def Msg.base (m : Msg) : Nat :=
  if m.kind == 0x3C then 2 else if 0x3D ≤ m.kind then 1
  else if m.src == pgWDG then (if m.kind ≤ 5 then (if m.inst == 3 then 2 else 3) else if m.kind ≤ 7 then 2 else 3)
  else match (classRow m.src).getD m.kind 0 with | 0 => 3 | c => c

/-- The first enabled rule that names the pair (R466, R467). -/
def State.fltRule (s : State) (m : Msg) : Option Nat :=
  (List.range 16).find? fun r =>
    s.b (FLT_RULE_MATCH_EN r) && s.f (FLT_RULE_MATCH_SRC r) == m.src && s.f (FLT_RULE_MATCH_KIND r) == m.kind

/-- The class before escalation: a FLOOR above the base class replaces it (R467). -/
def State.fltClass (s : State) (m : Msg) : Nat :=
  match s.fltRule m with | some r => max m.base (s.f (FLT_RULE_ESC_FLOOR r)) | none => m.base

/-- Enable, N and WIN in ms that apply (R466): those of the rule, else of the base class; SEVERE has none. -/
def State.fltEsc (s : State) (m : Msg) : Bool × Nat × Nat :=
  match s.fltRule m with
  | some r => (s.b (FLT_RULE_ESC_EN r), s.f (FLT_RULE_ESC_N r), s.f (FLT_RULE_ESC_WIN r))
  | none =>
    if m.base ≤ 3 then (s.b (FLT_DEF_ESC_EN (m.base - 1)), s.f (FLT_DEF_ESC_N (m.base - 1)), s.f (FLT_DEF_ESC_WIN (m.base - 1)))
    else (false, 0, 0)

/-- WIN in microseconds of a counted pair, which keeps its count until its window is empty. -/
def State.pairWin (s : State) (src kind : Nat) : Nat := (s.fltEsc ⟨src, 0, kind, 0, false⟩).2.2 * 1000

/-- The counts that still hold a message within their window (R466). -/
def State.fltLive (s : State) : List (Nat × Nat × List Nat) :=
  (s.eng.flt.counts.map fun c => (c.1, c.2.1, c.2.2.filter fun t => s.now < t + s.pairWin c.1 c.2.1)).filter fun c => c.2.2 != []

/-- Is the message raised (R466), and what the counts become. (DEDUCED, log entry 86) -/
def State.fltCount (s : State) (m : Msg) : Bool × List (Nat × Nat × List Nat) :=
  let live := s.fltLive
  let esc := s.fltEsc m
  let open4 := esc.1 && s.fltClass m < 4
  match live.find? fun c => c.1 == m.src && c.2.1 == m.kind with
  | some c =>
    (open4 && esc.2.1 ≤ c.2.2.length + 1,
      live.map fun d => if d.1 == m.src && d.2.1 == m.kind then (d.1, d.2.1, d.2.2 ++ [s.now]) else d)
  | none =>
    if 64 ≤ live.length then (open4, live)
    else (open4 && esc.2.1 ≤ 1, live ++ [(m.src, m.kind, [s.now])])

/-! ### Holding conditions and the quiet period (R471, R472) -/

/-- FLT_HOLD as it stands (R472): bit 6 is the register's, the others follow their conditions. (DEDUCED, log entry 87) -/
def State.fltHold (s : State) : Nat :=
  b2n (s.f CELL_OV_MAP_MAP != 0 || s.f CELL_UV_MAP_MAP != 0) + 2 * b2n (s.f AUX_T_MAP_OT != 0) +
    4 * b2n (s.isMgr && (s.b (RACK_STATUS_FLAGS.bit 0) || s.b (RACK_STATUS_FLAGS.bit 1) || s.b (RACK_STATUS_FLAGS.bit 2) || s.b (RACK_STATUS_FLAGS.bit 3))) +
    8 * b2n (s.isMgr && (s.b CONT_STATUS_FT_LATCH || s.b CONT_STATUS_LOOP_TRIP)) + 16 * b2n (s.seqState == 5) +
    32 * b2n (s.b KEEP_STATUS_IN_CONTROL) + 64 * b2n (s.b (FLT_HOLD_MAP.bit 6))

/-- The quiet period may run. -/
def State.fltMayQuiet (s : State) : Bool :=
  s.b FLT_STATUS_HOLDING && s.fltHold == 0 && s.b FLT_CFG_AUTO_EXIT && !s.b FLT_STATUS_AUTO_OFF

/-- The quiet period runs, is stopped, or restarts; called once a microsecond and where a message restarts it. -/
def quietLook (restart : Bool) : Prog := .dyn fun s =>
  .seq (setB FLT_STATUS_QUIETING s.fltMayQuiet)
    (fltEng fun e => { e with quietFrom := if !s.fltMayQuiet then none else if restart then some s.now else (e.quietFrom.getD s.now |> some) })

/-- FLT_QUIET: what remains, in ms (R478). -/
def State.fltQuiet (s : State) : Nat := match s.eng.flt.quietFrom with
  | some t => if s.fltMayQuiet then s.f FLT_CFG_QUIET * 100 - (s.now - t) / 1000 else 0
  | none => 0

/-- FLT_STATUS.HIGH follows FLT_PEND (R471). -/
def pendShow : Prog := .dyn fun s =>
  let p := s.f FLT_PEND_SEV
  set FLT_STATUS_HIGH (if 8 ≤ p then 4 else if 4 ≤ p then 3 else if 2 ≤ p then 2 else p)

/-- FAULT_N is low (R109, R471): until the first evaluation after core release, and while a pending severity reaches FAULTN_SEV. -/
def State.faultLow (s : State) : Bool := !s.eng.flt.evaluated || (s.f FLT_CFG_FAULTN_SEV ≤ s.f FLT_STATUS_HIGH && s.f FLT_STATUS_HIGH != 0)

/-! ### Classification (R464-R470) -/

/-- The page served next: rising page numbers after the last one served. -/
def State.fltNext (s : State) : Option Msg :=
  let pages := ((List.range 256).map fun k => (s.eng.flt.lastPage + 1 + k) % 256)
  (pages.find? fun p => s.eng.flt.held.any fun m => m.src % 256 == p).bind fun p => s.eng.flt.held.find? fun m => m.src % 256 == p

/-- Evidence (R468). -/
def fltEvidence (m : Msg) (raised : Bool) (sev : Nat) : Prog := .dyn fun s =>
  let w := m.word
  let info := 2 ^ 31 + b2n raised * 2 ^ 29 + b2n m.inj * 2 ^ 28 + sev * 2 ^ 24 + s.epoch / 2 ^ 32
  let n := s.f FLT_LOG_PTR_NEXT
  blk [if s.b FLT_FIRST_INFO_VALID then set FLT_FIRST_INFO_OVERFLOW 1
      else blk [setReg FLT_FIRST w, setReg FLT_FIRST_INFO info, setReg FLT_FIRST_EP_LO (s.epoch % 2 ^ 32), fltEvent 0],
    setReg FLT_LAST w, setReg FLT_LAST_INFO info,
    setReg (FLT_LOG n) w, setReg (FLT_LOG_EP n) (b2n raised * 2 ^ 31 + b2n m.inj * 2 ^ 30 + sev * 2 ^ 27 + s.epoch % 2 ^ 27),
    set FLT_LOG_PTR_NEXT (n + 1), whenB (n == 15) (set FLT_LOG_PTR_WRAPPED 1),
    incSat (if sev == 4 then FLT_CNT_SEV_SEVERE else if sev == 3 then FLT_CNT_SEV_MAJOR else if sev == 2 then FLT_CNT_SEV_MINOR
      else FLT_CNT_SEV_NOTE)]

/-- Reactions (R469, R470). -/
def fltReact (m : Msg) (raised : Bool) (sev : Nat) : Prog := .dyn fun s =>
  blk [set (FLT_PEND_SEV.bit (sev - 1)) 1, pendShow, fltEvent sev, recMessage m.word raised m.inj sev,
    whenB (3 ≤ sev) (quietLook true),
    whenB (sev == 4) (.seq (capSource 0x20) (whenB (s.mode ≤ 5) (safeholdEnter 4)))]

/-- One message is classified, after core release (R464, R466). -/
def fltServe : Prog := .dyn fun s =>
  whenB s.released (match s.fltNext with
    | none => fltEng fun e => { e with evaluated := true }
    | some m =>
      let c := s.fltCount m
      let sev := s.fltClass m + b2n c.1
      blk [fltEng fun e => { e with
          held := e.held.erase m
          lastPage := m.src % 256
          counts := c.2
          evaluated := true },
        whenB c.1 (.seq (incSat FLT_CNT_ESCALATIONS) (fltEvent 5)),
        fltEvidence m c.1 sev, fltReact m c.1 sev])

/-! ### Leaving SAFEHOLD (R472-R474) -/

/-- A MAJOR or SEVERE message waits: it is classified before an exit (R474). -/
def State.fltGrave (s : State) : Bool :=
  match s.fltNext with | some m => 3 ≤ s.fltClass m + b2n (s.fltCount m).1 | none => false

def fltExit : Prog := blk [safeholdExit, fltEvent 6, quietLook false]

/-- The quiet period has run QUIET x 100 ms without a restart (R472). -/
def State.quietOver (s : State) : Bool := match s.eng.flt.quietFrom with
  | some t => t + s.f FLT_CFG_QUIET * 100000 ≤ s.now
  | none => false

/-- The quiet period ends (R472). -/
def quietEnd : Prog :=
  whenS (fun s => s.mode == 6 && s.fltMayQuiet && s.quietOver && !s.fltGrave)
    (blk [incSat FLT_CNT_RECOVERIES, fltExit,
      whenS (fun s => s.f FLT_CFG_MAXREC != 0 && s.f FLT_CFG_MAXREC ≤ s.f FLT_CNT_RECOVERIES) (set FLT_STATUS_AUTO_OFF 1)])

/-- One microsecond of the collector: the messages held are classified in their order, and the quiet period goes on (R464, R472). -/
def fltUs : Prog := blk [.dyn fun s => forEach s.eng.flt.held fun _ => fltServe, quietLook false, quietEnd]

/-- FLT_CMD RELEASE (R473, R474); its class and session level are judged by the access. (DEDUCED, log entry 88) -/
def fltRelease : Prog := .dyn fun s =>
  if s.mode != 6 then .skip
  else if s.fltHold % 32 != 0 || s.fltGrave then set FLT_STATUS_REL_RESULT 2
  else if 32 ≤ s.fltHold % 64 then set FLT_STATUS_REL_RESULT 3
  else blk [incSat FLT_CNT_RELEASES, set FLT_STATUS_REL_RESULT 1, fltExit]

def fltClearRec : Prog := .seq (set FLT_CNT_RECOVERIES 0) (set FLT_STATUS_AUTO_OFF 0)

def fltCmd (op : Nat) : Prog := match op with | 1 => accepted FLT_CMD 9 fltRelease | 2 => fltClearRec | _ => .skip

/-- FLT_PEND written (R471): SEVERE stands while HOLDING. -/
def fltPendClear (m : Nat) : Prog := .dyn fun s =>
  let p := s.f FLT_PEND_SEV
  .seq (forEach (List.range 4) fun k => whenB (bitOf m k && bitOf p k && !(k == 3 && s.b FLT_STATUS_HOLDING)) (set (FLT_PEND_SEV.bit k) 0)) pendShow

/-- FLT_FIRST_INFO written (R468). -/
def fltFirstClear (valid : Bool) : Prog := whenB valid (.seq (set FLT_FIRST_INFO_VALID 0) (set FLT_FIRST_INFO_OVERFLOW 0))

/-- FLT_INJ written in FACTORY (R475). -/
def fltInject (w : Word) : Prog := sendMsg ⟨getBits w 24 8, getBits w 18 6, getBits w 12 6, getBits w 0 12, true⟩

end Sys2Proof.Machine
end

