-- ==== Sys2Proof/Machine/Mem.lean ====
section
/-!
DEFINITION. Memory integrity (24_memory_integrity_and_records.md, R520-R525): what a checked read records, the sliding window
of corrections, poison at its consumers, and the fill.
-/
namespace Sys2Proof.Machine

def memEvent (k : Nat) : Prog := event (MEM_EVT_RAW_EVENTS.bit k)

/-- Bank of a byte offset within the SRAM (R520). (DEDUCED, log entry 50) -/
def bankOf (off : Nat) : Nat := off / 0x40000 % 16

/-- What a read of one SRAM word finds (R521): 0 no error, 1 a single-bit error, 2 and more an uncorrectable error or the poison
code. -/
def isUe (f : Nat) : Bool := 2 ≤ f

/-- Corrections of bank `b` within the window (t − CE_WIN, t] (R523). -/
def State.ceCount (s : State) (b : Nat) : Nat :=
  (s.eng.recs.ces.filter fun c => c.1 == b && s.now < c.2 + s.f MEM_CFG_CE_WIN * 1000000).length

/-- CE_HIGH follows the windows (R523): a bank that reaches CE_THR is reported at its entry. -/
def ceJudge : Prog := .dyn fun s =>
  .seq (recEng fun e => { e with ces := e.ces.filter fun c => s.now < c.2 + s.f MEM_CFG_CE_WIN * 1000000 })
    (upTo 16 fun b => .dyn fun t =>
      if s.f MEM_CFG_CE_THR ≤ s.ceCount b then
        whenB (!t.b (MEM_STATUS_CE_HIGH.bit b)) (blk [set (MEM_STATUS_CE_HIGH.bit b) 1, memEvent 1, send pgMEM b 0 0])
      else set (MEM_STATUS_CE_HIGH.bit b) 0)

/-- A single-bit error is corrected at offset `off` (R521, R523). (DEDUCED, log entry 49) -/
def memCe (off : Nat) : Prog := .dyn fun s =>
  blk [incSat (MEM_CE_CNT_TOTAL (bankOf off)), set MEM_CE_LAST_OFFSET off, set MEM_CE_LAST_VALID 1, memEvent 0,
    recEng fun e => { e with ces := e.ces ++ [(bankOf off, s.now)] }, ceJudge]

/-- An uncorrectable error or the poison code is found at offset `off` (R521): a repeated find sends no further message. (DEDUCED, log entry 49) -/
def memUe (off : Nat) : Prog := .dyn fun s =>
  blk [incSat MEM_CNT_UE,
    whenB (!s.b MEM_UE_LAST_VALID || s.f MEM_UE_LAST_OFFSET != off % 2 ^ 22) (send pgMEM (bankOf off) 1 0),
    set MEM_UE_LAST_OFFSET off, set MEM_UE_LAST_VALID 1, memEvent 2]

/-- An upset has struck the word at `a` since it was last written: `f` as in R521.  An uncorrectable one leaves raw data that nothing fixes.
(DEDUCED, log entry 48) -/
def upset (a f : Nat) : Prog := .dyn fun s =>
  whenB (s.mark a < f) (.seq (whenB (f == 2) (withFree fun x => setWordN (a / 4 * 4) x)) (setMark a (min f 3)))

/-- Where the model keeps what it knows of the SRAM word at offset `off`: the host address of its window (R30, R32), if it has one. (DEDUCED, log
entry 50) -/
def cellOf (off : Nat) : Nat :=
  if 0xC0000 ≤ off && off < 0x1C0000 then 0x20000000 + (off - 0xC0000)
  else if 0x240000 ≤ off && off < 0x2C0000 then 0x21000000 + (off - 0x240000)
  else if 0x2C0000 ≤ off && off < 0x3C0000 then 0x22000000 + (off - 0x2C0000)
  else off

/-- A core's write of the bits `m` of the word at offset `off` (R522): fewer than 32 bits merge into the word read, whose poison stays.  No row of the
table commands a core's store. -/
def coreStore (off : Nat) (m v : Word) : Prog := .dyn fun s =>
  let a := cellOf off
  let f := s.mark a
  if ~~~m == 0 then setWord a v
  else blk [if isUe f then memUe off else whenB (f == 1) (memCe off),
    setWord a ((s.word a &&& ~~~m) ||| (v &&& m)), whenB (isUe f) (setMark a 3)]

/-- A core consumes a poisoned word (R524). (DEDUCED, log entry 48) -/
def poisonConsumed (off : Nat) : Prog :=
  blk [upset (cellOf off) 2, memUe off, incSat MEM_CNT_CORE_EXC, memEvent 3, send pgMEM (bankOf off) 2 (off / 64 % 4096)]

/-- SRAM offset of a host window address (R30, R32): snapshot memory, capture buffer, rack capture buffer. (DEDUCED, log entry 50) -/
def sramOf (a : Nat) : Nat :=
  if a < 0x21000000 then 0xC0000 + (a - 0x20000000) else if a < 0x22000000 then 0x240000 + (a - 0x21000000)
  else 0x2C0000 + (a - 0x22000000)

/-- The fill of what the device does not retain ends after `us` microseconds (R525). -/
def memFilled (us : Nat) : Prog := blk [set MEM_STATUS_FILLING 0, memEvent 4, setSat MEM_FILL_US us]

end Sys2Proof.Machine
end

