-- ==== Sys2Proof/Machine/Norm.lean ====
section
/-!
DEFINITION. What a register stores of a value written to it: "stored as the nearer limit", values not accepted, and the few
rules that tie two fields (R94, R114, R129, R154, R177, R203, R205, R218, R290, R312, R336, R362, R392, R418-R426, R443, R451,
R478, R496, R498, R509, R519, R536, R538, R549), page by page.
-/
namespace Sys2Proof.Machine

/-- Ranges of unsigned fields, arrays under index 0 (the first writable one). -/
def limitsLow (p : Nat) : List (Fld × Nat × Nat) :=
  if p == pgMODE then [(MODE_ATT_PER_PER, 10, 10000), (MODE_DORM_PER_SEC, 1, 86400)]
  else if p == pgREG then [(REG_BK_ILIM_ILIM 3, 0, 8), (REG_LD_CFG_ILIM 3, 0, 2)]
  else if p == pgSUP then [(SV_TIME_SDLY 0, 1, 1000)]
  else if p == pgSEQ then [(SEQ_SLOT_CFG_UP_STEP 3, 1, 15), (SEQ_SLOT_CFG_DN_STEP 3, 1, 15), (SEQ_SLOT_UPT_TMO 3, 1, 65535),
    (SEQ_SLOT_DNT_TMO 3, 1, 65535), (SEQ_CFG_MIN_OFF, 1, 4095)]
  else if p == pgPHC then [(PHC_RAIL_PERIOD_PERIOD 0, 640, 6400), (PHC_RAIL_FBDIV_RATIO 0, 1, 65535), (PHC_RAIL_ILIM_ILIM 0, 1, 65535),
    (PHC_RAIL_UST_UST_THR 0, 1, 15), (PHC_RAIL_UST_OST_THR 0, 1, 15), (PHC_RAIL_UST_MAXON 0, 1, 255), (PHC_RAIL_PG_WIN 0, 1, 15),
    (PHC_RAIL_PG_FILT 0, 1, 4095), (PHC_RAIL_SHARE_FLAT_THR 0, 1, 255), (PHC_PH_CFG_RSENSE 0, 1, 65535), (PHC_PH_CL_CL_THR 0, 1, 200)]
  else if p == pgFEED then [(FEED_QUAL_OV, 450, 3000), (FEED_QUAL_UV, 450, 3000), (FEED_OR_FWD, 5, 63), (FEED_OR_REV, 2, 63),
    (FEED_EF_TMO, 1, 1000), (FEED_EF_ILIM, 5, 255), (FEED_PC_PC_TMO, 1, 255), (FEED_SENSE_RSENSE, 1, 65535)]
  else if p == pgPATH then [(CHG_ICHG_ICHG, 1, 80), (CHG_ICHG_IPRE, 1, 255), (CHG_ICHG_ITERM, 1, 255), (CHG_TIMER_SAFETY, 1, 15),
    (CHG_TIMER_PRE, 1, 127), (CHG_FALLBACK_FB_ICHG, 1, 80)]
  else if p == pgCONT then [(CONT_CFG_OPEN_DLY, 1, 255), (CONT_CFG_DROP_T, 1, 255), (CONT_CFG_POS_T, 1, 255), (CONT_PC_PC_TMO, 1, 65535),
    (CONT_PC_PC_PCT, 50, 99), (CONT_PC_PULL_TMO, 1, 255), (CONT_ECON_PULL_T, 1, 255), (CONT_ECON_HOLD, 10, 100),
    (CONT_SENSE_ON_PCT, 50, 99), (CONT_SENSE_OFF_PCT, 1, 49), (CONT_SENSE_SAG_T, 1, 255), (CONT_SENSE_WELD_T, 1, 255),
    (CONT_FT_HARD_THR, 20, 200), (CONT_FT_FT_THR, 20, 200), (CONT_LOOP_FILT, 1, 255)]
  else if p == pgAFE then [(AFE_STACK_EXT_ATTEN, 100, 65535), (AFE_DIAG_CFG_OW_THR, 1, 255), (AFE_DIAG_CFG_OW_T, 1, 255),
    (AFE_TH_CFG_BETA 0, 1000, 65535), (AFE_TH_CFG_R25 0, 1, 65535)]
  else if p == pgSCAN then [(SCAN_AGE_LIMIT_LIMIT, 1, 65535)]
  else if p == pgCELL then [(CELL_CFG_WIN, 1, 1000000), (CELL_LIM_OV, 0, 5000), (CELL_LIM_UV, 0, 5000), (CELL_LIM_CNT_CNT, 1, 255)]
  else if p == pgAUX then [(AUX_CFG_WIN, 1, 1000000), (AUX_SHUNT_S2, 1, 65535), (AUX_SHUNT_S1, 1, 65535), (AUX_TLIM_HYS, 0, 50),
    (AUX_TLIM_CNT, 1, 255)]
  else if p == pgBAL then [(BAL_POLICY_TICK, 1, 255), (BAL_POLICY_MIN_V, 0, 250), (BAL_POLICY_SLOT_T, 1, 30), (BAL_PASS_CFG_PMAX, 1, 150),
    (BAL_PASS_CFG_MAX_ON, 1, 12), (BAL_PASS_CFG_BLEED_I, 1, 10), (BAL_PASS_CFG_RB, 1, 65535), (BAL_SH_CFG_BAL_I, 1, 50),
    (BAL_SH_CFG_ILIM, 1, 50), (BAL_SH_CFG_SLEW, 1, 15), (BAL_SH_CFG_NRATIO, 1, 255), (BAL_AUX_CFG_RSENSE, 1, 65535),
    (BAL_AUX_CFG_LEASE_T, 10, 60000)]
  else if p == pgEIS then [(EIS_EXC_RMS, 1, 200), (EIS_EXC_VRESP_MAX, 1, 100), (EIS_QUAL_RIP_AVG, 1, 255), (EIS_QUAL_RIP_MIN, 1, 65535),
    (EIS_TEMP_CFG_TRACK_I, 0, 47)]
  else []

def limitsHigh (p : Nat) : List (Fld × Nat × Nat) :=
  if p == pgEST then [(EST_CFG_TS, 1, 100), (EST_MODEL_HW, 1, 255), (EST_NOISE_RV, 1, 255), (EST_LEARN_Q_DZ, 5, 90), (EST_LEARN_Q_STEP, 1, 255),
    (EST_REST_REST_I, 1, 65535), (EST_REST_REST_T, 60, 65535), (EST_REPORT_FAST, 1, 15), (EST_REPORT_CUT_RATE, 1, 255),
    (EST_CUTOFF_VCUT, 0, 5000), (EST_CUTOFF_DIS_THR, 1, 255), (EST_CUTOFF_DIS_N, 1, 255), (EST_QNOM_TPOL_NOM, 1, 4095),
    (EST_QNOM_QNOM, 1000, 1000000), (EST_NOM_R_RSER_NOM, 1, 65535), (EST_NOM_R_RPOL_NOM, 1, 65535), (EST_RS_Z_SOC 0, 0, 100000),
    (EST_RS_SOC_SOC 0, 0, 100000), (EST_RS_Q_MAH 0, 0, 1100000)]
  else if p == pgRING then [(RING_CFG_BUDGET, 45, 95)]
  else if p == pgEPOCH then [(EPOCH_BRK_EP_HI_TMO, 1, 10000), (EPOCH_CM_CFG_HOLD, 1, 3600), (EPOCH_MIR_CFG_TMO, 10, 1000)]
  else if p == pgROSTER then [(ROSTER_CFG_STALE_T, 20, 255)]
  else if p == pgRACK then [(RACK_LIM_V_VMAX, 0, 16000), (RACK_LIM_V_VMIN, 0, 16000), (RACK_LIM_I_ICHG, 1, 65535), (RACK_LIM_I_IDSG, 1, 65535),
    (RACK_LIM_CNT_CNT, 1, 255), (RACK_LIM_CNT_SUM_TOL, 1, 255)]
  else if p == pgARC then [(ARC_CFG_VTH, 1, 255), (ARC_CFG_N, 1, 16), (ARC_CFG_WAIT, 2, 20), (ARC_CFG_SEG_TH, 1, 100), (ARC_HF_HF_RATIO, 4, 255),
    (ARC_LEARN_I_MIN, 1, 65535), (ARC_LEARN_K, 4, 12)]
  else if p == pgISO then [(ISO_CFG_T_HALF, 5, 600), (ISO_CFG_R_M, 1, 65535), (ISO_NET_INJ_V, 1, 1000), (ISO_NET_R_SER, 1, 65535)]
  else if p == pgCAP then [(CAP_CFG_STRIDE, 1, 10000), (CAP_CFG_POST, 0, 8191), (CAP_LVL_MEMBER, 0, 32)]
  else if p == pgHOST then [(HOST_CFG_DUMMY, 8, 63), (HOST_MIR_CFG_LEN, 1, 120), (HOST_EXP_CFG_LEVEL, 1, 511)]
  else if p == pgFLT then [(FLT_CFG_QUIET, 1, 6000), (FLT_CFG_FAULTN_SEV, 1, 4), (FLT_DEF_ESC_N 0, 1, 255), (FLT_DEF_ESC_WIN 0, 1, 10000),
    (FLT_RULE_ESC_FLOOR 0, 0, 4), (FLT_RULE_ESC_N 0, 1, 255), (FLT_RULE_ESC_WIN 0, 1, 10000)]
  else if p == pgWDG then [(WDG_TM_CFG_PER, 1, 65535)]
  else if p == pgKEEP then [(KEEP_CFG_PROB, 100, 60000)]
  else if p == pgTHM then [(THM_CFG_STEP2, 1, 15), (THM_CFG_HYS, 2, 30), (THM_THR_SHUT, 100, 150), (THM_THR_THR, 80, 135), (THM_THR_WARN, 60, 125)]
  else if p == pgRTC then [(RTC_PER_PER, 1, 22118400), (RTC_PWRON_WIDTH, 1, 65535)]
  else if p == pgMEM then [(MEM_CFG_CE_THR, 1, 65535), (MEM_CFG_CE_WIN, 1, 65535)]
  else if p == pgREC then [(REC_CFG_EVT_SEV, 2, 4)]
  else if p == pgOTP then [(OTP_ADDR_ROW, 0, 0x40F)]
  else []

/-- Fields of which the value given and every greater one is not accepted: the field is kept. (DEDUCED, log entry 73) -/
def notAccepted : List (Fld × Nat) :=
  [(REG_BK_SLEW_RATE 3, 7), (REG_LD_CFG_RATE 3, 7), (REG_FSW_FSW, 3), (SEQ_SLOT_CFG_PG_SRC 3, 3), (PHC_RAIL_SLEW_RATE 0, 7),
    (BAL_POLICY_METHOD, 3), (BAL_POLICY_MODE, 3), (BAL_SH_CFG_FSW, 3), (EIS_CFG_METHOD, 3), (EST_CFG_ISRC, 3)]

/-- The register at `a`, or the first of its row: where the tables above name it. -/
def canon (a : Nat) : Nat :=
  match findRow (pageRows (pageOf a)) (offOf a) with
  | some r => pageOf a * 0x1000 + r.base
  | none => a

def clampField (w : Word) (l : Fld × Nat × Nat) : Word := putBits w l.1.lo l.1.wd (clamp l.2.1 l.2.2 (getBits w l.1.lo l.1.wd))

/-- DEDUCED, log entry 73. -/
def keepField (old w : Word) (l : Fld × Nat) : Word :=
  if l.2 ≤ getBits w l.1.lo l.1.wd then putBits w l.1.lo l.1.wd (getBits old l.1.lo l.1.wd) else w

def putF (x : Fld) (w : Word) (v : Nat) : Word := putBits w x.lo x.wd v

def capF (x : Fld) (top : Nat) (w : Word) : Word := putF x w (min top (x.of w))

/-- A snapshot page number outside the page table is stored as 0xFF (R392). -/
def snapPage (x : Fld) (w : Word) : Word := if 0x27 < x.of w then putF x w 0xFF else w

/-- The rules of single registers that a range does not say. (DEDUCED, log entry 74) -/
def State.normSpecial (s : State) (a : Nat) (w : Word) : Word :=
  let c := canon a
  if c == SEQ_SLOT_CFG 3 then (if a < SEQ_SLOT_CFG 11 then putF (SEQ_SLOT_CFG_OUT_GPIO 3) w 0 else w)
  else if c == SEQ_SLOT_DEP 3 then putBits w 0 3 0
  else if c == SEQ_CFG then (if !s.isMgr && 7 ≤ SEQ_CFG_VSYS_SLOT.of w && SEQ_CFG_VSYS_SLOT.of w ≤ 10 then w else putF SEQ_CFG_VSYS_SLOT w 0x1F)
  else if c == PHC_RAIL_UST 0 then (if s.isMgr && a == PHC_RAIL_UST 0 then w else putF (PHC_RAIL_UST_CONT_ARM 0) w 0)
  else if c == CONT_SENSE then capF CONT_SENSE_OFF_PCT (CONT_SENSE_ON_PCT.of w - 1) w
  else if c == CONT_FT then putF CONT_FT_HARD_THR w (max (CONT_FT_FT_THR.of w) (CONT_FT_HARD_THR.of w))
  else if c == BAL_THR then BitVec.ofNat 32 (balThrOf w)
  else if c == EIS_SLOT_F then BitVec.ofNat 32 (slotOf false w)
  else if c == EIS_SLOT_L then BitVec.ofNat 32 (slotOf true w)
  else if c == EIS_EXC then
    let lim : Int := s.f BAL_SH_CFG_ILIM * 10
    putF EIS_EXC_BIAS w (unsigned 16 (clampInt (-lim) lim (signed 16 (EIS_EXC_BIAS.of w))))
  else if c == EST_OCV 0 0 || c == EST_OCV 1 0 || c == EST_OCV 2 0 then
    (if a == c then w else putBits w 0 16 (max (getBits (s.reg (a - 4)) 0 16) (getBits w 0 16)))
  else if c == EPOCH_SNAP_CFG then
    (if EPOCH_SNAP_CFG_PER.of w == 0 then w else putF EPOCH_SNAP_CFG_PER w (max 10 (EPOCH_SNAP_CFG_PER.of w)))
  else if c == EPOCH_SNAP_PG then snapPage EPOCH_SNAP_PG_PAGE2 (snapPage EPOCH_SNAP_PG_PAGE1 (snapPage EPOCH_SNAP_PG_PAGE0 w))
  else if c == ISO_THR then capF ISO_THR_ALARM (ISO_THR_WARN.of w) w
  else if c == CAP_CFG then (if s.isMgr then w else putF CAP_CFG_RACK (putF CAP_CFG_MGR w 0) 0)
  else if c == CAP_TRIG then (if s.isMgr then w else w &&& 0x21)
  else if c == WDG_TM_SLOT 0 then putF (WDG_TM_SLOT_MAX 0) w (max ((WDG_TM_SLOT_MIN 0).of w) ((WDG_TM_SLOT_MAX 0).of w))
  else if c == THM_CFG then
    let en := THM_CFG_EN.of w
    putF THM_CFG_EN w (en + (if en % 8 == 0 then 1 else 0) + (if en / 8 == 0 then 8 else 0))
  else if c == THM_THR then
    let w1 := if THM_THR_SHUT.of w ≤ THM_THR_THR.of w then putF THM_THR_THR w (THM_THR_SHUT.of w - 1) else w
    capF THM_THR_WARN (THM_THR_THR.of w1) w1
  else if c == RTC_TRIM then putF RTC_TRIM_TRIM w (unsigned 16 (clampInt (-5000) 5000 (signed 16 (RTC_TRIM_TRIM.of w))))
  else w

/-- The bits of the register at `a` that a write can change. -/
def writeMask (a : Nat) : Nat := match rowAt a with | some r => r.mask | none => 0

/-- What the register at `a`, which holds `old`, stores of a write of `w`. (DEDUCED, log entry 73) -/
def State.norm (s : State) (a : Nat) (old w : Word) : Word :=
  let m := BitVec.ofNat 32 (writeMask a)
  let c := canon a
  let w0 := (old &&& ~~~m) ||| (w &&& m)
  let w1 := (notAccepted.filter fun l => l.1.reg == c).foldl (keepField old) w0
  let lim := limitsLow (pageOf a) ++ limitsHigh (pageOf a)
  s.normSpecial a ((lim.filter fun l => l.1.reg == c).foldl clampField w1)

/-- A write to an RW or RWL register of the pages that a configuration record may name (R545): SEQ, PHC, PATH, FEED, THM, AFE. -/
def cfgWrite (a : Nat) (w : Word) : Prog :=
  if canon a == PHC_RAIL_VSET 0 then railVset ((a - PHC_RAIL_VSET 0) / 0x80) w
  else if a == CHG_PACK then chgPackWrite w
  else if a == CHG_VREG then chgVregWrite w
  else if a == AFE_CFG then afeCfgWrite w
  else if a == AFE_TMUX then tmuxWrite w
  else .dyn fun s => .act (.reg a (s.norm a (s.reg a) w))

end Sys2Proof.Machine
end

