-- ==== Sys2Proof/Machine/Otp.lean ====
section
/-!
DEFINITION. One-time-programmable memory (25_otp.md, R539-R547): redirection, digests and region states, the load of bring-up
step 2, configuration records, and the commands with their burns; and which registers a system reset leaves (R97, R101).
-/
namespace Sys2Proof.Machine

def otpEng (g : OtpEng → OtpEng) : Prog := eng fun e => { e with otp := g e.otp }

def otpEvent (k : Nat) : Prog := event (OTP_EVT_RAW_EVENTS.bit k)

/-! ### What a system reset leaves (R97, R101, R120, R149, R173, R178, R200, R494, R517) -/

/-- The slot of regulator `k`: BK0-BK2 and LD0-LD2 are the fixed slots, BK3 is slot 3, LD3-LD5 slots 4-6 (R132). -/
def slotOfReg (k : Nat) : Option Nat := if k == 3 then some 3 else if 7 ≤ k && k ≤ 9 then some (k - 3) else none

/-- A regulator's supply stays: the fixed rails, or a slot that is up. (DEDUCED, log entry 25) -/
def State.regKept (s : State) (k : Nat) : Bool := match slotOfReg k with | some n => s.slotState n == 3 | none => true

/-- DEDUCED, log entry 25. -/
def State.railKept (s : State) (r : Nat) : Bool := r < 4 && s.slotState (7 + r) == 3

/-- A supervisor goes on judging through a system reset (R120). (DEDUCED, log entry 25) -/
def State.svKept (s : State) (n : Nat) : Bool :=
  let src := s.f (SV_CFG_SRC n)
  if 1 ≤ src && src ≤ 10 then s.regKept (src - 1)
  else if 11 ≤ src && src ≤ 14 then s.railKept (src - 11)
  else [0x0F, 0x10, 0x11, 0x12, 0x13, 0x14].contains src

/-- Registers of slots, regulators, rails, phases and supervisors that are kept up. -/
def State.slotRegKept (s : State) (a : Nat) : Bool :=
  let o := offOf a
  if pageOf a == pgSEQ then 0x40 ≤ o && o < 0x2A0 && s.slotState ((o - 0x40) / 0x20) == 3
  else if pageOf a == pgREG then
    if 0x40 ≤ o && o < 0xC0 then s.regKept ((o - 0x40) / 0x20) else 0xC0 ≤ o && o < 0x120 && s.regKept (4 + (o - 0xC0) / 0x10)
  else if pageOf a == pgPHC then
    if 0x80 ≤ o && o < 0x280 then s.railKept ((o - 0x80) / 0x80)
    else 0x280 ≤ o && (List.range 4).any fun r => s.railKept r && bitOf (s.rail r).phases ((o - 0x280) / 0x20)
  else if pageOf a == pgSUP then 0x40 ≤ o && o < 0x140 && s.svKept ((o - 0x40) / 0x10)
  else false

/-- Pages that a system reset leaves whole. (DEDUCED, log entry 24) -/
def keptPage (p : Nat) : Bool := [pgWDG, pgKEEP, pgRTC, pgFEED, pgPATH].contains p

/-- The header of a page outside the AON domain, its STATUS apart, which shows kept state (R50, R54). (DEDUCED, log entry 24) -/
def pwrHeader (a : Nat) : Bool := (pageOf a == pgFEED || pageOf a == pgPATH) && offOf a < 0x040 && offOf a != 0x008

/-- The register at `a` survives a system reset. (DEDUCED, log entries 23, 24) -/
def State.sysKept (s : State) (a : Nat) : Bool :=
  (keptPage (pageOf a) && !pwrHeader a) || (isAon a && pageOf a != pgMODE) ||
    [RST_CAUSE, RST_CNT, RST_PREV, IDENT_ROLE, SVC_SESSION, SVC_DEBUG, SVC_FAIL, REG_INT_MON].contains a || s.slotRegKept a

/-! ### Regions and digests (R539, R540, R543) -/

/-- First row and the row after the last of region `r`. -/
def otpRegion (r : Nat) : Nat × Nat :=
  ([(0x000, 0x080), (0x080, 0x100), (0x100, 0x120), (0x120, 0x140), (0x140, 0x180), (0x180, 0x280), (0x280, 0x380), (0x380, 0x400)][r]?).getD (0, 0)

def regionOfRow (row : Nat) : Option Nat := (List.range 8).find? fun r => (otpRegion r).1 ≤ row && row < (otpRegion r).2

/-- DEDUCED, log entry 55. -/
def isMarker (row : Nat) : Bool := 0x110 ≤ row && row < 0x118

def sealedRows (r : Nat) : List Nat :=
  ((List.range ((otpRegion r).2 - (otpRegion r).1 - 8)).map fun i => (otpRegion r).1 + i).filter fun row => !isMarker row

/-- A sealed row of its region. (DEDUCED, log entry 55) -/
def isSealed (row : Nat) : Bool := match regionOfRow row with | some r => (sealedRows r).contains row | none => false

/-- The digest words of region `r`, in the order of its digest rows. -/
def State.digestWords (s : State) (r : Nat) : List Nat :=
  Sha.leWords (Sha.sha256 ((sealedRows r).flatMap fun row => Sha.leBytes (s.otpRead row)))

def digestRow (r j : Nat) : Nat := (otpRegion r).2 - 8 + j

def State.digestRead (s : State) (r : Nat) : List Nat := (List.range 8).map fun j => s.otpRead (digestRow r j)

/-- 0 OPEN, 1 VALID, 2 INVALID (R540, R541). -/
def State.regionCheck (s : State) (r : Nat) : Nat :=
  if (s.digestRead r).all (· == 0) then 0 else if s.digestRead r == s.digestWords r then 1 else 2

def State.regionState (s : State) (r : Nat) : Nat := s.f (OTP_REGION_STATE r)

/-! ### The load of bring-up step 2 (R541, R543-R545) -/

def redirLoad : Prog := .dyn fun s =>
  blk [upTo 16 fun e => blk [setB (OTP_REDIR_VALID e) (s.redirValid e), setB (OTP_REDIR_CORR e) (s.redirCorr e),
      set (OTP_REDIR_ROW e) (getBits (s.redirWord e) 0 10)],
    set OTP_REDIR_USE_USED ((List.range 16).filter s.redirValid).length,
    set OTP_REDIR_USE_CORR ((List.range 16).filter s.redirCorr).length,
    whenB ((List.range 16).any s.redirCorr) (otpEvent 2)]

/-- A region fails its digest check (R541, R546). -/
def digestFail (r : Nat) : Prog := blk [otpEvent 3, send pgOTP r 0 0]

/-- Region states, with what a failure records. (DEDUCED, log entry 95) -/
def regionLoad : Prog := .dyn fun s =>
  upTo 8 fun r =>
    blk [set (OTP_REGION_STATE r) (s.regionCheck r),
      whenB (s.regionCheck r == 2) (blk [set (RST_BOOT_REGION_FAIL.bit r) 1, set RST_CAUSE_OTP_DIGEST 1, digestFail r])]

/-- A row as loaded: 0 where its region is INVALID. -/
def State.otpLoaded (s : State) (row : Nat) : Nat :=
  match regionOfRow row with | some r => if s.regionState r == 2 then 0 else s.otpRead row | none => 0

/-- Option rows, identity and vendor trims. (DEDUCED, log entry 95) -/
def optLoad : Prog := .dyn fun s =>
  let raw := (sealedRows 0).map s.otpRead
  let trim (a : Nat) : Nat := if s.regionState 0 == 2 then 0 else (Config.vendorTrim raw a).toNat
  blk [upTo 3 fun i => setReg (OTP_OPT i) (s.otpLoaded (0x120 + i)),
    setReg IDENT_UID_LO (s.otpLoaded 0x080), setReg IDENT_UID_HI (s.otpLoaded 0x081),
    upTo 32 fun c => setReg (AFE_CAL_V c) (trim (AFE_CAL_V c)), setReg ADC_INTL_TRIM (trim ADC_INTL_TRIM),
    set AFE_STROBE_DELAY_TRIM (trim AFE_STROBE), setB AFE_STATUS_CAL_NOM (s.regionState 0 == 2),
    setB WDG_STATUS_COMPAT (bitOf (s.otpLoaded 0x120) 8)]

/-- The region of the configuration in force: CFG_SRC 2 region 6, 1 region 5, 0 none. -/
def State.cfgSrc (s : State) : Nat := if s.regionState 6 == 1 then 2 else if s.regionState 5 != 2 then 1 else 0

/-- The records of the configuration in force, up to the first address row that reads 0. -/
def State.cfgRecords (s : State) : List (Nat × Nat) :=
  let first := (otpRegion (4 + s.cfgSrc)).1
  if s.cfgSrc == 0 then []
  else ((List.range 124).map fun i => (s.otpRead (first + 2 * i), s.otpRead (first + 2 * i + 1))).takeWhile fun x => x.1 != 0

/-- A register that a record may name. -/
def cfgTarget (a : Nat) : Bool :=
  a % 4 == 0 && 0x40 ≤ offOf a && [pgSEQ, pgPHC, pgPATH, pgFEED, pgTHM, pgAFE].contains (pageOf a) &&
    (match rowAt a with | some r => r.acc == .rw || r.acc == .rwl || r.acc == .stg | none => false)

/-- One record is applied: page locks and R88 do not apply; a register that R101 keeps is left, as those of FEED and PATH are but at a
power-on reset (R200). (DEDUCED, log entry 25) -/
def cfgRecord (x : Nat × Nat) : Prog := .dyn fun s =>
  if !cfgTarget x.1 then incSat OTP_STATUS_SKIPPED
  else whenB (!s.slotRegKept x.1 && (s.eng.boot.fresh || !keptPage (pageOf x.1))) (cfgWrite x.1 (BitVec.ofNat 32 x.2))

def cfgLoad : Prog := .dyn fun s =>
  blk [set OTP_STATUS_CFG_SRC s.cfgSrc, set OTP_STATUS_SKIPPED 0, forEach s.cfgRecords cfgRecord]

/-! ### Commands (R542) -/

/-- A command ends: OTP_RESULT, CMD_DONE, and CMD_FAIL where its result is not OK. -/
def otpResult (code retries : Nat) : Prog :=
  blk [set OTP_RESULT_CODE code, set OTP_RESULT_RETRIES retries, otpEvent 0, whenB (code != 1) (otpEvent 1)]

def otpDone (code retries : Nat) : Prog :=
  blk [otpResult code retries, set OTP_STATUS_BUSY 0, otpEng fun e => { e with job := none }]

/-- A command that burns starts. -/
def otpStart (j : OtpJob) : Prog := .seq (set OTP_STATUS_BUSY 1) (otpEng fun e => { e with job := some j })

/-- A row that READ does not return. -/
def isProtected (row : Nat) : Bool := match regionOfRow row with | some 7 => true | some 1 => !(row == 0x080 || row == 0x081) | _ => false

/-- READ of row ADDR; `weak` holds the bits in which the reading at MARGIN differs from the NORMAL one. (DEDUCED, log entry 57) -/
def otpReadCmd (margin : Nat) (weak : Word) : Prog := .dyn fun s =>
  let row := s.f OTP_ADDR_ROW
  if isProtected row then .seq (setReg OTP_RDATA 0) (otpResult 7 0)
  else
    let v := s.otpRead row
    blk [setReg OTP_RDATA (if margin == 0 then v else (BitVec.ofNat 32 v ^^^ weak).toNat), whenB (margin != 0) (setReg OTP_WEAK weak.toNat),
      otpResult 1 0]

/-- VSYS reads below 10.00 V. -/
def State.lowSupply (s : State) : Bool := s.f REG_VSYS_MV10 < 1000

/-- DEDUCED, log entries 54, 55. -/
def otpProg : Prog := .dyn fun s =>
  let row := s.f OTP_ADDR_ROW
  let fin := match regionOfRow row with | some r => s.regionState r != 0 | none => true
  if 0x3FF < row || (isSealed row && fin) then otpResult 3 0
  else if s.lowSupply then otpResult 5 0
  else otpStart { op := 2, rows := [(s.rowAtHand row, s.f OTP_WDATA_DATA)], row := row }

/-- The next free spare row. -/
def State.freeSpare (s : State) : Option Nat := (List.range 16).find? fun e => !s.redirValid e

def otpRepair : Prog := .dyn fun s =>
  let row := s.f OTP_ADDR_ROW
  let fin := match regionOfRow row with | some r => s.regionState r != 0 | none => true
  if 0x3FF < row then otpResult 3 0
  else if isSealed row && fin && s.f OTP_WDATA_DATA != s.otpRead row then otpResult 8 0
  else if s.lowSupply then otpResult 5 0
  else match s.freeSpare with
    | none => otpResult 4 0
    | some e => otpStart { op := 3, rows := [(0x400 + e, s.f OTP_WDATA_DATA)], row := row, region := e }

def otpFinalise (r : Nat) : Prog := .dyn fun s =>
  if s.regionState r != 0 then otpResult 3 0
  else if s.lowSupply then otpResult 5 0
  else otpStart { op := 4, rows := (s.digestWords r).zipIdx.map fun x => (s.rowAtHand (digestRow r x.2), x.1), region := r }

/-- The level that a command needs (R539, R554); 4 is a level no session has: the markers are burned only by R551. -/
def State.otpLevel (s : State) (op region : Nat) : Nat :=
  let ofRegion (r : Nat) : Nat := if r ≤ 2 then 3 else 2
  if op == 2 || op == 3 then
    let row := s.f OTP_ADDR_ROW
    if isMarker row then 4 else match regionOfRow row with | some r => ofRegion r | none => 0
  else if op == 4 then ofRegion region else s.f SEC_POLICY_WRITE_MIN

/-- OTP_CMD written with its key at a sufficient level. -/
def otpCmd (op margin region : Nat) (weak : Word) : Prog := .dyn fun s =>
  if margin == 3 || op == 0 || 4 < op then .skip
  else if op == 1 then (if s.b OTP_STATUS_BUSY then otpResult 6 0 else otpReadCmd margin weak)
  else accepted OTP_CMD 6 (if s.b OTP_STATUS_BUSY then otpResult 6 0
    else if op == 2 then otpProg else if op == 3 then otpRepair else otpFinalise region)

/-! ### Burn attempts -/

/-- The entry of a REPAIR is programmed in all three copies, and takes effect (R543). -/
def redirBurn (e row : Nat) : Prog := .seq (upTo 3 fun c => burn (redirAt e c) (2 ^ 31 + row)) redirLoad

/-- A command's last row has verified. (DEDUCED, log entry 56) -/
def otpComplete (j : OtpJob) : Prog :=
  if j.op == 3 then
    blk [redirBurn j.region j.row, incSat OTP_CNT_REPAIRS, otpDone 1 j.most]
  else if j.op == 4 then
    .dyn fun s => blk [set (OTP_REGION_STATE j.region) (s.regionCheck j.region), whenB (s.regionCheck j.region == 2) (digestFail j.region),
      otpDone 1 j.most]
  else otpDone 1 j.most

/-- The row in progress of job `j` verifies; `fin` is what follows the last row. -/
def otpVerified (j : OtpJob) (fin : OtpJob → Prog) : Prog :=
  let j1 : OtpJob := { j with
    rows := j.rows.drop 1
    retries := 0
    most := max j.most j.retries }
  .seq (incSat OTP_CNT_PROGS) (if j1.rows.isEmpty then fin j1 else otpEng fun e => { e with job := some j1 })

/-- A row does not verify after its eighth retry (R542, R546). (DEDUCED, log entry 56) -/
def otpVerifyFail (row : Nat) (fin : Prog) : Prog := blk [incSat OTP_CNT_VERIFY_FAILS, send pgOTP (row % 64) 1 row, fin]

/-- A burn attempt of the row in progress ends; `fail` marks the bits that do not read 1 at the HIGH reference.  What such a bit
reads at NORMAL is open.  `ok` and `bad` are what follows the last row and a failure. (DEDUCED, log entry 57) -/
def otpAttempt (fail : Word) (ok : OtpJob → Prog) (bad : OtpJob → Prog) : Prog := .dyn fun s =>
  match s.eng.otp.job with
  | none => .skip
  | some j => match j.rows with
    | [] => .skip
    | (row, data) :: _ =>
      let miss := data % 2 ^ 32 &&& fail.toNat
      blk [burn row (data % 2 ^ 32 - miss), whenB (miss != 0) (withFree fun k => burn row (miss &&& k)),
        if miss == 0 then otpVerified j ok
        else if j.retries < 8 then otpEng fun e => { e with job := some { j with retries := j.retries + 1 } }
        else otpVerifyFail (if j.op == 2 then j.row else row) (bad j)]

/-- A power-on or system reset: the burn in progress completes and the command ends (R542). -/
def otpReset : Prog := .dyn fun s =>
  .seq (match s.eng.otp.job.bind fun j => j.rows.head? with | some x => burn x.1 x.2 | none => .skip)
    (otpEng fun e => { e with job := none })

end Sys2Proof.Machine
end

