-- ==== Sys2Proof/Machine/Sec.lean ====
section
/-!
DEFINITION. Security (26_security_and_access.md, R550-R569): lifecycle, levels and the session, challenge and password, lockout,
ports, patch verification and entropy.
-/
namespace Sys2Proof.Machine

def svcEvent (k : Nat) : Prog := event (SVC_EVT_RAW_EVENTS.bit k)

/-! ### Lifecycle: 0 BLANK, 1 PROVISIONED, 2 FIELD, 3 RETURNED, 4 DECOMMISSIONED (R550-R552) -/

/-- The state that the markers name; an INVALID region 2 counts as FIELD (R541, R550). -/
def State.lifecycle (s : State) : Nat :=
  if s.regionState 2 == 2 then 2
  else ((List.range 4).reverse.find? fun k => 24 ≤ popcount (s.otpRead (0x110 + k))).elim 0 (· + 1)

/-- Base level of a lifecycle state (R552). -/
def lcBase (lc : Nat) : Nat := match lc with | 0 => 3 | 1 => 2 | _ => 0

/-- Level `l` is offered by challenge (R552). -/
def lcOffers (lc l : Nat) : Bool := match lc with | 1 => l == 3 | 2 => 1 ≤ l && l ≤ 3 | 3 => l == 3 | _ => false

/-- The highest level that the lifecycle offers (R559): in BLANK its base level is VENDOR. (DEDUCED, log entry 59) -/
def lcHighest (lc : Nat) : Nat := if lc == 4 then 0 else 3

def lcFactory (lc : Nat) : Bool := lc == 0 || lc == 3

/-! ### Session and ports (R553, R558, R560) -/

def State.level (s : State) : Nat := s.f SVC_SESSION_LEVEL

/-- The level at which an access is judged (R376, R439, R553, R559); a core's is not judged. -/
def State.levelOf (s : State) : Src → Option Nat
  | .core => none
  | .xspi => some s.level
  | .i2c => some 0
  | .ring l => some (min l.val (lcHighest s.lc))

/-- The level of the session behind a command that asks for one itself (R551, R560): that of its access, the xSPI session's for a core.
(DEDUCED, log entry 59) -/
def State.sessionOf (s : State) (src : Src) : Nat := (s.levelOf src).getD s.level

def portsSet (on : Bool) : Prog := .seq (setB SVC_DEBUG_SAP_OPEN on) (setB SVC_DEBUG_TAP_FULL on)

/-- The ports where the lifecycle alone decides on them; in FIELD they stay as DEBUG_OPEN and DEBUG_CLOSE left them (R552, R560). -/
def portsLook : Prog := .dyn fun s =>
  match s.lc with
  | 0 | 1 => portsSet true
  | 2 => .skip
  | 3 => portsSet (s.level == 3)
  | _ => portsSet false

/-- The session takes level `l`; below SERVICE, SERVICE ends (R83). -/
def sessionTo (l : Nat) : Prog := blk [set SVC_SESSION_LEVEL l, portsLook, whenB (l < 2) serviceLapse]

/-- The session returns to its base level; in FIELD the ports close (R558, R560). (DEDUCED, log entry 60) -/
def sessionBase : Prog := .dyn fun s => .seq (whenB (s.lc == 2) (portsSet false)) (sessionTo (lcBase s.lc))

/-- What follows from the lifecycle in force. -/
def lcShow (lc : Nat) : Prog :=
  blk [set SEC_STATUS_LC lc, setB SEC_STATUS_FACTORY_OK (lcFactory lc), set SVC_SESSION_BASE (lcBase lc), set SVC_SESSION_REMAIN 600]

/-! ### The load of bring-up step 2 (R541, R566) -/

/-- SEC_POLICY and SEC_MINVER: most restrictive where region 4 is INVALID, 0 where it is OPEN. (DEDUCED, log entry 95) -/
def policyLoad : Prog := .dyn fun s =>
  let st := s.regionState 4
  let w (row : Nat) : Nat := if st == 1 then s.otpRead row else 0
  let v := BitVec.ofNat 32 (w 0x140)
  blk [set SEC_POLICY_LOCK_N (if st == 2 then 1 else getBits v 4 4), set SEC_POLICY_WRITE_MIN (if st == 2 then 1 else getBits v 2 2),
    set SEC_POLICY_DEBUG_FIELD (getBits v 1 1), set SEC_POLICY_PW_DIS (if st == 2 then 1 else getBits v 0 1),
    set SEC_MINVER_MADDER (popcount (w 0x141)), set SEC_MINVER_WOAD (popcount (w 0x142)), set SEC_MINVER_WELD (popcount (w 0x143))]

/-- The lifecycle is read; `fresh` after a power-on reset, when the session starts at its base level. -/
def secLoad (fresh : Bool) : Prog := .dyn fun s =>
  blk [lcShow s.lifecycle, policyLoad, whenB fresh (.seq (portsSet false) (set SVC_SESSION_LEVEL (lcBase s.lifecycle))), portsLook]

/-! ### Lifecycle transitions (R551) -/

/-- The level and the regions that the transition to the next state needs; none where there is no such transition. -/
def lcNeeds (lc : Nat) : Option (Nat × List Nat) :=
  match lc with | 0 => some (3, [0, 1]) | 1 => some (2, [3, 4, 7]) | 2 => some (3, []) | _ => none

/-- The marker of state `target` is to be burned, after the supply check of R542. -/
def lcBurn (target : Nat) : Prog := .dyn fun s =>
  if s.b OTP_STATUS_BUSY then set SEC_STATUS_LC_RESULT 2
  else if s.lowSupply then set SEC_STATUS_LC_RESULT 3
  else otpStart { op := 5, rows := [(s.rowAtHand (0x10F + target), 2 ^ 32 - 1)], region := target }

/-- DEDUCED, log entry 59. -/
def lcAdvance (src : Src) : Prog := .dyn fun s =>
  match lcNeeds s.lc with
  | none => set SEC_STATUS_LC_RESULT 2
  | some (l, rs) =>
    if l ≤ s.sessionOf src && rs.all fun r => s.regionState r == 1 then lcBurn (s.lc + 1) else set SEC_STATUS_LC_RESULT 2

/-- DEDUCED, log entry 59. -/
def lcDecom (src : Src) : Prog := .dyn fun s => if s.lc == 4 || s.sessionOf src < 2 then set SEC_STATUS_LC_RESULT 2 else lcBurn 4

/-- A marker has verified: the new state takes effect (R551, R558, R568). (DEDUCED, log entry 60) -/
def lcChanged (target : Nat) : Prog :=
  blk [lcShow target, set SEC_STATUS_LC_RESULT 1, secEvent 0, send pgSEC target 2 0, incSat SEC_CNT_LC_CHANGES,
    portsSet false, sessionTo (lcBase target)]

def otpIdle : Prog := .seq (set OTP_STATUS_BUSY 0) (otpEng fun e => { e with job := none })

/-- The rows of region 7, to be burned to ones behind the DECOMMISSIONED marker. (DEDUCED, log entry 61) -/
def decomJob (s : State) : OtpJob := { op := 6, rows := (List.range 128).map fun i => (s.rowAtHand (0x380 + i), 2 ^ 32 - 1) }

/-- The last row of a job has verified. -/
def jobDone (j : OtpJob) : Prog :=
  if j.op == 5 then .seq (lcChanged j.region) (if j.region == 4 then .dyn fun s => otpStart (decomJob s) else otpIdle)
  else if j.op == 6 then otpIdle else otpComplete j

/-- A row of a job does not verify: a transition leaves the state; the burning of region 7 goes on with its next row. (DEDUCED, log entry 61) -/
def jobBad (j : OtpJob) : Prog :=
  if j.op == 5 then .seq (set SEC_STATUS_LC_RESULT 4) otpIdle
  else if j.op == 6 then
    (if (j.rows.drop 1).isEmpty then otpIdle
    else otpEng fun e => { e with job := some { j with
      rows := j.rows.drop 1
      retries := 0 } })
  else if j.op == 4 then .dyn fun s => .seq (set (OTP_REGION_STATE j.region) (s.regionCheck j.region)) (otpDone 2 8)
  else otpDone 2 8

/-- OTP_BURN_ATTEMPT_DONE. -/
def burnAttempt (fail : Word) : Prog := otpAttempt fail jobDone jobBad

/-- SEC_CMD written with its key at a sufficient level (R569); REKEY belongs to the ring-enumeration class. -/
def rekeyCmd (w : Nat) : Prog := .dyn fun s =>
  whenB s.isMgr
    (if w == 0 then .seq groupDraw (keyRepeat s.eng.ring.keys.mergeSort) else whenB (s.eng.ring.keys.contains w) (keyRepeat [w]))

/-! ### Entropy (R565) -/

def rngSet (ok : Bool) : Prog := .seq (setB SEC_RNG_OK ok) (setB SEC_STATUS_RNG_OK ok)

def rngFail : Prog := blk [rngSet false, secEvent 1, send pgSEC 0 0 0, incSat SEC_CNT_RNG_FAILS]

/-- A continuous health test fails: the adaptive proportion test, or the repetition count. -/
def rngHealthFail (apt : Bool) : Prog := .seq (incSat (if apt then SEC_RNG_APT_FAILS else SEC_RNG_RCT_FAILS)) rngFail

/-- The start-up test runs again. -/
def rngRestart : Prog := .seq (rngSet false) (set SEC_RNG_STARTUP_DONE 0)

def rngStartupDone (ok : Bool) : Prog :=
  whenS (fun s => !s.b SEC_RNG_STARTUP_DONE) (.seq (set SEC_RNG_STARTUP_DONE 1) (if ok then rngSet true else rngFail))

def secCmd (src : Src) (op w : Nat) : Prog :=
  match op with
  | 1 => accepted SEC_CMD 6 (lcAdvance src)
  | 2 => accepted SEC_CMD 6 (lcDecom src)
  | 3 => accepted SEC_CMD 8 (rekeyCmd w)
  | 4 => rngRestart
  | _ => .skip

/-! ### Challenge, password, lockout (R555-R557) -/

/-- LOCK_REM: seconds of the lockout that remain (R557). (DEDUCED, log entry 67) -/
def State.lockRem (s : State) : Nat :=
  if s.f SVC_FAIL_LOCK_REM == 0 then 0 else 900 - (s.now - s.eng.sec.lockAt) / 1000000

def State.lockedOut (s : State) : Bool := s.lockRem != 0

/-- First row of the challenge key of a level, and of its password digest (R566). -/
def keyRow (l : Nat) : Nat := if l == 3 then 0x088 else if l == 2 then 0x388 else 0x380
def pwRow (l : Nat) : Nat := if l == 2 then 0x3A0 else 0x398

/-- The rows hold something, and their region may be used (R541, R552). -/
def State.keyUsable (s : State) (row : Nat) : Bool :=
  (s.rowBytes row).any (· != 0) && (if row < 0x100 then s.regionState 1 != 2 else s.lc == 2 && s.regionState 7 == 1)

def svcResult (r : Nat) : Prog := set SVC_STATUS_RESULT r

def nonceGone : Prog := .seq (set SVC_STATUS_CHAL 0) (secEng fun e => { e with nonce := false })

/-- DEDUCED, log entry 62. -/
def svcChallenge (l : Nat) : Prog := .dyn fun s =>
  if s.lockedOut then svcResult 5
  else if !lcOffers s.lc l || !s.keyUsable (keyRow l) then svcResult 4
  else if !s.b SEC_RNG_OK then svcResult 6
  else blk [upTo 4 fun i => withFree fun x => setReg (SVC_NONCE i) x, set SVC_STATUS_CHAL 1, set SVC_STATUS_CHAL_LEVEL l,
    secEng fun e => { e with nonce := true, nonceAt := s.now }, svcResult 1]

/-- A response or password is right, or wrong. -/
def svcOk (l : Nat) : Prog :=
  blk [svcResult 1, set SVC_FAIL_COUNT 0, incSat SVC_CNT_AUTH_OK, svcEvent 0, sessionTo l]

def lockout (l : Nat) : Prog := .dyn fun s =>
  blk [set SVC_FAIL_LOCK_REM 900, secEng fun e => { e with lockAt := s.now }, svcEvent 2, incSat SVC_CNT_LOCKOUTS, send pgSVC l 1 0]

/-- LOCK_N in force, 0 counting as 5 (R566). -/
def State.lockN (s : State) : Nat := if s.f SEC_POLICY_LOCK_N == 0 then 5 else s.f SEC_POLICY_LOCK_N

def svcBad (l : Nat) : Prog :=
  blk [svcResult 2, incSat SVC_FAIL_COUNT, incSat SVC_CNT_AUTH_FAIL, svcEvent 1, send pgSVC l 0 0,
    whenS (fun s => s.f SVC_FAIL_COUNT == s.lockN) (lockout l)]

/-- The response expected for the live nonce (R555). -/
def State.svcMac (s : State) : List Nat :=
  let l := s.f SVC_STATUS_CHAL_LEVEL
  Sha.hmac (s.rowBytes (keyRow l)) (((List.range 4).flatMap fun i => Sha.leBytes (s.reg (SVC_NONCE i)).toNat) ++ s.uidBytes ++ [l])

def State.respBytes (s : State) (n : Nat) : List Nat := (List.range n).flatMap fun i => Sha.leBytes (s.reg (SVC_RESP i)).toNat

def svcRespond : Prog := .dyn fun s =>
  if !s.eng.sec.nonce then svcResult 3
  else .seq nonceGone (if s.respBytes 8 == s.svcMac then svcOk (s.f SVC_STATUS_CHAL_LEVEL) else svcBad (s.f SVC_STATUS_CHAL_LEVEL))

def svcPassword (l : Nat) : Prog := .dyn fun s =>
  if s.lockedOut then svcResult 5
  else if s.b SEC_POLICY_PW_DIS || !(l == 1 || l == 2) || !s.keyUsable (pwRow l) then svcResult 4
  else if Sha.sha256 (s.respBytes 4 ++ s.uidBytes) == s.rowBytes (pwRow l) then svcOk l else svcBad l

/-- DEBUG_OPEN (R560). (DEDUCED, log entry 63) -/
def debugOpen (src : Src) : Prog := .dyn fun s =>
  if s.lc == 2 && 2 ≤ s.sessionOf src && s.b SEC_POLICY_DEBUG_FIELD then blk [portsSet true, svcEvent 4, send pgSVC 0 2 0]
  else setOutc .denied

def debugClose : Prog := whenS (fun s => s.lc == 2) (portsSet false)

/-- SVC_CMD written with its key (R571). -/
def svcCmd (src : Src) (op l : Nat) : Prog :=
  match op with
  | 1 => svcChallenge l | 2 => svcRespond | 3 => svcPassword l | 4 => sessionBase | 5 => debugOpen src | 6 => debugClose | _ => .skip

/-- A live nonce is 60 s old (R555). -/
def State.nonceOld (s : State) : Bool := s.eng.sec.nonce && s.eng.sec.nonceAt + 60000000 ≤ s.now

def nonceExpiry : Prog := whenS (·.nonceOld) nonceGone

/-- The 900 s of the lockout have passed (R557). -/
def State.lockOver (s : State) : Bool := s.f SVC_FAIL_LOCK_REM != 0 && s.lockRem == 0

def lockoutEnd : Prog := whenS (·.lockOver) (.seq (set SVC_FAIL_LOCK_REM 0) (set SVC_FAIL_COUNT 0))

/-- 600 s have passed without an xSPI transaction (R558): a session at its base level does not lapse. -/
def State.lapseDue (s : State) : Bool := s.level != lcBase s.lc && s.eng.sec.lastAt + 600000000 ≤ s.now

def sessionLapse : Prog := whenS (·.lapseDue) (.seq (svcEvent 3) sessionBase)

/-- One microsecond of the sessions: a nonce, the lockout, a session run out (R555-R558). -/
def secUs : Prog := blk [nonceExpiry, lockoutEnd, sessionLapse]

/-- REMAIN: seconds to the lapse (R558, R571). (DEDUCED, log entry 67) -/
def State.svcRemain (s : State) : Nat :=
  if s.level == lcBase s.lc then 600 else 600 - (s.now - s.eng.sec.lastAt) / 1000000

/-! ### Patch images (R561, R562) -/

/-- Word `i` of the image of core `c`: 0 Madder, 1 Woad, 2 Weld. -/
def State.patchWord (s : State) (c i : Nat) : Nat := s.recWord (0x4000 * c + 4 * i)

def minVer (c : Nat) : Fld := if c == 0 then SEC_MINVER_MADDER else if c == 1 then SEC_MINVER_WOAD else SEC_MINVER_WELD

/-- `n` words of the image from word `i` on, as bytes in R65 order. -/
def State.patchBytes (s : State) (c i n : Nat) : List Nat := (List.range n).flatMap fun k => Sha.leBytes (s.patchWord c (i + k))

/-- 32 bytes of OTP rows as a number, the first byte the most significant. (DEDUCED, log entry 64) -/
def State.rowNum (s : State) (row : Nat) : Nat := Sha.numOf (s.rowBytes row)

/-- The signature of the image verifies (R561). (DEDUCED, log entry 64) -/
def State.patchSigned (s : State) (c : Nat) : Bool :=
  let n := s.patchWord c 1 % 2 ^ 12
  Curve.verify (s.rowNum 0x090) (s.rowNum 0x098) (Sha.numOf (Sha.sha256 (s.patchBytes c 0 (2 + n))))
    (Sha.numOf (s.patchBytes c (2 + n) 8)) (Sha.numOf (s.patchBytes c (10 + n) 8))

/-- The result of an image, judged in the order of R562. -/
def State.patchResult (s : State) (c : Nat) : Nat :=
  let w1 := s.patchWord c 1
  if s.patchWord c 0 == 0 then 0
  else if s.patchWord c 0 != 0x5D7A7724 then 2
  else if w1 / 2 ^ 24 != c then 3
  else if 4078 < w1 % 2 ^ 12 then 4
  else if s.regionState 1 == 2 || s.lc == 4 then 7
  else if s.regionState 4 == 2 || w1 / 2 ^ 16 % 256 < s.f (minVer c) then 5
  else if !s.patchSigned c then 6 else 1

/-- The image of core `c` has been judged (R107, R562). -/
def patchVerified (c : Nat) : Prog := .dyn fun s =>
  let r := s.patchResult c
  let w1 := s.patchWord c 1
  blk [set (SEC_PATCH_RESULT c) r, set (SEC_PATCH_VERSION c) (if r == 0 then 0 else w1 / 2 ^ 16 % 256),
    set (SEC_PATCH_LENGTH c) (if r == 0 then 0 else w1 % 2 ^ 12), setB (RST_BOOT_PATCH_OK.bit c) (r == 1),
    whenB (2 ≤ r) (blk [set RST_CAUSE_PATCH_REJ 1, event RST_EVT_RAW_PATCH_REJ, send pgRST c 0 0, incSat SEC_CNT_PATCH_REJ])]

end Sys2Proof.Machine
end

