-- ==== Sys2Proof/Machine/Thm.lean ====
section
/-!
DEFINITION. Thermal management (23_thermal_and_calendar.md, R499-R509): readings, validity, warnings, throttle levels and the
skip factor.
-/
namespace Sys2Proof.Machine

def thmEng (g : ThmEng → ThmEng) : Prog := eng fun e => { e with thm := g e.thm }

def thmEvent (k : Nat) : Prog := event (THM_EVT_RAW_EVENTS.bit k)

/-- Sensor `k` is enabled and not marked FAULT: it takes part in the judgements (R499). (DEDUCED, log entry 75) -/
def State.thmValid (s : State) (k : Nat) : Bool := bitOf (s.f THM_CFG_EN) k && !s.b (THM_T_FAULT k)

/-- Die 0 (front: sensors 0-2) or 1 (logic: 3-5). -/
def dieSensors (d : Nat) : List Nat := if d == 0 then [0, 1, 2] else [3, 4, 5]

def State.unmonitored (s : State) (d : Nat) : Bool := !(dieSensors d).any s.thmValid

/-- Highest valid reading of a die in 0.1 °C; an unmonitored die keeps its last one. -/
def State.dieTemp (s : State) (d : Nat) : Option Int :=
  (((dieSensors d).filter s.thmValid).map fun k => s.i (THM_T_T k)).max?

/-- T_max (R500). -/
def State.thmMax (s : State) : Int := match s.dieTemp 0, s.dieTemp 1 with
  | some x, some y => max x y
  | some x, none => x
  | none, some y => y
  | none, none => max (s.i THM_MAX_T_F) (s.i THM_MAX_T_L)

/-- K of a level (R501). -/
def State.skipOf (s : State) (l : Nat) : Nat := if l == 0 then 1 else if l == 1 then 2 ^ s.f THM_CFG_SKIP1 else 2 ^ s.f THM_CFG_SKIP2

/-- The level in force takes the value `l` (R501). -/
def thmSetLevel (l : Nat) : Prog := .dyn fun s =>
  let old := s.f THM_STATUS_LEVEL
  whenB (l != old)
    (blk [set THM_STATUS_LEVEL l, set CLK_STATUS_CORE_DIV l, skipSchedule (s.skipOf l),
      whenB (old == 0) (blk [incSat THM_CNT_THROTTLES, thmEvent 2, send pgTHM l 1 0]), whenB (l == 0) (thmEvent 3), bleedApply, shFollow, eisThrottle])

/-- Condition `k`: 0 WARN_F, 1 WARN_L, 2 level 1, 3 level 2, 4 shutdown. -/
def State.thmCond (s : State) (k : Nat) : ThmCond := s.eng.thm.conds.getD k {}

def State.thmOn (s : State) (k : Nat) : Bool := (s.thmCond k).on

/-- The level that the temperatures ask for: level 2 implies level 1 (R500). -/
def State.thmLevel (s : State) : Nat := if s.thmOn 3 then 2 else if s.thmOn 2 then 1 else 0

/-- What the dies and the conditions ask for: level 2 while a die is unmonitored (R499), with its message at entry. -/
def thmJudge : Prog := .dyn fun s =>
  .seq (upTo 2 fun d => .seq (whenB (s.unmonitored d && !s.b (THM_STATUS_UNMON.bit d)) (send pgTHM d 4 0)) (setB (THM_STATUS_UNMON.bit d) (s.unmonitored d)))
    (thmSetLevel (if s.unmonitored 0 || s.unmonitored 1 then 2 else s.thmLevel))

/-- A sensor is marked FAULT, or valid again (R499). -/
def thmMark (k : Nat) (fault : Bool) : Prog := .dyn fun s =>
  .seq (setB (THM_T_FAULT k) fault) (whenB (fault && !s.b (THM_T_FAULT k)) (blk [thmEvent 4, incSat THM_CNT_SENSOR_FAULTS, send pgTHM k 3 0]))

/-- One reading of sensor `k` in 0.1 °C (R499): 10 consecutive ones outside -55.0 to +175.0 °C mark it FAULT, 10 inside mark it valid again. -/
def thmSense (k : Nat) (t : Int) : Prog := .dyn fun s =>
  let out : Bool := t < -550 || 1750 < t
  let n := if out == s.b (THM_T_FAULT k) then 0 else s.eng.thm.odd.getD k 0 + 1
  whenB (k < 6 && bitOf (s.f THM_CFG_EN) k)
    (blk [setI (THM_T_T k) t, whenB (n == 10) (thmMark k out), thmEng fun e => { e with odd := e.odd.set k (n % 10) },
      .dyn fun u => .seq (setB (THM_T_VALID k) (u.thmValid k)) (setB (THM_STATUS_VALID.bit k) (u.thmValid k))])

/-- THM_MAX shows T_F and T_L (R500). -/
def thmMaxShow : Prog := .dyn fun s =>
  .seq (match s.dieTemp 0 with | some v => setI THM_MAX_T_F v | none => .skip)
    (match s.dieTemp 1 with | some v => setI THM_MAX_T_L v | none => .skip)

/-- A condition after a sample `t`, all in 0.1 °C: entered at or above `thr` for `need` consecutive samples, cleared at or below
`thr - hys` for 4 (R500). -/
def ThmCond.next (c : ThmCond) (t thr hys : Int) (need : Nat) : ThmCond :=
  if !(if c.on then decide (t ≤ thr - hys) else decide (thr ≤ t)) then { c with run := 0 }
  else if c.run + 1 < (if c.on then 4 else need) then { c with run := c.run + 1 }
  else { on := !c.on }

/-- Threshold of condition `k` in 0.1 °C (R500). -/
def State.thmThr (s : State) (k : Nat) : Int :=
  if k < 2 then 10 * s.f THM_THR_WARN else if k == 2 then 10 * s.f THM_THR_THR
  else if k == 3 then 10 * (s.f THM_THR_THR + s.f THM_CFG_STEP2) else 10 * s.f THM_THR_SHUT

/-- Temperature of condition `k`: T_F, T_L, else T_max; none without a valid sensor. (DEDUCED, log entry 75) -/
def State.thmTemp (s : State) (k : Nat) : Option Int :=
  if k < 2 then s.dieTemp k else if s.unmonitored 0 && s.unmonitored 1 then none else some s.thmMax

/-- The conditions after the sample just taken (R500). -/
def State.thmConds (s : State) : List ThmCond := (List.range 5).map fun k => match s.thmTemp k with
  | some t => (s.thmCond k).next t (s.thmThr k) (10 * s.f THM_CFG_HYS) (if k == 4 then 2 else 4)
  | none => s.thmCond k

/-- A WARN condition is entered or clears (R500). -/
def thmWarn (d : Nat) (on : Bool) : Prog := .dyn fun s =>
  .seq (setB (THM_STATUS_WARN.bit d) on)
    (whenB (on && !s.b (THM_STATUS_WARN.bit d)) (blk [thmEvent d, incSat THM_CNT_WARNS, send pgTHM d 0 0]))

/-- The conditions take the sample into account. -/
def thmConditions : Prog := .dyn fun s =>
  .seq (thmEng fun e => { e with conds := s.thmConds }) (.dyn fun u => blk [thmWarn 0 (u.thmOn 0), thmWarn 1 (u.thmOn 1), thmJudge])

/-- In the hold of a shutdown: since when every valid sensor has read at or below SHUT - HYS (R505). -/
def thmCool : Prog := .dyn fun s =>
  let cool := (List.range 6).all fun k => !s.thmValid k || s.i (THM_T_T k) ≤ s.thmThr 4 - 10 * s.f THM_CFG_HYS
  thmEng fun e => { e with cool := if cool then some (e.cool.getD s.now) else none }

/-- Sensors are converted: in WATCH and above, and in the hold of a shutdown (R499, R504). -/
def State.thmSamples (s : State) : Bool := bitOf s.eng.boot.hold 1 || (2 ≤ s.mode && s.released)

/-- One conversion of the enabled sensors (R499-R501). -/
def thmSample (t : List Int) : Prog :=
  whenS (·.thmSamples)
    (blk [forEach t.zipIdx fun x => thmSense x.2 x.1, thmMaxShow, ifS (fun s => bitOf s.eng.boot.hold 1) thmCool thmConditions])

/-- THM_CFG has been written: the enabled sensors and the skip factor of the level in force follow. -/
def thmCfgLook : Prog :=
  .seq (upTo 6 fun k => .dyn fun s => whenB (!bitOf (s.f THM_CFG_EN) k) (.seq (set (THM_T_VALID k) 0) (set (THM_STATUS_VALID.bit k) 0)))
    (.seq thmJudge (.dyn fun s => whenB (s.skipOf (s.f THM_STATUS_LEVEL) != s.eng.scan.skipK) (skipSchedule (s.skipOf (s.f THM_STATUS_LEVEL)))))

/-- One microsecond of THM_TIME (R501). -/
def thmUs : Prog := .dyn fun s =>
  whenB (s.f THM_STATUS_LEVEL != 0)
    (if s.eng.thm.us + 1 < 1000000 then thmEng fun e => { e with us := e.us + 1 }
    else .seq (thmEng fun e => { e with us := 0 }) (incSat THM_TIME_S))

end Sys2Proof.Machine
end

