-- ==== Sys2Proof/Machine/Rtc.lean ====
section
/-!
DEFINITION. Real-time clock (23_thermal_and_calendar.md, R510-R519): calendar, second boundaries, alarm, periodic wakes, PWRON, and
the frozen time group of each access path.
-/
namespace Sys2Proof.Machine

def rtcEng (g : RtcEng → RtcEng) : Prog := eng fun e => { e with rtc := g e.rtc }

def rtcEvent (k : Nat) : Prog := event (RTC_EVT_RAW_EVENTS.bit k)

/-! ### Calendar (R513) -/

/-- Year, month and day of day `d` counted from 2000-01-01 (Gregorian). -/
def civil (d : Nat) : Nat × Nat × Nat :=
  let z := d + 730425
  let doe := z % 146097
  let yoe := (doe - doe / 1460 + doe / 36524 - doe / 146096) / 365
  let doy := doe - (365 * yoe + yoe / 4 - yoe / 100)
  let mp := (5 * doy + 2) / 153
  let month := if mp < 10 then mp + 3 else mp - 9
  (yoe + z / 146097 * 400 + (if month ≤ 2 then 1 else 0), month, doy - (153 * mp + 2) / 5 + 1)

/-- RTC_DATE and RTC_TIME at second `sec`. -/
def rtcDate (sec : Nat) : Nat :=
  let d := sec / 86400
  let c := civil d
  c.1 * 2 ^ 20 + c.2.1 * 2 ^ 16 + c.2.2 * 2 ^ 11 + (d + 6) % 7

def rtcTime (sec : Nat) : Nat := sec % 86400 / 3600 * 2 ^ 16 + sec % 3600 / 60 * 2 ^ 8 + sec % 60

def rtcShow : Prog := .dyn fun s =>
  blk [set RTC_SUB_SUB 0, setReg RTC_DATE (rtcDate (s.f RTC_SEC_SEC)), setReg RTC_TIME (rtcTime (s.f RTC_SEC_SEC))]

/-! ### PWRON (R516) -/

/-- Level of PWRON under each mode; a running pulse is never shortened. -/
def pwronShow : Prog := .dyn fun s =>
  let m := s.f RTC_PWRON_MODE
  setB RTC_STATUS_PWRON (m == 3 || s.eng.rtc.pulse || (m == 2 && s.eng.rtc.latched))

/-- An alarm, a periodic wake or a rising edge of WAKE: a pulse is WIDTH ms from each. -/
def pwronWake : Prog := .dyn fun s =>
  .seq (match s.f RTC_PWRON_MODE with
    | 1 => rtcEng fun e => { e with pulse := true, pulseTo := max e.pulseTo (s.now + s.f RTC_PWRON_WIDTH * 1000) }
    | 2 => rtcEng fun e => { e with latched := true }
    | _ => .skip) pwronShow

/-- RTC_PWRON written; LATCH while PWRON is high leaves it latched high. -/
def rtcPwronWrite (w : Word) : Prog := .dyn fun s =>
  blk [.act (.reg RTC_PWRON (s.norm RTC_PWRON (s.reg RTC_PWRON) w)),
    rtcEng fun e => { e with latched := RTC_PWRON_MODE.of w == 2 && s.b RTC_STATUS_PWRON }, pwronShow]

def pwronClr : Prog := .seq (rtcEng fun e => { e with latched := false }) pwronShow

/-- A pulse has lasted its WIDTH. -/
def State.pulseOver (s : State) : Bool := s.eng.rtc.pulse && s.eng.rtc.pulseTo ≤ s.now

def pwronPulseEnd : Prog := whenS (·.pulseOver) (.seq (rtcEng fun e => { e with pulse := false }) pwronShow)

/-! ### Seconds, alarm, periodic wakes (R510, R512, R514, R515) -/

/-- Parts of SUB since it last was 0, 10^13 to one count of 1/32,768 s: the LF clock at its nominal rate, with RTC_TRIM, from what the
last second or the last value of the trim left (R510). (DEDUCED, log entry 68) -/
def State.rtcParts (s : State) : Nat :=
  (s.now - s.eng.rtc.subAt) * 32768 * (10000000 + s.i RTC_TRIM_TRIM).toNat + s.eng.rtc.carry

/-- Counts of 1/32,768 s since SUB last was 0 (R510). -/
def State.rtcCount (s : State) : Nat := s.rtcParts / 10000000000000

/-- RTC_TRIM written: it acts on the counts from now on (R510). -/
def rtcTrimWrite (w : Word) : Prog := .dyn fun s =>
  .seq (rtcEng fun e => { e with subAt := s.now, carry := s.rtcParts }) (.act (.reg RTC_TRIM (s.norm RTC_TRIM (s.reg RTC_TRIM) w)))

/-- SUB now. -/
def State.rtcSub (s : State) : Nat := min 32767 s.rtcCount

/-- The time in 1/256 s (R515). -/
def State.rtcFine (s : State) : Nat := s.f RTC_SEC_SEC * 256 + s.rtcSub / 128

/-- A second boundary at which SEC takes the value `v` (R365, R510). (DEDUCED, log entry 126) -/
def secondBoundary (v : Nat) : Prog := .dyn fun s =>
  blk [set RTC_SEC_SEC v, rtcEng fun e => { e with subAt := s.now, carry := 0 }, rtcShow, rtcEvent 2, epochRtc (v % 2 ^ 32),
    whenB (s.b RTC_ALM_CFG_EN && s.f RTC_ALARM_SEC == v % 2 ^ 32)
      (blk [set RTC_ALM_CFG_EN 0, rtcEvent 0, incSat RTC_CNT_ALARMS, pwronWake, wake MODE_WAKE_SRC_RTC])]

/-- SUB wraps; what is over begins the next second, so that the trim holds in the mean (R510). -/
def rtcSecond : Prog := .dyn fun s =>
  whenB (32768 ≤ s.rtcCount)
    (.seq (secondBoundary (s.f RTC_SEC_SEC + 1)) (rtcEng fun e => { e with carry := s.rtcParts - 32768 * 10000000000000 }))

/-- RTC_CMD SET; it takes effect at the next LF edge, here at once. (DEDUCED, log entry 72) -/
def rtcSet : Prog := .dyn fun s => blk [set RTC_STATUS_TIME_SET 1, incSat RTC_CNT_SETS, secondBoundary (s.f RTC_SET_SEC_SEC)]

def rtcCmd (op : Nat) : Prog := match op with | 1 => rtcSet | 2 => pwronClr | _ => .skip

/-- The time has just come to a multiple of PER (R515). -/
def State.perDue (s : State) : Bool := s.b RTC_PER_EN && s.rtcFine % s.f RTC_PER_PER == 0 && s.rtcFine != s.eng.rtc.perAt

def rtcPeriodic : Prog := .dyn fun s =>
  .seq (rtcEng fun e => { e with perAt := s.rtcFine })
    (whenB s.perDue (blk [rtcEvent 1, incSat RTC_CNT_PERIODIC, pwronWake, wake MODE_WAKE_SRC_RTC]))

/-- A write of RTC_ALARM or RTC_ALM_CFG: one that leaves the alarm not ahead sets ALARM_PAST. -/
def rtcAlarmWrite (a : Nat) (w : Word) : Prog := .dyn fun s =>
  .seq (.act (.reg a (s.norm a (s.reg a) w)))
    (whenS (fun t => t.b RTC_ALM_CFG_EN && t.f RTC_ALARM_SEC ≤ t.f RTC_SEC_SEC) (rtcEvent 3))

/-- The LFRC's rate can be measured against the root (R510). -/
def State.rtcCanCal (s : State) : Bool := !s.b CLK_STATUS_LF_XO && !s.b CLK_STATUS_ROOT_RC

/-- 10 s of it have passed since the last measurement. (DEDUCED, log entry 126) -/
def State.calDue (s : State) : Bool := s.rtcCanCal && s.eng.rtc.calAt + 10000000 ≤ s.now

def rtcCalibrate : Prog := .dyn fun s => whenB s.calDue (.seq (set RTC_STATUS_CAL 1) (rtcEng fun e => { e with calAt := s.now }))

/-- The clocks have changed. -/
def rtcClocks : Prog := .dyn fun s =>
  blk [setB RTC_STATUS_LF_XO s.eng.clk.lfXo, whenB (!s.rtcCanCal) (set RTC_STATUS_CAL 0),
    rtcEng fun e => { e with canCal := s.rtcCanCal, calAt := if s.rtcCanCal && !e.canCal then s.now else e.calAt }]

/-! ### The time group (R511) -/

def inTimeGroup (a : Nat) : Bool := [RTC_SUB, RTC_SEC, RTC_DATE, RTC_TIME].contains a

/-- A register of the time group as path `p` reads it: 0 the cores, 1 xSPI, 2 I2C. -/
def State.rtcValue (s : State) (p a : Nat) : Word :=
  let z : RtcFreeze := (s.eng.rtc.frozen.find? fun x => x.path == p).getD ⟨p, s.rtcSub, s.f RTC_SEC_SEC, s.now⟩
  BitVec.ofNat 32 (if a == RTC_SUB then z.sub else if a == RTC_SEC then z.sec else if a == RTC_DATE then rtcDate z.sec else rtcTime z.sec)

def rtcUnfreeze (p : Nat) : Prog := rtcEng fun e => { e with frozen := e.frozen.filter fun x => x.path != p }

/-- The freeze that a read of `a` on path `p` leaves. -/
def rtcFreezeRead (p a : Nat) : Prog := .dyn fun s =>
  if a == RTC_TIME then rtcUnfreeze p
  else whenB (!s.eng.rtc.frozen.any fun x => x.path == p)
    (rtcEng fun e => { e with frozen := e.frozen ++ [⟨p, s.rtcSub, s.f RTC_SEC_SEC, s.now⟩] })

/-- 1 s after a freeze began it ends (R511). -/
def rtcFreezeEnd (p : Nat) : Prog := whenS (fun s => s.eng.rtc.frozen.any fun x => x.path == p && x.t + 1000000 ≤ s.now) (rtcUnfreeze p)

/-- One microsecond of the clock: a second, a periodic wake, the ends of pulses and freezes, the calibration (R510-R516). -/
def rtcUs : Prog := blk [rtcSecond, rtcPeriodic, pwronPulseEnd, rtcCalibrate, forEach [0, 1, 2] rtcFreezeEnd]

end Sys2Proof.Machine
end

