-- ==== Sys2Proof/Machine/Clk.lean ====
section
/-!
DEFINITION. Clocks (01_architecture.md, R14-R29, R591): the root monitor, root failure and return, the PLLs, the LF clock, steering, and
the sources of the AON domain (R10).
-/
namespace Sys2Proof.Machine

def clkEng (g : ClkEng → ClkEng) : Prog := eng fun e => { e with clk := g e.clk }

/-- The oscillator and the PLLs are supplied: the device is neither in DORMANT nor in SHELF (R74). -/
def State.clocksOn (s : State) : Bool := 2 ≤ s.mode

/-- The root is the crystal or the external clock. -/
def State.rootXo (s : State) : Bool := s.clocksOn && !s.b CLK_STATUS_ROOT_RC

/-- The link PLL stops and the ports go down (R16, R19). -/
def lpllStop : Prog := blk [clkEng fun e => { e with lpllOn := false }, set CLK_STATUS_LPLL_LOCK 0, portsDown]

/-- Root-clock-lost: the event and its message (R19, R591). -/
def rootLost : Prog := .seq (event CLK_EVT_RAW_ROOT_FAIL) (send pgCLK 0 0 0)

/-- Steps 2 and 3 of a root failure (R19). (DEDUCED, log entry 78) -/
def rootFail : Prog :=
  blk [set CLK_STATUS_HOLDOVER 1, set CLK_STATUS_MPLL_LOCK 0, set CLK_STATUS_ROOT_RC 1, lpllStop, incSat CLK_FAIL_CNT_ROOT_FAILS, rootLost,
    rtcClocks]

/-- No rising edge for 8 HFRC periods. -/
def rootMissing : Prog := whenS State.rootXo rootFail

/-- The monitor's limit in 10 Hz: MON_TOL against LFXO, 4% against the HFRC. -/
def monLimit (xo : Bool) (tol : Nat) : Nat := if xo then nth [4000, 10000, 20000, 60000] tol 0 else 160000

/-- A measurement window ends at a root frequency of `freq` in 10 Hz (R19, R27).  LFXO counts as running, and so is the reference, while
the AON domain is on it. (DEDUCED, log entry 102) -/
def rootMeasured (freq : Nat) : Prog := .dyn fun s =>
  let lim := monLimit s.eng.clk.lfXo (s.f CLK_ROOT_CFG_MON_TOL)
  whenB s.clocksOn
    (blk [setB CLK_MON_MEAS_REF_XO s.eng.clk.lfXo, set CLK_MON_MEAS_VALID 1, setSat CLK_MON_MEAS_FREQ freq,
      whenB (freq + lim < 4000000 || 4000000 + lim < freq) rootMissing])

/-- Reacquired on the new reference (R19, R20). -/
def mpllReacquired : Prog :=
  whenS (fun s => s.clocksOn && s.b CLK_STATUS_HOLDOVER) (.seq (set CLK_STATUS_HOLDOVER 0) (set CLK_STATUS_MPLL_LOCK 1))

/-- The wait of R591 ends: on the root, or after its 20 ms on the HFRC. -/
def startEnds (onRoot : Bool) : Prog :=
  blk [set CLK_STATUS_MPLL_LOCK 1, set PHC_STATUS_CLK_RC 0, setB CLK_STATUS_ROOT_RC (!onRoot), clkEng fun e => { e with
      startWait := false
      lpllOn := onRoot },
    whenB (!onRoot) rootLost, rtcClocks]

/-- The main PLL locks: on the root after an oscillator start (R16, R591), or again after a loss of lock. -/
def mpllLock : Prog :=
  ifS (fun s => s.eng.clk.startWait) (startEnds true)
    (whenS (fun s => s.clocksOn && !s.b CLK_STATUS_HOLDOVER && s.released) (set CLK_STATUS_MPLL_LOCK 1))

/-- 20 ms from the oscillator's start without lock (R591). -/
def rootStartTimeout : Prog := whenS (fun s => s.eng.clk.startWait) (startEnds false)

/-- The link PLL runs in ATTEND and above, on the crystal (R16, R74), and not in the halt of a role mismatch (R106). (DEDUCED, log entry 78) -/
def lpllLock : Prog := whenS (fun s => !s.b RST_BOOT_HALTED && s.eng.clk.lpllOn && s.rootXo && 3 ≤ s.mode) (set CLK_STATUS_LPLL_LOCK 1)

def mpllUnlock : Prog :=
  whenS (fun s => s.rootXo && s.b CLK_STATUS_MPLL_LOCK) (.seq (set CLK_STATUS_MPLL_LOCK 0) (event CLK_EVT_RAW_MPLL_UNLOCK))

def lpllUnlock : Prog :=
  whenS (fun s => s.rootXo && s.b CLK_STATUS_LPLL_LOCK) (blk [set CLK_STATUS_LPLL_LOCK 0, event CLK_EVT_RAW_LPLL_UNLOCK, portsUnlock])

/-! ### Retry (R20) -/

def rootRetry : Prog :=
  whenS (fun s => s.clocksOn && s.b CLK_STATUS_ROOT_RC && !s.eng.clk.startWait) (clkEng fun e => { e with retry := true })

def retrySuccess : Prog :=
  whenS (fun s => s.eng.clk.retry)
    (blk [clkEng fun e => { e with
        retry := false
        lpllOn := true },
      set CLK_STATUS_ROOT_RC 0, set CLK_STATUS_HOLDOVER 1, set CLK_STATUS_MPLL_LOCK 0, rtcClocks])

def retryFail : Prog :=
  whenS (fun s => s.eng.clk.retry) (.seq (clkEng fun e => { e with retry := false }) (event CLK_EVT_RAW_ROOT_FAIL))

def clkCmd (retry : Bool) : Prog := whenB retry rootRetry

/-! ### LF clock (R21) -/

def lfTo (xo : Bool) (again : Bool) : Prog :=
  blk [clkEng fun e => { e with
      lfXo := xo
      lfTry := again },
    setB CLK_STATUS_LF_XO xo, rtcClocks]

def lfxoQualified : Prog := whenS (fun s => s.eng.clk.lfTry && !s.b CLK_LF_CFG_SEL_RC) (lfTo true true)

def lfxoLoss : Prog :=
  whenS (fun s => s.eng.clk.lfXo) (blk [lfTo false false, event CLK_EVT_RAW_LF_FAIL, incSat CLK_FAIL_CNT_LF_FAILS])

/-- CLK_LF_CFG written: a new attempt is permitted; SEL_RC = 1 switches LFXO off. -/
def lfCfgWrite (w : Word) : Prog := .dyn fun s =>
  let rc := CLK_LF_CFG_SEL_RC.of w == 1
  .seq (setB CLK_LF_CFG_SEL_RC rc) (lfTo (s.eng.clk.lfXo && !rc) (!rc))

/-! ### Steering (R17, R28) -/

/-- A trim written by the host of a manager. -/
def steerWrite (w : Word) : Prog := steerTo 50000 (signed 20 (CLK_STEER_STEER.of w))

/-- The trim in force follows CLK_STEER by at most 0.1 ppm in a millisecond (R17). -/
def trimMs : Prog := .dyn fun s =>
  whenB s.isMgr (clkEng fun e => { e with trim := e.trim + clampInt (-100) 100 (s.i CLK_STEER_STEER - e.trim) })

/-! ### Sources of the AON domain (R10) -/

def vsysAvail (on : Bool) : Prog := clkEng fun e => { e with vsys := on }

def vbkupAvail (on : Bool) : Prog := clkEng fun e => { e with vbkup := on }

end Sys2Proof.Machine
end

