-- ==== Sys2Proof/Machine/View.lean ====
section
/-!
DEFINITION. What a read of a register returns, its effects apart (R12, R31, R49-R65, and the registers whose value a block computes), and
what a read changes (R364, R456, R511, R565).
-/
namespace Sys2Proof.Machine

/-- The page shows its registers: present in this role (R12), and TEST only in FACTORY (R51). -/
def State.pageShown (s : State) (p : Nat) : Bool := s.present p && (p != pgTEST || s.mode == 7)

/-- Registers that the other role has alone: they read 0 and ignore writes (R94, R226, R291, R391, R435). (DEDUCED, log entries 32, 39) -/
def State.otherRole (s : State) (a : Nat) : Bool :=
  if s.isMgr then
    a == EPOCH_PATH || a == EPOCH_ERR ||
      [EST_THMAP 0, EST_THMAP 1, EST_THMAP 2, EST_SUMMARY, EST_RS_MASK, EST_RS_CRC].contains a || (EST_SOC 0 ≤ a && a < 0x1AA00) ||
      (EIS_RS 0 ≤ a && a ≤ EIS_TREF 23)
  else if s.isWrk then
    [EPOCH_BRK_MAP, EPOCH_SNAP_MEM, EPOCH_SNAP_MISS, EPOCH_CM_MEM, EPOCH_CM_OUT 0, EPOCH_CM_OUT 1, EPOCH_CM_OUT 2, EPOCH_CM_OUT 3,
      EPOCH_MIR_CFG, EPOCH_MIR_LAST, CAP_MEM, HOST_EXP_MAP, MODE_IDLE_I].contains a || (EST_RACK_SOC ≤ a && a ≤ EST_RACK_STAT)
  else false

/-- Access paths (R511): 0 the cores and the ring, 1 xSPI, 2 I2C. -/
abbrev pathCore : Nat := 0
abbrev pathXspi : Nat := 1
abbrev pathI2c : Nat := 2

/-- The value of field `x` in the register `w`. -/
def withField (w : Word) (x : Fld) (v : Nat) : Word := putBits w x.lo x.wd v

/-- ICU_ASSERT[k]: the lines 32k to 32k + 31 that are asserted (R461). -/
def State.assertWord (s : State) (k : Nat) : Nat := (List.range 32).foldl (fun m n => if s.lineOn (32 * k + n) then m + 2 ^ n else m) 0

/-- SEQ_STATUS.PARTIAL (R142, R153): UP, with some slot HELD, FAULTED or overridden off. -/
def State.seqPartial (s : State) : Bool :=
  s.f SEQ_STATUS_STATE == 2 && (s.f SEQ_MAP_HELD_MAP != 0 || s.f SEQ_MAP_FAULT_MAP != 0 ||
    (List.range 19).any fun n => s.b (SEQ_SLOT_STAT_OVR_OFF n))

/-- The registers whose value is computed when they are read. -/
def State.computed (s : State) (path a : Nat) : Option Word :=
  let w := s.reg a
  if a == IDENT_REV then some (0x02000000 ||| Config.romRevision.zeroExtend 32)
  else if a == GPIO_IN then some (BitVec.ofNat 32 (s.balls.gpio % 65536))
  else if a == GPIO_OWNER then some (BitVec.ofNat 32 s.gpioOwner)
  else if ICU_ASSERT 0 ≤ a && a < ICU_ASSERT 8 then some (BitVec.ofNat 32 (s.assertWord ((a - ICU_ASSERT 0) / 4)))
  else if a == ICU_STATUS then some (withField w ICU_STATUS_WAITING s.icuWaiting.length)
  else if a == EPOCH_NOW_LO then some (BitVec.ofNat 32 s.epoch)
  else if inTimeGroup a then some (s.rtcValue path a)
  else if a == SEQ_STATUS then some (withField w SEQ_STATUS_PARTIAL (b2n s.seqPartial))
  else if a == RTC_STATUS then some (withField w RTC_STATUS_FROZEN (b2n (s.eng.rtc.frozen.any fun x => x.path == path)))
  else if a == FLT_HOLD then some (withField w FLT_HOLD_MAP s.fltHold)
  else if a == FLT_QUIET then some (withField w FLT_QUIET_MS s.fltQuiet)
  else if a == SVC_SESSION then some (withField w SVC_SESSION_REMAIN s.svcRemain)
  else if a == SVC_FAIL then some (withField w SVC_FAIL_LOCK_REM s.lockRem)
  else match (List.range 4).find? fun n => a == WDG_CNT n with
    | some n => some (withField w (WDG_CNT_COUNT n) (s.wdgCnt n))
    | none => ((List.range 14).find? fun k => a == (vnowOf k).reg).map fun k => withField w (vnowOf k) (s.vInst k)

/-- The value that a read of local address `a` on a path returns, apart from CLAIM and SEC_RAND (R49-R61). -/
def State.view (s : State) (path a : Nat) : Word :=
  if !s.pageShown (pageOf a) || s.otherRole a then 0
  else match rowAt a with
    | none => 0
    | some r => match r.acc with
      | .wo => 0
      | .shd => s.shd a
      | .stg => if s.f (stageView (pageOf a)) == 1 then s.stg a else s.reg a
      | _ => (s.computed path a).getD (s.reg a)

/-- Target of an ICU_T_CLAIM register that the reader owns: the host those of targets 3 and 4, core t that of target t (R461). -/
def claimOf (a : Nat) : Option Nat := (List.range 5).find? fun t => a == ICU_T_CLAIM t

/-- A read of local address `a` by the host on `path`: `k` takes the word. -/
def readReg (path a : Nat) (k : Word → Prog) : Prog := .dyn fun s =>
  if !s.pageShown (pageOf a) then k 0
  else match claimOf a with
    | some t => if 3 ≤ t then icuClaim t k else k 0
    | none =>
      if a == SEC_RAND then (if s.b SEC_RNG_OK then withFree fun x => k (BitVec.ofNat 32 x) else k 0)
      else if a == EPOCH_NOW_LO then .seq epochCapture (k (s.view path a))
      else if inTimeGroup a then .seq (rtcFreezeRead path a) (k (s.view path a))
      else k (s.view path a)

end Sys2Proof.Machine
end

