-- ==== Sys2Proof/Machine/Snap.lean ====
section
/-!
DEFINITION. Snapshots (17_epochs_and_coherence.md, R379-R381): gathering of page images and the end of a snapshot.
-/
namespace Sys2Proof.Machine

/-- The pages of the snapshot in progress that name a page, with their image numbers. -/
def State.snapImages (s : State) : List (Nat × Nat) := (s.snapPages.zipIdx.map fun x => (x.2, x.1)).filter fun x => x.2 < 40

/-- Buffer `b` of snapshot memory, and the image `j` of member `m` in it (R380). -/
def snapBase (b : Nat) : Nat := 0x20000000 + b * 0x64000
def imageBase (b m j : Nat) : Nat := snapBase b + 0x1000 + m * 0x3000 + j * 0x1000

/-- An image has been gathered, with a poison mark or without. -/
def snapGotImage (m j : Nat) (poison : Bool) : Prog := epochEng fun e => { e with snapGot := (m, j, poison) :: e.snapGot }

/-- This device's own image of page `p`. -/
def snapOwn (j p : Nat) : Prog := .dyn fun s =>
  .seq (upTo (pageCount p) fun i => setWord (imageBase s.eng.epoch.snapBuf 0 j + 4 * i) (s.view pathCore (p * 0x1000 + 4 * i)))
    (snapGotImage 0 j false)

/-- The reads of page `p` at worker `w`, at most 120 words each (R376). -/
def snapAsk (w j p : Nat) : Prog :=
  upTo ((pageCount p + 119) / 120) fun i => sendReg 0x10 w (p * 0x1000 + 480 * i) 3 2 j [] (min 120 (pageCount p - 120 * i))

/-- Gathering starts once the bracket has latched (R379); images not gathered read 0. (DEDUCED, log entry 38) -/
def snapGather : Prog := .dyn fun s =>
  let b := s.eng.epoch.snapBuf
  .seq (.act (.clearMem fun a => !(snapBase b + 0x1000 ≤ a && a < snapBase b + 0x64000)))
    (forEach s.eng.epoch.snapWant fun m => forEach s.snapImages fun x => if m == 0 then snapOwn x.1 x.2 else snapAsk m x.1 x.2)

/-- E + 2 µs: the bracket latches, and a snapshot that opened it gathers (R372, R379). -/
def bracketLatched : Prog := .dyn fun s => .seq brkLatch (whenB (s.eng.epoch.brk == 1 && s.eng.epoch.brkSnap) snapGather)

/-- Image `j` of member `m` is in. -/
def State.snapHas (s : State) (m j : Nat) : Bool := s.eng.epoch.snapGot.any fun x => x.1 == m && x.2.1 == j

def State.snapWhole (s : State) (m : Nat) : Bool := s.snapImages.all fun x => s.snapHas m x.1

def State.snapAll (s : State) : Bool := s.eng.epoch.snapWant.all s.snapWhole

/-- Header word 7 + m (R380). -/
def State.snapMember (s : State) (m : Nat) : Nat :=
  let bits := ((List.range 3).filter fun j => s.snapHas m j).foldl (fun x j => x + 2 ^ j) 0
  let st := if !s.eng.epoch.snapWant.contains m then 0
    else if s.eng.epoch.snapGot.any fun x => x.1 == m && x.2.2 then 3 else if s.snapWhole m then 1 else 2
  st * 2 ^ 28 + bits

/-- The header words from word 1 on. -/
def State.snapHeader (s : State) (e : Nat) : List Nat :=
  let ws := s.eng.epoch.snapWant.filter (0 < ·)
  [e % 2 ^ 32, b2n (!s.snapAll) * 2 ^ 16 + e / 2 ^ 32 % 2 ^ 16,
    s.f EPOCH_SNAP_PG_PAGE2 * 2 ^ 16 + s.f EPOCH_SNAP_PG_PAGE1 * 2 ^ 8 + s.f EPOCH_SNAP_PG_PAGE0,
    mapOf ws, mapOf (ws.filter s.snapWhole), mapOf (ws.filter fun w => !s.snapWhole w)] ++ (List.range 33).map s.snapMember

/-- The snapshot ends, COMPLETE or PARTIAL (R379, R381): word 0 is written last, and the bracket closes. (DESIGN CHOICE, log entry 37; DEDUCED, log entry 38) -/
def snapEnd : Prog := .dyn fun s => match s.eng.epoch.snapE with
  | none => .skip
  | some e =>
    let b := s.eng.epoch.snapBuf
    let n := s.eng.epoch.snapSeq + 1
    blk [forEach (s.snapHeader e).zipIdx fun x => setWordN (snapBase b + 4 * (x.2 + 1)) x.1, setWordN (snapBase b) n,
      set EPOCH_SNAP_STATUS_RESULT (if s.snapAll then 1 else 2), set EPOCH_SNAP_STATUS_BUF b, set EPOCH_SNAP_STATUS_SEQ n,
      setEpoch EPOCH_SNAP_EP_LO_EPOCH EPOCH_SNAP_EP_HI_EPOCH e,
      whenB s.isMgr (set EPOCH_SNAP_MISS_MAP (mapOf ((s.eng.epoch.snapWant.filter (0 < ·)).filter fun w => !s.snapWhole w))),
      whenB (!s.snapAll) (incSat EPOCH_CNT_MIR_SNAP_PARTIAL), set EPOCH_STATUS_SNAP_BUSY 0,
      epochEng fun x => { x with
        snapE := none
        snapSeq := n
        snapGot := []
        snapWant := []
        mir := x.mir.filter fun r => r.use != 2 },
      epochEvent (if s.snapAll then 6 else 7), whenS (fun t => t.eng.epoch.brkSnap) (bracketEnd 2 4)]

/-- All members are gathered. (DEDUCED, log entry 38) -/
def snapDone : Prog := whenS (fun s => s.eng.epoch.brk != 1 && s.snapAll) snapEnd

/-- E + 8 ms (R379). -/
def snapLate : Prog := .dyn fun s => whenB (s.eng.epoch.snapE.any fun e => !later (e + 8000) s.epoch) snapEnd

/-- A multiple of PER milliseconds: a periodic snapshot falls due, once (R379). -/
def snapDue : Prog := .dyn fun s =>
  let p := 1000 * s.f EPOCH_SNAP_CFG_PER
  whenB (s.eng.epoch.running && p != 0 && s.epoch % p == 0 && s.eng.epoch.snapAt != some s.epoch)
    (.seq (epochEng fun e => { e with snapAt := some s.epoch }) snapStart)

end Sys2Proof.Machine
end

