-- ==== Sys2Proof/Machine/Boot.lean ====
section
/-!
DEFINITION. Resets and bring-up (05_reset_and_bring_up.md, R97-R113), the fixed rails (R133), the load of step 2, the role check, adoption
and core release (R149), core resets (R102), and the thermal shutdown (R504, R505).
-/
namespace Sys2Proof.Machine

def bootEng (g : BootEng → BootEng) : Prog := eng fun e => { e with boot := g e.boot }

def State.bootStep (s : State) : Nat := s.f RST_BOOT_STEP

/-- The fixed rails are up (R108, R133). -/
def State.railsUp (s : State) : Bool := s.f REG_INT_MON_ABOVE == 63

/-- The device rails are powered or rising: a reset has a bring-up to restart. -/
def State.powered (s : State) : Bool := 1 ≤ s.bootStep || s.eng.boot.hold != 0

/-- Bring-up is in progress: neither complete nor halted (R106, R108). (DEDUCED, log entry 26) -/
def State.booting (s : State) : Bool := 1 ≤ s.bootStep && s.bootStep ≤ 7 && !s.b RST_BOOT_HALTED

/-! ### What a reset clears (R97, R101) -/

/-- Registers that survive a power-on reset with the AON domain kept, and an exit from SHELF. (DEDUCED, log entry 23) -/
def porKept (a : Nat) : Bool := [pgWDG, pgKEEP, pgRTC].contains (pageOf a) || (isAon a && pageOf a != pgMODE)

/-- The record of the last thermal shutdown, written to the record store by then, outlasts a loss of the AON supply within its hold (R505).
(DEDUCED, log entry 28) -/
def State.shutKept (s : State) (a : Nat) : Bool :=
  bitOf s.eng.boot.hold 1 && [THM_SHUT, THM_SHUT_EP_LO, THM_SHUT_RTC].contains a

/-- Registers that survive an exit from SHELF (R50, R75, R98). (DEDUCED, log entries 24, 27) -/
def shelfKept (a : Nat) : Bool :=
  (keptPage (pageOf a) && !pwrHeader a) || isAon a || [RST_CAUSE, RST_CNT, RST_PREV, IDENT_ROLE, SVC_SESSION, SVC_DEBUG, SVC_FAIL, REG_INT_MON].contains a

/-- What an AON supply keeps of the blocks' own state. -/
def Engines.aon (e : Engines) : Engines :=
  { feed := e.feed
    clk := { lfTry := e.clk.lfTry, lfXo := e.clk.lfXo, vsys := e.clk.vsys, vbkup := e.clk.vbkup }
    wdg := { sync := e.wdg.sync, at0 := e.wdg.at0, armed := e.wdg.armed, keepAt := e.wdg.keepAt }
    thm := { shut := e.thm.shut }
    rtc := e.rtc
    sec := { lastAt := e.sec.lastAt, lockAt := e.sec.lockAt }
    boot := { testen := e.boot.testen, role := e.boot.role, addr := e.boot.addr, fresh := e.boot.fresh, freshAon := e.boot.freshAon
              pinLow := e.boot.pinLow, hold := e.boot.hold, railsDone := e.boot.railsDone, por := e.boot.por } }

/-- What a system reset keeps of them beside that: the supplies that stay up. (DEDUCED, log entry 25) -/
def State.engKept (s : State) : Engines :=
  let p := s.eng.pwr
  { s.eng.aon with
    pwr := { ramps := p.ramps.filter fun r => if r.k < 10 then s.regKept r.k else s.railKept (r.k - 10)
             svWait := p.svWait.filter s.svKept
             limAt := p.limAt.filter fun x => s.regKept x.1
             rails := p.rails.zipIdx.map fun x => if s.railKept x.2 then x.1 else {}
             phs := p.phs.zipIdx.map fun x => if s.railKept (s.f (PHC_PH_STATUS_RAIL x.2)) then x.1 else {} }
    afe := { vref := s.eng.afe.vref }
    seq := { kept := (List.range 19).filter fun n => s.slotState n == 3 } }

/-- The maps and pins that follow the slots, rails, phases and supervisors kept up (R120, R149, R176), and their blanking (R124). (DEDUCED, log
entry 78; DESIGN CHOICE, log entry 129) -/
def keptShow : Prog := .dyn fun s =>
  blk [upTo 19 fun n => whenB (s.slotState n == 3) (set (SEQ_MAP_UP_MAP.bit n) 1),
    upTo 4 fun r => whenB (s.railKept r) (.seq (setB (PHC_STATUS_ON.bit r) (s.active r != [])) (setB (PHC_PG_PG.bit r) (s.b (PHC_RAIL_STATUS_PG r)))),
    upTo 8 fun n => .seq (setB (PHC_PH_DIS_OPEN.bit n) (s.phState n == 3)) (setB (PHC_PH_DIS_SENSE.bit n) (s.phState n == 4)),
    upTo 16 fun n => .seq (setB (SUP_FAULTED_MAP.bit n) (s.f (SV_STAT_STATE n) == 3 || s.f (SV_STAT_STATE n) == 4))
      (setB (SUP_TIMING_MAP.bit n) (s.f (SV_STAT_STATE n) == 3)),
    .dyn fun t => setB SUP_PFW_LOW (t.f SUP_FAULTED_MAP != 0),
    setB CLK_STATUS_LF_XO s.eng.clk.lfXo, svBlank]

/-! ### Bring-up starts (R104, R108) -/

/-- Enabled supervisors that their reset values leave in OFF begin to judge (R124, R126). (DEDUCED, log entry 98) -/
def svStart : Prog :=
  upTo 16 fun n => whenS (fun s => s.b (SV_CFG_EN n) && s.f (SV_STAT_STATE n) == 0)
    (.dyn fun s => svEnter n (if s.svBlanked n then 1 else 2))

/-- Bring-up starts with nothing holding the device, the pack isolated no longer (R194): at step 1 until the fixed rails have settled once, and
whenever they are not all up, else at step 2 (R104, R108). (DEDUCED, log entry 76) -/
def bootGo : Prog := .dyn fun s =>
  blk [feedEng fun e => { e with shipped := false }, bootEng fun e => { e with
      hold := 0
      start := s.now
      cores := [false, false, false]
      verify := []
      filled := false },
    if s.railsUp && s.eng.boot.railsDone then .seq svStart (set RST_BOOT_STEP 2)
    else .seq (set RST_BOOT_STEP 1) (pwrEng fun e => { e with
      fixedRow := 1
      fixedFailed := false })]

/-- The device is held in reset. (DEDUCED, log entry 28) -/
def bootHold (k : Nat) : Prog := .seq (bootEng fun e => { e with
    hold := k
    cores := [false, false, false] }) (set RST_BOOT_STEP 0)

/-- Bring-up, once RESET_N is high and no thermal shutdown holds the device: `k` says what still holds it (R100, R505). -/
def bootFrom (k : Nat) : Prog := if k == 0 then bootGo else bootHold k

/-- A system reset ends the diagnostic that ran, `d` of AFE_STATUS.DIAG, with the result ABORTED (R233): the page, back at its reset values
(R239), shows that result. (DEDUCED, log entry 115) -/
def diagReset (d : Nat) : Prog :=
  if d == 0 then .skip
  else .seq (set (if d == 8 then AFE_DIAG_STATUS_LAST_PATH else AFE_DIAG_STATUS_LAST_OW) 3) (afeEvent 10)

/-- The coils that a reset leaves driven for its 100 µs (R101): those commanded, and what an earlier reset left of its own time. -/
def State.contTail (s : State) : Nat × Nat :=
  if s.f CONT_STATUS_CMD == 0 && s.now < s.eng.cont.tailAt + 100 then (s.eng.cont.tail, s.eng.cont.tailAt) else (s.f CONT_STATUS_CMD, s.now)

/-- What a system reset clears and keeps; `shelf` for an exit from SHELF. -/
def sysClear (shelf : Bool) : Prog := .dyn fun s =>
  blk [upTo 4 fun n => whenS (fun s => s.wdgRuns n) (wdgStore n), recReset, otpReset, feedSysReset, .act (.resetRegs fun a => if shelf then shelfKept a else s.sysKept a),
    eng fun e => if shelf then { e.aon with boot := { e.aon.boot with railsDone := false } } else { s.engKept with recs := e.recs },
    contEng fun e => { e with
      tail := s.contTail.1
      tailAt := s.contTail.2 },
    diagReset (s.f AFE_STATUS_DIAG), keptShow]

/-- A system reset (R98, R101, R108); `hold` keeps the device in reset, beside what held it before. (DEDUCED, log entry 26) -/
def sysReset (cause : Fld) (hold : Nat) (shelf : Bool) : Prog :=
  whenS State.powered (.dyn fun s =>
    blk [sysClear shelf, set cause 1, whenB s.booting (set RST_CAUSE_RESTART 1), incSat RST_CNT_SYS_CNT,
      bootFrom (s.eng.boot.hold ||| hold), bootEng fun e => { e with cause := (2 ^ cause.lo, s.now) }])

/-- CORE_SRC and the cores of a core reset in progress, which a power-on reset overtakes (R99): those verified anew before their restart. -/
def State.coreCause (s : State) : Nat :=
  let l := (List.range 3).filter fun c => s.released && s.eng.boot.verify.contains c
  if l == [] then 12 else 4 * s.f RST_CAUSE_CORE_SRC + (l.map fun c => 2 ^ (4 + c)).sum

/-- RST_CAUSE after a power-on reset (R98, R99, R108, R111): its own bits, AON_POR where the AON domain was absent, RESTART where it ended a
bring-up, PIN where RESET_N held the device in a system reset, and what it overtakes: a core reset in progress, and a system reset of the same
moment. (DEDUCED, log entry 26) -/
def State.porCause (s : State) (aonLost : Bool) : Nat :=
  if aonLost then 2 ^ 31 + 2 ^ 30 + 12
  else 2 ^ 30 ||| s.coreCause ||| (if s.booting then 2 ^ 7 else 0) ||| (if bitOf s.eng.boot.hold 0 then 2 ^ 28 else 0) |||
    (if s.booting && s.eng.boot.cause.2 == s.now then s.eng.boot.cause.1 else 0)

/-- A power-on reset (R97, R98, R111): RST_PREV takes RST_CAUSE, which is cleared before its own bits are set. -/
def porReset (aonLost : Bool) : Prog := .dyn fun s =>
  blk [upTo 4 fun n => whenS (fun s => s.wdgRuns n) (wdgStore n), otpReset, .act (.resetRegs fun a => (!aonLost && porKept a) || s.shutKept a), feedPor s,
    eng fun e => if aonLost then { feed := e.feed, boot := { testen := e.boot.testen, role := e.boot.role, addr := e.boot.addr, pinLow := !s.balls.resetN },
                                   clk := { lfTry := true, vsys := e.clk.vsys, vbkup := e.clk.vbkup }, rtc := { subAt := s.now } }
      else e.aon,
    contEng fun e => { e with
      tail := if aonLost then 0 else s.contTail.1
      tailAt := s.contTail.2 },
    bootEng fun e => { e with
      fresh := true
      freshAon := e.freshAon || aonLost
      hold := e.hold % 2
      railsDone := false
      por := true },
    whenB (!aonLost) (setReg RST_PREV (s.reg RST_CAUSE).toNat),
    setReg RST_CAUSE (s.porCause aonLost), keptShow]

/-- Balls sampled at power-on reset (R39, R40, R438). (DESIGN CHOICE, log entry 5) -/
def sampleBalls (role testen a0 : Bool) : Prog :=
  .seq (.act (.balls fun b => { b with role := role, testen := testen, i2cA0 := a0 }))
    (bootEng fun e => { e with role := role, testen := testen, addr := a0 })

/-- Power returned after a loss: what was being written to the record store may have been torn (R527). -/
def powerUp (aonLost : Bool) (role testen a0 : Bool) : Prog :=
  blk [recTorn, porReset aonLost, sampleBalls role testen a0, .dyn fun s => whenB s.eng.clk.vsys (bootFrom s.eng.boot.hold)]

/-- The AON domain's supply rises from absent: from VSYS, or from VBKUP or the stack with the device rails still off. -/
def aonPowerUp (vsys vbkup role testen a0 : Bool) : Prog :=
  blk [vsysAvail vsys, vbkupAvail vbkup, powerUp true role testen a0, wdgLook]

/-- VSYS rises through its threshold (R10, R98): the device rails start from off. -/
def vsysRise (role testen a0 : Bool) : Prog := .seq (vsysAvail true) (powerUp false role testen a0)

/-- A fixed monitor falls (R98, R117): a power-on reset, with every fixed rail restarted. -/
def monitorFall (k : Nat) (role testen a0 : Bool) : Prog :=
  whenS (fun s => s.b (REG_INT_MON_ABOVE.bit k)) (blk [recReset, porReset false, sampleBalls role testen a0, .dyn fun s => bootFrom s.eng.boot.hold])

/-! ### Fixed rails (R133) -/

/-- Fixed regulators of a row: BK0, BK1; BK2, LD0; LD1, LD2; as regulator and monitor numbers. -/
def fixedRow : Nat → List (Nat × Nat)
  | 2 => [(0, 0), (1, 1)] | 3 => [(2, 2), (4, 3)] | 4 => [(5, 4), (6, 5)] | _ => []

/-- The slot that is up once a row's rails are above their monitors: BK0; BK1 with LD0; BK2 with LD1 and LD2. -/
def fixedSlots : Nat → List Nat
  | 2 => [0] | 3 => [1] | 4 => [2] | _ => []

/-- The rails of a row begin their soft start. -/
def fixedStart (row : Nat) : Prog :=
  .seq (pwrEng fun e => { e with fixedRow := row }) (forEach (fixedRow row) fun x => .seq (set (regState x.1) 0b0101) (set (vnowOf x.1) 0))

/-- The rails of a row stand above their monitors, which ends their soft start and sets their DONE events. (DEDUCED, log entry 77) -/
def fixedAbove (row : Nat) : Prog :=
  .seq (forEach (fixedRow row) fun x => blk [set (regState x.1) 0b0011, .dyn fun s => set (vnowOf x.1) (s.f (vsetOf x.1)),
      set (REG_INT_MON_ABOVE.bit x.2) 1, event (doneEvt x.1)])
    (forEach (fixedSlots row) fun n => setSlot n 3)

/-- VSYS qualification ends. -/
def vsysQualified : Prog :=
  whenS (fun s => s.bootStep == 1 && s.eng.clk.vsys && s.eng.pwr.fixedRow == 1) (fixedStart 2)

def fixedRailStep : Prog := .dyn fun s =>
  let r := s.eng.pwr.fixedRow
  whenB (s.bootStep == 1 && !s.eng.pwr.fixedFailed && 2 ≤ r && r ≤ 4) (.seq (fixedAbove r) (fixedStart (r + 1)))

/-- Step 1 ends. -/
def fixedSettled : Prog :=
  whenS (fun s => s.bootStep == 1 && s.eng.pwr.fixedRow == 5 && s.railsUp) (blk [pwrEng fun e => { e with fixedRow := 0 },
    bootEng fun e => { e with
      railsDone := true
      por := false }, svStart, set RST_BOOT_STEP 2])

/-- A fixed rail is late: every one that has started switches off. -/
def fixedTimeout : Prog :=
  whenS (fun s => s.bootStep == 1 && !s.eng.pwr.fixedFailed && 2 ≤ s.eng.pwr.fixedRow && s.eng.pwr.fixedRow ≤ 4)
    (blk [forEach [2, 3, 4] fun r => .seq (forEach (fixedRow r) fun x => regStop x.1) (forEach (fixedSlots r) fun n => setSlot n 0),
      set REG_INT_MON_ABOVE 0, pwrEng fun e => { e with fixedFailed := true }])

def fixedRetry : Prog :=
  whenS (fun s => s.bootStep == 1 && s.eng.pwr.fixedFailed && s.eng.clk.vsys)
    (.seq (pwrEng fun e => { e with fixedFailed := false }) (fixedStart 2))

/-! ### Steps 2 and 3 -/

/-- The watchdog fuses (R485): EN and OPEN take their reset values when the AON domain has powered up; START forces EN. -/
def wdgLoad : Prog := .dyn fun s =>
  .seq (upTo 4 fun n =>
    .seq (whenB (s.wdgStart n) (set (WDG_CFG_EN n) 1))
      (whenB s.eng.boot.freshAon (set (WDG_CFG_OPEN n) (if s.regionState 3 == 2 then 0 else getBits (s.reg (OTP_OPT 1)) (4 * n) 3))))
    wdgLook

/-- Reset values that depend on the role (AFE_STATUS, EPOCH_STATUS, CAP_CFG, CAP_TRIG, SEQ_CFG). -/
def roleResets : Prog := .dyn fun s =>
  blk [afeDeclare, fineRole,
    if s.isMgr then blk [setReg CAP_CFG 0xC00100F0, setReg CAP_TRIG 0x3C, set SEQ_CFG_VSYS_SLOT 0x1F]
    else blk [set EPOCH_STATUS_SYNC 1, setReg CAP_TRIG 0x20, estDiscard]]

/-- The role (R1, R2, R106): read at a power-on reset, kept otherwise; a region 3 that fails its digest at any load counts as a fuse that
disagrees (R105).  A TESTEN that the lifecycle does not permit is ignored from here on (R40). (DESIGN CHOICE, log entry 8; DEDUCED, log
entry 27) -/
def roleRead : Prog := .dyn fun s =>
  let fuse := s.f (OTP_OPT_ROW 0) % 4
  let bad : Bool := s.regionState 3 == 2 || fuse == 3 || (fuse == 2 && !s.eng.boot.role) || (fuse == 1 && s.eng.boot.role)
  if s.eng.boot.fresh then
    blk [setB IDENT_ROLE_MISMATCH bad, set IDENT_ROLE_ROLE (if bad then 0 else if s.eng.boot.role then 2 else 1),
      whenB (s.eng.boot.testen && !s.b SEC_STATUS_FACTORY_OK) (.seq (set RST_CAUSE_TESTPIN 1) (bootEng fun e => { e with testen := false }))]
  else whenB (s.regionState 3 == 2) (.seq (set IDENT_ROLE_MISMATCH 1) (set IDENT_ROLE_ROLE 0))

/-- The fill of what is not retained starts (R525). -/
def fillStart : Prog := .dyn fun s =>
  blk [set MEM_STATUS_FILLING 1, .act (.clearMem fun a => 0x30000000 ≤ a), bootEng fun e => { e with
      fillAt := s.now
      filled := false }]

/-- Step 3: the role check, the fused pin states, the host port, the root oscillator, and the VSYS source slot. (DEDUCED, log entry 29) -/
def bootStep3 : Prog :=
  blk [upTo 16 fun n => .dyn fun s => set (GPIO_CFG_STATE n) (getBits (s.reg (OTP_OPT 2)) (2 * n) 2),
    .dyn fun s => setB HOST_STATUS_I2C_A0 s.eng.boot.addr,
    bootEng fun e => { e with
      fresh := false
      freshAon := false },
    ifS (fun s => s.b IDENT_ROLE_MISMATCH) (blk [set RST_BOOT_STEP 3, set RST_BOOT_HALTED 1, set RST_CAUSE_ROLE_MM 1])
      (blk [roleResets, fillStart, set CLK_STATUS_ROOT_RC 1, clkEng fun e => { e with startWait := true }, set RST_BOOT_STEP 4,
        vsysStart])]

/-- The OTP load of step 2 ends, and step 3 runs (R104, R541); the role is settled first, as configuration fields depend on it (R177,
R221). (DESIGN CHOICE, log entries 8, 15) -/
def otpLoadDone : Prog :=
  whenS (fun s => s.bootStep == 2)
    (blk [redirLoad, regionLoad, optLoad, .dyn fun s => secLoad s.eng.boot.fresh, roleRead, cfgLoad, refLoaded, qualLook,
      wdgLoad, ringScan 3, ringScan 1, thmCfgLook, rngRestart,
      bootStep3])

/-! ### Steps 4 to 8 -/

/-- Steps 4 and 5 end together: step 6 judges the three images. -/
def bootLook : Prog := .dyn fun s =>
  whenB (s.bootStep == 4 || s.bootStep == 5)
    (if s.eng.boot.filled && !s.eng.clk.startWait then .seq (set RST_BOOT_STEP 6) (bootEng fun e => { e with verify := [0, 1, 2] })
     else set RST_BOOT_STEP (if s.eng.boot.filled then 5 else 4))

/-- The main PLL locks, or the wait of 20 ms ends (R16, R363, R591). -/
def bootClock (p : Prog) : Prog := .dyn fun s =>
  blk [p, whenB ((s.bootStep == 4 || s.bootStep == 5) && s.eng.clk.startWait) epochGo, bootLook]

/-- The fill ends after `us` microseconds (R525). -/
def fillDone (us : Nat) : Prog :=
  whenS (fun s => s.b MEM_STATUS_FILLING) (blk [memFilled us, bootEng fun e => { e with filled := true }, bootLook])

/-- Core `c` runs from its release (R102). -/
def coreRun (c : Nat) : Prog :=
  blk [bootEng fun e => { e with cores := e.cores.set c true }, .dyn fun s => icuElig c (c != 0 || s.keep == 0), wdgLook, whenB (c == 2) (blk [weldResume, decResume, readmitResume])]

/-- Verification of the image of core `c` ends (R102, R104, R562). -/
def verifyDone (c : Nat) : Prog := .dyn fun s =>
  whenB (s.eng.boot.verify.contains c)
    (blk [patchVerified c, bootEng fun e => { e with verify := e.verify.filter (· != c) },
      if s.released then .seq (coreRun c) (event RST_EVT_RAW_CORE_RST)
      else whenS (fun t => t.eng.boot.verify.isEmpty) (set RST_BOOT_STEP 7)])

/-- Slots kept through a system reset (R149): adopted where their power-good is true, else powered down; the sequence is UP if any
programmed slot was adopted. -/
def adoptSlots : Prog := .dyn fun s =>
  let up := s.eng.seq.kept.filter fun n => 3 ≤ n && s.slotState n == 3
  let good := up.filter s.slotPg
  let bad := up.filter fun n => !s.slotPg n
  blk [forEach good fun n => set (SEQ_SLOT_STAT_ADOPTED n) 1, seqEng fun e => { e with kept := [] },
    whenB (bad != []) (sideStop bad), whenB (good != []) (set SEQ_STATUS_STATE 2), svBlank]

/-- The cores that the keeper lets run (R103). -/
def State.coreGrant (s : State) : List Bool := match s.keep with
  | 1 => [false, true, true] | 3 => [false, false, false] | _ => [true, true, true]

/-- The mode at core release (R40, R90, R103). (DEDUCED, log entry 29) -/
def releaseMode : Prog := .dyn fun s =>
  if s.keep != 0 then .seq (set FLT_STATUS_HOLDING 1) (.seq (enterModeFrom 8 6 7 false) safeholdEffects)
  else if s.eng.boot.testen && s.b SEC_STATUS_FACTORY_OK then enterModeFrom 8 7 0 false
  else enterModeFrom 8 3 0 false

/-- A shutdown before this bring-up is reported (R505). (DEDUCED, log entry 28) -/
def shutReport : Prog := .dyn fun s => match s.eng.thm.shut with
  | some k => blk [send pgTHM k 2 0, thmEvent 5, thmEng fun e => { e with shut := none }]
  | none => .skip

/-- Step 7 ends: the cores are released, and every block that waits for it starts; an attempt of Mordant's whose Madder starts here takes
its epoch (R103, R491). (DEDUCED, log entry 43) -/
def coreRelease (rb : Nat) : Prog :=
  whenS (fun s => s.bootStep == 7 && (!(s.isWrk && 7 ≤ s.vsysSlot && s.vsysSlot ≤ 10) || s.slotState s.vsysSlot == 3))
    (.dyn fun s =>
      blk [set RST_BOOT_STEP 8, setSat RST_BOOT_TIME_US (s.now - s.eng.boot.start), bootEng fun e => { e with cores := s.coreGrant },
        whenB (s.keep == 2) (.seq (set (KEEP_ATT_EPOCH (s.f KEEP_STATUS_ATTEMPTS - 1)) (s.epoch % 2 ^ 28)) (wdgEng fun e => { e with keepAt := s.now })),
        whenB (s.coreGrant.any id) (event RST_EVT_RAW_BOOT_DONE), adoptSlots, contactStart, ckptJudge, estStart,
        contRelease, balRelease rb, shutReport, ringEng fun e => { e with autoDue := s.isMgr },
        whenB (s.isWrk && s.f AFE_CFG_NCELL == 0) (afeMsg 7 0),
        forEach s.coreGrant.zipIdx fun x => whenB x.1 (icuElig x.2 (x.2 != 0 || s.keep == 0)), icuRelease,
        releaseMode, wdgLook, whenS (fun t => t.b SEQ_CFG_AUTO_UP && t.seqState == 0) seqGo, modeLook])

/-! ### RESET_N, SHELF, core resets -/

def resetNFall : Prog :=
  .seq (.act (.balls fun b => { b with resetN := false })) (bootEng fun e => { e with pinLow := true })

/-- The filter accepts RESET_N (R98, R100).  A device held after a thermal shutdown is in system reset already: the pin's cause is recorded
and holds it as well. -/
def resetNAccept : Prog :=
  whenS (fun s => s.eng.boot.pinLow && s.powered)
    (.seq (bootEng fun e => { e with pinLow := false })
      (ifS (fun s => s.eng.boot.hold == 0) (sysReset RST_CAUSE_PIN 1 false)
        (.seq (set RST_CAUSE_PIN 1) (bootEng fun e => { e with hold := e.hold ||| 1 }))))

/-- RESET_N rises: bring-up starts unless a thermal shutdown still holds the device. -/
def resetNRise : Prog :=
  blk [.act (.balls fun b => { b with resetN := true }), bootEng fun e => { e with pinLow := false },
    .dyn fun s => whenB (bitOf s.eng.boot.hold 0) (bootFrom (s.eng.boot.hold - 1))]

/-- A wake event has ended SHELF: bring-up at the level of a system reset (R75, R98). (DEDUCED, log entry 76) -/
def shelfExit : Prog :=
  whenS (fun s => s.mode == 0 && s.released && s.b MODE_STATUS_ASCENDING)
    (.dyn fun s => .seq (sysReset RST_CAUSE_SHELF_EXIT 0 true) (modeEng fun e => { e with wakeHold := s.eng.mode.wakeHold }))

/-- `p`, after which a wake event may have ended SHELF. -/
def orShelf (p : Prog) : Prog := .seq p shelfExit

def causeOf (c : Nat) : Fld := if c == 0 then RST_CAUSE_CORE_MADDER else if c == 1 then RST_CAUSE_CORE_WOAD else RST_CAUSE_CORE_WELD

/-- Weld's reset at the manager leaves the requests that await an answer to their timeout (R441); link delays are read anew. -/
def mirrorsDie : Prog := epochEng fun e => { e with
  mir := e.mir.map fun r => { r with dead := true }
  pathDue := e.pathDue || e.mir.any fun r => 3 ≤ r.use }

/-- What the reset of core `c` does to the blocks it serves (R259, R310, R390, R416, R460). -/
def coreBlocks (c : Nat) : Prog :=
  blk [reqsDrop c, whenB (c == 1) (.seq eisWoadReset arcWoadReset),
    whenB (c == 2) (.seq snapEnd mirrorsDie), queueView, icuElig c false]

/-- A core reset of the cores of `l`, from source `src` (R98, R99, R102, R111). -/
def coreReset (l : List Nat) (src : Nat) : Prog := .dyn fun s =>
  let hit := l.filter fun c => s.coreRuns c || s.eng.boot.verify.contains c
  whenB (s.released && hit != [])
    (blk [set RST_CAUSE_CORE_SRC src, incSat RST_CNT_CORE_CNT, forEach hit fun c => blk [set (causeOf c) 1,
        bootEng fun e => { e with
          cores := e.cores.set c false
          verify := c :: e.verify.filter (· != c) },
        coreBlocks c], wdgLook])

/-- RST_CMD (R112): SYS takes precedence; the Madder bit has no effect while Mordant holds the device. -/
def rstCmd (sys : Bool) (cores : Nat) : Prog :=
  if sys then sysReset RST_CAUSE_SW_SYS 0 false
  else .dyn fun s => coreReset ((List.range 3).filter fun c => bitOf cores c && !(c == 0 && (s.keep == 1 || s.keep == 3))) 0

/-! ### Thermal shutdown (R503-R505) -/

/-- The hottest valid sensor. -/
def State.thmHot (s : State) : Nat :=
  ((List.range 6).find? fun k => s.thmValid k && s.i (THM_T_T k) == s.thmMax).getD 0

/-- The shutdown condition is entered (R504). -/
def thmShutdown : Prog := .dyn fun s =>
  let l := s.progSlots.filter fun n => s.slotOn n
  blk [recReset, recThermal s.thmHot (unsigned 16 s.thmMax), recReset,
    incSat THM_SHUT_COUNT, set THM_SHUT_SENSOR s.thmHot, setI THM_SHUT_T s.thmMax, setReg THM_SHUT_EP_LO (s.epoch % 2 ^ 32),
    setReg THM_SHUT_RTC (s.f RTC_SEC_SEC), thmEng fun e => { e with shut := some s.thmHot }, sysClear false, bootHold 2, dnStart .stop l]

/-- One conversion of the enabled sensors, and the shutdown that it may bring. -/
def thmTake (t : List Int) : Prog :=
  .seq (thmSample t) (whenS (fun s => s.thmOn 4 && s.released && s.eng.boot.hold == 0) thmShutdown)

/-- Consecutive conversions, oldest first. -/
def thmTakes (ts : List (List Int)) : Prog := forEach ts thmTake

/-- Every valid sensor has cooled for 100 ms (R505). -/
def State.thmCooled (s : State) : Bool := bitOf s.eng.boot.hold 1 && s.eng.thm.cool.any fun c => c + 100000 ≤ s.now

/-- The hold of a shutdown ends (R505): a system reset released, counted and recorded here. (DEDUCED, log entry 28) -/
def thmRelease : Prog :=
  whenS (·.thmCooled)
    (blk [set RST_CAUSE_THERM 1, incSat RST_CNT_SYS_CNT, thmEng fun e => { e with cool := none }, .dyn fun s => bootFrom (s.eng.boot.hold % 2)])

end Sys2Proof.Machine
end

