-- ==== Sys2Proof/Machine/Keep.lean ====
section
/-!
DEFINITION. The Mordant keeper (22_watchdogs_and_keeper.md, R489-R493, R497, R498), and the actions of a watchdog (R484).
-/
namespace Sys2Proof.Machine

def keepEvent (k : Nat) : Prog := event (KEEP_EVT_RAW_EVENTS.bit k)

/-- KEEP_STATUS takes state `k`; the watchdogs and the interrupt controller look at it (R457, R479). -/
def keepTo (k : Nat) : Prog := .dyn fun s =>
  blk [set KEEP_STATUS_STATE k, setB KEEP_STATUS_IN_CONTROL (k != 0), wdgEng fun e => { e with keepAt := s.now }, wdgLook,
    icuElig 0 (k == 0 && s.coreRuns 0)]

/-- The attempts used so far. -/
def State.keepTries (s : State) : Nat := s.f KEEP_STATUS_ATTEMPTS

/-- ATTEMPTS returns to 0, and the records with it. -/
def keepForget : Prog := .seq (set KEEP_STATUS_ATTEMPTS 0) (upTo 3 fun i => set (KEEP_ATT_VALID i) 0)

/-- Madder is held in core reset, its image not verified before its restart (R490, R491). -/
def madderHold : Prog := .seq (coreReset [0] 2) (bootEng fun e => { e with verify := e.verify.filter (· != 0) })

/-- HELD: event, count and message. -/
def keepHeld : Prog := blk [keepTo 3, keepEvent 3, incSat KEEP_CNT_HOLDS, send pgKEEP 0 2 0]

/-- A takeover from IDLE (R490, R491). (DEDUCED, log entry 70) -/
def keepTake (cause : Nat) : Prog := .dyn fun s =>
  blk [set KEEP_CAUSE_VALID 1, set KEEP_CAUSE_CAUSE cause, set KEEP_CAUSE_WD_KIND (if cause == 1 then s.f (WDG_EVID_KIND 0) else 0),
    setEpoch KEEP_EP_LO_EPOCH KEEP_EP_HI_EPOCH s.epoch, keepEvent 0, incSat KEEP_CNT_TAKEOVERS, madderHold,
    if s.keepTries < 3 then keepTo 1 else keepHeld, send pgKEEP cause 0 0, safeholdEnter 7]

/-- A failure during PROBATION (R491). (DEDUCED, log entry 71) -/
def keepRetake (cause : Nat) : Prog := .dyn fun s =>
  blk [set (KEEP_ATT_RESULT (s.keepTries - 1)) (2 + cause), madderHold,
    if s.keepTries < 3 then .seq (keepTo 1) (send pgKEEP s.keepTries 1 0) else keepHeld, safeholdEnter 7]

/-- A failure of Madder (R489): cause 0 LOCKSTEP, 1 WATCHDOG; in RESET_HOLD and HELD it has no further effect. -/
def keepFail (cause : Nat) : Prog := .dyn fun s =>
  if s.keep == 0 then keepTake cause else if s.keep == 2 then keepRetake cause else .skip

/-- The two halves of Madder, at the given addresses, disagree (R489, R498). -/
def lockstep (pc0 pc1 : Nat) : Prog :=
  whenS (fun s => s.coreRuns 0 && 2 ≤ s.mode && (s.keep == 0 || s.keep == 2))
    (blk [setReg (KEEP_LS_PC 0) pc0, setReg (KEEP_LS_PC 1) pc1, keepFail 0])

/-- The keeper has been in its state, or Madder released, for `us` microseconds. -/
def State.keepFor (s : State) (us : Nat) : Bool := s.eng.wdg.keepAt + us ≤ s.now

/-- 1 ms of RESET_HOLD has elapsed (R491): Madder is released, at once or, during bring-up, at step 7 (R103). -/
def keepRestart : Prog :=
  whenS (fun s => s.keep == 1 && s.keepFor 1000)
    (.dyn fun s =>
      blk [set KEEP_STATUS_ATTEMPTS (s.keepTries + 1), setReg (KEEP_ATT s.keepTries) (2 ^ 31 + s.epoch % 2 ^ 28), keepEvent 1,
        incSat KEEP_CNT_RESTARTS, keepTo 2, whenB s.released (bootEng fun e => { e with verify := 0 :: e.verify.filter (· != 0) })])

/-- PROB ms have passed since Madder's release. -/
def keepHandback : Prog :=
  whenS (fun s => s.keep == 2 && s.keepFor (s.f KEEP_CFG_PROB * 1000))
    (.dyn fun s => blk [set (KEEP_ATT_RESULT (s.keepTries - 1)) 1, keepTo 0, keepEvent 2, send pgKEEP s.keepTries 3 0])

/-- Madder has held control for 600 s without a failure. -/
def keepSettled : Prog := whenS (fun s => s.keep == 0 && s.keepTries != 0 && s.keepFor 600000000) keepForget

/-- RELEASE (R492): from HELD; cores that a system reset left unreleased start at once (R103). -/
def keepRelease : Prog :=
  whenS (fun s => s.keep == 3)
    (blk [keepForget, incSat KEEP_CNT_RELEASES, keepEvent 4, keepTo 1,
      forEach [1, 2] fun c => whenS (fun s => s.released && !s.coreRuns c && !s.eng.boot.verify.contains c) (coreRun c)])

/-- KEEP_CMD; its session level is judged by the access. -/
def keepCmd (op : Nat) : Prog := if op == 1 then accepted KEEP_CMD 9 keepRelease else .skip

/-- The action of WDG_CFG[n].ACT (R484): event only, reset of the core, system reset, takeover. -/
def wdgAct (n : Nat) : Prog := .dyn fun s => match s.f (WDG_CFG_ACT n) with
  | 1 => whenB (n < 3) (coreReset [n] 1)
  | 2 => sysReset RST_CAUSE_WDG 0 false
  | 3 => whenB (n == 0) (keepFail 1)
  | _ => .skip

/-- One microsecond of the watchdogs, the task monitor and the keeper: what has become due (R481-R491). -/
def wdgUs : Prog :=
  blk [upTo 4 fun n => blk [wdgArrival n wdgAct, wdgArrival n wdgAct, wdgExpire n wdgAct, wdgDisarm n], tmPeriodEnd wdgAct, keepRestart,
    keepHandback, keepSettled]

end Sys2Proof.Machine
end

