-- ==== Sys2Proof/Machine/Operands.lean ====
section
/-!
DEFINITION. The operand forms of a command: the word of a command register is its key and the fields below it (R49, R54); everything else
travels as a whole word.
-/
namespace Sys2Proof.Machine

/-- A command register's word: the key in bits 31 to 16, and the fields below it. -/
def keyed (key : BitVec 16) (low : Nat) : Word := BitVec.ofNat 32 (key.toNat * 2 ^ 16 + low % 2 ^ 16)

end Sys2Proof.Machine
end

