-- ==== Sys2Proof/Machine/Access.lean ====
section
/-!
DEFINITION. One access to a register (03_register_conventions.md, R49-R67): where it goes, which outcome it has (R63), the level it needs
(R554), the refusals of WATCH (R76, R89), and what a write does, register by register.
-/
namespace Sys2Proof.Machine

/-! ### Who may access -/

/-- The port answers (R441): from bring-up step 3 on, halted or not, in WATCH and above. -/
def State.hostOpen (s : State) : Bool :=
  s.eng.boot.hold == 0 && 2 ≤ s.mode && (4 ≤ s.bootStep || s.b RST_BOOT_HALTED)

/-- The access reaches the register bus. -/
def State.served (s : State) : Src → Bool
  | .xspi => s.hostOpen
  | .i2c => s.hostOpen && s.b HOST_CFG_I2C_EN
  | _ => true

/-- The access came over the ring. -/
def overRing : Src → Bool
  | .ring _ => true
  | _ => false

/-- The path whose freeze a read of the time group uses (R511). (DEDUCED, log entry 44) -/
def pathOf : Src → Nat
  | .xspi => pathXspi
  | .i2c => pathI2c
  | _ => pathCore

/-- The level that a write of `w` to local address `a` needs (R554); 4 is a level no session has. (DEDUCED, log entry 21) -/
def State.levelNeed (s : State) (a : Nat) (w : Word) : Nat :=
  let op := getBits w 0 3
  let wmin := s.f SEC_POLICY_WRITE_MIN
  if offOf a == 0x018 then 1
  else if pageOf a == pgSVC then 0
  else if a == RST_CMD || a == RTC_CMD then 1
  else if a == FLT_CMD && op == 1 then 1
  else if a == KEEP_CMD && op == 1 then 2
  else if a == REC_CMD then 2
  else if a == MODE_REQ then
    (if getBits w 0 4 == 5 then 2 else if getBits w 0 4 == 7 then (if s.b SEC_STATUS_FACTORY_OK then 3 else 4) else wmin)
  else if a == SEC_CMD then (if op == 1 || op == 2 then 0 else if op == 3 then 2 else wmin)
  else if a == OTP_CMD then s.otpLevel op (OTP_CMD_REGION.of w)
  else wmin

def State.deniedTo (s : State) (src : Src) (need : Nat) : Bool :=
  match s.levelOf src with | some l => l < need | none => false

/-- Pages that the host port serves in WATCH (R76). -/
def watchPages : List Nat := [pgIDENT, pgMODE, pgRST, pgRTC, pgFLT]

/-- WATCH does not serve this access (R76). -/
def State.watchShut (s : State) (src : Src) (a : Nat) : Bool :=
  s.mode == 2 && (src == .xspi || src == .i2c) && !watchPages.contains (pageOf a)

/-- The class of R88 to which a write of `w` at `a` belongs. -/
def cmdClass (a : Nat) (w : Word) : Option Nat :=
  let op := getBits w 0 3
  if a == MODE_REQ then some 0
  else if a == CONT_CMD then (if op == 1 then some 1 else if 2 ≤ op && op ≤ 5 then some 2 else none)
  else if a == BAL_CMD then (if op == 1 || op == 3 then some 3 else none)
  else if [BAL_POLICY, BAL_THR, BAL_SEL, BAL_SH_I, BAL_BLEED].contains a then some 3
  else if a == EIS_CMD then (if op == 1 || op == 3 || op == 4 then some 4 else none)
  else if a == CAP_CMD || a == HOST_EXP_CMD then (if op == 1 then some 5 else none)
  else if a == AFE_CFG || (AFE_CAL_U 0 ≤ a && a ≤ AFE_CAL_U 31) then some 6
  else if a == OTP_CMD then (if 2 ≤ op && op ≤ 4 then some 6 else none)
  else if a == SEC_CMD then (if op == 1 || op == 2 then some 6 else if op == 3 then some 8 else none)
  else if a == EPOCH_CMD then (if op == 4 then some 7 else none)
  else if a == RING_CMD then (if op == 1 then some 8 else none)
  else if a == ROSTER_CMD then some 8
  else if a == FLT_CMD || a == KEEP_CMD then (if op == 1 then some 9 else none)
  else if a == SEQ_CTRL then (if op == 1 || op == 3 then some 10 else if op == 2 || op == 4 || op == 5 then some 11 else none)
  else if a == PHC_CMD then (if op == 1 then some 10 else none)
  else if a == FEED_CMD || a == PATH_CMD then some 12
  else none

/-- The class of a write of `w` at `a` where what it commands stands in State: a host BURST belongs to the capture-arm class (R254). -/
def State.cmdClass (s : State) (a : Nat) (w : Word) : Option Nat :=
  if a == SCAN_REQ && SCAN_REQ_GO.of w == 1 && s.f SCAN_REQ_CFG_KIND == 2 then some 5 else Sys2Proof.Machine.cmdClass a w

/-- An access is refused that is of no class of R88: what CLASS records is open. (DEDUCED, log entry 22) -/
def refuseOpen (a : Nat) : Prog := withFree fun c => refuse a (c % 16)

/-- An access that WATCH does not serve: refused, and a wake request where HOST_WAKE says so (R76). (DEDUCED, log entry 22) -/
def watchRefuse (a : Nat) (cls : Option Nat) : Prog :=
  .seq (match cls with | some c => refuse a c | none => refuseOpen a) hostWake

/-! ### Outcomes of a write (R63) -/

/-- Keys of the WK registers. -/
def keyTable : List (Nat × Nat) :=
  [(CLK_CMD, 0xC10C), (RST_CMD, 0x4E57), (SEQ_CTRL, 0x5E9C), (PHC_CMD, 0x7C4A), (CONT_CMD, 0xC07A), (FLT_CMD, 0xF17C), (FEED_CMD, 0xFE0D),
    (PATH_CMD, 0xBA7C), (AFE_DIAG_CMD, 0xD1A6), (SCAN_REQ, 0x5CA2), (BAL_CMD, 0xBA1A), (BAL_SEL, 0x5E1C), (EIS_CMD, 0xE15A),
    (EST_CMD, 0xE57A), (RING_CMD, 0x7E11), (EPOCH_CMD, 0xE9C0), (ROSTER_CMD, 0x2057), (ARC_CMD, 0xA4C0), (CAP_CMD, 0xCA9E),
    (HOST_EXP_CMD, 0xE4B0), (REC_CMD, 0x4EC0), (RTC_CMD, 0x2C7A), (KEEP_CMD, 0xD0A7), (WDG_TM_CHECKIN, 0x7A5C), (OTP_CMD, 0x0A7F),
    (SEC_CMD, 0x5EC1), (SVC_CMD, 0x5C1D)]

/-- The key of the WK register at `a`; every page's LOCK has the same (R54). -/
def keyOf (a : Nat) : Nat := if offOf a == 0x018 then 0x1F0C else countOf keyTable a

/-- The address names a register of its page, or a reserved one within the page's count (R63). -/
def mapped (a : Nat) : Bool := pageOf a < 0x28 && offOf a < 4 * pageCount (pageOf a) && a % 4 == 0

/-- The register takes no write in any role or in the other role alone: its write completes RO_WRITE wherever the page is present (R7, R63). -/
def readOnlyAt (a : Nat) : Bool := match rowAt a with
  | some r => r.acc == .ro || r.acc == .shd || r.acc == .rwMgr
  | none => false

/-- Nothing stands behind the address of a write: an absent page (R12), a writable register of the other role, a reserved register. -/
def State.inert (s : State) (a : Nat) : Bool :=
  !s.pageShown (pageOf a) || (s.otherRole a && !readOnlyAt a) || (0x030 ≤ offOf a && offOf a < 0x040) || (rowAt a).isNone

/-- Registers that are read only to the host and the ring, but not to the cores (R461, R479). -/
def coreOnly (a : Nat) : Bool := [WDG_CFG 0, WDG_CFG 1, WDG_CFG 2].contains a

def coreModOf (a : Nat) : Bool := [ICU_T_MOD 0, ICU_T_MOD 1, ICU_T_MOD 2].contains a

/-- Why the register does not take the write, if it does not: LOCKED, KEY_ERR or RO_WRITE. (DEDUCED, log entries 20, 41) -/
def State.writeFault (s : State) (src : Src) (a : Nat) (w : Word) : Option Outc :=
  match rowAt a with
  | none => none
  | some r => match r.acc with
    | .ro => if (src == .core && coreModOf a) || (a == EPOCH_PATH && overRing src && !s.isMgr) then none else some .roWrite
    | .shd => some .roWrite
    | .rwMgr => if s.isMgr then none else some .roWrite
    | .rwl => if coreOnly a && src != .core then some .roWrite
        else if s.b ⟨pageOf a * 0x1000 + 0x018, 0, 1⟩ then some .locked else none
    | .stg => if s.b (stageHeld (pageOf a)) then some .locked else none
    | .wk => if getBits w 16 16 == keyOf a then none else some .keyErr
    | _ => if offOf a == 0x028 && bitOf w.toNat 3 && s.b (stageHeld (pageOf a)) then some .locked else none

/-! ### What a write does -/

/-- OW_START with no diagnostic running (R233): a test that waits for the shuttle takes it from balancing and from the impedance engine (R236,
R284, R303). -/
def owBegin : Prog :=
  whenS (fun s => s.f AFE_STATUS_DIAG == 0)
    (.seq owStart (whenS (fun s => s.f AFE_STATUS_DIAG == 1) (.seq balForOw (eisAbort 1))))

/-- AUTO_PER has passed since the last open-wire test (R233). -/
def owAuto : Prog := whenS (fun s => s.f AFE_DIAG_CFG_AUTO_PER != 0) owBegin

/-- AFE_DIAG_CMD (R233): not a command under R88; what ABORT ends suspends bleeding no longer (R236). -/
def diagCmd (op : Nat) : Prog :=
  match op with | 1 => owBegin | 2 => pathStart | 3 => .seq diagAbort bleedApply | _ => .skip

/-- RING_CMD; a new enumeration empties the roster, and what the rings' arms lose the roster shows (R345, R362, R396). -/
def ringCommand (op port : Nat) : Prog := .dyn fun s =>
  .seq (ringCmd op port) (if op == 1 then whenB (s.isMgr && s.accepts 8) rosterClear else rosterSync)

/-- The command registers (WK), the key being right. -/
def cmdWrite (src : Src) (a : Nat) (w : Word) : Prog :=
  let op := getBits w 0 3
  if a == CLK_CMD then clkCmd (CLK_CMD_ROOT_RETRY.of w == 1)
  else if a == RST_CMD then rstCmd (RST_CMD_SYS.of w == 1) (RST_CMD_CORE.of w)
  else if a == SEQ_CTRL then
    (match op with
    | 1 => accepted SEQ_CTRL 10 seqGo | 2 => accepted SEQ_CTRL 11 offRequest
    | 3 => accepted SEQ_CTRL 10 (slotOnCmd (SEQ_CTRL_SLOT.of w)) | 4 => accepted SEQ_CTRL 11 (slotOff (SEQ_CTRL_SLOT.of w))
    | 5 => accepted SEQ_CTRL 11 seqClear | _ => .skip)
  else if a == PHC_CMD then (if op == 1 then accepted PHC_CMD 10 (reenable (PHC_CMD_PHASE.of w)) else .skip)
  else if a == CONT_CMD then contCmd op
  else if a == FLT_CMD then fltCmd op
  else if a == FEED_CMD then feedCmd op
  else if a == PATH_CMD then pathCmd op
  else if a == AFE_DIAG_CMD then diagCmd op
  else if a == SCAN_REQ then whenB (SCAN_REQ_GO.of w == 1) scanGo
  else if a == BAL_CMD then balCmd op
  else if a == BAL_SEL then accepted BAL_SEL 3 (balSelWrite (src == .core) (BAL_SEL_CELL.of w))
  else if a == EIS_CMD then eisCmd op (EIS_CMD_KIND.of w) (EIS_CMD_CELL.of w)
  else if a == EST_CMD then estCmd op
  else if a == RING_CMD then ringCommand op (RING_CMD_PORT.of w)
  else if a == EPOCH_CMD then epochCmd op
  else if a == ROSTER_CMD then rosterCmd op (ROSTER_CMD_W.of w)
  else if a == ARC_CMD then arcCmd op
  else if a == CAP_CMD then capCmd op
  else if a == HOST_EXP_CMD then expCmd op
  else if a == REC_CMD then recCmd op
  else if a == RTC_CMD then rtcCmd op
  else if a == KEEP_CMD then keepCmd op
  else if a == WDG_TM_CHECKIN then whenB (src != .core) (tmCheckin (WDG_TM_CHECKIN_SLOT.of w))
  else if a == OTP_CMD then withFree fun x => otpCmd op (OTP_CMD_MARGIN.of w) (OTP_CMD_REGION.of w) (BitVec.ofNat 32 x)
  else if a == SEC_CMD then secCmd src op (SEC_CMD_W.of w)
  else if a == SVC_CMD then svcCmd src op (SVC_CMD_LEVEL.of w)
  else whenB (offOf a == 0x018 && getBits w 0 1 == 1) (set ⟨a, 0, 1⟩ 1)

/-- The index of `a` in an array of registers that starts at `base`. -/
def idxOf (base stride a : Nat) : Nat := (a - base) / stride

/-- The write-only registers. -/
def woWrite (src : Src) (a : Nat) (w : Word) : Prog :=
  if pageOf a == pgWDG then wdgWrite (idxOf (WDG_SVC 0) 0x20 a) w.toNat (src != .core) wdgAct
  else if a == FLT_INJ then ifS (fun s => s.mode == 7) (fltInject w) (refuseOpen FLT_INJ)
  else if a == GPIO_OUT_SET then gpioSet w.toNat
  else if a == GPIO_OUT_CLR then gpioClr w.toNat
  else if pageOf a == pgICU then
    (let t := idxOf (ICU_T_DONE 0) 0x20 a
     whenB ((3 ≤ t) == (src == .xspi || src == .i2c)) (icuDone t (getBits w 0 8)))
  else .act (.reg a w)

/-- Write-one-to-clear registers; in SEQ_FIRST, SUP_FIRST and PHC_FIRST the whole record goes (R131, R155, R176). (DEDUCED, log
entry 101) -/
def w1cWrite (a : Nat) (w : Word) : Prog :=
  if a == FLT_PEND then fltPendClear (FLT_PEND_SEV.of w)
  else if a == SEQ_FIRST || a == SUP_FIRST || a == PHC_FIRST then whenB (getBits w 31 1 == 1) (setReg a 0)
  else if a == FLT_FIRST_INFO then fltFirstClear (FLT_FIRST_INFO_VALID.of w == 1)
  else .dyn fun s => .act (.reg a (s.reg a &&& ~~~(w &&& BitVec.ofNat 32 (writeMask a))))

/-- The value that an RW or RWL register stores, where nothing more than a range stands between (R66). -/
def plainWrite (a : Nat) (w : Word) : Prog := .dyn fun s => .act (.reg a (s.norm a (s.reg a) w))

/-- What blocks look at once a configuration register of theirs has changed. -/
def afterWrite (a : Nat) : Prog :=
  if a == MODE_ATT_PER then .seq winPeriod modeLook
  else if pageOf a == pgMODE then modeLook
  else if a == MEM_CFG then ceJudge
  else if a == THM_CFG || a == THM_THR then thmCfgLook
  else if a == WDG_TM_CFG then wdgLook
  else if a == FLT_CFG then quietLook false
  else if a == BAL_PASS_CFG then bleedApply
  else if a == FEED_QUAL then qualLook
  else if a == CONT_SENSE then contJudge
  else if a == ICU_GROUP || a == ICU_CFG then icuShowAll
  else .skip

/-- The RW and RWL registers, those of R22 and R90 among them. -/
def rwWrite (src : Src) (a : Nat) (w : Word) : Prog :=
  let c := canon a
  if offOf a == 0x01C then shadowWrite (pageOf a) w
  else if offOf a == 0x028 then stageWrite (pageOf a) w
  else if a == MODE_REQ then modeReqWrite (MODE_REQ_TARGET.of w)
  else if a == CLK_LF_CFG then lfCfgWrite w
  else if a == CLK_STEER then steerWrite w
  else if a == REG_BK_VSET 3 then bkVset w
  else if c == REG_LD_VSET 3 then ldVset (idxOf (REG_LD_VSET 0) 0x10 a) w
  else if c == SV_CFG 0 then svCfgWrite (idxOf (SV_CFG 0) 0x10 a) w
  else if c == PHC_RAIL_VSET 0 then railVset (idxOf (PHC_RAIL_VSET 0) 0x80 a) w
  else if a == CHG_PACK then chgPackWrite w
  else if a == CHG_VREG then chgVregWrite w
  else if a == AFE_CFG then accepted AFE_CFG 6 (afeCfgWrite w)
  else if a == AFE_TMUX then tmuxWrite w
  else if c == AFE_CAL_U 0 then accepted a 6 (calUWrite (idxOf (AFE_CAL_U 0) 4 a) w)
  else if a == SCAN_REQ_CFG then scanCfgWrite w
  else if a == BAL_SH_I then accepted BAL_SH_I 3 (balShIWrite (src == .core) w)
  else if a == BAL_BLEED then accepted BAL_BLEED 3 (balBleedWrite (src == .core) (BAL_BLEED_MASK.of w))
  else if a == EIS_VIEW then eisViewWrite w
  else if a == ARC_CTRL then arcCtrlWrite w
  else if a == ISO_CTRL then isoCtrlWrite w
  else if a == GPIO_OUT then gpioOut (GPIO_OUT_VALUE.of w)
  else if c == GPIO_CFG 0 then gpioCfg (idxOf (GPIO_CFG 0) 4 a) w
  else if a == ICU_SWI then icuSwi (ICU_SWI_SW.of w)
  else if c == ICU_T_MOD 3 then icuModWrite (idxOf (ICU_T_MOD 0) 0x20 a) w
  else if c == ICU_LINE 0 then icuLineWrite (idxOf (ICU_LINE 0) 4 a) w (src == .core)
  else if c == WDG_CFG 0 then wdgCfgWrite (idxOf (WDG_CFG 0) 0x20 a) w
  else if a == RTC_TRIM then rtcTrimWrite w
  else if a == RTC_ALARM || a == RTC_ALM_CFG then rtcAlarmWrite a w
  else if a == RTC_PWRON then rtcPwronWrite w
  else blk [rampRebase a, plainWrite a w, afterWrite a]

/-- A staged register: BAL_POLICY and BAL_THR belong to the balancing-start class (R289). (DEDUCED, log entry 41) -/
def stgWrite (a : Nat) (w : Word) : Prog :=
  let p : Prog := .dyn fun s => stage a (s.norm a (s.stg a) w)
  if a == BAL_POLICY || a == BAL_THR then accepted a 3 p else p

/-- A write that the register takes (R7). -/
def writeEffect (src : Src) (a : Nat) (w : Word) : Prog :=
  match rowAt a with
  | none => .skip
  | some r => match r.acc with
    | .wk => cmdWrite src a w
    | .wo => woWrite src a w
    | .w1c => w1cWrite a w
    | .stg => stgWrite a w
    | .ro => if a == EPOCH_PATH then pathWrite w else icuModWrite (idxOf (ICU_T_MOD 0) 0x20 a) w
    | .shd => .skip
    | _ => rwWrite src a w

/-! ### One access -/

/-- A write, or a read without an uncorrectable find, ends what an error left behind the register at `a` (R521, R522). -/
def rawDrop (a : Nat) : Prog :=
  whenS (fun s => s.eng.recs.raw.any fun x => x.1 == a) (recEng fun e => { e with raw := e.raw.filter fun x => x.1 != a })

/-- The raw word behind the register at `a`, for the find `f` of R521: the poison code leaves the word as it is stored; after an uncorrectable
error it is open, and the same at every read until the register is written or reads well again. (DEDUCED, log entry 48) -/
def rawWord (a f : Nat) (w : Word) (k : Word → Prog) : Prog := .dyn fun s =>
  if f != 2 then k w
  else match s.eng.recs.raw.find? fun x => x.1 == a with
    | some x => k x.2
    | none => withFree fun x => .seq (recEng fun e => { e with raw := (a, BitVec.ofNat 32 x) :: e.raw }) (k (BitVec.ofNat 32 x))

/-- A word written to local address `a` (R63): address, level, mode (R76), register, effect. (DEDUCED, log entries 19, 20, 32, 82) -/
def regWrite (src : Src) (a : Nat) (w : Word) : Prog := .dyn fun s =>
  if !mapped a then setOutc .addrErr
  else if s.deniedTo src (s.levelNeed a w) then setOutc .denied
  else if s.watchShut src a then watchRefuse a (s.cmdClass a w)
  else if s.inert a then setOutc .ok
  else match s.writeFault src a w with
    | some o => complete a o
    | none => blk [setOutc .ok, rawDrop a, writeEffect src a w]

/-- A word read at local address `a`, which `k` takes.  With an uncorrectable find `f` the raw word comes with its poison mark, reported by its
page (R62, R521, R524). -/
def regRead (src : Src) (a f : Nat) (k : Word → Prog) : Prog := .dyn fun s =>
  if !mapped a then .seq (setOutc .addrErr) (k 0)
  else if s.watchShut src a then .seq (watchRefuse a none) (k 0)
  else if isUe f && s.pageShown (pageOf a) then
    readReg (pathOf src) a fun w => blk [complete a .poison, whenB (!overRing src) (incSat MEM_CNT_HOST_POISON), rawWord a f w k]
  else blk [setOutc .ok, rawDrop a, readReg (pathOf src) a k]

/-- The one-word access of a row: nothing where the port does not answer (R441). (DEDUCED, log entry 19) -/
def access (src : Src) (a : Nat) (w : Word) : Prog := whenS (fun s => s.served src) (regWrite src a w)

end Sys2Proof.Machine
end

