-- ==== Sys2Proof/Machine/RowsAfe.lean ====
section
/-!
DEFINITION. The meanings of the rows: The sampling front end and its diagnostics (11_sampling_front_end.md, R219-R239).
-/
namespace Sys2Proof.Machine

/-- REF_READY (R226). VREF settles after a start from off and REF_RDY rises, allowing strikes. -/
def execRefReady (s : State) : Host.Outcome State Fault Refusal := done refReady s

/-- OW_START (R234). AFE_DIAG_CMD OP OW_START begins an open-wire test by waiting for the shuttle. -/
def execOwStart (src : Src) (key : BitVec 16) (s : State) : Host.Outcome State Fault Refusal :=
  done (access src AFE_DIAG_CMD (keyed key 1)) s

/-- PATH_START (R237). AFE_DIAG_CMD OP PATH_START begins a path test, or completes NA outside RUN, SERVICE and FACTORY. -/
def execPathStart (src : Src) (key : BitVec 16) (s : State) : Host.Outcome State Fault Refusal :=
  done (access src AFE_DIAG_CMD (keyed key 2)) s

/-- DIAG_ABORT (R233). AFE_DIAG_CMD OP ABORT ends the running diagnostic with the result ABORTED. -/
def execDiagAbort (src : Src) (key : BitVec 16) (s : State) : Host.Outcome State Fault Refusal :=
  done (access src AFE_DIAG_CMD (keyed key 3)) s

/-- OW_AUTO_TIMER (R233). AUTO_PER seconds after the last open-wire test, Madder issues OW_START. -/
def execOwAutoTimer (s : State) : Host.Outcome State Fault Refusal := done owAuto s

/-- OW_SHUTTLE_FREE (R236). The shuttle is released from its slot and the open-wire test enters BASE. -/
def execOwShuttleFree (s : State) : Host.Outcome State Fault Refusal := done (.seq owShuttleFree bleedApply) s

/-- OW_BUSY_TIMEOUT (R236). The shuttle is not released within 30 s and the test ends BUSY_TIMEOUT. -/
def execOwBusyTimeout (s : State) : Host.Outcome State Fault Refusal := done owBusyTimeout s

/-- OW_PHASE_END (R234). An open-wire phase of length P ends and the next phase starts, or verdicts are given after NODE0. -/
def execOwPhaseEnd (s : State) : Host.Outcome State Fault Refusal := done owPhaseEnd s

/-- OW_BLEED_RESUME (R234). 1 ms after the verdicts bleeding and shuttle selection resume. -/
def execOwBleedResume (s : State) : Host.Outcome State Fault Refusal := done (.seq owBleedResume bleedApply) s

/-- PATH_TEST_CHANNEL (R237). A path test takes its next channel after 1,000 frames and judges its two points, sending a message
on failure. -/
def execPathTestChannel (zero scale : Int) (s : State) : Host.Outcome State Fault Refusal := done (pathChannel zero scale) s

/-- AFE_CAL_U_WRITE (R232). A calibration-class write of a user trim applies from the next frame. -/
def execAfeCalUWrite (src : Src) (ch : Fin 32) (w : Word) (s : State) : Host.Outcome State Fault Refusal :=
  done (access src (AFE_CAL_U ch.val) w) s

/-- AFE_CFG_WRITE (R232). A calibration-class write of AFE_CFG changes the cell count or sum check. -/
def execAfeCfgWrite (src : Src) (w : Word) (s : State) : Host.Outcome State Fault Refusal := done (access src AFE_CFG w) s

end Sys2Proof.Machine
end

