-- ==== Sys2Proof/Machine/RowsBal.lean ====
section
/-!
DEFINITION. The meanings of the rows: Balancing (13_balancing.md, R267-R290).
-/
namespace Sys2Proof.Machine

/-- BAL_START (R279). BAL_CMD OP START permits the outputs again after STOP. -/
def execBalStart (src : Src) (key : BitVec 16) (s : State) : Host.Outcome State Fault Refusal := done (access src BAL_CMD (keyed key 1)) s

/-- BAL_STOP (R279). BAL_CMD OP STOP deselects the shuttle and turns every bleed switch off. -/
def execBalStop (src : Src) (key : BitVec 16) (s : State) : Host.Outcome State Fault Refusal := done (access src BAL_CMD (keyed key 2)) s

/-- BAL_UNLOCK (R278). BAL_CMD OP UNLOCK leaves LOCKED when every node reads OFF. -/
def execBalUnlock (src : Src) (key : BitVec 16) (s : State) : Host.Outcome State Fault Refusal :=
  done (access src BAL_CMD (keyed key 3)) s

/-- BAL_LEASE (R279). BAL_CMD OP LEASE refreshes the host lease in MANUAL. -/
def execBalLease (src : Src) (key : BitVec 16) (s : State) : Host.Outcome State Fault Refusal := done (access src BAL_CMD (keyed key 4)) s

/-- BAL_SEL_WRITE (R273). A BAL_SEL write requests a shuttle selection or is rejected with a cause. -/
def execBalSelWrite (src : Src) (key : BitVec 16) (cell : Fin 32) (s : State) : Host.Outcome State Fault Refusal :=
  done (access src BAL_SEL (keyed key (cell.val * 2 ^ BAL_SEL_CELL.lo))) s

/-- BAL_BLEED_WRITE (R282). A host BAL_BLEED write sets the bleed mask in MANUAL, or is rejected. -/
def execBalBleedWrite (src : Src) (w : Word) (s : State) : Host.Outcome State Fault Refusal := done (access src BAL_BLEED w) s

/-- BAL_SH_I_WRITE (R272). A host BAL_SH_I write sets the shuttle DC reference in MANUAL. -/
def execBalShIWrite (src : Src) (w : Word) (s : State) : Host.Outcome State Fault Refusal := done (access src BAL_SH_I w) s

/-- SH_RAMP_DOWN_DONE (R275). The shuttle current falls to 20 mA or 200 µs pass, the bridges stop and every gate is commanded off.
-/
def execShRampDownDone (s : State) : Host.Outcome State Fault Refusal := done shRampDownDone s

/-- SH_NODES_OFF (R276). Every node reads OFF and break-before-make starts. -/
def execShNodesOff (s : State) : Host.Outcome State Fault Refusal := done shNodesOff s

/-- SH_STUCK_ON (R276). 10 µs pass in VERIFY_OFF without every node OFF and the shuttle locks with STUCK_ON. -/
def execShStuckOn (rb : BitVec 25) (s : State) : Host.Outcome State Fault Refusal :=
  done (shStuckOn rb.toNat (eisAbort 7)) s

/-- SH_BBM_END (R276). Break-before-make ends and the new pair is commanded on, or the shuttle goes IDLE. -/
def execShBbmEnd (s : State) : Host.Outcome State Fault Refusal := done shBbmEnd s

/-- SH_PAIR_CLOSED (R275). Both nodes of the new pair read ON, polarity is set and SEL_DONE is raised. -/
def execShPairClosed (s : State) : Host.Outcome State Fault Refusal := done shPairClosed s

/-- SH_FAIL_TO_CLOSE (R276). 20 µs pass in CLOSING without both nodes ON, so SEL_FAIL and a fail-to-close message follow. -/
def execShFailToClose (rb : BitVec 25) (s : State) : Host.Outcome State Fault Refusal :=
  done (shFailToClose rb.toNat (eisAbort 7)) s

/-- SH_RAMP_UP_DONE (R276). The shuttle current reaches its reference and the shuttle enters RUN. -/
def execShRampUpDone (i : BitVec 16) (s : State) : Host.Outcome State Fault Refusal := done (shRampUpDone i.toNat) s

/-- SH_INTERLOCK (R277). An interlock violation turns every gate off, stops the bridges and locks the shuttle with a SEVERE
message. -/
def execShInterlock (rb on : BitVec 25) (us : Nat) (s : State) : Host.Outcome State Fault Refusal :=
  done (shInterlock rb.toNat on.toNat us (eisAbort 7)) s

/-- SH_OVERCURRENT (R272). The shuttle current exceeds 1.25 × ILIM for 10 µs and the cell is deselected with SH_OC. -/
def execShOvercurrent (i : BitVec 16) (us : Nat) (s : State) : Host.Outcome State Fault Refusal :=
  done (shOvercurrent i.toNat us (eisAbort 7)) s

/-- BLEED_OPEN (R270). A bleed switch's current stays below 50% for 10 ms and it is turned off with a bleed-open message. -/
def execBleedOpen (cell : Fin 24) (ma : BitVec 16) (ms : Nat) (s : State) : Host.Outcome State Fault Refusal :=
  done (bleedOpen cell.val ma.toNat ms) s

/-- BLEED_BUDGET_RETURN (R269). A removed bleed switch returns after the sum with it has stayed within PMAX for 1 s. -/
def execBleedBudgetReturn (cell : Fin 24) (s : State) : Host.Outcome State Fault Refusal := done (budgetReturn cell.val) s

/-- POLICY_LEASE_LAPSE (R279). 2 s pass without a refresh from Madder in AUTO and the outputs go off with LEASE_LAPSED. -/
def execPolicyLeaseLapse (ms : Nat) (s : State) : Host.Outcome State Fault Refusal :=
  done (leaseLapse 1 ms) s

/-- HOST_LEASE_LAPSE (R279). LEASE_T passes without BAL_CMD LEASE in MANUAL and the outputs go off. -/
def execHostLeaseLapse (ms : Nat) (s : State) : Host.Outcome State Fault Refusal :=
  done (leaseLapse 2 ms) s

/-- BAL_POLICY_TICK (R283). The AUTO policy evaluates the cells and chooses bleed switches and shuttle slots. -/
def execBalPolicyTick (s : State) : Host.Outcome State Fault Refusal := done policyTick s

/-- BAL_SLOT_END (R283). A balancing shuttle slot ends at SLOT_T or early on its stop criteria. -/
def execBalSlotEnd (us : Nat) (s : State) : Host.Outcome State Fault Refusal :=
  done (balSlotEnd us) s

/-- SHUTTLE_REQUEST (R285). The impedance engine requests the shuttle and ownership passes, with a yield and reselection if
needed. -/
def execShuttleRequest (s : State) : Host.Outcome State Fault Refusal := done eisOwn s

/-- SHUTTLE_RELEASE (R285). The impedance engine releases the shuttle and balancing resumes its recorded slot or chooses afresh.
-/
def execShuttleRelease (s : State) : Host.Outcome State Fault Refusal := done shuttleRelease s

end Sys2Proof.Machine
end

