-- ==== Sys2Proof/Machine/RowsBus.lean ====
section
/-!
DEFINITION. The meanings of the rows: The register bus (03_register_conventions.md, R49-R67).
-/
namespace Sys2Proof.Machine

/-- REGISTER_WRITE (R7). A write to a register with no row of its own takes the effect its access code states, with its outcome
under R63. -/
def execRegisterWrite (src : Src) (a : BitVec 18) (w : Word) (s : State) : Host.Outcome State Fault Refusal :=
  done (access src a.toNat w) s

/-- SHADOW_WRITE (R56). A write to SHADOW updates SRC and then judges REQ, latching the page's shadow when SRC is HOST and the
page is not frozen. -/
def execShadowWrite (src : Src) (page : Fin 40) (w : Word) (s : State) : Host.Outcome State Fault Refusal :=
  done (access src (hdrShadow page.val) w) s

/-- LOCK_WRITE (R54). A LOCK write with the correct key sets LOCKED, making the page's RWL registers read only. -/
def execLockWrite (src : Src) (page : Fin 40) (key : BitVec 16) (lock : Bool) (s : State) : Host.Outcome State Fault Refusal :=
  done (access src (page.val * 0x1000 + 0x018) (keyed key (b2n lock))) s

/-- STG_REGISTER_WRITE (R61). A write to an STG register goes to its staging copy, or is refused LOCKED while the page is HELD. -/
def execStgRegisterWrite (src : Src) (a : BitVec 18) (w : Word) (s : State) : Host.Outcome State Fault Refusal :=
  done (whenB ((rowAt a.toNat).any fun r => r.acc == .stg) (access src a.toNat w)) s

/-- STAGE_DISCARD (R59). STAGE.DISCARD reloads every staging copy of the page from its active value. -/
def execStageDiscard (src : Src) (page : Fin 40) (view : Bool) (s : State) : Host.Outcome State Fault Refusal :=
  done (access src (hdrStage page.val) (BitVec.ofNat 32 (8 + b2n view))) s

/-- STAGE_VIEW (R59). A write of STAGE.VIEW selects whether reads of STG registers return active or staged values. -/
def execStageView (src : Src) (page : Fin 40) (view : Bool) (s : State) : Host.Outcome State Fault Refusal :=
  done (access src (hdrStage page.val) (BitVec.ofNat 32 (b2n view))) s

end Sys2Proof.Machine
end

