-- ==== Sys2Proof/Machine/RowsClock.lean ====
section
/-!
DEFINITION. The meanings of the rows: Power of the AON domain, clocks and steering (01_architecture.md, 05_reset_and_bring_up.md).
-/
namespace Sys2Proof.Machine

/-- AON_POWER_UP (R98). The AON domain supply rises from absent, which is a power-on reset setting AON_POR and POR. -/
def execAonPowerUp (vsys vbkup role testen a0 : Bool) (s : State) : Host.Outcome State Fault Refusal :=
  done (aonPowerUp vsys vbkup role testen a0) s

/-- VSYS_RISE_THRESHOLD (R98). VSYS rises through its power-on threshold, which makes VSYS available to the AON domain and causes
a power-on reset. -/
def execVsysRiseThreshold (role testen a0 : Bool) (s : State) : Host.Outcome State Fault Refusal := done (vsysRise role testen a0) s

/-- VSYS_FALL_THRESHOLD (R10). VSYS falls through its falling threshold, so the AON domain moves to the next available source
without losing content. -/
def execVsysFallThreshold (s : State) : Host.Outcome State Fault Refusal := done (vsysAvail false) s

/-- INTERNAL_MONITOR_FALL (R117). A fixed internal monitor of BK0-BK2 or LD0-LD2 stays below 90% of setpoint for its 2 µs filter,
which causes a power-on reset. -/
def execInternalMonitorFall (k : Fin 6) (role testen a0 : Bool) (s : State) : Host.Outcome State Fault Refusal :=
  done (monitorFall k.val role testen a0) s

/-- VBKUP_AVAILABLE (R10). VBKUP has stood at or above its presence threshold for 10 µs and becomes available as an AON source. -/
def execVbkupAvailable (s : State) : Host.Outcome State Fault Refusal := done (vbkupAvail true) s

/-- VBKUP_UNAVAILABLE (R10). VBKUP has stood below its absence threshold for 10 µs and becomes unavailable, so the AON domain
moves to the next source. -/
def execVbkupUnavailable (s : State) : Host.Outcome State Fault Refusal := done (vbkupAvail false) s

/-- ROOT_MISSING_EDGE (R19). The root shows no rising edge for 8 HFRC periods, so the main PLL enters holdover and the reference
switches to the HFRC. -/
def execRootMissingEdge (s : State) : Host.Outcome State Fault Refusal := done (.seq rootMissing rosterSync) s

/-- ROOT_MEAS_WINDOW_END (R19). A root frequency measurement window ends, CLK_MON_MEAS is updated, and a deviation beyond the
limit is a root failure. -/
def execRootMeasWindowEnd (freq : Nat) (s : State) : Host.Outcome State Fault Refusal := done (.seq (rootMeasured freq) rosterSync) s

/-- MPLL_REACQUIRED (R19). The main PLL completes reacquisition on its new reference, clearing HOLDOVER and setting MPLL_LOCK. -/
def execMpllReacquired (s : State) : Host.Outcome State Fault Refusal := done mpllReacquired s

/-- MPLL_LOCK (R16). The main PLL locks on the root after an oscillator start, ending bring-up step 5 or an ascent from DORMANT.
-/
def execMpllLock (s : State) : Host.Outcome State Fault Refusal := done (bootClock mpllLock) s

/-- ROOT_START_TIMEOUT (R591). 20 ms pass from the oscillator start without lock, so the main PLL locks on the HFRC and the root
counts as failed. -/
def execRootStartTimeout (s : State) : Host.Outcome State Fault Refusal := done (bootClock rootStartTimeout) s

/-- LPLL_LOCK (R16). The link PLL locks and LPLL_LOCK is set, allowing the Stemline ports to train. -/
def execLpllLock (s : State) : Host.Outcome State Fault Refusal := done lpllLock s

/-- MPLL_UNLOCK (R24). The main PLL loses lock while the root is valid and MPLL_UNLOCK is set. -/
def execMpllUnlock (s : State) : Host.Outcome State Fault Refusal := done mpllUnlock s

/-- LPLL_UNLOCK (R24). The link PLL loses lock while the root is valid, LPLL_UNLOCK is set and the Stemline ports go down. -/
def execLpllUnlock (s : State) : Host.Outcome State Fault Refusal := done (.seq lpllUnlock rosterSync) s

/-- ROOT_RETRY (R20). CLK_CMD.ROOT_RETRY written with its key restarts the crystal oscillator to attempt a return from the HFRC.
-/
def execRootRetry (src : Src) (key : BitVec 16) (s : State) : Host.Outcome State Fault Refusal :=
  done (access src CLK_CMD (keyed key (2 ^ CLK_CMD_ROOT_RETRY.lo))) s

/-- ROOT_RETRY_SUCCESS (R20). 4,096 valid cycles and 10 ms without failure complete, so the PLL reference slews back to the
crystal and the link PLL starts. -/
def execRootRetrySuccess (s : State) : Host.Outcome State Fault Refusal := done retrySuccess s

/-- ROOT_RETRY_FAIL (R20). The retry's 20 ms pass without 4,096 valid cycles, or the root fails in the following 10 ms, so the
root stays on the HFRC and ROOT_FAIL is set. -/
def execRootRetryFail (s : State) : Host.Outcome State Fault Refusal := done retryFail s

/-- LFXO_QUALIFIED (R21). LFXO shows 1,024 periods within ±1% and the AON domain moves to it. -/
def execLfxoQualified (s : State) : Host.Outcome State Fault Refusal := done lfxoQualified s

/-- LFXO_LOSS (R21). LFXO shows no edge for 4 LFRC periods, so the AON domain returns to the LFRC, LF_FAIL is set and LF_FAILS
increments. -/
def execLfxoLoss (s : State) : Host.Outcome State Fault Refusal := done lfxoLoss s

/-- CLK_LF_CFG_WRITE (R21). A write to CLK_LF_CFG selects the LF source and permits a new LFXO attempt. -/
def execClkLfCfgWrite (src : Src) (w : Word) (s : State) : Host.Outcome State Fault Refusal := done (access src CLK_LF_CFG w) s

/-- CLK_STEER_WRITE (R17). A manager write of CLK_STEER sets a trim that is slewed at no more than 0.1 ppm/ms and saturates at the
range limit. -/
def execClkSteerWrite (src : Src) (w : Word) (s : State) : Host.Outcome State Fault Refusal := done (access src CLK_STEER w) s

end Sys2Proof.Machine
end

