-- ==== Sys2Proof/Machine/RowsCont.lean ====
section
/-!
DEFINITION. The meanings of the rows: Contactors, fast disconnect and fault loop (10_contactors_and_disconnect.md, R206-R218).
-/
namespace Sys2Proof.Machine

/-- CONT_CLOSE (R209). CONT_CMD OP CLOSE starts the close sequence with CT1 pull-in, or sets CLOSE_REJ. -/
def execContClose (src : Src) (key : BitVec 16) (s : State) : Host.Outcome State Fault Refusal :=
  done (access src CONT_CMD (keyed key 1)) s

/-- CONT_OPEN (R211). CONT_CMD OP OPEN starts the open sequence from any state NEG to CLOSED. -/
def execContOpen (src : Src) (key : BitVec 16) (s : State) : Host.Outcome State Fault Refusal :=
  done (access src CONT_CMD (keyed key 2)) s

/-- FT_CLEAR (R212). CONT_CMD OP FT_CLEAR clears FT_LATCH. -/
def execFtClear (src : Src) (key : BitVec 16) (s : State) : Host.Outcome State Fault Refusal := done (access src CONT_CMD (keyed key 3)) s

/-- WELD_CLEAR (R213). CONT_CMD OP WELD_CLEAR clears the weld marks. -/
def execWeldClear (src : Src) (key : BitVec 16) (s : State) : Host.Outcome State Fault Refusal :=
  done (access src CONT_CMD (keyed key 4)) s

/-- LOOP_CLEAR (R215). CONT_CMD OP LOOP_CLEAR clears LOOP_TRIP. -/
def execLoopClear (src : Src) (key : BitVec 16) (s : State) : Host.Outcome State Fault Refusal :=
  done (access src CONT_CMD (keyed key 5)) s

/-- CONT_NEG_SENSED (R210). CTS1 reaches ON in NEG, starting pre-charge with FDG on and CT2 pull-in, or a positive weld. -/
def execContNegSensed (p0 p1 p2 : Nat) (s : State) : Host.Outcome State Fault Refusal := done (.seq (contRead p0 p1 p2) negSensed) s

/-- CONT_PULL_TIMEOUT (R210). PULL_TMO expires in NEG and the block opens with a contact fault. -/
def execContPullTimeout (s : State) : Host.Outcome State Fault Refusal := done pullTimeout s

/-- CONT_PRECHARGE_REACHED (R210). CTS2 reaches PC_PCT in PCHG and CT0 pulls in. -/
def execContPrechargeReached (p0 p1 p2 : Nat) (s : State) : Host.Outcome State Fault Refusal :=
  done (.seq (contRead p0 p1 p2) prechargeReached) s

/-- CONT_PC_TIMEOUT (R210). PC_TMO expires in PCHG, setting PC_FAIL, sending a pre-charge-failure message and opening. -/
def execContPcTimeout (s : State) : Host.Outcome State Fault Refusal := done pcTimeout s

/-- CONT_POS_TIME (R210). POS_T elapses and CT2 turns off, entering RELEASE. -/
def execContPosTime (s : State) : Host.Outcome State Fault Refusal := done posTime s

/-- CONT_RELEASE_CHECK (R210). DROP_T elapses in RELEASE and the sequence enters CLOSED or opens with a contact fault. -/
def execContReleaseCheck (p0 p1 p2 : Nat) (s : State) : Host.Outcome State Fault Refusal := done (.seq (contRead p0 p1 p2) releaseCheck) s

/-- CONT_SAG_FAULT (R210). CTS0 or CTS1 stays below ON for SAG_T in CLOSED, a contact fault that opens the contactors. -/
def execContSagFault (p0 p1 p2 : Nat) (s : State) : Host.Outcome State Fault Refusal := done (.seq (contRead p0 p1 p2) sagFault) s

/-- CONT_OPEN_DELAY_END (R211). OPEN_DLY elapses and CT0 and CT2 switch off. -/
def execContOpenDelayEnd (s : State) : Host.Outcome State Fault Refusal := done openDelayEnd s

/-- CONT_NEG_DELAY_END (R211). NEG_DLY elapses and CT1 switches off. -/
def execContNegDelayEnd (s : State) : Host.Outcome State Fault Refusal := done negDelayEnd s

/-- CONT_CHECK_ENTRY (R211). DROP_T after CT1 off elapses and the sequence enters CHECK. -/
def execContCheckEntry (s : State) : Host.Outcome State Fault Refusal := done checkEntry s

/-- WELD_EVALUATION (R213). WELD_T elapses in CHECK, weld marks are set with messages, and the state becomes OPEN with OPENED. -/
def execWeldEvaluation (p0 p1 p2 : Nat) (s : State) : Host.Outcome State Fault Refusal := done (.seq (contRead p0 p1 p2) weldEval) s

/-- COIL_HOLD_START (R208). PULL_T elapses and the driver holds its coil at HOLD duty. -/
def execCoilHoldStart (n : Fin 3) (s : State) : Host.Outcome State Fault Refusal := done (coilHold n.val) s

/-- COIL_OPEN_FAULT (R208). The coil current stays below 50 mA 2 ms after pull-in, a coil fault that opens the contactors. -/
def execCoilOpenFault (n : Fin 3) (s : State) : Host.Outcome State Fault Refusal := done (coilFault n.val) s

/-- COIL_SHORT_FAULT (R208). The driver's current limit acts for 10 µs, a coil fault that opens the contactors. -/
def execCoilShortFault (n : Fin 3) (s : State) : Host.Outcome State Fault Refusal := done (coilFault n.val) s

/-- FAST_DISCONNECT_TRIP (R212). The rack current exceeds an honoured FT_THR or HARD_THR, FDG goes low within 35 ns, FT_LATCH is
set and the open sequence starts. -/
def execFastDisconnectTrip (mag : Nat) (s : State) : Host.Outcome State Fault Refusal :=
  done (.dyn fun s => .seq (fastTrip mag) (whenS (fun t => s.b CONT_STATUS_FD_ON && !t.b CONT_STATUS_FD_ON) (capSource 8))) s

/-- FT_BLANKING_END (R212). A blanking window for FT_THR ends and the threshold is honoured again. -/
def execFtBlankingEnd (pos : Bool) (s : State) : Host.Outcome State Fault Refusal := done (blankingEnd pos) s

/-- FLOOP_INPUT_LOST (R215). The fault loop input stays below 4 mA for FILT, causing a loop trip or LOOP_LOST at the manager and a
stop at a worker. -/
def execFloopInputLost (s : State) : Host.Outcome State Fault Refusal :=
  done (.dyn fun s => .seq loopLost (whenS (fun t => t.isMgr && !s.b CONT_STATUS_LOOP_TRIP && t.b CONT_STATUS_LOOP_TRIP) (capSource 16))) s

/-- FLOOP_INPUT_OK (R214). The fault loop input reaches 7 mA and is judged OK. -/
def execFloopInputOk (s : State) : Host.Outcome State Fault Refusal := done loopOk s

/-- FLOOP_RESUME (R214). 1 ms after its input is OK and it leaves SAFEHOLD, a worker resumes sourcing its loop output. -/
def execFloopResume (s : State) : Host.Outcome State Fault Refusal := done loopResume s

/-- CONTACTOR_SENSED_CHANGE (R207). CTS0 or CTS1 crosses ON_PCT, changing CONT_STATUS.SENSED and so the sensed-closed contactor
state that sets the ATTEND floor. -/
def execContactorSensedChange (p0 p1 p2 : Nat) (s : State) : Host.Outcome State Fault Refusal := done (contRead p0 p1 p2) s

end Sys2Proof.Machine
end

