-- ==== Sys2Proof/Machine/RowsEis.lean ====
section
/-!
DEFINITION. The meanings of the rows: The impedance engine (14_impedance_engine.md, R291-R314).
-/
namespace Sys2Proof.Machine

/-- The packet of a ripple window that has just ended (R299, R354): its start, the map of the points that reach RIP_MIN, and the current
phasors of points 20 to 47. -/
def ripplePublish : Prog :=
  whenS (fun s => s.isMgr && s.megaRate) (.dyn fun s =>
    rippleSend (s.epoch / 400000 * 400000 - 400000) ((List.range 28).foldl (fun m j => withBit m j (s.b ((EIS_ZQ_FLAGS (20 + j)).bit 3))) 0)
      ((List.range 28).map fun j => ⟨s.i (EIS_ZRE_Z (20 + j)), s.i ⟨EIS_ZIM (20 + j), 0, 32⟩⟩))

/-- EIS_START (R304). EIS_CMD OP START runs the configured profile. -/
def execEisStart (src : Src) (key : BitVec 16) (s : State) : Host.Outcome State Fault Refusal := done (access src EIS_CMD (keyed key 1)) s

/-- EIS_STOP (R304). EIS_CMD OP STOP ends the running slot as STOPPED and stops the schedule. -/
def execEisStop (src : Src) (key : BitVec 16) (s : State) : Host.Outcome State Fault Refusal := done (access src EIS_CMD (keyed key 2)) s

/-- EIS_ONE (R304). EIS_CMD OP ONE queues a single slot of the kind and cell given. -/
def execEisOne (src : Src) (key : BitVec 16) (kind : Fin 4) (cell : Fin 32) (s : State) : Host.Outcome State Fault Refusal :=
  done (access src EIS_CMD (keyed key (3 + kind.val * 2 ^ EIS_CMD_KIND.lo + cell.val * 2 ^ EIS_CMD_CELL.lo))) s

/-- EIS_TREF (R307). EIS_CMD OP TREF captures a temperature reference for a cell or all cells, or sets TREF_REJ. -/
def execEisTref (src : Src) (key : BitVec 16) (cell : Fin 32) (s : State) : Host.Outcome State Fault Refusal :=
  done (access src EIS_CMD (keyed key (4 + cell.val * 2 ^ EIS_CMD_CELL.lo))) s

/-- EIS_SLOT_DUE (R302). An impedance slot falls due and the shuttle is requested. -/
def execEisSlotDue (s : State) : Host.Outcome State Fault Refusal := done eisSlotDue s

/-- EIS_EXCITATION_START (R302). At t0 + 1 ms the excitation starts if SEL_DONE occurred, otherwise the slot ends SHUTTLE_FAULT.
-/
def execEisExcitationStart (s : State) : Host.Outcome State Fault Refusal := done eisExcite s

/-- EIS_WINDOW_START (R302). SETTLE elapses and the first demodulation window starts. -/
def execEisWindowStart (s : State) : Host.Outcome State Fault Refusal := done eisWindowStart s

/-- EIS_MEASURE_END (R302). The last window ends and the excitation and bias ramp to 0. -/
def execEisMeasureEnd (cur : List Int) (s : State) : Host.Outcome State Fault Refusal :=
  done (eisMeasureEnd cur) s

/-- EIS_SLOT_RELEASE (R302). The current is at 0 at the slot's end or abort and the shuttle is released. -/
def execEisSlotRelease (s : State) : Host.Outcome State Fault Refusal := done eisRelease s

/-- EIS_SPECTRUM_STORED (R306). The spectrum and derived values are stored and SPEC_DONE or SPEC_ABORT is set. -/
def execEisSpectrumStored (s : State) : Host.Outcome State Fault Refusal :=
  done (eisStored estLearn) s

/-- EIS_VIEW_WRITE (R308). A write of EIS_VIEW selects the viewed spectrum and latches it under AUTO. -/
def execEisViewWrite (src : Src) (w : Word) (s : State) : Host.Outcome State Fault Refusal := done (access src EIS_VIEW w) s

/-- RIPPLE_WINDOW_END (R299). A manager ripple window ends and its phasor packet is published within 1 ms. -/
def execRippleWindowEnd (s : State) : Host.Outcome State Fault Refusal :=
  done (.seq rippleWindow ripplePublish) s

/-- RIPPLE_RX (R300). A worker receives a RIPPLE packet and accumulates its cells, storing RIPPLE spectra after RIP_AVG windows.
-/
def execRippleRx (port : Fin 2) (p : Pkt) (s : State) : Host.Outcome State Fault Refusal :=
  done (ripplePktRx port.val p fun start map cur => rippleRx start map cur estLearn) s

/-- RIPPLE_PACKET_MISSING (R300). A ripple packet has not arrived within 100 ms of its window's end, so the window is not counted
and RIP_MISSING is set. -/
def execRipplePacketMissing (s : State) : Host.Outcome State Fault Refusal := done rippleMissing s

end Sys2Proof.Machine
end

