-- ==== Sys2Proof/Machine/HostPort.lean ====
section
/-!
DEFINITION. The host port (19_host_port.md, R427-R441): windows (R30), transactions over xSPI and I2C with their status words, the mirror
channel of the manager, and the mirror packets at both ends (R376, R377).
-/
namespace Sys2Proof.Machine

/-! ### Windows (R30, R31, R65) -/

/-- What a host address falls into. -/
inductive Window where
  | local
  | mirror (w : Nat)
  | snap
  | cap
  | rack
  | store
  deriving DecidableEq, Repr

/-- The window of host address `a`, where one exists in this role. -/
def State.windowOf (s : State) (a : Nat) : Option Window :=
  if a < 0x40000 then some .local
  else if 0x1040000 ≤ a && a < 0x1840000 then (if s.isMgr then some (.mirror ((a - 0x1000000) / 0x40000)) else none)
  else if 0x20000000 ≤ a && a < 0x20100000 then some .snap
  else if 0x21000000 ≤ a && a < 0x21080000 then some .cap
  else if 0x22000000 ≤ a && a < 0x22100000 then (if s.isMgr then some .rack else none)
  else if 0x30000000 ≤ a && a < 0x30010000 then some .store
  else none

/-- The level that a write into the record store needs (R526, R554); the device's own areas admit none. -/
def State.recLevel (s : State) (off : Nat) : Nat :=
  if off < 0xC000 then 2 else if off < 0xF800 then 4 else s.f SEC_POLICY_WRITE_MIN

/-- The windows that are SRAM (R32, R520). -/
def Window.sram : Window → Bool
  | .snap | .cap | .rack => true
  | _ => false

/-- A window's word is read by the host (R521, R524, R526); `f` is what upsets have done to it since it was written: 0 nothing, 1 a single-bit
error, 2 an uncorrectable error, 3 the poison code. (DEDUCED, log entry 48) -/
def memRead (win : Window) (a f : Nat) (k : Word → Prog) : Prog := .dyn fun s =>
  if win.sram && s.b MEM_STATUS_FILLING then .seq (setOutc .ok) (k 0)
  else .seq (upset a f) (.dyn fun t =>
    if isUe (t.mark a) then blk [setOutc .poison, whenB win.sram (memUe (sramOf a)), incSat MEM_CNT_HOST_POISON, k (t.word a)]
    else blk [setOutc .ok, whenB (win.sram && t.mark a == 1) (memCe (sramOf a)), k (t.word a)])

/-- A window's word written by the host (R525, R526). (DEDUCED, log entry 47) -/
def memWrite (win : Window) (a : Nat) (w : Word) : Prog := .dyn fun s =>
  .seq (setOutc .ok) (whenB (!(win.sram && s.b MEM_STATUS_FILLING)) (setWord a w))

/-- The host reads the word at address `a` within the window `win` where its transaction started. (DEDUCED, log entry 49) -/
def wordRead (src : Src) (win : Window) (a f : Nat) (k : Word → Prog) : Prog := .dyn fun s =>
  if s.windowOf a != some win then .seq (setOutc .addrErr) (k 0)
  else match win with
    | .local => regRead src a f k
    | .mirror _ => .seq (setOutc .addrErr) (k 0)
    | _ => if s.mode == 2 then .seq (withFree fun x => .seq (refuseOpen (x % 2 ^ 18)) hostWake) (k 0) else memRead win a f k

/-- The host writes the word at address `a`. (DEDUCED, log entry 47) -/
def wordWrite (src : Src) (win : Window) (a : Nat) (w : Word) : Prog := .dyn fun s =>
  if s.windowOf a != some win then setOutc .addrErr
  else match win with
    | .local => regWrite src a w
    | .mirror _ => setOutc .addrErr
    | _ =>
      if s.deniedTo src (if win == .store then s.recLevel (a - 0x30000000) else s.f SEC_POLICY_WRITE_MIN) then setOutc .denied
      else if s.mode == 2 then withFree fun x => .seq (refuseOpen (x % 2 ^ 18)) hostWake
      else memWrite win a w

/-! ### Bursts -/

/-- Between two words of a burst the collector takes a message that waits (R464). (DEDUCED, log entry 100) -/
def fltBetween (more : Bool) : Prog := whenS (fun s => more && s.eng.flt.held != []) fltServe

/-- `n` words read from `a` upwards; `ecc` lists what their memory finds. (DESIGN CHOICE, log entry 124) -/
def burstRead (src : Src) (win : Window) : Nat → Nat → List Nat → List Outc → List Word → (List Outc → List Word → Prog) → Prog
  | 0, _, _, outs, ws, k => k outs.reverse ws.reverse
  | n + 1, a, ecc, outs, ws, k =>
    wordRead src win a (ecc.headD 0) fun w => .dyn fun s =>
      .seq (fltBetween (0 < n)) (burstRead src win n (a + 4) (ecc.drop 1) (s.outcome :: outs) (w :: ws) k)

/-- The words of `l` written from `a` upwards. -/
def burstWrite (src : Src) (win : Window) : Nat → List Word → List Outc → (List Outc → Prog) → Prog
  | _, [], outs, k => k outs.reverse
  | a, w :: l, outs, k => .seq (wordWrite src win a w) (.dyn fun s =>
      .seq (fltBetween (l != [])) (burstWrite src win (a + 4) l (s.outcome :: outs) k))

/-- The outcome a transaction reports (R64). -/
def worstOf (outs : List Outc) : Outc := outs.foldl Outc.worst .ok

/-- Codes of R431. -/
def Outc.code : Outc → Nat
  | .ok => 0 | .addrErr => 1 | .denied => 2 | .refusedState => 3 | .poison => 4 | .locked => 5 | .keyErr => 6 | .roWrite => 7

def codePending : Nat := 8
def codeBusy : Nat := 9
def codeProtocol : Nat := 10

/-- Address of the first word whose outcome matches (R431). (DEDUCED, log entry 46) -/
def firstErr (a : Nat) (outs : List Outc) : Nat := a + 4 * outs.findIdx (· == worstOf outs)

/-! ### The end of a transaction (R430, R431, R439) -/

def statusWord (code seq words : Nat) : Nat := code * 2 ^ 28 + seq % 256 * 2 ^ 16 + min words 65535

/-- An xSPI transaction, or a posted mirror write, completes; `err` is the address recorded with an error, where one is known. (DEDUCED, log entry 46) -/
def xspiEnd (code words : Nat) (err : Option Nat) : Prog :=
  blk [hostEng fun e => { e with seq := (e.seq + 1) % 256 },
    .dyn fun s => setReg HOST_LAST (statusWord code s.eng.host.seq words),
    whenB (code != 0 && code != codePending)
      (blk [match err with | some a => setReg HOST_ERR_ADDR a | none => withFree fun x => setReg HOST_ERR_ADDR x,
        hostEvent 0, incSat HOST_CNT_ERRS]),
    whenB (code == codeProtocol) (hostEvent 1)]

/-- An I2C transfer ends. -/
def i2cEnd (code words : Nat) : Prog :=
  blk [hostEng fun e => { e with i2cSeq := (e.i2cSeq + 1) % 256 },
    .dyn fun s => setReg HOST_I2C_LAST (statusWord code s.eng.host.i2cSeq words),
    whenB (code != 0) (.seq (hostEvent 7) (incSat HOST_CNT_I2C_ERRS))]

def respond (l : List Word) : Prog := .act (.resp l)

/-- A transaction whose every word is outside every window, or whose start is misaligned (R31, R429). -/
def allAddrErr (n : Nat) : List Outc := List.replicate n .addrErr

/-- A one-word read of a row, answered with the word read: nothing where the port does not answer (R441). -/
def readBack (src : Src) (a : Nat) : Prog := whenS (fun s => s.served src) (regRead src a 0 fun w => respond [w])

/-! ### The mirror channel (R432-R434) -/

/-- Channel state: 0 IDLE, 1 FETCH, 2 READY, 3 WRITE. -/
def State.mirState (s : State) : Nat := s.f HOST_MIR_STATUS_STATE

def mirTo (st w count la : Nat) : Prog :=
  blk [set HOST_MIR_STATUS_STATE st, set HOST_MIR_STATUS_WORKER w, set HOST_MIR_STATUS_COUNT count, set HOST_MIR_STATUS_WORD (la / 4)]

def mirIdle : Prog := set HOST_MIR_STATUS_STATE 0

/-- WATCH serves no mirror (R76, R441). (DEDUCED, log entry 22) -/
def mirrorWatch (a : Nat) : Prog := .seq (refuseOpen (a % 0x40000)) hostWake

/-- A READ of `n` words at host address `a` in the mirror of worker `w` (R433). -/
def mirrorRead (w a n : Nat) : Prog := .dyn fun s =>
  let la := a % 0x40000
  let h := s.eng.host
  if !s.liveWorkers.contains w then .seq (respond (List.replicate n 0)) (xspiEnd 1 n (some a))
  else if s.mirState == 1 || s.mirState == 3 then .seq (respond (List.replicate n 0)) (xspiEnd codeBusy n (some a))
  else if s.mode == 2 then blk [respond (List.replicate n 0), mirrorWatch a, xspiEnd 3 n (some a)]
  else if s.mirState == 2 && h.mirAddr == a then
    let got := h.mirWords.length
    let beyond : Bool := got < n
    blk [respond (((h.mirWords ++ List.replicate n 0).take n).map (BitVec.ofNat 32)), mirIdle,
      xspiEnd (if beyond then 1 else h.mirCode) n (if beyond && (h.mirCode != 1 || got == 0) then some (a + 4 * got) else none)]
  else
    let c := min (s.f HOST_MIR_CFG_LEN) ((0x40000 - la) / 4)
    blk [respond (List.replicate n 0), sendReg 0x10 w la s.level 0 0 [] c, mirTo 1 w 0 la,
      hostEng fun e => { e with mirAddr := a }, .dyn fun t => hostEng fun e => { e with mirTid := t.eng.epoch.tid },
      xspiEnd codePending n none]

/-- A WRITE at host address `a` in the mirror of worker `w` (R434); `cut` says that a partial word followed (R429). -/
def mirrorWrite (w a : Nat) (l : List Word) (cut : Bool) : Prog := .dyn fun s =>
  let la := a % 0x40000
  let ws := (l.take 120).map BitVec.toNat
  if !s.liveWorkers.contains w then xspiEnd (if cut then codeProtocol else 1) l.length (some a)
  else if s.mirState == 1 || s.mirState == 3 then xspiEnd codeBusy l.length (some a)
  else if s.mode == 2 then .seq (mirrorWatch a) (xspiEnd (if cut then codeProtocol else 3) l.length (some a))
  else if ws.isEmpty then xspiEnd (if cut then codeProtocol else 0) 0 (some a)
  else
    blk [sendReg 0x11 w la s.level 0 1 ws ws.length, mirTo 3 w ws.length la,
      hostEng fun e => { e with mirAddr := a }, .dyn fun t => hostEng fun e => { e with mirTid := t.eng.epoch.tid },
      xspiEnd (if cut then codeProtocol else codePending) l.length (some (a + 4 * l.length))]

/-- The answer to the channel's packet, or its timeout (R433, R434): READY with words and outcome, or the end of the write. -/
def mirDone (words : List Nat) (code : Nat) (err : Option Nat) : Prog := .dyn fun s =>
  if s.mirState == 1 then
    blk [hostEng fun e => { e with
        mirWords := words
        mirCode := code
        mirAt := s.now },
      set HOST_MIR_STATUS_STATE 2, set HOST_MIR_STATUS_COUNT words.length, hostEvent 2]
  else whenB (s.mirState == 3) (blk [xspiEnd code (s.f HOST_MIR_STATUS_COUNT) err, hostEvent 3, mirIdle])

/-- A READY buffer has waited 10 ms (R433). -/
def mirExpiry : Prog := whenS (fun s => s.mirState == 2 && s.eng.host.mirAt + 10000 ≤ s.now) (.seq mirIdle (incSat HOST_CNT_MIR_EXPIRED))

/-! ### xSPI (R428, R429, R437) -/

/-- A transaction of any opcode restarts the session's timer (R558). -/
def xspiTouch : Prog := .dyn fun s => secEng fun e => { e with lastAt := s.now }

def onXspi (p : Prog) : Prog := whenS State.hostOpen (.seq xspiTouch p)

/-- READ of `n` words at address `a`. -/
def xspiRead (a n : Nat) (ecc : List Nat) : Prog := onXspi (.dyn fun s =>
  match (if a % 4 == 0 then s.windowOf a else none) with
  | none => .seq (respond (List.replicate n 0)) (xspiEnd (worstOf (allAddrErr n)).code n (some a))
  | some (.mirror w) => mirrorRead w a n
  | some win => burstRead .xspi win n a ecc [] [] fun outs ws =>
      .seq (respond ws) (xspiEnd (worstOf outs).code n (some (firstErr a outs))))

/-- WRITE of the words of `l` at address `a`; `cut`: CS_N rose after a partial word. -/
def xspiWrite (a : Nat) (l : List Word) (cut : Bool) : Prog := onXspi (.dyn fun s =>
  let fin (outs : List Outc) : Prog :=
    if cut then xspiEnd codeProtocol l.length (some (a + 4 * l.length)) else xspiEnd (worstOf outs).code l.length (some (firstErr a outs))
  match (if a % 4 == 0 then s.windowOf a else none) with
  | none => fin (allAddrErr l.length)
  | some (.mirror w) => mirrorWrite w a l cut
  | some win => burstWrite .xspi win a l [] fin)

/-- READ_STATUS of `n` words (R430). (DEDUCED, log entry 45) -/
def xspiStatus (n : Nat) : Prog := onXspi (.dyn fun s => respond (List.replicate n (s.reg HOST_LAST)))

/-- STREAM_READ of `n` words (R437): it answers in WATCH too, without a wake. (DEDUCED, log entry 121) -/
def xspiStream (n : Nat) : Prog := onXspi (.seq (expRead n) (xspiEnd 0 n none))

/-- An unknown opcode or a wrong complement (R428). (DEDUCED, log entry 46) -/
def xspiBad : Prog := onXspi (xspiEnd codeProtocol 0 none)

/-- A descent into DORMANT or SHELF abandons a WRITE whose first words `l` have been applied at `a` (R441). -/
def xspiAbandon (a : Nat) (l : List Word) : Prog :=
  whenS (fun s => s.b MODE_STATUS_DESCENDING && s.f MODE_STATUS_ENTERING ≤ 1) (onXspi (.dyn fun s =>
    match (if a % 4 == 0 then s.windowOf a else none) with
    | none => .skip
    | some (.mirror _) => .skip
    | some win => burstWrite .xspi win a l [] fun _ => .skip))

/-! ### I2C (R438, R439) -/

/-- A transfer addressed to the 7-bit address `dev`. -/
def onI2c (dev : Nat) (p : Prog) : Prog :=
  whenS (fun s => s.served .i2c && dev == 0x3A + s.f HOST_STATUS_I2C_A0) p

/-- The window of a transfer: a mirror is none over I2C. -/
def State.i2cWindow (s : State) (a : Nat) : Option Window :=
  match (if a % 4 == 0 then s.windowOf a else none) with
  | some (.mirror _) => none
  | x => x

def i2cRead (dev a n : Nat) (ecc : List Nat) : Prog := onI2c dev (.dyn fun s =>
  match s.i2cWindow a with
  | none => .seq (respond (List.replicate n 0)) (i2cEnd (worstOf (allAddrErr n)).code n)
  | some win => burstRead .i2c win n a ecc [] [] fun outs ws => .seq (respond ws) (i2cEnd (worstOf outs).code n))

def i2cWrite (dev a : Nat) (l : List Word) (cut : Bool) : Prog := onI2c dev (.dyn fun s =>
  let fin (outs : List Outc) : Prog := i2cEnd (if cut then codeProtocol else (worstOf outs).code) l.length
  match s.i2cWindow a with
  | none => fin (allAddrErr l.length)
  | some win => burstWrite .i2c win a l [] fin)

/-! ### Mirror packets at a worker (R376, R378) -/

/-- The words of blocks 1 onwards. (DEDUCED, log entry 42) -/
def packetWords (p : Pkt) : List Nat := (p.data.drop 1).flatMap fun b => [b % 2 ^ 32, b / 2 ^ 32]

/-- DEDUCED, log entry 42. -/
def packWords (l : List Nat) : List Nat := (List.range ((l.length + 1) / 2)).map fun k => l.getD (2 * k) 0 + l.getD (2 * k + 1) 0 * 2 ^ 32

/-- REG_RSP to the manager. -/
def regRsp (addr tid code : Nat) (words : List Nat) : Prog :=
  sendPkt 0 0x12 ((addr * 2 ^ 32 + words.length * 2 ^ 24 + code * 2 ^ 20 + tid) :: packWords words)

/-- The level a packet carries. -/
def packetSrc (p : Pkt) : Src := .ring (Fin.ofNat 4 (bits64 (pw p 0) 20 4))

/-- `ecc` lists what the memory behind the words finds. -/
def regRdRx (port : Nat) (p : Pkt) (ecc : List Nat) : Prog :=
  whenS State.isWrk (rxPkt port 0x10 p (
    let addr := bits64 (pw p 0) 32 32
    burstRead (packetSrc p) .local (bits64 (pw p 0) 24 8) addr ecc [] [] fun outs ws =>
      regRsp addr (bits64 (pw p 0) 0 16) (worstOf outs).code (ws.map BitVec.toNat)))

def regWrRx (port : Nat) (p : Pkt) : Prog :=
  whenS State.isWrk (rxPkt port 0x11 p (
    let addr := bits64 (pw p 0) 32 32
    let ws := (packetWords p).take (bits64 (pw p 0) 24 8)
    burstWrite (packetSrc p) .local addr (ws.map (BitVec.ofNat 32)) [] fun outs =>
      regRsp addr (bits64 (pw p 0) 0 16) (worstOf outs).code []))

/-! ### Answers at the manager (R374, R376, R377, R379) -/

def mirDrop (r : MirReq) : Prog := epochEng fun e => { e with mir := e.mir.filter (· != r) }

/-- Words of an image in a snapshot buffer, at the place of their local address. -/
def imageStore (m j la : Nat) (words : List Nat) : Prog := .dyn fun s =>
  forEach words.zipIdx fun x => setWordN (imageBase s.eng.epoch.snapBuf m j + la % 0x1000 + 4 * x.2) x.1

/-- Another part of the same image is still awaited. -/
def State.imageOpen (s : State) (m j : Nat) : Bool := s.eng.epoch.mir.any fun r => r.use == 2 && r.worker == m && r.j == j

/-- A part of image `j` of member `m` came with outcome `code`: 0 as read, 4 with poison; else the image stays ungathered (`j + 8`). -/
def imagePart (m j la : Nat) (words : List Nat) (code : Nat) : Prog :=
  .seq (if code == 0 || code == 4 then imageStore m j la words else snapGotImage m (j + 8) false)
    (.dyn fun s =>
      let parts := s.eng.epoch.snapGot
      whenB (!s.imageOpen m j && !parts.any fun x => x.1 == m && x.2.1 == j + 8)
        (snapGotImage m j (code == 4 || parts.any fun x => x.1 == m && x.2.1 == j + 16)))

/-- What a request's answer is for. -/
def regAnswer (r : MirReq) (src code : Nat) (words : List Nat) : Prog :=
  if r.use == 0 then mirDone words code (if r.count == 1 then some (0x1000000 + r.worker * 0x40000 + r.addr) else none)
  else if r.use == 1 then whenB (r.j == 1 && code == 0 && 1 ≤ src && src ≤ 32) (set (EPOCH_BRK_MAP_MAP.bit (src - 1)) 1)
  else if r.use == 2 then
    .seq (whenB (code == 4) (snapGotImage r.worker (r.j + 16) true)) (imagePart r.worker r.j r.addr words code)
  else whenB (r.use == 4 && code == 0 && bitOf (words.headD 0) 31) (pathLearn r.j r.worker (words.headD 0 % 2 ^ 20))

def regRspRx (port : Nat) (p : Pkt) : Prog :=
  rxPkt port 0x12 p (whenS State.isMgr (.dyn fun s =>
    let h := pw p 0
    match s.eng.epoch.mir.find? fun r => r.tid == bits64 h 0 16 && !r.dead && (r.worker == p.src || r.worker == 0) with
    | none => .skip
    | some r => .seq (whenB (r.worker != 0) (mirDrop r)) (regAnswer r p.src (bits64 h 20 4) ((packetWords p).take (bits64 h 24 8)))))

/-- No REG_RSP within TMO of the packet `tid` (R377); a broadcast only ends its wait. -/
def mirTimeout (tid : Nat) : Prog := .dyn fun s =>
  match s.eng.epoch.mir.find? fun r => r.tid == tid && r.at0 + s.f EPOCH_MIR_CFG_TMO ≤ s.now with
  | none => .skip
  | some r =>
    .seq (mirDrop r) (whenB (r.worker != 0)
      (blk [epochEvent 11, incSat EPOCH_CNT_MIR_TIMEOUTS, set EPOCH_MIR_LAST_VALID 1, set EPOCH_MIR_LAST_WORKER r.worker,
        set EPOCH_MIR_LAST_WORD (r.addr / 4),
        if r.use == 0 then mirDone [] 1 (some (0x1000000 + r.worker * 0x40000 + r.addr))
        else whenB (r.use == 2) (snapGotImage r.worker (r.j + 8) false)]))

end Sys2Proof.Machine
end

