-- ==== Sys2Proof/Machine/RowsEpoch.lean ====
section
/-!
DEFINITION. The meanings of the rows: Epochs, brackets, snapshots and commits (17_epochs_and_coherence.md, R363-R392).
-/
namespace Sys2Proof.Machine

/-- EPOCH_BLOCK_SEND (R356). The manager sends an EPOCH block out of both ports at each multiple of 64. -/
def execEpochBlockSend (s : State) : Host.Outcome State Fault Refusal := done epochBlockSend s

/-- EPOCH_BLOCK_RX (R368). A worker receives an EPOCH block, computes phase and strobe error, steers and updates its sync state
and rack floor. -/
def execEpochBlockRx (port : Fin 2) (floor : Fin 8) (co : Bool) (e : BitVec 48) (phi : Int) (s : State) : Host.Outcome State Fault Refusal :=
  done (epochBlockRx port.val floor.val co e.toNat phi) s

/-- SYNC_HOLDOVER_TIMEOUT (R370). No EPOCH block arrives for 1,024 µs, or the path becomes invalid, and a LOCKED worker enters
HOLDOVER. -/
def execSyncHoldoverTimeout (s : State) : Host.Outcome State Fault Refusal := done syncTimeout s

/-- EPOCH_NOW_LO_READ (R364). A read of EPOCH_NOW_LO captures the high epoch bits for the next EPOCH_NOW_HI read. -/
def execEpochNowLoRead (src : Src) (s : State) : Host.Outcome State Fault Refusal := done (readBack src EPOCH_NOW_LO) s

/-- PATH_DELAY_UPDATE (R367). The manager reads link delays and writes each worker's EPOCH_PATH after enumeration, ARMS change or
a port return. -/
def execPathDelayUpdate (s : State) : Host.Outcome State Fault Refusal := done pathAsk s

/-- BRK_OPEN (R373). EPOCH_CMD OP BRK_OPEN opens a read bracket, locally or across the rack, or reports LATE, BUSY or NOT_MANAGER.
-/
def execBrkOpen (src : Src) (key : BitVec 16) (s : State) : Host.Outcome State Fault Refusal :=
  done (access src EPOCH_CMD (keyed key 1)) s

/-- BRK_CLOSE (R375). EPOCH_CMD OP BRK_CLOSE closes the bracket and clears FROZEN. -/
def execBrkClose (src : Src) (key : BitVec 16) (s : State) : Host.Outcome State Fault Refusal :=
  done (access src EPOCH_CMD (keyed key 2)) s

/-- BRACKET_LATCH (R372). At E + 2 µs every named page latches its most recent result before E and sets FROZEN. -/
def execBracketLatch (s : State) : Host.Outcome State Fault Refusal := done bracketLatched s

/-- BRACKET_TIMEOUT (R375). TMO ms after E the bracket closes with BRK_TMO and RESULT TIMEOUT. -/
def execBracketTimeout (s : State) : Host.Outcome State Fault Refusal := done brkTimeout s

/-- SNAP (R379). EPOCH_CMD OP SNAP starts a snapshot with a bracket over the snapshot pages. -/
def execSnap (src : Src) (key : BitVec 16) (s : State) : Host.Outcome State Fault Refusal := done (access src EPOCH_CMD (keyed key 3)) s

/-- SNAP_PERIOD (R379). A periodic snapshot falls due at a multiple of PER and starts, or is BUSY. -/
def execSnapPeriod (s : State) : Host.Outcome State Fault Refusal :=
  done snapDue s

/-- SNAP_GATHER_DONE (R379). All members are gathered, the header is written last and the bracket closes. -/
def execSnapGatherDone (s : State) : Host.Outcome State Fault Refusal := done snapDone s

/-- SNAP_DEADLINE (R379). Members not gathered by E + 8 ms are MISSING and the snapshot ends PARTIAL. -/
def execSnapDeadline (s : State) : Host.Outcome State Fault Refusal :=
  done snapLate s

/-- CM_PREPARE (R382). EPOCH_CMD OP PREPARE checks and prepares a staged commit, holding named pages and broadcasting PREPARE. -/
def execCmPrepare (src : Src) (key : BitVec 16) (s : State) : Host.Outcome State Fault Refusal :=
  done (access src EPOCH_CMD (keyed key 4)) s

/-- CM_ABORT (R384). EPOCH_CMD OP CM_ABORT makes the pending decision ABORT. -/
def execCmAbort (src : Src) (key : BitVec 16) (s : State) : Host.Outcome State Fault Refusal :=
  done (access src EPOCH_CMD (keyed key 5)) s

/-- CM_RECONCILE (R388). EPOCH_CMD OP RECONCILE resends the decision to in-doubt or unreachable members. -/
def execCmReconcile (src : Src) (key : BitVec 16) (s : State) : Host.Outcome State Fault Refusal :=
  done (access src EPOCH_CMD (keyed key 6)) s

/-- PREPARE_RX (R383). A worker receives PREPARE, votes and returns the vote by ACK. -/
def execPrepareRx (port : Fin 2) (p : Pkt) (s : State) : Host.Outcome State Fault Refusal := done (prepareRx port.val p) s

/-- ACK_RX (R387). The manager records a member's vote or outcome report from an ACK. -/
def execAckRx (port : Fin 2) (p : Pkt) (s : State) : Host.Outcome State Fault Refusal := done (ackRx port.val p) s

/-- COMMIT_DECISION (R384). At E − 50 µs the manager decides COMMIT or ABORT, records it and sends it both ways. -/
def execCommitDecision (s : State) : Host.Outcome State Fault Refusal := done cmDecide s

/-- COMMIT_RX (R385). A member receives COMMIT and schedules its apply, late apply or reconciliation. -/
def execCommitRx (port : Fin 2) (p : Pkt) (s : State) : Host.Outcome State Fault Refusal := done (commitRx port.val p) s

/-- ABORT_RX (R385). A member receives ABORT, sets ABORTED and clears HELD. -/
def execAbortRx (port : Fin 2) (p : Pkt) (s : State) : Host.Outcome State Fault Refusal := done (abortRx port.val p) s

/-- COMMIT_APPLY (R385). At the committed epoch the staged values of the named pages become active. -/
def execCommitApply (s : State) : Host.Outcome State Fault Refusal := done cmApply s

/-- QUERY_RX (R386). The manager answers a QUERY with its recorded decision. -/
def execQueryRx (port : Fin 2) (p : Pkt) (s : State) : Host.Outcome State Fault Refusal := done (queryRx port.val p) s

/-- COMMIT_QUERY_TIMER (R386). A member with no decision at E + 50 µs, and every 1 ms after, sends QUERY. -/
def execCommitQueryTimer (s : State) : Host.Outcome State Fault Refusal := done cmQuery s

/-- COMMIT_INDOUBT (R386). A member still without a decision at E + 10.05 ms sets INDOUBT and sends an in-doubt message. -/
def execCommitIndoubt (s : State) : Host.Outcome State Fault Refusal := done cmInDoubt s

/-- INDOUBT_HOLD_END (R386). EPOCH_CM_CFG.HOLD seconds after in-doubt, HELD clears with the values still staged. -/
def execIndoubtHoldEnd (s : State) : Host.Outcome State Fault Refusal := done cmHoldEnd s

/-- COMMIT_REPORT_DEADLINE (R387). At E + 20 ms members without a report are shown UNREACHABLE. -/
def execCommitReportDeadline (s : State) : Host.Outcome State Fault Refusal := done cmDeadline s

/-- REG_RD_RX (R376). A worker serves a REG_RD as one local burst and answers with REG_RSP. -/
def execRegRdRx (port : Fin 2) (p : Pkt) (ecc : List Nat) (s : State) : Host.Outcome State Fault Refusal :=
  done (regRdRx port.val p ecc) s

/-- REG_WR_RX (R376). A worker carries out a REG_WR word by word and answers with REG_RSP. -/
def execRegWrRx (port : Fin 2) (p : Pkt) (s : State) : Host.Outcome State Fault Refusal := done (regWrRx port.val p) s

/-- REG_RSP_RX (R376). The manager receives a REG_RSP and completes the mirror, bracket or snapshot access it answers. -/
def execRegRspRx (port : Fin 2) (p : Pkt) (s : State) : Host.Outcome State Fault Refusal := done (regRspRx port.val p) s

/-- MIRROR_TIMEOUT (R377). No REG_RSP arrives within TMO, so every word completes ADDR_ERR and MIR_FAIL is set. -/
def execMirrorTimeout (tid : BitVec 16) (s : State) : Host.Outcome State Fault Refusal :=
  done (mirTimeout tid.toNat) s

end Sys2Proof.Machine
end

