-- ==== Sys2Proof/Machine/RowsEst.lean ====
section
/-!
DEFINITION. The meanings of the rows: State estimation (15_state_estimation.md, R315-R336).
-/
namespace Sys2Proof.Machine

/-- EST_UPDATE (R319). At each update epoch the filter predicts and corrects every cell, learns parameters and updates the
reported charge. -/
def execEstUpdate (s : State) : Host.Outcome State Fault Refusal := done estUpdate s

/-- EST_CURRENT_LOST (R318). No RACK current has arrived for 1 s, setting CUR_LOST with a current-lost message. -/
def execEstCurrentLost (ms : Nat) (s : State) : Host.Outcome State Fault Refusal :=
  done (estCurLost ms) s

/-- EST_ACCEPT (R327). EST_CMD OP ACCEPT applies the suggested checkpoint slot at the next update. -/
def execEstAccept (src : Src) (key : BitVec 16) (s : State) : Host.Outcome State Fault Refusal :=
  done (access src EST_CMD (keyed key 1)) s

/-- EST_RESTORE (R326). EST_CMD OP RESTORE checks and applies the staging words of the masked cells, or rejects them. -/
def execEstRestore (src : Src) (key : BitVec 16) (s : State) : Host.Outcome State Fault Refusal :=
  done (access src EST_CMD (keyed key 2)) s

/-- EST_CKPT (R328). EST_CMD OP CKPT triggers an emergency checkpoint. -/
def execEstCkpt (src : Src) (key : BitVec 16) (s : State) : Host.Outcome State Fault Refusal := done (access src EST_CMD (keyed key 3)) s

/-- EST_FORGET (R330). EST_CMD OP FORGET invalidates both checkpoint slots. -/
def execEstForget (src : Src) (key : BitVec 16) (s : State) : Host.Outcome State Fault Refusal :=
  done (access src EST_CMD (keyed key 4)) s

/-- EST_RENEW (R327). EST_CMD OP RENEW reinitialises the masked cells and clears UNRESTORED. -/
def execEstRenew (src : Src) (key : BitVec 16) (s : State) : Host.Outcome State Fault Refusal := done (access src EST_CMD (keyed key 5)) s

/-- CHECKPOINT_DONE (R328). A checkpoint write completes with MARK written last and CKPT_DONE set, or fails with CKPT_FAIL. -/
def execCheckpointDone (poison : Bool) (err : Option Nat) (s : State) : Host.Outcome State Fault Refusal :=
  done (checkpointDone poison err) s

/-- EST_SUMMARY_SEND (R331). At each whole-second epoch a worker sends its SUMMARY packet. -/
def execEstSummarySend (s : State) : Host.Outcome State Fault Refusal := done summarySend s

/-- SUMMARY_RX (R354). The manager receives a worker's SUMMARY packet. -/
def execSummaryRx (port : Fin 2) (p : Pkt) (s : State) : Host.Outcome State Fault Refusal := done (summaryRx port.val p) s

/-- RACK_AGGREGATION (R332). 20 ms after each whole second the manager aggregates summaries, excluding stale workers. -/
def execRackAggregation (s : State) : Host.Outcome State Fault Refusal := done (.dyn fun s => estAggregate s.workers) s

end Sys2Proof.Machine
end

