-- ==== Sys2Proof/Machine/RowsFeed.lean ====
section
/-!
DEFINITION. The meanings of the rows: Feeds, power path and charger (09_feeds_power_path_backup.md, R179-R205).
-/
namespace Sys2Proof.Machine

/-- FEED_IN_LIMITS (R181). A feed comes within limits and its 50 ms qualification count starts. -/
def execFeedInLimits (n : Fin 2) (v : Nat) (s : State) : Host.Outcome State Fault Refusal := done (feedIn n.val v) s

/-- FEED_VALID (R181). A feed has stayed within limits for 50 ms and becomes valid, driving its ORing FET and advancing the path.
-/
def execFeedValid (n : Fin 2) (s : State) : Host.Outcome State Fault Refusal := done (feedValid n.val) s

/-- FEED_INVALID (R181). A valid feed lies outside its limits for 1 µs and becomes invalid, which may be a source loss. -/
def execFeedInvalid (n : Fin 2) (v : Nat) (s : State) : Host.Outcome State Fault Refusal := done (feedInvalid n.val v) s

/-- ORING_REVERSE (R182). The ORed bus rises above a feed by more than REV and that feed's gate is pulled low with REVERSE set. -/
def execOringReverse (n : Fin 2) (s : State) : Host.Outcome State Fault Refusal := done (oringReverse n.val) s

/-- ORING_REDRIVE (R182). A feed has stood FWD above the bus for 10 µs and its ORing gate is driven again. -/
def execOringRedrive (n : Fin 2) (s : State) : Host.Outcome State Fault Refusal := done (oringRedrive n.val) s

/-- START_LOGIC_POWER_UP (R183). A feed or VBAK rises above 4.5 V and the start logic powers up and leaves NONE under R189. -/
def execStartLogicPowerUp (s : State) : Host.Outcome State Fault Refusal := done startLogicUp s

/-- PRECHARGE_DONE (R184). The protected bus reaches 95% of the ORed bus and EF_G turns on. -/
def execPrechargeDone (vpb : Nat) (s : State) : Host.Outcome State Fault Refusal := done (prechargeDone vpb) s

/-- PC_GATE_OFF_DELAY (R184). 1 ms after the e-fuse turns on, PC_G turns off. -/
def execPcGateOffDelay (s : State) : Host.Outcome State Fault Refusal := done pcGateOff s

/-- PRECHARGE_TIMEOUT (R184). The pre-charge level is not reached within PC_TMO, so PC_G turns off, PC_FAIL is set and it counts
as a trip. -/
def execPrechargeTimeout (s : State) : Host.Outcome State Fault Refusal := done feedPcTimeout s

/-- PRECHARGE_COOL_END (R184). 5 s after a failed pre-charge, a new pre-charge may start. -/
def execPrechargeCoolEnd (s : State) : Host.Outcome State Fault Refusal := done pcCoolEnd s

/-- EFUSE_TIMED_TRIP (R185). The e-fuse current (10 mA, signed) has stood at `i` for `t` × 0.1 ms: regulation at ILIM held for TMO is a
trip. -/
def execEfuseTimedTrip (i : BitVec 16) (t : Nat) (s : State) : Host.Outcome State Fault Refusal :=
  done (efTimed i.toNat t) s

/-- EFUSE_FAST_TRIP (R185). The e-fuse current (10 mA, signed) reaches `i`: 2 × ILIM or more trips within 1 µs without regulation. -/
def execEfuseFastTrip (i : BitVec 16) (s : State) : Host.Outcome State Fault Refusal :=
  done (efFast i.toNat) s

/-- EFUSE_COOL_END (R185). 1 s after a trip the path retries with a pre-charge if a feed is valid. -/
def execEfuseCoolEnd (s : State) : Host.Outcome State Fault Refusal := done efCoolEnd s

/-- EFUSE_TRIP_COUNT_RESET (R185). The e-fuse has held ON for 10 s without a trip and its trip count restarts. -/
def execEfuseTripCountReset (s : State) : Host.Outcome State Fault Refusal := done efTripsReset s

/-- FET_CHECK_FINDING (R186). A FET check condition holds for 1 ms, setting its mark and FET_FAULT and sending a FET-fault
message. -/
def execFetCheckFinding (k : Fin 6) (s : State) : Host.Outcome State Fault Refusal := done (fetFinding k.val) s

/-- HANDOVER_COMPLETE (R188). The hand-over actions complete and the path enters BATTERY or REQUAL. -/
def execHandoverComplete (s : State) : Host.Outcome State Fault Refusal := done handoverComplete s

/-- PACK_LOW (R192). The pack stays below CELLS × VLOW for 10 ms, setting PACK_LOW and sending a holdup-low message. -/
def execPackLow (mv : Nat) (s : State) : Host.Outcome State Fault Refusal := done (packLow mv) s

/-- PACK_PRESENT (R193). VBAK has stayed at or above CELLS × 1.0 V for 100 ms and the pack becomes present. -/
def execPackPresent (mv : Nat) (s : State) : Host.Outcome State Fault Refusal := done (packPresent mv) s

/-- PACK_ABSENT (R193). VBAK has stayed below CELLS × 0.5 V for 100 ms and the pack becomes absent. -/
def execPackAbsent (mv : Nat) (s : State) : Host.Outcome State Fault Refusal := done (packAbsent mv) s

/-- SUPPLEMENT_START (R191). The protected bus falls below the pack in FEED and the supplement FET conducts, suspending the
charger. -/
def execSupplementStart (s : State) : Host.Outcome State Fault Refusal := done supplementStart s

/-- SUPPLEMENT_END (R191). The supplement FET stops conducting and SUPPLEMENT returns to 0. -/
def execSupplementEnd (s : State) : Host.Outcome State Fault Refusal := done supplementEnd s

/-- FEED_EF_ON (R203). FEED_CMD OP EF_ON leaves CMD_OFF or LATCHED. -/
def execFeedEfOn (src : Src) (key : BitVec 16) (s : State) : Host.Outcome State Fault Refusal :=
  done (access src FEED_CMD (keyed key 1)) s

/-- FEED_EF_OFF (R187). FEED_CMD OP EF_OFF turns the e-fuse off as a source loss that is not a bounce. -/
def execFeedEfOff (src : Src) (key : BitVec 16) (s : State) : Host.Outcome State Fault Refusal :=
  done (access src FEED_CMD (keyed key 2)) s

/-- FEED_FET_CLEAR (R186). FEED_CMD OP FET_CLEAR clears the FET marks of the FEED page. -/
def execFeedFetClear (src : Src) (key : BitVec 16) (s : State) : Host.Outcome State Fault Refusal :=
  done (access src FEED_CMD (keyed key 3)) s

/-- CHG_START (R196). PATH_CMD OP CHG_START starts a charge from IDLE when eligible, or returns STOPPED to IDLE. -/
def execChgStart (src : Src) (key : BitVec 16) (s : State) : Host.Outcome State Fault Refusal :=
  done (access src PATH_CMD (keyed key 1)) s

/-- CHG_STOP (R196). PATH_CMD OP CHG_STOP moves the charger to STOPPED from any phase but FAULT. -/
def execChgStop (src : Src) (key : BitVec 16) (s : State) : Host.Outcome State Fault Refusal := done (access src PATH_CMD (keyed key 2)) s

/-- CHG_CLEAR (R196). PATH_CMD OP CHG_CLEAR returns a non-FET charge fault to IDLE. -/
def execChgClear (src : Src) (key : BitVec 16) (s : State) : Host.Outcome State Fault Refusal :=
  done (access src PATH_CMD (keyed key 3)) s

/-- CLEAR_LOCKOUT (R190). PATH_CMD OP CLEAR_LOCKOUT clears LOCKED and empties the bounce window. -/
def execClearLockout (src : Src) (key : BitVec 16) (s : State) : Host.Outcome State Fault Refusal :=
  done (access src PATH_CMD (keyed key 4)) s

/-- KEEPALIVE (R199). PATH_CMD OP KEEPALIVE restarts the host-contact timer and clears the fallback profile. -/
def execKeepalive (src : Src) (key : BitVec 16) (s : State) : Host.Outcome State Fault Refusal :=
  done (access src PATH_CMD (keyed key 5)) s

/-- PATH_FET_CLEAR (R186). PATH_CMD OP FET_CLEAR clears the FET marks of the PATH page. -/
def execPathFetClear (src : Src) (key : BitVec 16) (s : State) : Host.Outcome State Fault Refusal :=
  done (access src PATH_CMD (keyed key 6)) s

/-- CHG_PACK_WRITE (R195). A write of CHG_PACK loads chemistry defaults and returns a running charge to IDLE. -/
def execChgPackWrite (src : Src) (w : Word) (s : State) : Host.Outcome State Fault Refusal := done (access src CHG_PACK w) s

/-- CHG_ELIGIBLE (R196). The charger becomes eligible with AUTO = 1 and enters DETECT. -/
def execChgEligible (vpb : Nat) (s : State) : Host.Outcome State Fault Refusal := done (chgEligibleEvt vpb) s

/-- CHG_DETECT_DONE (R196). The 100 ms pack measurement ends and the charger enters PRECOND, CC or DONE. -/
def execChgDetectDone (mv : Nat) (s : State) : Host.Outcome State Fault Refusal := done (chgDetectDone mv) s

/-- CHG_PRECOND_DONE (R196). The per-cell voltage has stood at or above VPRE for 1 s and the charger enters CC. -/
def execChgPrecondDone (mv : Nat) (s : State) : Host.Outcome State Fault Refusal :=
  done (chgPrecondDone mv) s

/-- CHG_CV_ENTRY (R196). The pack reaches CELLS × VREG in CC and the charger enters CV. -/
def execChgCvEntry (mv : Nat) (s : State) : Host.Outcome State Fault Refusal :=
  done (chgCvEntry mv) s

/-- CHG_TERMINATE (R196). The current has stayed at or below ITERM for 10 s in CV, moving to TOPOFF or DONE. -/
def execChgTerminate (ma : Nat) (s : State) : Host.Outcome State Fault Refusal :=
  done (chgTerminate ma) s

/-- CHG_TOPOFF_DONE (R196). The top-off time at VREG ends and the charger enters DONE. -/
def execChgTopoffDone (s : State) : Host.Outcome State Fault Refusal := done chgTopoffDone s

/-- CHG_RECHARGE (R196). In DONE the per-cell voltage has stayed below VRECH for 10 s and the charger returns to CC. -/
def execChgRecharge (mv : Nat) (s : State) : Host.Outcome State Fault Refusal :=
  done (chgRecharge mv) s

/-- CHG_SAFETY_TIMER (R198). ELAPSED reaches its precondition or safety limit and the charger enters FAULT. -/
def execChgSafetyTimer (t8 : Nat) (s : State) : Host.Outcome State Fault Refusal :=
  done (chgSafety t8) s

/-- CHG_OVERVOLT (R196). The pack stays above CELLS × (VREG + 100 mV) for 1 s and the charger enters FAULT. -/
def execChgOvervolt (mv : Nat) (s : State) : Host.Outcome State Fault Refusal := done (chgOvervolt mv) s

/-- CHG_SUSPEND (R197). A suspend condition arises during a charge and the charger enters SUSPEND with its timer held. -/
def execChgSuspend (s : State) : Host.Outcome State Fault Refusal := done chgSuspend s

/-- CHG_RESUME (R197). Every suspend condition clears and the charger returns to the phase it left. -/
def execChgResume (s : State) : Host.Outcome State Fault Refusal := done chgResume s

/-- HOST_CONTACT_TIMEOUT (R199). The host-contact timer reaches HCT, setting HOST_LOST and the fallback charge profile. -/
def execHostContactTimeout (sec : Nat) (s : State) : Host.Outcome State Fault Refusal :=
  done (hostContactLost sec) s

/-- BOUNCE_WINDOW_EXPIRY (R187). A bounce becomes 10 s old and leaves the bounce window, so PATH_BOUNCE.WINDOW decreases. -/
def execBounceWindowExpiry (s : State) : Host.Outcome State Fault Refusal := done bounceExpiry s

end Sys2Proof.Machine
end

