-- ==== Sys2Proof/Machine/RowsFlt.lean ====
section
/-!
DEFINITION. The meanings of the rows: Fault collection (21_fault_collection.md, R463-R478).
-/
namespace Sys2Proof.Machine

/-- FAULT_MESSAGE (R466). The collector accepts a held fault message, classifies and escalates it and carries out its reactions.
-/
def execFaultMessage (s : State) : Host.Outcome State Fault Refusal := done fltServe s

/-- QUIET_PERIOD_END (R472). The quiet period runs out without a restart and the device leaves SAFEHOLD for ATTEND. -/
def execQuietPeriodEnd (s : State) : Host.Outcome State Fault Refusal := done quietEnd s

/-- FLT_RELEASE (R473). FLT_CMD OP RELEASE leaves SAFEHOLD when no hold condition stands, or reports HELD or KEEPER. -/
def execFltRelease (src : Src) (key : BitVec 16) (s : State) : Host.Outcome State Fault Refusal :=
  done (access src FLT_CMD (keyed key 1)) s

/-- FLT_CLEAR_REC (R472). FLT_CMD OP CLEAR_REC sets RECOVERIES to 0 and clears AUTO_OFF. -/
def execFltClearRec (src : Src) (key : BitVec 16) (s : State) : Host.Outcome State Fault Refusal :=
  done (access src FLT_CMD (keyed key 2)) s

/-- FLT_PEND_CLEAR (R471). Writing 1 to FLT_PEND bits clears pending severities, except SEVERE while holding. -/
def execFltPendClear (src : Src) (w : Word) (s : State) : Host.Outcome State Fault Refusal := done (access src FLT_PEND w) s

/-- FLT_FIRST_CLEAR (R468). Writing 1 to FLT_FIRST_INFO.VALID clears the first-message record. -/
def execFltFirstClear (src : Src) (w : Word) (s : State) : Host.Outcome State Fault Refusal := done (access src FLT_FIRST_INFO w) s

/-- FLT_INJECT (R475). A FACTORY write to FLT_INJ enters an injected message, elsewhere it completes REFUSED_STATE. -/
def execFltInject (src : Src) (w : Word) (s : State) : Host.Outcome State Fault Refusal := done (access src FLT_INJ w) s

end Sys2Proof.Machine
end

