-- ==== Sys2Proof/Machine/RowsHost.lean ====
section
/-!
DEFINITION. The meanings of the rows: The host port, stream export, I2C and the GPIO balls (19_host_port.md, R422-R450).
-/
namespace Sys2Proof.Machine

/-- XSPI_READ (R428). An xSPI READ returns words from the address, or starts or completes a mirror fetch. -/
def execXspiRead (a : BitVec 32) (n : Nat) (ecc : List Nat) (s : State) : Host.Outcome State Fault Refusal :=
  done (xspiRead a.toNat n ecc) s

/-- XSPI_WRITE (R428). An xSPI WRITE writes whole words from the address, or posts a mirror write. -/
def execXspiWrite (a : BitVec 32) (words : List Word) (cut : Bool) (s : State) : Host.Outcome State Fault Refusal :=
  done (xspiWrite a.toNat words cut) s

/-- XSPI_READ_STATUS (R430). An xSPI READ_STATUS returns the status word of the last completed transaction. -/
def execXspiReadStatus (n : Nat) (s : State) : Host.Outcome State Fault Refusal := done (xspiStatus n) s

/-- XSPI_STREAM_READ (R437). An xSPI STREAM_READ returns export records and removes those read whole. -/
def execXspiStreamRead (n : Nat) (s : State) : Host.Outcome State Fault Refusal := done (xspiStream n) s

/-- XSPI_BAD_OPCODE (R428). An unknown opcode or a bad complement ends the transaction with PROTOCOL. -/
def execXspiBadOpcode (s : State) : Host.Outcome State Fault Refusal := done xspiBad s

/-- MIRROR_READY_EXPIRY (R433). A READY mirror buffer not read within 10 ms is discarded and MIR_EXPIRED increments. -/
def execMirrorReadyExpiry (s : State) : Host.Outcome State Fault Refusal := done mirExpiry s

/-- HOST_DESCENT_WAIT_END (R441). A descent into DORMANT or SHELF waits up to 100 µs for CS_N and then abandons the transaction.
-/
def execHostDescentWaitEnd (a : BitVec 32) (words : List Word) (s : State) : Host.Outcome State Fault Refusal :=
  done (xspiAbandon a.toNat words) s

/-- EXP_START (R435). HOST_EXP_CMD OP START starts stream export. -/
def execExpStart (src : Src) (key : BitVec 16) (s : State) : Host.Outcome State Fault Refusal :=
  done (access src HOST_EXP_CMD (keyed key 1)) s

/-- EXP_STOP (R435). HOST_EXP_CMD OP STOP stops stream export. -/
def execExpStop (src : Src) (key : BitVec 16) (s : State) : Host.Outcome State Fault Refusal :=
  done (access src HOST_EXP_CMD (keyed key 2)) s

/-- EXP_FLUSH (R436). HOST_EXP_CMD OP FLUSH empties the export FIFO. -/
def execExpFlush (src : Src) (key : BitVec 16) (s : State) : Host.Outcome State Fault Refusal :=
  done (access src HOST_EXP_CMD (keyed key 3)) s

/-- I2C_WRITE (R438). An I²C write transfer writes whole words at level OPEN. -/
def execI2cWrite (dev : BitVec 7) (a : BitVec 32) (words : List Word) (cut : Bool) (s : State) : Host.Outcome State Fault Refusal :=
  done (i2cWrite dev.toNat a.toNat words cut) s

/-- I2C_READ (R438). An I²C read transfer returns words until NACK at level OPEN. -/
def execI2cRead (dev : BitVec 7) (a : BitVec 32) (n : Nat) (ecc : List Nat) (s : State) : Host.Outcome State Fault Refusal :=
  done (i2cRead dev.toNat a.toNat n ecc) s

/-- GPIO_OUT_WRITE (R444). A write of GPIO_OUT drives the owned-free OUT balls within 50 ns. -/
def execGpioOutWrite (src : Src) (w : Word) (s : State) : Host.Outcome State Fault Refusal := done (access src GPIO_OUT w) s

/-- GPIO_OUT_SET (R446). Writing GPIO_OUT_SET sets the named bits of GPIO_OUT. -/
def execGpioOutSet (src : Src) (w : Word) (s : State) : Host.Outcome State Fault Refusal := done (access src GPIO_OUT_SET w) s

/-- GPIO_OUT_CLR (R446). Writing GPIO_OUT_CLR clears the named bits of GPIO_OUT. -/
def execGpioOutClr (src : Src) (w : Word) (s : State) : Host.Outcome State Fault Refusal := done (access src GPIO_OUT_CLR w) s

/-- GPIO_CFG_WRITE (R444). A write of GPIO_CFG sets a pin's state, drive, filter and edges. -/
def execGpioCfgWrite (src : Src) (n : Fin 16) (w : Word) (s : State) : Host.Outcome State Fault Refusal :=
  done (access src (GPIO_CFG n.val) w) s

/-- GPIO_LEVEL_CHANGE (R445). A ball's synchronised level stays stable for its DEB time and the filtered level changes. -/
def execGpioLevelChange (n : Fin 16) (high : Bool) (s : State) : Host.Outcome State Fault Refusal := done (gpioLevel n.val high) s

end Sys2Proof.Machine
end

