-- ==== Sys2Proof/Machine/RowsIcu.lean ====
section
/-!
DEFINITION. The meanings of the rows: The interrupt controller (20_interrupt_controller.md, R451-R462).
-/
namespace Sys2Proof.Machine

/-- ICU_LINE_DELIVER (R457). An asserted line is delivered pending to one eligible target of its mask by the routing in force. -/
def execIcuLineDeliver (line : Fin 256) (s : State) : Host.Outcome State Fault Refusal := done (icuDeliver line.val) s

/-- ICU_LINE_WITHDRAW (R458). A pending line is withdrawn when it falls, its target becomes ineligible or its mask changes. -/
def execIcuLineWithdraw (line : Fin 256) (s : State) : Host.Outcome State Fault Refusal := done (icuWithdraw line.val) s

/-- ICU_CLAIM (R456). A read of ICU_T_CLAIM pushes and returns the most urgent presentable line. -/
def execIcuClaim (src : Src) (t : Fin 5) (s : State) : Host.Outcome State Fault Refusal :=
  done (match src with
    | .core => whenB (t.val < 3) (icuClaim t.val fun w => respond [w])
    | _ => readBack src (ICU_T_CLAIM t.val)) s

/-- ICU_DONE (R456). A write of ICU_T_DONE pops the top line, or sets DONE_ERR. -/
def execIcuDone (src : Src) (t : Fin 5) (line : BitVec 8) (s : State) : Host.Outcome State Fault Refusal :=
  done (access src (ICU_T_DONE t.val) (line.zeroExtend 32)) s

/-- ICU_SWI_WRITE (R453). A write of ICU_SWI asserts or deasserts the software lines. -/
def execIcuSwiWrite (src : Src) (w : Word) (s : State) : Host.Outcome State Fault Refusal := done (access src ICU_SWI w) s

/-- ICU_LINE_WRITE (R458). A write of ICU_LINE changes a line's priorities or mask, withdrawing and redelivering as needed. -/
def execIcuLineWrite (src : Src) (line : Fin 256) (w : Word) (s : State) : Host.Outcome State Fault Refusal :=
  done (access src (ICU_LINE line.val) w) s

/-- ICU_MOD_TIMEOUT (R459). TIME µs after the first delivery the moderation gate of a target opens. -/
def execIcuModTimeout (t : Fin 5) (s : State) : Host.Outcome State Fault Refusal := done (icuModTimeout t.val) s

/-- ICU_STARTUP_ROUTING_END (R457). START_T ms after core release the routing returns from START_UP to ROUND_ROBIN. -/
def execIcuStartupRoutingEnd (s : State) : Host.Outcome State Fault Refusal := done icuStartupEnd s

end Sys2Proof.Machine
end

