-- ==== Sys2Proof/Machine/RowsMem.lean ====
section
/-!
DEFINITION. The meanings of the rows: Memory integrity and the record store (24_memory_integrity_and_records.md, R520-R537).
-/
namespace Sys2Proof.Machine

/-- CE_WINDOW_EXPIRY (R523). Corrections leave a bank's window and CE_HIGH clears once the count falls below CE_THR. -/
def execCeWindowExpiry (s : State) : Host.Outcome State Fault Refusal := done ceJudge s

/-- POISON_CONSUMED (R524). A core load of poisoned data takes a precise exception and sends a poison-consumed message. -/
def execPoisonConsumed (off : BitVec 22) (s : State) : Host.Outcome State Fault Refusal := done (poisonConsumed off.toNat) s

/-- REC_RECORD_DONE (R528). The record store writer completes a record and starts the next waiting record by priority. -/
def execRecRecordDone (poison : Bool) (err : Option Nat) (s : State) : Host.Outcome State Fault Refusal := done (recordDone poison err) s

/-- REC_CLR_EVT (R532). REC_CMD OP CLR_EVT invalidates every event slot and resets NEXT and SEQ. -/
def execRecClrEvt (src : Src) (key : BitVec 16) (s : State) : Host.Outcome State Fault Refusal :=
  done (access src REC_CMD (keyed key 1)) s

/-- REC_CLR_THERM (R532). REC_CMD OP CLR_THERM invalidates every thermal slot and resets NEXT and SEQ. -/
def execRecClrTherm (src : Src) (key : BitVec 16) (s : State) : Host.Outcome State Fault Refusal :=
  done (access src REC_CMD (keyed key 2)) s

end Sys2Proof.Machine
end

