-- ==== Sys2Proof/Machine/RowsMode.lean ====
section
/-!
DEFINITION. The meanings of the rows: Operating modes (04_operating_modes.md, R73-R96).
-/
namespace Sys2Proof.Machine

/-- MODE_REQ_PIN (R83). MODE_REQ.TARGET 0-4 pins the mode at the maximum of the target and the effective floor. -/
def execModeReqPin (src : Src) (t : Fin 5) (s : State) : Host.Outcome State Fault Refusal :=
  done (access src MODE_REQ (BitVec.ofNat 32 t.val)) s

/-- MODE_REQ_SERVICE (R83). MODE_REQ.TARGET 5 requests SERVICE, judged on session level then open contactors. -/
def execModeReqService (src : Src) (s : State) : Host.Outcome State Fault Refusal := done (access src MODE_REQ 5) s

/-- MODE_REQ_SAFEHOLD (R83). MODE_REQ.TARGET 6 passes a host-requested SEVERE entry to the fault collector and sets FLT_HOLD.HOST
in SAFEHOLD. -/
def execModeReqSafehold (src : Src) (s : State) : Host.Outcome State Fault Refusal := done (access src MODE_REQ 6) s

/-- MODE_REQ_FACTORY (R83). MODE_REQ.TARGET 7 requests FACTORY, needing a VENDOR session and a permitting lifecycle. -/
def execModeReqFactory (src : Src) (s : State) : Host.Outcome State Fault Refusal := done (access src MODE_REQ 7) s

/-- MODE_REQ_AUTO (R83). MODE_REQ.TARGET 0xF returns the mode to automatic selection. -/
def execModeReqAuto (src : Src) (s : State) : Host.Outcome State Fault Refusal := done (access src MODE_REQ 15) s

/-- MODE_LTOL_WRITE (R79). A write of a latency tolerance re-evaluates the automatic mode selection. -/
def execModeLtolWrite (src : Src) (n : Fin 8) (w : Word) (s : State) : Host.Outcome State Fault Refusal :=
  done (access src (MODE_LTOL n.val) w) s

/-- MODE_ATT_PER_WRITE (R94). A write of the ATTEND frame period is clamped and re-evaluates the selection. -/
def execModeAttPerWrite (src : Src) (w : Word) (s : State) : Host.Outcome State Fault Refusal := done (access src MODE_ATT_PER w) s

/-- MODE_DORM_PER_WRITE (R94). A write of the DORMANT check interval is clamped and re-evaluates the selection. -/
def execModeDormPerWrite (src : Src) (w : Word) (s : State) : Host.Outcome State Fault Refusal := done (access src MODE_DORM_PER w) s

/-- MODE_CFG_WRITE (R93). A write of MODE_CFG changes dwell, wake enables or SHELF enable and re-evaluates the selection. -/
def execModeCfgWrite (src : Src) (w : Word) (s : State) : Host.Outcome State Fault Refusal := done (access src MODE_CFG w) s

/-- MODE_IDLE_I_WRITE (R82). A manager write of the idle current threshold changes the CUR_ABOVE judgement and re-evaluates the
floor. -/
def execModeIdleIWrite (src : Src) (w : Word) (s : State) : Host.Outcome State Fault Refusal := done (access src MODE_IDLE_I w) s

/-- ASCENT_DONE (R85). An ascent arrives in its target mode, setting TRANS_DONE, counting the transition and starting partial
power-ups. -/
def execAscentDone (s : State) : Host.Outcome State Fault Refusal := done ascentDone s

/-- DWELL_EXPIRY (R84). The target has stayed below MODE_CUR for DWELL ms, so a descent starts, with an estimator checkpoint first
for DORMANT or SHELF. -/
def execDwellExpiry (s : State) : Host.Outcome State Fault Refusal := done dwellExpiry s

/-- DESCENT_DONE (R85). A descent arrives in its target mode, completing the transition. -/
def execDescentDone (s : State) : Host.Outcome State Fault Refusal := done descentDone s

/-- WAKE_PIN_RISE (R87). A WAKE ball rising edge with WAKE_EN = 1 is a wake event recorded in MODE_WAKE_SRC. -/
def execWakePinRise (s : State) : Host.Outcome State Fault Refusal :=
  done (orShelf (.seq (whenS (fun s => s.b MODE_CFG_WAKE_EN) (wake MODE_WAKE_SRC_PIN)) pwronWake)) s

/-- STACK_WAKE (R87). The worker stack wake comparator fires in SHELF, a wake event that ends SHELF. -/
def execStackWake (s : State) : Host.Outcome State Fault Refusal :=
  done (orShelf (whenS (fun s => s.isWrk && s.mode == 0) (wake MODE_WAKE_SRC_STACK))) s

/-- WAKE_HOLD_EXPIRY (R87). DWELL ms have passed since a wake event, so selection or the pinned target resumes. -/
def execWakeHoldExpiry (s : State) : Host.Outcome State Fault Refusal := done wakeHoldExpiry s

/-- DORMANT_CHECK_TIMER (R86). The DORMANT check interval expires and the device ascends to ATTEND to take 16 frames. -/
def execDormantCheckTimer (s : State) : Host.Outcome State Fault Refusal := done dormantCheck s

/-- DORMANT_CHECK_DONE (R86). The 16 check frames are taken and, with no limit crossed and no rise of floor or target, the device
descends to DORMANT at once. -/
def execDormantCheckDone (hit : Bool) (s : State) : Host.Outcome State Fault Refusal := done (dormantCheckDone hit) s

end Sys2Proof.Machine
end

