-- ==== Sys2Proof/Machine/RowsOtp.lean ====
section
/-!
DEFINITION. The meanings of the rows: One-time-programmable memory (25_otp.md, R538-R549).
-/
namespace Sys2Proof.Machine

/-- OTP_READ (R542). OTP_CMD OP READ reads a row at the chosen margin into RDATA and OTP_WEAK. -/
def execOtpRead (src : Src) (key : BitVec 16) (margin : Fin 4) (s : State) : Host.Outcome State Fault Refusal :=
  done (access src OTP_CMD (keyed key (1 + margin.val * 2 ^ OTP_CMD_MARGIN.lo))) s

/-- OTP_PROG (R542). OTP_CMD OP PROG burns bits into a row with verification and retries, or is refused. -/
def execOtpProg (src : Src) (key : BitVec 16) (margin : Fin 4) (s : State) : Host.Outcome State Fault Refusal :=
  done (access src OTP_CMD (keyed key (2 + margin.val * 2 ^ OTP_CMD_MARGIN.lo))) s

/-- OTP_REPAIR (R542). OTP_CMD OP REPAIR programs a spare row and its redirection entry. -/
def execOtpRepair (src : Src) (key : BitVec 16) (margin : Fin 4) (s : State) : Host.Outcome State Fault Refusal :=
  done (access src OTP_CMD (keyed key (3 + margin.val * 2 ^ OTP_CMD_MARGIN.lo))) s

/-- OTP_FINALISE (R542). OTP_CMD OP FINALISE burns a region's digest and checks it. -/
def execOtpFinalise (src : Src) (key : BitVec 16) (margin : Fin 4) (region : Fin 8) (s : State) : Host.Outcome State Fault Refusal :=
  done (access src OTP_CMD (keyed key (4 + margin.val * 2 ^ OTP_CMD_MARGIN.lo + region.val * 2 ^ OTP_CMD_REGION.lo))) s

/-- OTP_BURN_ATTEMPT_DONE (R542). A burn attempt completes and is verified, retried or ends the command. -/
def execOtpBurnAttemptDone (fail : Word) (s : State) : Host.Outcome State Fault Refusal := done (burnAttempt fail) s

end Sys2Proof.Machine
end

