-- ==== Sys2Proof/Machine/RowsPhase.lean ====
section
/-!
DEFINITION. The meanings of the rows: The phase controller (08_phase_controller.md, R156-R178).
-/
namespace Sys2Proof.Machine

/-- PHC_REENABLE (R173). PHC_CMD OP REENABLE returns a lost phase to ACTIVE at its rail's next period start, or to OFF. -/
def execPhcReenable (src : Src) (key : BitVec 16) (n : Fin 8) (s : State) : Host.Outcome State Fault Refusal :=
  done (access src PHC_CMD (keyed key (1 + n.val * 2 ^ PHC_CMD_PHASE.lo))) s

/-- PHC_RAIL_VSET_WRITE (R163). A write of an EXT rail setpoint ramps or retargets as a programmable regulator does. -/
def execPhcRailVsetWrite (src : Src) (r : Fin 4) (w : Word) (s : State) : Host.Outcome State Fault Refusal :=
  done (access src (PHC_RAIL_VSET r.val) w) s

/-- RAIL_RAMP_DONE (R163). An EXT rail ramp reaches its final setpoint and DONE is set for the rail. -/
def execRailRampDone (r : Fin 4) (s : State) : Host.Outcome State Fault Refusal := done (railRampDone r.val) s

/-- RAIL_POWER_GOOD (R164). FB reads `fb` counts in each of `k` periods: within the window for FILT of them after DONE, rail power-good
becomes true. -/
def execRailPowerGood (r : Fin 4) (fb k : Nat) (s : State) : Host.Outcome State Fault Refusal :=
  done (.seq (railSample r.val fb) (railJudge r.val k)) s

/-- RAIL_PG_LOSS (R164). FB reads `fb` counts in a period: outside the window rail power-good falls, which while the slot is UP sets
PG_LOSS and sends a power-good-lost message. -/
def execRailPgLoss (r : Fin 4) (fb : Nat) (s : State) : Host.Outcome State Fault Refusal :=
  done (.seq (railSample r.val fb) (railJudge r.val 1)) s

/-- CYCLE_LIMIT_TRIP (R166). A phase's sense stands at `uv` microvolts, `t` × 3.125 ns after its high-side gate rose: above CL_THR after
blanking the on-time ends within 35 ns. -/
def execCycleLimitTrip (n : Fin 8) (uv t : Nat) (s : State) : Host.Outcome State Fault Refusal :=
  done (cycleLimit n.val uv t) s

/-- PHASE_ILIM_PERSIST (R167). A phase's limit has tripped in `k` consecutive periods: at 64 ILIM is set and an overcurrent message sent.
-/
def execPhaseIlimPersist (n : Fin 8) (k : Nat) (s : State) : Host.Outcome State Fault Refusal :=
  done (phaseIlim n.val k) s

/-- UNDERSHOOT_DETECT (R169). FB falls to `fb` counts: strictly below the undershoot level every active phase raises its high-side gate
together. -/
def execUndershootDetect (r : Fin 4) (fb : Nat) (s : State) : Host.Outcome State Fault Refusal :=
  done (undershoot r.val fb) s

/-- UNDERSHOOT_END (R169). FB reads `fb` counts, `t` × 100 ns into the response: it ends on recovery, at MAXON or once the cycle limits of
the active phases (`trips`) have tripped, presetting the integrator to the mean duty `d` and starting the holdoff. -/
def execUndershootEnd (r : Fin 4) (fb t : Nat) (trips : BitVec 8) (d : Nat) (s : State) : Host.Outcome State Fault Refusal :=
  done (undershootEnd r.val fb t trips.toNat d) s

/-- OVERSHOOT_DETECT (R169). FB rises to `fb` counts: strictly above the overshoot level every high-side gate falls. -/
def execOvershootDetect (r : Fin 4) (fb : Nat) (s : State) : Host.Outcome State Fault Refusal :=
  done (overshoot r.val fb) s

/-- OVERSHOOT_END (R169). FB reads `fb` counts: at or below the overshoot release level interleaved PWM resumes, the mean duty being `d`.
-/
def execOvershootEnd (r : Fin 4) (fb d : Nat) (s : State) : Host.Outcome State Fault Refusal :=
  done (overshootEnd r.val fb d) s

/-- UST_HOLDOFF_END (R169). `k` periods have passed since a response: once the holdoff is over a new response may start. -/
def execUstHoldoffEnd (r : Fin 4) (k : Nat) (s : State) : Host.Outcome State Fault Refusal :=
  done (ustHoldoff r.val k) s

/-- CONT_ARM_WINDOW_END (R170). 2 ms after the last coil pull-in, the halved undershoot threshold and short holdoff on EXT0 end.
-/
def execContArmWindowEnd (s : State) : Host.Outcome State Fault Refusal := done contArmEnd s

/-- PHASE_LOSS (R172). In each of `k` periods the phases PH0 on read the CS samples `cs` (start, middle, end of the on-time): a phase
whose share or sense count reaches 64 periods is disabled as LOST_OPEN or LOST_SENSE with a message. -/
def execPhaseLoss (r : Fin 4) (cs : List (Nat × Nat × Nat)) (k : Nat) (s : State) : Host.Outcome State Fault Refusal :=
  done (railHealth r.val k cs) s

end Sys2Proof.Machine
end

