-- ==== Sys2Proof/Machine/RowsRack.lean ====
section
/-!
DEFINITION. The meanings of the rows: Rack services (18_rack_services.md, R393-R421).
-/
namespace Sys2Proof.Machine

/-- STATUS_SEND (R395). A worker sends STATUS at each multiple of 10,000 or after a change, or every 100 ms while unenumerated. -/
def execStatusSend (s : State) : Host.Outcome State Fault Refusal := done statusSend s

/-- STATUS_RX (R396). The manager updates a roster entry from a STATUS packet, or starts re-admission from an unauthenticated one.
-/
def execStatusRx (port : Fin 2) (p : Pkt) (s : State) : Host.Outcome State Fault Refusal := done (statusRx port.val p) s

/-- ROSTER_STALE (R396). A roster entry has no STATUS for STALE_T and becomes STALE with a message. -/
def execRosterStale (worker : Fin 33) (s : State) : Host.Outcome State Fault Refusal := done (rosterStale worker.val) s

/-- ROSTER_BLIND (R397). An entry has been not OK for BLIND_T while a contactor is closed, sending a blind message. -/
def execRosterBlind (s : State) : Host.Outcome State Fault Refusal := done rosterBlind s

/-- ROSTER_READMIT (R398). ROSTER_CMD OP READMIT re-admits the named worker. -/
def execRosterReadmit (src : Src) (key : BitVec 16) (worker : Fin 64) (s : State) : Host.Outcome State Fault Refusal :=
  done (access src ROSTER_CMD (keyed key (1 + worker.val * 2 ^ ROSTER_CMD_W.lo))) s

/-- ROSTER_ADOPT (R398). ROSTER_CMD OP ADOPT replaces the entry's UID and re-admits the worker. -/
def execRosterAdopt (src : Src) (key : BitVec 16) (worker : Fin 64) (s : State) : Host.Outcome State Fault Refusal :=
  done (access src ROSTER_CMD (keyed key (2 + worker.val * 2 ^ ROSTER_CMD_W.lo))) s

/-- RACK_RESULT (R399). At E + 1,200 µs the 1 ms rack means are formed, latched and judged against the rack limits. -/
def execRackResult (s : State) : Host.Outcome State Fault Refusal := done rackResult s

/-- ARC_BLOCK_EVAL (R402). A balance block is evaluated, updating learning, baseline, count and blind state. -/
def execArcBlockEval (hfe : Nat) (s : State) : Host.Outcome State Fault Refusal := done (arcEval hfe) s

/-- ARC_CTRL_WRITE (R405). A write of ARC_CTRL enables arc detection and its action, changing the floor. -/
def execArcCtrlWrite (src : Src) (w : Word) (s : State) : Host.Outcome State Fault Refusal := done (access src ARC_CTRL w) s

/-- ARC_CLEAR (R405). ARC_CMD OP CLEAR sets DECIDED and COUNT to 0. -/
def execArcClear (src : Src) (key : BitVec 16) (s : State) : Host.Outcome State Fault Refusal := done (access src ARC_CMD (keyed key 1)) s

/-- ARC_RELEARN (R403). ARC_CMD OP RELEARN sets every learned resistance and LEARNED to 0. -/
def execArcRelearn (src : Src) (key : BitVec 16) (s : State) : Host.Outcome State Fault Refusal :=
  done (access src ARC_CMD (keyed key 2)) s

/-- ISO_CTRL_WRITE (R408). A write of ISO_CTRL.EN starts or stops the insulation monitor. -/
def execIsoCtrlWrite (src : Src) (w : Word) (s : State) : Host.Outcome State Fault Refusal := done (access src ISO_CTRL w) s

/-- ISO_HALF_END (R409). An injection half ends and, after the negative half, R_ISO is computed and judged. -/
def execIsoHalfEnd (m80 m90 : Int) (limit : Bool) (s : State) : Host.Outcome State Fault Refusal := done (isoHalfEnd m80 m90 limit) s

/-- CAP_ARM (R413). CAP_CMD OP ARM fixes the members, writes every record EMPTY and starts the capture ring. -/
def execCapArm (src : Src) (key : BitVec 16) (s : State) : Host.Outcome State Fault Refusal := done (access src CAP_CMD (keyed key 1)) s

/-- CAP_FORCE (R412). CAP_CMD OP FORCE triggers the capture. -/
def execCapForce (src : Src) (key : BitVec 16) (s : State) : Host.Outcome State Fault Refusal := done (access src CAP_CMD (keyed key 2)) s

/-- CAP_RELEASE (R413). CAP_CMD OP RELEASE returns a HELD capture to IDLE. -/
def execCapRelease (src : Src) (key : BitVec 16) (s : State) : Host.Outcome State Fault Refusal :=
  done (access src CAP_CMD (keyed key 3)) s

/-- CAP_ABORT (R413). CAP_CMD OP ABORT ends an armed or running capture with ABORTED. -/
def execCapAbort (src : Src) (key : BitVec 16) (s : State) : Host.Outcome State Fault Refusal := done (access src CAP_CMD (keyed key 4)) s

/-- CAP_POST_COMPLETE (R413). The slot k_T + POST completes and the capture enters SETTLE. -/
def execCapPostComplete (s : State) : Host.Outcome State Fault Refusal := done capPostDone s

/-- CAP_SETTLE_END (R413). 4,200 µs of SETTLE elapse, the ring stops and the capture is HELD. -/
def execCapSettleEnd (s : State) : Host.Outcome State Fault Refusal := done capSettled s

end Sys2Proof.Machine
end

