-- ==== Sys2Proof/Machine/RowsRegulator.lean ====
section
/-!
DEFINITION. The meanings of the rows: Regulators and supervisors (06_regulators_and_supervisors.md, R114-R131).
-/
namespace Sys2Proof.Machine

/-- REG_BK_VSET_WRITE (R119). A write of BK3's setpoint starts, retargets or completes a ramp, or is stored while off. -/
def execRegBkVsetWrite (src : Src) (w : Word) (s : State) : Host.Outcome State Fault Refusal := done (access src (REG_BK_VSET 3) w) s

/-- REG_LD_VSET_WRITE (R119). A write of an LDO setpoint starts, retargets or completes a ramp, or is stored while off. -/
def execRegLdVsetWrite (src : Src) (n : Fin 3) (w : Word) (s : State) : Host.Outcome State Fault Refusal :=
  done (access src (REG_LD_VSET (3 + n.val)) w) s

/-- REG_RAMP_DONE (R119). A regulator ramp reaches its final setpoint and sets DONE for that regulator. -/
def execRegRampDone (k : Fin 10) (s : State) : Host.Outcome State Fault Refusal := done (regRampDone k.val) s

/-- BUCK_ILIM_PERSIST (R115). A buck's limit has acted in `cycles` consecutive cycles: at 64 ILIM is set and an overcurrent message sent.
-/
def execBuckIlimPersist (n : Fin 4) (cycles : Nat) (s : State) : Host.Outcome State Fault Refusal :=
  done (regIlim n.val (64 ≤ cycles)) s

/-- LDO_ILIM_PERSIST (R116). An LDO has limited for `us` µs without a break: at 100 ILIM is set and an overcurrent message sent. -/
def execLdoIlimPersist (n : Fin 6) (us : Nat) (s : State) : Host.Outcome State Fault Refusal :=
  done (regIlim (4 + n.val) (100 ≤ us)) s

/-- SV_CFG_WRITE (R124). A write of SV_CFG enables or disables a supervisor, moving it to OFF, BLANKED or OK. -/
def execSvCfgWrite (src : Src) (n : Fin 16) (w : Word) (s : State) : Host.Outcome State Fault Refusal :=
  done (access src (SV_CFG n.val) w) s

/-- SV_FAULT (R124). The source of a supervisor stands at `uv` microvolts, its condition for `clks` filter clocks of 25 ns: at FILT the
supervisor enters WARN, drives PFW_N low and starts its shutdown timer. -/
def execSvFault (n : Fin 16) (uv clks : Nat) (s : State) : Host.Outcome State Fault Refusal :=
  done (svFault n.val uv clks) s

/-- SV_CONDITION_CLEAR (R124). The source of a WARN supervisor is back at `uv` microvolts; `expiry` says that its timer expires on the
same filter clock, which is evaluated first. -/
def execSvConditionClear (n : Fin 16) (uv : Nat) (expiry : Bool) (s : State) : Host.Outcome State Fault Refusal :=
  done (blk [svLook n.val uv, whenB expiry (svShutdown n.val), svClear n.val uv]) s

/-- SV_SHUTDOWN_TIMER (R124). A supervisor's timer reaches SDLY and it requests a power-down of its slot or sequence, or restarts
for NONE. -/
def execSvShutdownTimer (n : Fin 16) (s : State) : Host.Outcome State Fault Refusal := done (svShutdown n.val) s

end Sys2Proof.Machine
end

