-- ==== Sys2Proof/Machine/RowsReset.lean ====
section
/-!
DEFINITION. The meanings of the rows: Resets and bring-up (05_reset_and_bring_up.md, R97-R113; R133, R525, R562).
-/
namespace Sys2Proof.Machine

/-- RESET_N_FALL (R100). A falling edge on RESET_N starts the HFRC and the acceptance count. -/
def execResetNFall (s : State) : Host.Outcome State Fault Refusal := done resetNFall s

/-- RESET_N_ACCEPT (R100). RESET_N has stayed low for 82 HFRC periods, so a system reset is accepted and held while the pin is
low. -/
def execResetNAccept (s : State) : Host.Outcome State Fault Refusal := done resetNAccept s

/-- RESET_N_RISE (R100). RESET_N rises after acceptance and bring-up starts at the step R104 requires. -/
def execResetNRise (s : State) : Host.Outcome State Fault Refusal := done resetNRise s

/-- RST_CMD_SYS (R112). RST_CMD.SYS with its key causes a system reset with SW_SYS set. -/
def execRstCmdSys (src : Src) (key : BitVec 16) (s : State) : Host.Outcome State Fault Refusal :=
  done (access src RST_CMD (keyed key (2 ^ RST_CMD_SYS.lo))) s

/-- RST_CMD_CORE (R102). RST_CMD.CORE with its key resets the selected cores, which re-verify their patches before release. -/
def execRstCmdCore (src : Src) (key : BitVec 16) (cores : Fin 8) (s : State) : Host.Outcome State Fault Refusal :=
  done (access src RST_CMD (keyed key (cores.val * 2 ^ RST_CMD_CORE.lo))) s

/-- FIXED_RAIL_STEP (R133). The fixed rails of one row rise above their monitors and the next row of fixed rails begins its soft
start. -/
def execFixedRailStep (s : State) : Host.Outcome State Fault Refusal := done fixedRailStep s

/-- VSYS_QUALIFICATION_END (R133). VSYS qualification ends 100 µs after the threshold and BK0 and BK1 begin soft start. -/
def execVsysQualificationEnd (s : State) : Host.Outcome State Fault Refusal := done vsysQualified s

/-- FIXED_RAILS_SETTLED (R133). All six fixed monitors have stayed above 90% for 50 µs and bring-up step 1 ends. -/
def execFixedRailsSettled (s : State) : Host.Outcome State Fault Refusal := done fixedSettled s

/-- FIXED_RAIL_TIMEOUT (R133). A fixed rail is not above its monitor 500 µs after its soft start, so every started fixed rail
switches off. -/
def execFixedRailTimeout (s : State) : Host.Outcome State Fault Refusal := done fixedTimeout s

/-- FIXED_RAIL_RETRY (R133). 10 ms after a fixed-rail failure the fixed sequence restarts at row 2. -/
def execFixedRailRetry (s : State) : Host.Outcome State Fault Refusal := done fixedRetry s

/-- OTP_LOAD_DONE (R104). The OTP load of step 2 completes with digest checks and configuration records, and step 3 runs in the
same cycle. -/
def execOtpLoadDone (s : State) : Host.Outcome State Fault Refusal := done otpLoadDone s

/-- FILL_DONE (R525). The SRAM fill completes, clearing FILLING, setting FILL_DONE and recording its duration. -/
def execFillDone (us : Nat) (s : State) : Host.Outcome State Fault Refusal := done (fillDone us) s

/-- PATCH_VERIFY_DONE (R562). Verification of a core's patch image completes with a result written to SEC_PATCH, loading it or rejecting
it. -/
def execPatchVerifyDone (core : Fin 3) (s : State) : Host.Outcome State Fault Refusal :=
  done (verifyDone core.val) s

/-- CORE_RELEASE (R104). Bring-up step 7 releases the cores once verification ends and any VSYS source slot is up. -/
def execCoreRelease (rb : BitVec 25) (s : State) : Host.Outcome State Fault Refusal := done (coreRelease rb.toNat) s

end Sys2Proof.Machine
end

