-- ==== Sys2Proof/Machine/RowsRing.lean ====
section
/-!
DEFINITION. The meanings of the rows: The Stemline ring (16_stemline_ring.md, R337-R362; R563, R564).
-/
namespace Sys2Proof.Machine

/-- PORT_SEEK (R341). A port starts training in SEEK once the device is in ATTEND or above with the link PLL locked. -/
def execPortSeek (port : Fin 2) (training : Bool) (s : State) : Host.Outcome State Fault Refusal :=
  done (portSeek port.val training) s

/-- PORT_ALIGN (R341). 64 consecutive valid sync headers move a port to ALIGN with polarity set. -/
def execPortAlign (port : Fin 2) (inv : Bool) (s : State) : Host.Outcome State Fault Refusal := done (portAlign port.val inv) s

/-- PORT_UP (R343). 256 TRAIN exchanges complete, the link delay is stored and the port enters UP; `rtt` are their round trips and `turn` the
partner's turnaround, in 1/16 UI. -/
def execPortUp (port : Fin 2) (rtt : List Nat) (turn : BitVec 16) (s : State) : Host.Outcome State Fault Refusal :=
  done (portReady port.val rtt turn.toNat) s

/-- PORT_ALIGN_TIMEOUT (R341). 1 ms without a TRAIN exchange returns the port to SEEK. -/
def execPortAlignTimeout (port : Fin 2) (s : State) : Host.Outcome State Fault Refusal := done (portAlignTimeout port.val) s

/-- PORT_DOWN (R342). A port leaves UP on errors, signal loss or PLL loss, and sends a BREAK out of its other port; `bad` of the last 64
blocks had invalid sync headers, and the signal has been gone for `ns`. -/
def execPortDown (port : Fin 2) (bad : Fin 65) (ns : Nat) (s : State) : Host.Outcome State Fault Refusal :=
  done (.seq (portDown port.val bad.val ns) rosterSync) s

/-- RING_RETRAIN (R362). RING_CMD OP RETRAIN returns the named port to SEEK. -/
def execRingRetrain (src : Src) (key : BitVec 16) (port : Fin 2) (s : State) : Host.Outcome State Fault Refusal :=
  done (access src RING_CMD (keyed key (2 + port.val * 2 ^ RING_CMD_PORT.lo))) s

/-- BEACON_SEND (R344). A port in BEACON sends a beacon every 1 ms or on a floor change. -/
def execBeaconSend (port : Fin 2) (type : Fin 2) (s : State) : Host.Outcome State Fault Refusal := done (beaconSend port.val type.val) s

/-- BEACON_RX (R344). A worker in WATCH checks a beacon, takes its floor, forwards it and may wake. -/
def execBeaconRx (port : Fin 2) (bits : BitVec 56) (s : State) : Host.Outcome State Fault Refusal := done (beaconRx port.val bits.toNat) s

/-- RING_ENUM (R345). RING_CMD OP ENUM starts enumeration with ENUM blocks out of each UP port. -/
def execRingEnum (src : Src) (key : BitVec 16) (s : State) : Host.Outcome State Fault Refusal :=
  done (access src RING_CMD (keyed key 1)) s

/-- AUTO_ENUM_START (R346). With AUTO_ENUM = 1, Weld issues ENUM once both ports are UP or 100 ms after the first. -/
def execAutoEnumStart (s : State) : Host.Outcome State Fault Refusal :=
  done autoEnumLook s

/-- ENUM_BLOCK_RX (R345). A worker receiving an ENUM block clears its index, counts and forwards or returns it. -/
def execEnumBlockRx (port : Fin 2) (count : Fin 64) (fin : Bool) (origin : Fin 2) (s : State) : Host.Outcome State Fault Refusal :=
  done (enumBlockRx port.val count.val fin origin.val) s

/-- ENUM_BLOCK_RETURN (R345). An ENUM block returns to the manager and the ring size and positions are computed. -/
def execEnumBlockReturn (port : Fin 2) (count : Fin 64) (fin : Bool) (origin : Fin 2) (s : State) : Host.Outcome State Fault Refusal :=
  done (enumBlockReturn port.val count.val fin origin.val) s

/-- ENUM_SET_RX (R345). A worker receives ENUM_SET and takes its index and arm, or forwards it. -/
def execEnumSetRx (port : Fin 2) (p : Pkt) (s : State) : Host.Outcome State Fault Refusal := done (enumSetRx port.val p) s

/-- ENUM_DONE (R345). Enumeration completes after key setup with ARMS broadcast and ENUM_DONE set, or ends with a failure result.
-/
def execEnumDone (s : State) : Host.Outcome State Fault Refusal := done (.seq enumDone rosterSync) s

/-- KEY_OFFER_RX (R563). A worker receives the manager's OFFER and answers with its REPLY. -/
def execKeyOfferRx (port : Fin 2) (p : Pkt) (uid : BitVec 64) (s : State) : Host.Outcome State Fault Refusal :=
  done (keyOfferRx port.val p (Sha.lowBytes 8 uid.toNat)) s

/-- KEY_REPLY_RX (R563). The manager receives a REPLY, derives the session key and sends GROUP. -/
def execKeyReplyRx (port : Fin 2) (p : Pkt) (uid : BitVec 64) (s : State) : Host.Outcome State Fault Refusal :=
  done (.seq (keyReplyRx port.val p (Sha.lowBytes 8 uid.toNat)) (readmitLook p.src)) s

/-- KEY_GROUP_RX (R563). A worker receives the group key and answers CONFIRM. -/
def execKeyGroupRx (port : Fin 2) (p : Pkt) (s : State) : Host.Outcome State Fault Refusal := done (keyGroupRx port.val p) s

/-- KEY_CONFIRM_RX (R563). The manager receives CONFIRM and the new key is in force. -/
def execKeyConfirmRx (port : Fin 2) (p : Pkt) (s : State) : Host.Outcome State Fault Refusal :=
  done (.seq (keyConfirmRx port.val p) (readmitLook p.src)) s

/-- KEY_STEP_TIMEOUT (R564). A key step goes unanswered for 20 ms and the setup is retried or fails as KEY_FAIL. -/
def execKeyStepTimeout (worker : Fin 33) (s : State) : Host.Outcome State Fault Refusal :=
  done (blk [keyStepTimeout worker.val, readmitLook worker.val, rosterSync]) s

/-- STREAM_FRAME_RX (R348). The manager receives a stream frame, rebuilds its epoch, checks its CRC and passes it to the stream processor.
-/
def execStreamFrameRx (port : Fin 2) (worker : Fin 64) (e14 : BitVec 14) (flags : BitVec 10) (samples : List Nat)
    (crc : BitVec 32) (s : State) : Host.Outcome State Fault Refusal :=
  done (streamRx port.val worker.val e14.toNat flags.toNat samples crc.toNat fun f => streamProcess f expFrame) s

/-- FRAME_TRANSMIT (R349). A worker sends its own frame or packet when the transmitter has room after forwarded blocks. -/
def execFrameTransmit (s : State) : Host.Outcome State Fault Refusal := done frameTransmit s

/-- FRAME_AGED (R349). An own frame reaches 4,096 µs of age before sending and is discarded with AGED set. -/
def execFrameAged (s : State) : Host.Outcome State Fault Refusal := done frameAged s

/-- FRAME_MISSING (R350). An expected frame has not arrived by e + 4,200 µs and MISS is set. -/
def execFrameMissing (worker : Fin 33) (e : BitVec 48) (s : State) : Host.Outcome State Fault Refusal :=
  done (frameMissing worker.val e.toNat) s

/-- ARMS_RX (R355). A worker receives ARMS naming its arm, decimation and effective epoch. -/
def execArmsRx (port : Fin 2) (p : Pkt) (s : State) : Host.Outcome State Fault Refusal := done (armsRx port.val p) s

/-- ARMS_APPLY (R355). At the effective epoch of ARMS each worker applies its arm and decimation. -/
def execArmsApply (s : State) : Host.Outcome State Fault Refusal := done armsApply s

/-- RACK_I_SEND (R354). The manager sends the 1 ms mean rack current in RACK_I within 50 µs of each millisecond. -/
def execRackISend (s : State) : Host.Outcome State Fault Refusal := done rackIOut s

/-- RACK_I_RX (R318). A worker receives RACK_I and takes it as the string current, clearing CUR_LOST. -/
def execRackIRx (port : Fin 2) (p : Pkt) (s : State) : Host.Outcome State Fault Refusal := done (rackIRx port.val p) s

/-- DIGEST_SEND (R353). At each multiple of 1,000 a worker sends a DIGEST over its recent frames. -/
def execDigestSend (s : State) : Host.Outcome State Fault Refusal := done digestSend s

/-- DIGEST_RX (R353). The manager checks a DIGEST against its held frames or counts DIG_SKIP. -/
def execDigestRx (port : Fin 2) (p : Pkt) (s : State) : Host.Outcome State Fault Refusal :=
  done (digestRx port.val p) s

/-- BREAK_RX (R357). A BREAK is recorded and forwarded; at the manager the arm maps and decimation are rebuilt. -/
def execBreakRx (port : Fin 2) (link : Fin 64) (heal : Bool) (s : State) : Host.Outcome State Fault Refusal :=
  done (.seq (breakRx port.val link.val heal) rosterSync) s

/-- ARM_MOVE (R357). At the next frame boundary after learning of a break, a worker moves to the other arm or is cut off. -/
def execArmMove (s : State) : Host.Outcome State Fault Refusal := done armMove s

/-- LINK_HEAL (R358). A broken link has stayed UP for 100 ms and its end workers send BREAK with HEAL. -/
def execLinkHeal (port : Fin 2) (s : State) : Host.Outcome State Fault Refusal := done (.seq (linkHeal port.val) rosterSync) s

/-- STREAM_FRAME_FORWARD (R348). A worker receives another worker's stream frame, checks its CRC, counts it and forwards it unchanged cut-
through. -/
def execStreamFrameForward (port : Fin 2) (worker : Fin 64) (e14 : BitVec 14) (flags : BitVec 10) (samples : List Nat)
    (crc : BitVec 32) (s : State) : Host.Outcome State Fault Refusal :=
  done (streamForward port.val worker.val e14.toNat flags.toNat samples crc.toNat) s

/-- INVALID_BLOCK_RX (R339). A port receives a block with an invalid sync header or type, or a packet ended early or of an unknown
kind, drops it and increments RING_P_CNT_BLK; a valid block only goes on with the packet that it belongs to. -/
def execInvalidBlockRx (port : Fin 2) (hdr : Fin 4) (w : BitVec 64) (s : State) : Host.Outcome State Fault Refusal :=
  done (blockRx port.val hdr.val w.toNat) s

end Sys2Proof.Machine
end

