-- ==== Sys2Proof/Machine/RowsScan.lean ====
section
/-!
DEFINITION. The meanings of the rows: Conversion and scheduling (12_conversion_and_scheduling.md, R240-R268).
-/
namespace Sys2Proof.Machine

/-- An impedance slot on a cell that a protection stop meets ends (R280, R303). -/
def protAbort : Prog := whenS State.shProt (eisAbort 2)

/-- What balancing, the impedance engine, the estimator, the ring, the stream processor and the export make of a published frame. -/
def frameUse (f : Frame) : Prog :=
  blk [balFrame f, eisFrame f, protAbort, estFrame f, ringOwn f, streamProcess f expFrame, whenS (·.isWrk) (expFrame f)]

/-- FRAME_STRIKE (R246). A scheduled, extra or rerun frame is struck at its tick, or a skipped tick is marked. -/
def execFrameStrike (s : State) : Host.Outcome State Fault Refusal := done frameStrike s

/-- CONVERSION_WINDOW_END (R251). The frame boundary passes and the scheduler escalates aged requests and grants one request. -/
def execConversionWindowEnd (s : State) : Host.Outcome State Fault Refusal := done windowEnd s

/-- FRAME_PUBLISH (R247). A frame is trimmed, stamped and published to the stream buffer, result windows, Woad and the ring. -/
def execFramePublish (raw : List Int) (poison : BitVec 32) (s : State) : Host.Outcome State Fault Refusal :=
  done (publish raw poison.toNat frameUse) s

/-- TRIP_REQUEST (R250). Madder issues a trip-class DIRECT that starts at once and abandons every overlapping frame as VOID. -/
def execTripRequest (ch : Fin 32) (ps : Nat) (codes : List Int) (s : State) : Host.Outcome State Fault Refusal :=
  done (tripRequest ch.val ps codes) s

/-- DIRECT_RESULT_READY (R248). A DIRECT conversion completes and its mean code is ready. -/
def execDirectResultReady (trip : Bool) (code : Int) (poison : Bool) (s : State) : Host.Outcome State Fault Refusal :=
  done (directReady trip code poison) s

/-- SCAN_REQ_GO (R254). SCAN_REQ GO places a host request in the lowest free entry, or drops it with QFULL; `fw` is a request of the
firmware instead (R249), Madder's or Woad's, in the layout of SCAN_REQ_CFG. -/
def execScanReqGo (src : Src) (key : BitVec 16) (fw : Option (Bool × Word)) (s : State) : Host.Outcome State Fault Refusal :=
  done (match fw with
    | none => access src SCAN_REQ (keyed key (2 ^ SCAN_REQ_GO.lo))
    | some (woad, w) =>
      fwPlace (b2n woad) (SCAN_REQ_CFG_CLASS.of w) (SCAN_REQ_CFG_KIND.of w) (SCAN_REQ_CFG_CH.of w) (SCAN_REQ_CFG_COUNT.of w)) s

/-- SCAN_REQUEST_COMPLETE (R254). A host request completes, filling its result entry and setting REQ_DONE. -/
def execScanRequestComplete (entry : Nat) (s : State) : Host.Outcome State Fault Refusal := done (reqComplete entry) s

/-- BURST_DONE (R253). A burst's ticks are consumed and its samples are delivered, or it ends truncated. -/
def execBurstDone (codes : List Int) (s : State) : Host.Outcome State Fault Refusal := done (burstDone codes) s

end Sys2Proof.Machine
end

