-- ==== Sys2Proof/Machine/RowsSec.lean ====
section
/-!
DEFINITION. The meanings of the rows: Security and access (26_security_and_access.md, R550-R571).
-/
namespace Sys2Proof.Machine

/-- LC_ADVANCE (R551). SEC_CMD OP LC_ADVANCE burns the next lifecycle marker when its conditions hold. -/
def execLcAdvance (src : Src) (key : BitVec 16) (s : State) : Host.Outcome State Fault Refusal :=
  done (access src SEC_CMD (keyed key 1)) s

/-- LC_DECOM (R551). SEC_CMD OP LC_DECOM burns the DECOMMISSIONED marker and region 7. -/
def execLcDecom (src : Src) (key : BitVec 16) (s : State) : Host.Outcome State Fault Refusal := done (access src SEC_CMD (keyed key 2)) s

/-- REKEY (R564). SEC_CMD OP REKEY repeats key setup for a worker or all workers. -/
def execRekey (src : Src) (key : BitVec 16) (worker : Fin 64) (s : State) : Host.Outcome State Fault Refusal :=
  done (access src SEC_CMD (keyed key (3 + worker.val * 2 ^ SEC_CMD_W.lo))) s

/-- RNG_RESTART (R565). SEC_CMD OP RNG_RESTART reruns the entropy start-up test. -/
def execRngRestart (src : Src) (key : BitVec 16) (s : State) : Host.Outcome State Fault Refusal :=
  done (access src SEC_CMD (keyed key 4)) s

/-- RNG_HEALTH_FAIL (R565). An entropy health test fails, blocking the DRBG and sending an entropy message. -/
def execRngHealthFail (apt : Bool) (s : State) : Host.Outcome State Fault Refusal := done (rngHealthFail apt) s

/-- SVC_CHALLENGE (R555). SVC_CMD OP CHALLENGE draws a nonce for the named level. -/
def execSvcChallenge (src : Src) (key : BitVec 16) (level : Fin 4) (s : State) : Host.Outcome State Fault Refusal :=
  done (access src SVC_CMD (keyed key (1 + level.val * 2 ^ SVC_CMD_LEVEL.lo))) s

/-- SVC_RESPOND (R555). SVC_CMD OP RESPOND checks the MAC and raises the session level or counts a failure. -/
def execSvcRespond (src : Src) (key : BitVec 16) (s : State) : Host.Outcome State Fault Refusal :=
  done (access src SVC_CMD (keyed key 2)) s

/-- SVC_PASSWORD (R556). SVC_CMD OP PASSWORD compares the password digest and raises the level or counts a failure. -/
def execSvcPassword (src : Src) (key : BitVec 16) (level : Fin 4) (s : State) : Host.Outcome State Fault Refusal :=
  done (access src SVC_CMD (keyed key (3 + level.val * 2 ^ SVC_CMD_LEVEL.lo))) s

/-- SVC_DROP (R558). SVC_CMD OP DROP returns the session to its base level. -/
def execSvcDrop (src : Src) (key : BitVec 16) (s : State) : Host.Outcome State Fault Refusal := done (access src SVC_CMD (keyed key 4)) s

/-- SVC_DEBUG_OPEN (R560). SVC_CMD OP DEBUG_OPEN opens the test and debug ports when permitted. -/
def execSvcDebugOpen (src : Src) (key : BitVec 16) (s : State) : Host.Outcome State Fault Refusal :=
  done (access src SVC_CMD (keyed key 5)) s

/-- SVC_DEBUG_CLOSE (R560). SVC_CMD OP DEBUG_CLOSE closes the test and debug ports. -/
def execSvcDebugClose (src : Src) (key : BitVec 16) (s : State) : Host.Outcome State Fault Refusal :=
  done (access src SVC_CMD (keyed key 6)) s

/-- NONCE_EXPIRY (R555). A nonce expires 60 s after it was drawn. -/
def execNonceExpiry (s : State) : Host.Outcome State Fault Refusal := done nonceExpiry s

/-- LOCKOUT_END (R557). The 900 s lockout ends and the failure count returns to 0. -/
def execLockoutEnd (s : State) : Host.Outcome State Fault Refusal := done lockoutEnd s

/-- SESSION_LAPSE (R558). 600 s pass without an xSPI transaction and the session returns to its base level, ending SERVICE if it
falls below. -/
def execSessionLapse (s : State) : Host.Outcome State Fault Refusal := done sessionLapse s

/-- RNG_STARTUP_TEST_DONE (R565). The 1,024-sample entropy start-up test completes, setting SEC_RNG.STARTUP_DONE and OK and
unblocking the DRBG, or failing. -/
def execRngStartupTestDone (ok : Bool) (s : State) : Host.Outcome State Fault Refusal := done (rngStartupDone ok) s

end Sys2Proof.Machine
end

