-- ==== Sys2Proof/Machine/RowsSeq.lean ====
section
/-!
DEFINITION. The meanings of the rows: The power sequencer (07_sequencer.md, R132-R155).
-/
namespace Sys2Proof.Machine

/-- SEQ_GO (R148). SEQ_CTRL OP GO is an on request for the whole sequence after the configuration check. -/
def execSeqGo (src : Src) (key : BitVec 16) (s : State) : Host.Outcome State Fault Refusal := done (access src SEQ_CTRL (keyed key 1)) s

/-- SEQ_STOP (R148). SEQ_CTRL OP STOP is an off request for the whole sequence. -/
def execSeqStop (src : Src) (key : BitVec 16) (s : State) : Host.Outcome State Fault Refusal := done (access src SEQ_CTRL (keyed key 2)) s

/-- SEQ_SLOT_ON (R147). SEQ_CTRL OP SLOT_ON clears OVR_OFF, FAULTED and HELD for a slot and starts it if wanted. -/
def execSeqSlotOn (src : Src) (key : BitVec 16) (n : Fin 32) (s : State) : Host.Outcome State Fault Refusal :=
  done (access src SEQ_CTRL (keyed key (3 + n.val * 2 ^ SEQ_CTRL_SLOT.lo))) s

/-- SEQ_SLOT_OFF (R147). SEQ_CTRL OP SLOT_OFF sets OVR_OFF and powers the slot and its dependants down at once. -/
def execSeqSlotOff (src : Src) (key : BitVec 16) (n : Fin 32) (s : State) : Host.Outcome State Fault Refusal :=
  done (access src SEQ_CTRL (keyed key (4 + n.val * 2 ^ SEQ_CTRL_SLOT.lo))) s

/-- SEQ_CLEAR (R152). SEQ_CTRL OP CLEAR leaves FAILED and clears SEQ_FIRST.VALID and every HELD mark. -/
def execSeqClear (src : Src) (key : BitVec 16) (s : State) : Host.Outcome State Fault Refusal :=
  done (access src SEQ_CTRL (keyed key 5)) s

/-- SEQ_SLOT_START (R138). A wanted slot's UP_DLY elapses and it starts, or is HELD if a dependency is not up. -/
def execSeqSlotStart (n : Fin 19) (s : State) : Host.Outcome State Fault Refusal := done (slotStart n.val) s

/-- SEQ_SLOT_UP (R139). A starting slot's power-good becomes true and, when all slots of the step are up, the next step begins. -/
def execSeqSlotUp (n : Fin 19) (s : State) : Host.Outcome State Fault Refusal := done (slotUp n.val) s

/-- SEQ_UP_TIMEOUT (R143). A slot is not up within UP_TMO, so an up-timeout message is sent and all programmed slots power down
for a retry or FAILED. -/
def execSeqUpTimeout (n : Fin 19) (s : State) : Host.Outcome State Fault Refusal := done (upTimeout n.val) s

/-- SEQ_SLOT_STOP (R141). A slot's DN_DLY elapses and it switches off with active discharge or drives its GPIO inactive. -/
def execSeqSlotStop (n : Fin 19) (s : State) : Host.Outcome State Fault Refusal := done (slotStop n.val) s

/-- SEQ_SLOT_DOWN (R141). A stopping slot's rail stands at `uv` microvolts: below DIS_LVL it is down and, when all slots of the step are
down or STUCK, the next step begins. -/
def execSeqSlotDown (n : Fin 19) (uv : Nat) (s : State) : Host.Outcome State Fault Refusal :=
  done (slotDownEvt n.val uv) s

/-- SEQ_SLOT_STUCK (R141). A slot is not down within DN_TMO, is marked STUCK and the step continues as if it were down. -/
def execSeqSlotStuck (n : Fin 19) (s : State) : Host.Outcome State Fault Refusal := done (slotStuck n.val) s

/-- SEQ_STUCK_CLEAR (R142). A STUCK slot's rail has stayed at `uv` microvolts for 1 ms: below DIS_LVL it leaves STUCK. -/
def execSeqStuckClear (n : Fin 19) (uv : Nat) (s : State) : Host.Outcome State Fault Refusal :=
  done (stuckClear n.val uv) s

/-- SEQ_MIN_OFF_ELAPSED (R148). MIN_OFF elapses in OFF_WAIT and the pending retry or latched power-up runs. -/
def execSeqMinOffElapsed (s : State) : Host.Outcome State Fault Refusal := done minOffElapsed s

/-- VSYS_SLOT_RETRY (R134). 10 ms after a VSYS source slot failure the slot is retried, with no retry limit. -/
def execVsysSlotRetry (s : State) : Host.Outcome State Fault Refusal := done (whenS (fun s => s.eng.seq.vsysRetry) vsysStart) s

end Sys2Proof.Machine
end

