-- ==== Sys2Proof/Machine/RowsThm.lean ====
section
/-!
DEFINITION. The meanings of the rows: Thermal management and the calendar (23_thermal_and_calendar.md, R499-R519).
-/
namespace Sys2Proof.Machine

/-- THM_WARN (R500). A die temperature enters or clears its WARN condition with a warning message on entry. -/
def execThmWarn (ts : List (List Int)) (s : State) : Host.Outcome State Fault Refusal :=
  done (thmTakes ts) s

/-- THM_LEVEL_CHANGE (R501). The throttle level changes, dividing CLK_CORE and scheduling a new skip factor. -/
def execThmLevelChange (ts : List (List Int)) (s : State) : Host.Outcome State Fault Refusal :=
  done (thmTakes ts) s

/-- SKIP_FACTOR_APPLY (R502). The new skip factor takes effect at the first tick whose epoch is a multiple of 64. -/
def execSkipFactorApply (s : State) : Host.Outcome State Fault Refusal := done skipApply s

/-- THM_SENSOR_FAULT (R499). A sensor reads out of range for 10 samples and is marked FAULT, or returns valid after 10. -/
def execThmSensorFault (ts : List (List Int)) (s : State) : Host.Outcome State Fault Refusal :=
  done (thmTakes ts) s

/-- THM_SHUTDOWN (R504). The shutdown condition is entered, outputs go to reset states, slots power down, a thermal record is written and
the device is held. -/
def execThmShutdown (ts : List (List Int)) (s : State) : Host.Outcome State Fault Refusal :=
  done (thmTakes ts) s

/-- THM_SHUTDOWN_RELEASE (R505). Every valid sensor has read at or below SHUT − HYS for 100 ms and bring-up starts at step 2. -/
def execThmShutdownRelease (ts : List (List Int)) (s : State) : Host.Outcome State Fault Refusal :=
  done (.seq (thmTakes ts) thmRelease) s

/-- RTC_SECOND (R510). SUB wraps and SEC advances, a second boundary that records the epoch and checks the alarm. -/
def execRtcSecond (s : State) : Host.Outcome State Fault Refusal := done (orShelf rtcSecond) s

/-- RTC_PERIODIC_WAKE (R515). The time reaches a multiple of PER and a periodic wake occurs. -/
def execRtcPeriodicWake (s : State) : Host.Outcome State Fault Refusal := done (orShelf rtcPeriodic) s

/-- RTC_CALIBRATE (R510). Every 10 s on the LFRC with the root valid, the LFRC rate is measured against the root. -/
def execRtcCalibrate (s : State) : Host.Outcome State Fault Refusal := done rtcCalibrate s

/-- RTC_TIME_READ (R511). A read of the time group freezes the path's shadow, and a read of RTC_TIME releases it. -/
def execRtcTimeRead (src : Src) (r : Fin 4) (s : State) : Host.Outcome State Fault Refusal := done (readBack src (RTC_SUB + 4 * r.val)) s

/-- RTC_FREEZE_END (R511). 1 s after a freeze began, the shadow of that path is released. -/
def execRtcFreezeEnd (src : Src) (s : State) : Host.Outcome State Fault Refusal :=
  done (rtcFreezeEnd (pathOf src)) s

/-- RTC_SET (R512). RTC_CMD OP SET loads SEC at the next LF edge, which counts as a second boundary. -/
def execRtcSet (src : Src) (key : BitVec 16) (s : State) : Host.Outcome State Fault Refusal := done (access src RTC_CMD (keyed key 1)) s

/-- PWRON_CLR (R516). RTC_CMD OP PWRON_CLR clears a latched PWRON. -/
def execPwronClr (src : Src) (key : BitVec 16) (s : State) : Host.Outcome State Fault Refusal := done (access src RTC_CMD (keyed key 2)) s

/-- RTC_ALARM_WRITE (R514). A write of the alarm or its enable that leaves ALARM not ahead of SEC sets ALARM_PAST. -/
def execRtcAlarmWrite (src : Src) (cfg : Bool) (w : Word) (s : State) : Host.Outcome State Fault Refusal :=
  done (access src (if cfg then RTC_ALM_CFG else RTC_ALARM) w) s

/-- RTC_PWRON_WRITE (R516). A write of RTC_PWRON sets the PWRON mode without shortening a running pulse. -/
def execRtcPwronWrite (src : Src) (w : Word) (s : State) : Host.Outcome State Fault Refusal := done (access src RTC_PWRON w) s

/-- PWRON_PULSE_END (R516). WIDTH ms after a wake in PULSE mode, PWRON goes low. -/
def execPwronPulseEnd (s : State) : Host.Outcome State Fault Refusal := done pwronPulseEnd s

end Sys2Proof.Machine
end

