-- ==== Sys2Proof/Machine/RowsWdg.lean ====
section
/-!
DEFINITION. The meanings of the rows: Watchdogs, task monitor and the keeper (22_watchdogs_and_keeper.md, R479-R498).
-/
namespace Sys2Proof.Machine

/-- WDG_SERVICE_WRITE (R482). A write to WDG_SVC is queued for synchronisation, or discarded as an OVERRUN violation. -/
def execWdgServiceWrite (src : Src) (n : Fin 4) (w : Word) (s : State) : Host.Outcome State Fault Refusal :=
  done (access src (WDG_SVC n.val) w) s

/-- WDG_KEY_ARRIVAL (R483). A synchronised service value arrives and arms, services or violates the watchdog. -/
def execWdgKeyArrival (n : Fin 4) (s : State) : Host.Outcome State Fault Refusal :=
  done (wdgArrival n.val wdgAct) s

/-- WDG_ARM_EXPIRY (R483). 8 ticks pass after key A without key B and the watchdog disarms. -/
def execWdgArmExpiry (n : Fin 4) (s : State) : Host.Outcome State Fault Refusal := done (wdgDisarm n.val) s

/-- WDG_EXPIRY (R484). A watchdog's count reaches PERIOD, writing evidence, sending a message and carrying out its action. -/
def execWdgExpiry (n : Fin 4) (s : State) : Host.Outcome State Fault Refusal := done (wdgExpire n.val wdgAct) s

/-- WDG_CLK_STOP (R480). A watchdog's tick stops, a CLK_STOP violation, and it counts on the other tick. -/
def execWdgClkStop (n : Fin 4) (cnt : Nat) (s : State) : Host.Outcome State Fault Refusal := done (wdgClkStop n.val cnt wdgAct) s

/-- WDG_CFG_WRITE (R485). A host write of WDG_CFG[3] sets its configuration and clears CLK_SW. -/
def execWdgCfgWrite (src : Src) (n : Fin 4) (w : Word) (s : State) : Host.Outcome State Fault Refusal :=
  done (access src (WDG_CFG n.val) w) s

/-- TM_CHECKIN (R487). A keyed write of WDG_TM_CHECKIN counts a check-in for an enabled slot. -/
def execTmCheckin (src : Src) (key : BitVec 16) (slot : Fin 16) (s : State) : Host.Outcome State Fault Refusal :=
  done (access src WDG_TM_CHECKIN (keyed key (slot.val * 2 ^ WDG_TM_CHECKIN_SLOT.lo))) s

/-- TM_PERIOD_END (R487). A task monitor period ends, judging MISSING and EXCESS and sending offence messages. -/
def execTmPeriodEnd (s : State) : Host.Outcome State Fault Refusal := done (tmPeriodEnd wdgAct) s

/-- LOCKSTEP_MISMATCH (R489). The two halves of Madder disagree and Mordant takes over. -/
def execLockstepMismatch (pc0 pc1 : Word) (s : State) : Host.Outcome State Fault Refusal := done (lockstep pc0.toNat pc1.toNat) s

/-- KEEPER_RESTART (R491). 1 ms of RESET_HOLD elapses and Madder is released as a new attempt in PROBATION. -/
def execKeeperRestart (s : State) : Host.Outcome State Fault Refusal := done keepRestart s

/-- KEEPER_HANDBACK (R491). PROB ms pass after release without failure and Mordant hands control back. -/
def execKeeperHandback (s : State) : Host.Outcome State Fault Refusal := done keepHandback s

/-- KEEPER_ATTEMPTS_RESET (R491). Madder has held control for 600 s and ATTEMPTS returns to 0. -/
def execKeeperAttemptsReset (s : State) : Host.Outcome State Fault Refusal := done keepSettled s

/-- KEEP_RELEASE (R492). KEEP_CMD OP RELEASE moves Mordant from HELD to RESET_HOLD with ATTEMPTS 0. -/
def execKeepRelease (src : Src) (key : BitVec 16) (s : State) : Host.Outcome State Fault Refusal :=
  done (access src KEEP_CMD (keyed key 1)) s

end Sys2Proof.Machine
end

