-- ==== Sys2Proof/Machine/Dispatch.lean ====
section
/-!
DEFINITION. One arm per row of spec/opcode_table.json: the meaning of each command and event.
-/
namespace Sys2Proof.Machine
open Host

def exec (i : Instr) (s : State) : Host.Outcome State Fault Refusal :=
  match i with
  | .aonPowerUp vsys vbkup role testen a0 => Sys2Proof.Machine.execAonPowerUp vsys vbkup role testen a0 s
  | .vsysRiseThreshold role testen a0 => Sys2Proof.Machine.execVsysRiseThreshold role testen a0 s
  | .vsysFallThreshold => Sys2Proof.Machine.execVsysFallThreshold s
  | .internalMonitorFall k role testen a0 => Sys2Proof.Machine.execInternalMonitorFall k role testen a0 s
  | .vbkupAvailable => Sys2Proof.Machine.execVbkupAvailable s
  | .vbkupUnavailable => Sys2Proof.Machine.execVbkupUnavailable s
  | .rootMissingEdge => Sys2Proof.Machine.execRootMissingEdge s
  | .rootMeasWindowEnd freq => Sys2Proof.Machine.execRootMeasWindowEnd freq s
  | .mpllReacquired => Sys2Proof.Machine.execMpllReacquired s
  | .mpllLock => Sys2Proof.Machine.execMpllLock s
  | .rootStartTimeout => Sys2Proof.Machine.execRootStartTimeout s
  | .lpllLock => Sys2Proof.Machine.execLpllLock s
  | .mpllUnlock => Sys2Proof.Machine.execMpllUnlock s
  | .lpllUnlock => Sys2Proof.Machine.execLpllUnlock s
  | .rootRetry src key => Sys2Proof.Machine.execRootRetry src key s
  | .rootRetrySuccess => Sys2Proof.Machine.execRootRetrySuccess s
  | .rootRetryFail => Sys2Proof.Machine.execRootRetryFail s
  | .lfxoQualified => Sys2Proof.Machine.execLfxoQualified s
  | .lfxoLoss => Sys2Proof.Machine.execLfxoLoss s
  | .clkLfCfgWrite src w => Sys2Proof.Machine.execClkLfCfgWrite src w s
  | .clkSteerWrite src w => Sys2Proof.Machine.execClkSteerWrite src w s
  | .registerWrite src a w => Sys2Proof.Machine.execRegisterWrite src a w s
  | .shadowWrite src page w => Sys2Proof.Machine.execShadowWrite src page w s
  | .lockWrite src page key lock => Sys2Proof.Machine.execLockWrite src page key lock s
  | .stgRegisterWrite src a w => Sys2Proof.Machine.execStgRegisterWrite src a w s
  | .stageDiscard src page view => Sys2Proof.Machine.execStageDiscard src page view s
  | .stageView src page view => Sys2Proof.Machine.execStageView src page view s
  | .modeReqPin src t => Sys2Proof.Machine.execModeReqPin src t s
  | .modeReqService src => Sys2Proof.Machine.execModeReqService src s
  | .modeReqSafehold src => Sys2Proof.Machine.execModeReqSafehold src s
  | .modeReqFactory src => Sys2Proof.Machine.execModeReqFactory src s
  | .modeReqAuto src => Sys2Proof.Machine.execModeReqAuto src s
  | .modeLtolWrite src n w => Sys2Proof.Machine.execModeLtolWrite src n w s
  | .modeAttPerWrite src w => Sys2Proof.Machine.execModeAttPerWrite src w s
  | .modeDormPerWrite src w => Sys2Proof.Machine.execModeDormPerWrite src w s
  | .modeCfgWrite src w => Sys2Proof.Machine.execModeCfgWrite src w s
  | .modeIdleIWrite src w => Sys2Proof.Machine.execModeIdleIWrite src w s
  | .ascentDone => Sys2Proof.Machine.execAscentDone s
  | .dwellExpiry => Sys2Proof.Machine.execDwellExpiry s
  | .descentDone => Sys2Proof.Machine.execDescentDone s
  | .wakePinRise => Sys2Proof.Machine.execWakePinRise s
  | .stackWake => Sys2Proof.Machine.execStackWake s
  | .wakeHoldExpiry => Sys2Proof.Machine.execWakeHoldExpiry s
  | .dormantCheckTimer => Sys2Proof.Machine.execDormantCheckTimer s
  | .dormantCheckDone hit => Sys2Proof.Machine.execDormantCheckDone hit s
  | .resetNFall => Sys2Proof.Machine.execResetNFall s
  | .resetNAccept => Sys2Proof.Machine.execResetNAccept s
  | .resetNRise => Sys2Proof.Machine.execResetNRise s
  | .rstCmdSys src key => Sys2Proof.Machine.execRstCmdSys src key s
  | .rstCmdCore src key cores => Sys2Proof.Machine.execRstCmdCore src key cores s
  | .fixedRailStep => Sys2Proof.Machine.execFixedRailStep s
  | .vsysQualificationEnd => Sys2Proof.Machine.execVsysQualificationEnd s
  | .fixedRailsSettled => Sys2Proof.Machine.execFixedRailsSettled s
  | .fixedRailTimeout => Sys2Proof.Machine.execFixedRailTimeout s
  | .fixedRailRetry => Sys2Proof.Machine.execFixedRailRetry s
  | .otpLoadDone => Sys2Proof.Machine.execOtpLoadDone s
  | .fillDone us => Sys2Proof.Machine.execFillDone us s
  | .patchVerifyDone core => Sys2Proof.Machine.execPatchVerifyDone core s
  | .coreRelease rb => Sys2Proof.Machine.execCoreRelease rb s
  | .regBkVsetWrite src w => Sys2Proof.Machine.execRegBkVsetWrite src w s
  | .regLdVsetWrite src n w => Sys2Proof.Machine.execRegLdVsetWrite src n w s
  | .regRampDone k => Sys2Proof.Machine.execRegRampDone k s
  | .buckIlimPersist n cycles => Sys2Proof.Machine.execBuckIlimPersist n cycles s
  | .ldoIlimPersist n us => Sys2Proof.Machine.execLdoIlimPersist n us s
  | .svCfgWrite src n w => Sys2Proof.Machine.execSvCfgWrite src n w s
  | .svFault n uv clks => Sys2Proof.Machine.execSvFault n uv clks s
  | .svConditionClear n uv expiry => Sys2Proof.Machine.execSvConditionClear n uv expiry s
  | .svShutdownTimer n => Sys2Proof.Machine.execSvShutdownTimer n s
  | .seqGo src key => Sys2Proof.Machine.execSeqGo src key s
  | .seqStop src key => Sys2Proof.Machine.execSeqStop src key s
  | .seqSlotOn src key n => Sys2Proof.Machine.execSeqSlotOn src key n s
  | .seqSlotOff src key n => Sys2Proof.Machine.execSeqSlotOff src key n s
  | .seqClear src key => Sys2Proof.Machine.execSeqClear src key s
  | .seqSlotStart n => Sys2Proof.Machine.execSeqSlotStart n s
  | .seqSlotUp n => Sys2Proof.Machine.execSeqSlotUp n s
  | .seqUpTimeout n => Sys2Proof.Machine.execSeqUpTimeout n s
  | .seqSlotStop n => Sys2Proof.Machine.execSeqSlotStop n s
  | .seqSlotDown n uv => Sys2Proof.Machine.execSeqSlotDown n uv s
  | .seqSlotStuck n => Sys2Proof.Machine.execSeqSlotStuck n s
  | .seqStuckClear n uv => Sys2Proof.Machine.execSeqStuckClear n uv s
  | .seqMinOffElapsed => Sys2Proof.Machine.execSeqMinOffElapsed s
  | .vsysSlotRetry => Sys2Proof.Machine.execVsysSlotRetry s
  | .phcReenable src key n => Sys2Proof.Machine.execPhcReenable src key n s
  | .phcRailVsetWrite src r w => Sys2Proof.Machine.execPhcRailVsetWrite src r w s
  | .railRampDone r => Sys2Proof.Machine.execRailRampDone r s
  | .railPowerGood r fb k => Sys2Proof.Machine.execRailPowerGood r fb k s
  | .railPgLoss r fb => Sys2Proof.Machine.execRailPgLoss r fb s
  | .cycleLimitTrip n uv t => Sys2Proof.Machine.execCycleLimitTrip n uv t s
  | .phaseIlimPersist n k => Sys2Proof.Machine.execPhaseIlimPersist n k s
  | .undershootDetect r fb => Sys2Proof.Machine.execUndershootDetect r fb s
  | .undershootEnd r fb t trips d => Sys2Proof.Machine.execUndershootEnd r fb t trips d s
  | .overshootDetect r fb => Sys2Proof.Machine.execOvershootDetect r fb s
  | .overshootEnd r fb d => Sys2Proof.Machine.execOvershootEnd r fb d s
  | .ustHoldoffEnd r k => Sys2Proof.Machine.execUstHoldoffEnd r k s
  | .contArmWindowEnd => Sys2Proof.Machine.execContArmWindowEnd s
  | .phaseLoss r cs k => Sys2Proof.Machine.execPhaseLoss r cs k s
  | .feedInLimits n v => Sys2Proof.Machine.execFeedInLimits n v s
  | .feedValid n => Sys2Proof.Machine.execFeedValid n s
  | .feedInvalid n v => Sys2Proof.Machine.execFeedInvalid n v s
  | .oringReverse n => Sys2Proof.Machine.execOringReverse n s
  | .oringRedrive n => Sys2Proof.Machine.execOringRedrive n s
  | .startLogicPowerUp => Sys2Proof.Machine.execStartLogicPowerUp s
  | .prechargeDone vpb => Sys2Proof.Machine.execPrechargeDone vpb s
  | .pcGateOffDelay => Sys2Proof.Machine.execPcGateOffDelay s
  | .prechargeTimeout => Sys2Proof.Machine.execPrechargeTimeout s
  | .prechargeCoolEnd => Sys2Proof.Machine.execPrechargeCoolEnd s
  | .efuseTimedTrip amp t => Sys2Proof.Machine.execEfuseTimedTrip amp t s
  | .efuseFastTrip amp => Sys2Proof.Machine.execEfuseFastTrip amp s
  | .efuseCoolEnd => Sys2Proof.Machine.execEfuseCoolEnd s
  | .efuseTripCountReset => Sys2Proof.Machine.execEfuseTripCountReset s
  | .fetCheckFinding k => Sys2Proof.Machine.execFetCheckFinding k s
  | .handoverComplete => Sys2Proof.Machine.execHandoverComplete s
  | .packLow mv => Sys2Proof.Machine.execPackLow mv s
  | .packPresent mv => Sys2Proof.Machine.execPackPresent mv s
  | .packAbsent mv => Sys2Proof.Machine.execPackAbsent mv s
  | .supplementStart => Sys2Proof.Machine.execSupplementStart s
  | .supplementEnd => Sys2Proof.Machine.execSupplementEnd s
  | .feedEfOn src key => Sys2Proof.Machine.execFeedEfOn src key s
  | .feedEfOff src key => Sys2Proof.Machine.execFeedEfOff src key s
  | .feedFetClear src key => Sys2Proof.Machine.execFeedFetClear src key s
  | .chgStart src key => Sys2Proof.Machine.execChgStart src key s
  | .chgStop src key => Sys2Proof.Machine.execChgStop src key s
  | .chgClear src key => Sys2Proof.Machine.execChgClear src key s
  | .clearLockout src key => Sys2Proof.Machine.execClearLockout src key s
  | .keepalive src key => Sys2Proof.Machine.execKeepalive src key s
  | .pathFetClear src key => Sys2Proof.Machine.execPathFetClear src key s
  | .chgPackWrite src w => Sys2Proof.Machine.execChgPackWrite src w s
  | .chgEligible vpb => Sys2Proof.Machine.execChgEligible vpb s
  | .chgDetectDone mv => Sys2Proof.Machine.execChgDetectDone mv s
  | .chgPrecondDone mv => Sys2Proof.Machine.execChgPrecondDone mv s
  | .chgCvEntry mv => Sys2Proof.Machine.execChgCvEntry mv s
  | .chgTerminate ma => Sys2Proof.Machine.execChgTerminate ma s
  | .chgTopoffDone => Sys2Proof.Machine.execChgTopoffDone s
  | .chgRecharge mv => Sys2Proof.Machine.execChgRecharge mv s
  | .chgSafetyTimer t8 => Sys2Proof.Machine.execChgSafetyTimer t8 s
  | .chgOvervolt mv => Sys2Proof.Machine.execChgOvervolt mv s
  | .chgSuspend => Sys2Proof.Machine.execChgSuspend s
  | .chgResume => Sys2Proof.Machine.execChgResume s
  | .hostContactTimeout sec => Sys2Proof.Machine.execHostContactTimeout sec s
  | .contClose src key => Sys2Proof.Machine.execContClose src key s
  | .contOpen src key => Sys2Proof.Machine.execContOpen src key s
  | .ftClear src key => Sys2Proof.Machine.execFtClear src key s
  | .weldClear src key => Sys2Proof.Machine.execWeldClear src key s
  | .loopClear src key => Sys2Proof.Machine.execLoopClear src key s
  | .contNegSensed p0 p1 p2 => Sys2Proof.Machine.execContNegSensed p0 p1 p2 s
  | .contPullTimeout => Sys2Proof.Machine.execContPullTimeout s
  | .contPrechargeReached p0 p1 p2 => Sys2Proof.Machine.execContPrechargeReached p0 p1 p2 s
  | .contPcTimeout => Sys2Proof.Machine.execContPcTimeout s
  | .contPosTime => Sys2Proof.Machine.execContPosTime s
  | .contReleaseCheck p0 p1 p2 => Sys2Proof.Machine.execContReleaseCheck p0 p1 p2 s
  | .contSagFault p0 p1 p2 => Sys2Proof.Machine.execContSagFault p0 p1 p2 s
  | .contOpenDelayEnd => Sys2Proof.Machine.execContOpenDelayEnd s
  | .contNegDelayEnd => Sys2Proof.Machine.execContNegDelayEnd s
  | .contCheckEntry => Sys2Proof.Machine.execContCheckEntry s
  | .weldEvaluation p0 p1 p2 => Sys2Proof.Machine.execWeldEvaluation p0 p1 p2 s
  | .coilHoldStart n => Sys2Proof.Machine.execCoilHoldStart n s
  | .coilOpenFault n => Sys2Proof.Machine.execCoilOpenFault n s
  | .coilShortFault n => Sys2Proof.Machine.execCoilShortFault n s
  | .fastDisconnectTrip mag => Sys2Proof.Machine.execFastDisconnectTrip mag s
  | .ftBlankingEnd pos => Sys2Proof.Machine.execFtBlankingEnd pos s
  | .floopInputLost => Sys2Proof.Machine.execFloopInputLost s
  | .floopInputOk => Sys2Proof.Machine.execFloopInputOk s
  | .floopResume => Sys2Proof.Machine.execFloopResume s
  | .refReady => Sys2Proof.Machine.execRefReady s
  | .owStart src key => Sys2Proof.Machine.execOwStart src key s
  | .pathStart src key => Sys2Proof.Machine.execPathStart src key s
  | .diagAbort src key => Sys2Proof.Machine.execDiagAbort src key s
  | .owAutoTimer => Sys2Proof.Machine.execOwAutoTimer s
  | .owShuttleFree => Sys2Proof.Machine.execOwShuttleFree s
  | .owBusyTimeout => Sys2Proof.Machine.execOwBusyTimeout s
  | .owPhaseEnd => Sys2Proof.Machine.execOwPhaseEnd s
  | .owBleedResume => Sys2Proof.Machine.execOwBleedResume s
  | .pathTestChannel zero scale => Sys2Proof.Machine.execPathTestChannel zero scale s
  | .afeCalUWrite src ch w => Sys2Proof.Machine.execAfeCalUWrite src ch w s
  | .afeCfgWrite src w => Sys2Proof.Machine.execAfeCfgWrite src w s
  | .frameStrike => Sys2Proof.Machine.execFrameStrike s
  | .conversionWindowEnd => Sys2Proof.Machine.execConversionWindowEnd s
  | .framePublish raw poison => Sys2Proof.Machine.execFramePublish raw poison s
  | .tripRequest ch ps codes => Sys2Proof.Machine.execTripRequest ch ps codes s
  | .directResultReady trip code poison => Sys2Proof.Machine.execDirectResultReady trip code poison s
  | .scanReqGo src key fw => Sys2Proof.Machine.execScanReqGo src key fw s
  | .scanRequestComplete entry => Sys2Proof.Machine.execScanRequestComplete entry s
  | .burstDone codes => Sys2Proof.Machine.execBurstDone codes s
  | .balStart src key => Sys2Proof.Machine.execBalStart src key s
  | .balStop src key => Sys2Proof.Machine.execBalStop src key s
  | .balUnlock src key => Sys2Proof.Machine.execBalUnlock src key s
  | .balLease src key => Sys2Proof.Machine.execBalLease src key s
  | .balSelWrite src key cell => Sys2Proof.Machine.execBalSelWrite src key cell s
  | .balBleedWrite src w => Sys2Proof.Machine.execBalBleedWrite src w s
  | .balShIWrite src w => Sys2Proof.Machine.execBalShIWrite src w s
  | .shRampDownDone => Sys2Proof.Machine.execShRampDownDone s
  | .shNodesOff => Sys2Proof.Machine.execShNodesOff s
  | .shStuckOn rb => Sys2Proof.Machine.execShStuckOn rb s
  | .shBbmEnd => Sys2Proof.Machine.execShBbmEnd s
  | .shPairClosed => Sys2Proof.Machine.execShPairClosed s
  | .shFailToClose rb => Sys2Proof.Machine.execShFailToClose rb s
  | .shRampUpDone amps => Sys2Proof.Machine.execShRampUpDone amps s
  | .shInterlock rb on us => Sys2Proof.Machine.execShInterlock rb on us s
  | .shOvercurrent amp us => Sys2Proof.Machine.execShOvercurrent amp us s
  | .bleedOpen cell ma ms => Sys2Proof.Machine.execBleedOpen cell ma ms s
  | .bleedBudgetReturn cell => Sys2Proof.Machine.execBleedBudgetReturn cell s
  | .policyLeaseLapse ms => Sys2Proof.Machine.execPolicyLeaseLapse ms s
  | .hostLeaseLapse ms => Sys2Proof.Machine.execHostLeaseLapse ms s
  | .balPolicyTick => Sys2Proof.Machine.execBalPolicyTick s
  | .balSlotEnd us => Sys2Proof.Machine.execBalSlotEnd us s
  | .shuttleRequest => Sys2Proof.Machine.execShuttleRequest s
  | .shuttleRelease => Sys2Proof.Machine.execShuttleRelease s
  | .eisStart src key => Sys2Proof.Machine.execEisStart src key s
  | .eisStop src key => Sys2Proof.Machine.execEisStop src key s
  | .eisOne src key kind cell => Sys2Proof.Machine.execEisOne src key kind cell s
  | .eisTref src key cell => Sys2Proof.Machine.execEisTref src key cell s
  | .eisSlotDue => Sys2Proof.Machine.execEisSlotDue s
  | .eisExcitationStart => Sys2Proof.Machine.execEisExcitationStart s
  | .eisWindowStart => Sys2Proof.Machine.execEisWindowStart s
  | .eisMeasureEnd cur => Sys2Proof.Machine.execEisMeasureEnd cur s
  | .eisSlotRelease => Sys2Proof.Machine.execEisSlotRelease s
  | .eisSpectrumStored => Sys2Proof.Machine.execEisSpectrumStored s
  | .eisViewWrite src w => Sys2Proof.Machine.execEisViewWrite src w s
  | .rippleWindowEnd => Sys2Proof.Machine.execRippleWindowEnd s
  | .rippleRx port p => Sys2Proof.Machine.execRippleRx port p s
  | .ripplePacketMissing => Sys2Proof.Machine.execRipplePacketMissing s
  | .estUpdate => Sys2Proof.Machine.execEstUpdate s
  | .estCurrentLost ms => Sys2Proof.Machine.execEstCurrentLost ms s
  | .estAccept src key => Sys2Proof.Machine.execEstAccept src key s
  | .estRestore src key => Sys2Proof.Machine.execEstRestore src key s
  | .estCkpt src key => Sys2Proof.Machine.execEstCkpt src key s
  | .estForget src key => Sys2Proof.Machine.execEstForget src key s
  | .estRenew src key => Sys2Proof.Machine.execEstRenew src key s
  | .checkpointDone poison err => Sys2Proof.Machine.execCheckpointDone poison err s
  | .estSummarySend => Sys2Proof.Machine.execEstSummarySend s
  | .summaryRx port p => Sys2Proof.Machine.execSummaryRx port p s
  | .rackAggregation => Sys2Proof.Machine.execRackAggregation s
  | .portSeek port training => Sys2Proof.Machine.execPortSeek port training s
  | .portAlign port inv => Sys2Proof.Machine.execPortAlign port inv s
  | .portUp port rtt turn => Sys2Proof.Machine.execPortUp port rtt turn s
  | .portAlignTimeout port => Sys2Proof.Machine.execPortAlignTimeout port s
  | .portDown port bad ns => Sys2Proof.Machine.execPortDown port bad ns s
  | .ringRetrain src key port => Sys2Proof.Machine.execRingRetrain src key port s
  | .beaconSend port type => Sys2Proof.Machine.execBeaconSend port type s
  | .beaconRx port bits => Sys2Proof.Machine.execBeaconRx port bits s
  | .ringEnum src key => Sys2Proof.Machine.execRingEnum src key s
  | .autoEnumStart => Sys2Proof.Machine.execAutoEnumStart s
  | .enumBlockRx port count fin origin => Sys2Proof.Machine.execEnumBlockRx port count fin origin s
  | .enumBlockReturn port count fin origin => Sys2Proof.Machine.execEnumBlockReturn port count fin origin s
  | .enumSetRx port p => Sys2Proof.Machine.execEnumSetRx port p s
  | .enumDone => Sys2Proof.Machine.execEnumDone s
  | .keyOfferRx port p uid => Sys2Proof.Machine.execKeyOfferRx port p uid s
  | .keyReplyRx port p uid => Sys2Proof.Machine.execKeyReplyRx port p uid s
  | .keyGroupRx port p => Sys2Proof.Machine.execKeyGroupRx port p s
  | .keyConfirmRx port p => Sys2Proof.Machine.execKeyConfirmRx port p s
  | .keyStepTimeout worker => Sys2Proof.Machine.execKeyStepTimeout worker s
  | .streamFrameRx port worker e14 flags samples crc => Sys2Proof.Machine.execStreamFrameRx port worker e14 flags samples crc s
  | .frameTransmit => Sys2Proof.Machine.execFrameTransmit s
  | .frameAged => Sys2Proof.Machine.execFrameAged s
  | .frameMissing worker e => Sys2Proof.Machine.execFrameMissing worker e s
  | .armsRx port p => Sys2Proof.Machine.execArmsRx port p s
  | .armsApply => Sys2Proof.Machine.execArmsApply s
  | .rackISend => Sys2Proof.Machine.execRackISend s
  | .rackIRx port p => Sys2Proof.Machine.execRackIRx port p s
  | .digestSend => Sys2Proof.Machine.execDigestSend s
  | .digestRx port p => Sys2Proof.Machine.execDigestRx port p s
  | .epochBlockSend => Sys2Proof.Machine.execEpochBlockSend s
  | .epochBlockRx port floor co e phi => Sys2Proof.Machine.execEpochBlockRx port floor co e phi s
  | .syncHoldoverTimeout => Sys2Proof.Machine.execSyncHoldoverTimeout s
  | .breakRx port link heal => Sys2Proof.Machine.execBreakRx port link heal s
  | .armMove => Sys2Proof.Machine.execArmMove s
  | .linkHeal port => Sys2Proof.Machine.execLinkHeal port s
  | .epochNowLoRead src => Sys2Proof.Machine.execEpochNowLoRead src s
  | .pathDelayUpdate => Sys2Proof.Machine.execPathDelayUpdate s
  | .brkOpen src key => Sys2Proof.Machine.execBrkOpen src key s
  | .brkClose src key => Sys2Proof.Machine.execBrkClose src key s
  | .bracketLatch => Sys2Proof.Machine.execBracketLatch s
  | .bracketTimeout => Sys2Proof.Machine.execBracketTimeout s
  | .snap src key => Sys2Proof.Machine.execSnap src key s
  | .snapPeriod => Sys2Proof.Machine.execSnapPeriod s
  | .snapGatherDone => Sys2Proof.Machine.execSnapGatherDone s
  | .snapDeadline => Sys2Proof.Machine.execSnapDeadline s
  | .cmPrepare src key => Sys2Proof.Machine.execCmPrepare src key s
  | .cmAbort src key => Sys2Proof.Machine.execCmAbort src key s
  | .cmReconcile src key => Sys2Proof.Machine.execCmReconcile src key s
  | .prepareRx port p => Sys2Proof.Machine.execPrepareRx port p s
  | .ackRx port p => Sys2Proof.Machine.execAckRx port p s
  | .commitDecision => Sys2Proof.Machine.execCommitDecision s
  | .commitRx port p => Sys2Proof.Machine.execCommitRx port p s
  | .abortRx port p => Sys2Proof.Machine.execAbortRx port p s
  | .commitApply => Sys2Proof.Machine.execCommitApply s
  | .queryRx port p => Sys2Proof.Machine.execQueryRx port p s
  | .commitQueryTimer => Sys2Proof.Machine.execCommitQueryTimer s
  | .commitIndoubt => Sys2Proof.Machine.execCommitIndoubt s
  | .indoubtHoldEnd => Sys2Proof.Machine.execIndoubtHoldEnd s
  | .commitReportDeadline => Sys2Proof.Machine.execCommitReportDeadline s
  | .regRdRx port p ecc => Sys2Proof.Machine.execRegRdRx port p ecc s
  | .regWrRx port p => Sys2Proof.Machine.execRegWrRx port p s
  | .regRspRx port p => Sys2Proof.Machine.execRegRspRx port p s
  | .mirrorTimeout tid => Sys2Proof.Machine.execMirrorTimeout tid s
  | .statusSend => Sys2Proof.Machine.execStatusSend s
  | .statusRx port p => Sys2Proof.Machine.execStatusRx port p s
  | .rosterStale worker => Sys2Proof.Machine.execRosterStale worker s
  | .rosterBlind => Sys2Proof.Machine.execRosterBlind s
  | .rosterReadmit src key worker => Sys2Proof.Machine.execRosterReadmit src key worker s
  | .rosterAdopt src key worker => Sys2Proof.Machine.execRosterAdopt src key worker s
  | .rackResult => Sys2Proof.Machine.execRackResult s
  | .arcBlockEval hfe => Sys2Proof.Machine.execArcBlockEval hfe s
  | .arcCtrlWrite src w => Sys2Proof.Machine.execArcCtrlWrite src w s
  | .arcClear src key => Sys2Proof.Machine.execArcClear src key s
  | .arcRelearn src key => Sys2Proof.Machine.execArcRelearn src key s
  | .isoCtrlWrite src w => Sys2Proof.Machine.execIsoCtrlWrite src w s
  | .isoHalfEnd m80 m90 limit => Sys2Proof.Machine.execIsoHalfEnd m80 m90 limit s
  | .capArm src key => Sys2Proof.Machine.execCapArm src key s
  | .capForce src key => Sys2Proof.Machine.execCapForce src key s
  | .capRelease src key => Sys2Proof.Machine.execCapRelease src key s
  | .capAbort src key => Sys2Proof.Machine.execCapAbort src key s
  | .capPostComplete => Sys2Proof.Machine.execCapPostComplete s
  | .capSettleEnd => Sys2Proof.Machine.execCapSettleEnd s
  | .xspiRead a n ecc => Sys2Proof.Machine.execXspiRead a n ecc s
  | .xspiWrite a words cut => Sys2Proof.Machine.execXspiWrite a words cut s
  | .xspiReadStatus n => Sys2Proof.Machine.execXspiReadStatus n s
  | .xspiStreamRead n => Sys2Proof.Machine.execXspiStreamRead n s
  | .xspiBadOpcode => Sys2Proof.Machine.execXspiBadOpcode s
  | .mirrorReadyExpiry => Sys2Proof.Machine.execMirrorReadyExpiry s
  | .hostDescentWaitEnd a words => Sys2Proof.Machine.execHostDescentWaitEnd a words s
  | .expStart src key => Sys2Proof.Machine.execExpStart src key s
  | .expStop src key => Sys2Proof.Machine.execExpStop src key s
  | .expFlush src key => Sys2Proof.Machine.execExpFlush src key s
  | .i2cWrite dev a words cut => Sys2Proof.Machine.execI2cWrite dev a words cut s
  | .i2cRead dev a n ecc => Sys2Proof.Machine.execI2cRead dev a n ecc s
  | .gpioOutWrite src w => Sys2Proof.Machine.execGpioOutWrite src w s
  | .gpioOutSet src w => Sys2Proof.Machine.execGpioOutSet src w s
  | .gpioOutClr src w => Sys2Proof.Machine.execGpioOutClr src w s
  | .gpioCfgWrite src n w => Sys2Proof.Machine.execGpioCfgWrite src n w s
  | .gpioLevelChange n high => Sys2Proof.Machine.execGpioLevelChange n high s
  | .icuLineDeliver line => Sys2Proof.Machine.execIcuLineDeliver line s
  | .icuLineWithdraw line => Sys2Proof.Machine.execIcuLineWithdraw line s
  | .icuClaim src t => Sys2Proof.Machine.execIcuClaim src t s
  | .icuDone src t line => Sys2Proof.Machine.execIcuDone src t line s
  | .icuSwiWrite src w => Sys2Proof.Machine.execIcuSwiWrite src w s
  | .icuLineWrite src line w => Sys2Proof.Machine.execIcuLineWrite src line w s
  | .icuModTimeout t => Sys2Proof.Machine.execIcuModTimeout t s
  | .icuStartupRoutingEnd => Sys2Proof.Machine.execIcuStartupRoutingEnd s
  | .faultMessage => Sys2Proof.Machine.execFaultMessage s
  | .quietPeriodEnd => Sys2Proof.Machine.execQuietPeriodEnd s
  | .fltRelease src key => Sys2Proof.Machine.execFltRelease src key s
  | .fltClearRec src key => Sys2Proof.Machine.execFltClearRec src key s
  | .fltPendClear src w => Sys2Proof.Machine.execFltPendClear src w s
  | .fltFirstClear src w => Sys2Proof.Machine.execFltFirstClear src w s
  | .fltInject src w => Sys2Proof.Machine.execFltInject src w s
  | .wdgServiceWrite src n w => Sys2Proof.Machine.execWdgServiceWrite src n w s
  | .wdgKeyArrival n => Sys2Proof.Machine.execWdgKeyArrival n s
  | .wdgArmExpiry n => Sys2Proof.Machine.execWdgArmExpiry n s
  | .wdgExpiry n => Sys2Proof.Machine.execWdgExpiry n s
  | .wdgClkStop n cnt => Sys2Proof.Machine.execWdgClkStop n cnt s
  | .wdgCfgWrite src n w => Sys2Proof.Machine.execWdgCfgWrite src n w s
  | .tmCheckin src key slot => Sys2Proof.Machine.execTmCheckin src key slot s
  | .tmPeriodEnd => Sys2Proof.Machine.execTmPeriodEnd s
  | .lockstepMismatch pc0 pc1 => Sys2Proof.Machine.execLockstepMismatch pc0 pc1 s
  | .keeperRestart => Sys2Proof.Machine.execKeeperRestart s
  | .keeperHandback => Sys2Proof.Machine.execKeeperHandback s
  | .keeperAttemptsReset => Sys2Proof.Machine.execKeeperAttemptsReset s
  | .keepRelease src key => Sys2Proof.Machine.execKeepRelease src key s
  | .thmWarn ts => Sys2Proof.Machine.execThmWarn ts s
  | .thmLevelChange ts => Sys2Proof.Machine.execThmLevelChange ts s
  | .skipFactorApply => Sys2Proof.Machine.execSkipFactorApply s
  | .thmSensorFault ts => Sys2Proof.Machine.execThmSensorFault ts s
  | .thmShutdown ts => Sys2Proof.Machine.execThmShutdown ts s
  | .thmShutdownRelease ts => Sys2Proof.Machine.execThmShutdownRelease ts s
  | .rtcSecond => Sys2Proof.Machine.execRtcSecond s
  | .rtcPeriodicWake => Sys2Proof.Machine.execRtcPeriodicWake s
  | .rtcCalibrate => Sys2Proof.Machine.execRtcCalibrate s
  | .rtcTimeRead src r => Sys2Proof.Machine.execRtcTimeRead src r s
  | .rtcFreezeEnd src => Sys2Proof.Machine.execRtcFreezeEnd src s
  | .rtcSet src key => Sys2Proof.Machine.execRtcSet src key s
  | .pwronClr src key => Sys2Proof.Machine.execPwronClr src key s
  | .rtcAlarmWrite src cfg w => Sys2Proof.Machine.execRtcAlarmWrite src cfg w s
  | .rtcPwronWrite src w => Sys2Proof.Machine.execRtcPwronWrite src w s
  | .pwronPulseEnd => Sys2Proof.Machine.execPwronPulseEnd s
  | .ceWindowExpiry => Sys2Proof.Machine.execCeWindowExpiry s
  | .poisonConsumed off => Sys2Proof.Machine.execPoisonConsumed off s
  | .recRecordDone poison err => Sys2Proof.Machine.execRecRecordDone poison err s
  | .recClrEvt src key => Sys2Proof.Machine.execRecClrEvt src key s
  | .recClrTherm src key => Sys2Proof.Machine.execRecClrTherm src key s
  | .otpRead src key margin => Sys2Proof.Machine.execOtpRead src key margin s
  | .otpProg src key margin => Sys2Proof.Machine.execOtpProg src key margin s
  | .otpRepair src key margin => Sys2Proof.Machine.execOtpRepair src key margin s
  | .otpFinalise src key margin region => Sys2Proof.Machine.execOtpFinalise src key margin region s
  | .otpBurnAttemptDone fail => Sys2Proof.Machine.execOtpBurnAttemptDone fail s
  | .lcAdvance src key => Sys2Proof.Machine.execLcAdvance src key s
  | .lcDecom src key => Sys2Proof.Machine.execLcDecom src key s
  | .rekey src key worker => Sys2Proof.Machine.execRekey src key worker s
  | .rngRestart src key => Sys2Proof.Machine.execRngRestart src key s
  | .rngHealthFail apt => Sys2Proof.Machine.execRngHealthFail apt s
  | .svcChallenge src key level => Sys2Proof.Machine.execSvcChallenge src key level s
  | .svcRespond src key => Sys2Proof.Machine.execSvcRespond src key s
  | .svcPassword src key level => Sys2Proof.Machine.execSvcPassword src key level s
  | .svcDrop src key => Sys2Proof.Machine.execSvcDrop src key s
  | .svcDebugOpen src key => Sys2Proof.Machine.execSvcDebugOpen src key s
  | .svcDebugClose src key => Sys2Proof.Machine.execSvcDebugClose src key s
  | .nonceExpiry => Sys2Proof.Machine.execNonceExpiry s
  | .lockoutEnd => Sys2Proof.Machine.execLockoutEnd s
  | .sessionLapse => Sys2Proof.Machine.execSessionLapse s
  | .bounceWindowExpiry => Sys2Proof.Machine.execBounceWindowExpiry s
  | .streamFrameForward port worker e14 flags samples crc => Sys2Proof.Machine.execStreamFrameForward port worker e14 flags samples crc s
  | .invalidBlockRx port hdr w => Sys2Proof.Machine.execInvalidBlockRx port hdr w s
  | .contactorSensedChange p0 p1 p2 => Sys2Proof.Machine.execContactorSensedChange p0 p1 p2 s
  | .rngStartupTestDone ok => Sys2Proof.Machine.execRngStartupTestDone ok s

end Sys2Proof.Machine
end

