-- ==== Sys2Proof/Machine/Tick.lean ====
section
/-!
DEFINITION. What one microsecond of the device's own clocks brings when no command waits: the epoch, the counters that count time, and the
measured values that the device refreshes by itself (log entries 6 and 7).
-/
namespace Sys2Proof.Machine

/-- The epoch advances by 1 per microsecond (R363). -/
def epochTick : Prog := epochEng fun e => if e.running then { e with count := (e.count + 1) % 2 ^ 48 } else e

/-- A field takes an open value: what the converter measures. (DEDUCED, log entry 7) -/
def measure (x : Fld) : Prog := withFree fun k => set x k

/-- The feeds, the bus and the pack as the block's comparators see them follow what the converter has just measured (R181-R193). -/
def feedSeen : Prog := .dyn fun s => feedEng fun e => { e with
    vA := s.f FEED_VA_V
    vB := s.f FEED_VB_V
    vpb := s.f FEED_VPB_V
    pack := s.f PATH_VBAK_MV }

/-- The free-running grids of 50 µs and 100 µs: supplies, feeds, pack, and the manager's coils (REG_VSYS, R203, R205, R208). (DEDUCED, log entry 7) -/
def gridTick : Prog := .dyn fun s =>
  blk [whenB (s.now % 100 == 0)
      (blk [forEach [REG_VSYS_MV10, FEED_VA_V, FEED_VB_V, FEED_VPB_V, FEED_IEF_I, PATH_VBAK_MV, PATH_IBAK_MA] measure, feedSeen, efLook]),
    whenB (s.now % 50 == 0 && s.isMgr) (forEach [0, 1, 2] fun n => measure (CONT_COIL_MA n))]

/-- The rails that switch (R158): a microsecond of their periods. -/
def railTick : Prog := .dyn fun s => forEach ((List.range 4).filter fun r => s.b (PHC_STATUS_ON.bit r)) railUs

/-- The limiters of a charge that runs (R197), shown in CHG_STATUS: the front die at or above the warning threshold, the pack strictly
below T_COLD, and the e-fuse's share. (DEDUCED, log entries 97, 114) -/
def chgLimits : Prog := .dyn fun s =>
  let run := 2 ≤ s.chg && s.chg ≤ 5
  let die := (s.dieTemp 0).getD (s.i THM_MAX_T_F)
  blk [setB (CHG_STATUS_LIMITS.bit 0) (run && 10 * (s.f THM_THR_WARN : Int) ≤ die),
    setB (CHG_STATUS_LIMITS.bit 2) (run && s.b CHG_TEMP_TEN && s.packTemp < 100 * s.i CHG_TEMP_T_COLD),
    .dyn fun t => setB (CHG_STATUS_LIMITS.bit 1) (run && 0 < t.shareExcess t.chgThermal)]

/-- The end of a millisecond: the charger's suspend conditions, its limiters and its timer, the leases, the age of the rack
current, and the ring's load (R197, R198, R362). (DEDUCED, log entry 97) -/
def msTick : Prog := whenS (fun s => s.now % 1000 == 0)
  (blk [trimMs, chgPathCheck, chgLimits, chgMs, contactLook, leaseLook, estLook, ringMs, rackMs, mirExpiry, ceJudge])

/-- What falls due at the present epoch: brackets, snapshots, commits (R372-R387); and packets and blocks that have not come (R370, R377). -/
def epochUs : Prog :=
  blk [whenS (fun s => s.eng.epoch.running) (blk [bracketLatched, brkTimeout, cmDecide, cmApply, cmQuery, cmInDoubt, cmHoldEnd, cmDeadline, snapDue,
      snapDone, snapLate]),
    pathUs, syncTimeout, .dyn fun s => forEach s.eng.epoch.mir fun r => mirTimeout r.tid]

/-- One microsecond. (DESIGN CHOICE, log entry 6) -/
def tick : Prog := blk [epochTick, epochUs, ringUs, rackUs, balUs, slotLook, thmUs, orShelf rtcUs, gridTick, railTick, limTick, msTick, secUs, keyUs, wdgUs, fltUs, icuUs]

/-- An idle step: model time advances by one microsecond. (DESIGN CHOICE, log entry 6; DEDUCED, log entry 94) -/
def idle (s : State) : State := tick.run { s with now := s.now + 1 }

end Sys2Proof.Machine
end

