-- ==== Sys2Proof/Machine/Pins.lean ====
section
/-!
DEFINITION. The device's output balls as the state gives them (R38, R101, R109): open-drain lines, GPIO, gate drives, coils and the
test port.  The phase gates are State.hg and State.lg, the coils State.ctOn, the feed and pack gates State.efG, State.pcG, State.dsgG and
State.chgG, the insulation monitor's injection State.isoOut.
-/
namespace Sys2Proof.Machine

/-- What a digital ball shows: driven low or high, or not driven. -/
inductive Level where
  | low
  | high
  | hiZ
  deriving DecidableEq, Repr

def Level.drive (b : Bool) : Level := if b then .high else .low

/-- An open-drain ball pulls low or is released. -/
def Level.pull (b : Bool) : Level := if b then .low else .hiZ

/-- FAULT_N (R109, R471). -/
def State.faultBall (s : State) : Level := .pull s.faultLow

/-- PFW_N: low during power-on reset, then as its supervisors say (R109, R125). -/
def State.pfwBall (s : State) : Level := .pull (s.eng.boot.por || s.b SUP_PFW_LOW)

/-- HIRQ0_N and HIRQ1_N (R440), released until core release and in DORMANT and SHELF (R109, R441). -/
def State.hirqBall (s : State) (k : Nat) : Level := .pull (s.released && 2 ≤ s.mode && s.b (if k == 0 then HOST_STATUS_HIRQ0 else HOST_STATUS_HIRQ1))

/-- PWRON (R516). -/
def State.pwronBall (s : State) : Level := .drive (s.b RTC_STATUS_PWRON)

/-- GPIO `n` (R43, R109, R444, R447, R449): undriven in SHELF, else the slot that owns it drives it both ways, whatever GPIO_CFG says, else GPIO_CFG and GPIO_OUT do;
open-drain drives low only. -/
def State.gpioBall (s : State) (n : Nat) : Level :=
  let v := bitOf (s.f GPIO_OUT_VALUE) n
  if s.mode == 0 then .hiZ else match s.gpioDrive n with
  | some d => .drive d
  | none => if s.f (GPIO_CFG_STATE n) != 3 then .hiZ else if s.b (GPIO_CFG_OD n) then .pull (!v) else .drive v

/-- FDG (R210, R212). -/
def State.fdgBall (s : State) : Level := .drive (s.isMgr && s.b CONT_STATUS_FD_ON)

/-- The bleed switch of cell channel `c` conducts (R267), off until core release (R109). -/
def State.bleedOn (s : State) (c : Nat) : Bool := s.released && bitOf (s.f BAL_BLEED_ON_MASK) c

/-- NODEk is driven to CELLk + 10 V rather than to CELLk (R272); held low in the manager (R13) and until core release
(R109). -/
def State.nodeOn (s : State) (k : Nat) : Bool := s.isWrk && s.released && bitOf (s.f BAL_NODE_CMD_MAP) k

/-- The gates of the shuttle's bridges, SHP0, SHP1, SHS0 and SHS1 (R38, R271): low until core release (R109), in the manager (R13) and while the
bridges are stopped (R275); `none` while they switch at FSW, at instants that the spec does not give.  The secondary's polarity is BalEng.oddPos. -/
def State.shGate (s : State) : Option Level :=
  if s.isWrk && s.released && (s.sh == 1 || s.sh == 5 || s.sh == 6) then none else some .low

/-- Loop current that FLOOP_OUT sources, in mA (R214): a manager's while LOOP_EN is 1, outside SAFEHOLD (R215), a worker's while its own loop
input lets it; none until core release (R109). -/
def State.floopOut (s : State) : Nat := if s.released && (if s.isMgr then s.loopSourcing else s.eng.cont.loopOut) then 10 else 0

/-- TDO: no row of the table clocks the test port, so that it stays undriven (R109, R560). -/
def State.tdoBall (_ : State) : Level := .hiZ

end Sys2Proof.Machine
end

