-- ==== Sys2Proof/Safety.lean ====
section
/-!
DEFINITION. What the statements speak of: the form that the tables keep, when an access takes effect, and the levels of the output balls
that the registers decide.
-/
namespace Sys2Proof.Machine

/-- The windows' memory is in its canonical form: addresses strictly rising, no byte equal to what an unlisted address reads as. -/
def Memory.wf (m : List Host.Cell) : Bool := canonical memDefault m

/-- Every table of the state is in its canonical form. -/
def State.tablesOk (s : State) : Bool :=
  canonical regReset s.regs && canonical regReset s.shadow && canonical regReset s.staged && Memory.wf s.mem && canonical noMark s.marks &&
    canonical otpDefault s.otp

/-- A write of `w` at `a` by `src` reaches the register and is taken by it: outcome OK (R63). -/
def State.takes (s : State) (src : Src) (a : Nat) (w : Word) : Bool :=
  s.served src && mapped a && !s.deniedTo src (s.levelNeed a w) && !s.watchShut src a && !s.inert a && s.writeFault src a w == none

/-- A packet of kind `kind` at port `port`, which is UP, is for this device, authentic and newer than the last one accepted from its sender
(R341, R351, R353). -/
def State.hears (s : State) (port kind : Nat) (p : Pkt) : Bool :=
  let ahead := (p.seq + 2 ^ 30 - countOf s.eng.ring.seqIn (if p.dst == 0x3F then 64 + p.src else p.src) % 2 ^ 30) % 2 ^ 30
  s.portUp port && p.kind == kind && s.tagOk p && 1 ≤ ahead && ahead ≤ 2 ^ 29 &&
    (if s.isMgr then p.dst == 0 && p.src != 0 && s.eng.ring.keys.contains p.src
    else s.isWrk && s.eng.ring.keys != [] && (s.isDst p.dst || p.dst == 0x3F))

/-- The next packet to `dst` does not bring the sequence number at which the manager repeats the key setup (R564). -/
def State.seqFree (s : State) (dst : Nat) : Bool := (countOf s.eng.ring.seqOut dst + 1) % 2 ^ 30 != 0x3F000000

/-- Every bit that is 1 in `v` is 1 in `w`. -/
def covers (w v : Word) : Bool := v &&& w == v

/-- The level of FAULT_N (R474): true when it is driven low. -/
def State.faultN (s : State) : Bool := s.faultLow

/-- The command answers a next state, of which `post` holds. -/
def completes (i : Instr) (s : State) (post : State → Prop) : Prop := ∃ t, exec i s = Host.Outcome.next t ∧ post t

/-- From `s` to `t` every register outside the list `l` and the pages `pg` reads as before, and so do every shadow and staging copy, every
byte of the windows with its marks and every OTP row. -/
def sameBut (l pg : List Nat) (s t : State) : Prop :=
  (∀ a, a ∉ l → pageOf a ∉ pg → t.reg a = s.reg a) ∧ (∀ a, t.shd a = s.shd a) ∧ (∀ a, t.stg a = s.stg a) ∧
    (∀ a, t.byte a = s.byte a) ∧ (∀ a, t.mark a = s.mark a) ∧ ∀ r, t.otpRow r = s.otpRow r

/-- The same of registers, staging copies and OTP rows alone: for what latches a shadow or writes a window. -/
def sameRegs (l pg : List Nat) (s t : State) : Prop :=
  (∀ a, a ∉ l → pageOf a ∉ pg → t.reg a = s.reg a) ∧ (∀ a, t.stg a = s.stg a) ∧ ∀ r, t.otpRow r = s.otpRow r

/-- Every register outside the list `l` and the pages `pg` reads as before. -/
def keptReg (l pg : List Nat) (s t : State) : Prop := ∀ a, a ∉ l → pageOf a ∉ pg → t.reg a = s.reg a

/-- Every staging copy outside the list `l` is as before. -/
def keptStg (l : List Nat) (s t : State) : Prop := ∀ a, a ∉ l → t.stg a = s.stg a

/-- Every shadow copy outside the list `l` is as before. -/
def keptShd (l : List Nat) (s t : State) : Prop := ∀ a, a ∉ l → t.shd a = s.shd a

/-- Every byte of the windows is as before, and so is every mark. -/
def keptMem (s t : State) : Prop := (∀ a, t.byte a = s.byte a) ∧ ∀ a, t.mark a = s.mark a

/-- Every OTP row outside the list `l` is as before. -/
def keptOtp (l : List Nat) (s t : State) : Prop := ∀ r, r ∉ l → t.otpRow r = s.otpRow r

/-- Beside page MODE, what a wake event may touch: an ascent from DORMANT starts the oscillator and the fill (R87, R591, R525). -/
def wakeRegs : List Nat := [CLK_STATUS, MEM_STATUS]

/-- What a message that finds its page full touches (R464). -/
def dropRegs : List Nat := [FLT_CNT, FLT_EVT_RAW]

end Sys2Proof.Machine
end

