-- ==== Sys2Proof/WellFormed.lean ====
section
/-!
DEFINITION. Which commands the device can be sent: the operands that no type bounds are of the size that the spec gives them.
-/
namespace Sys2Proof

/-- A signed value of `w` bits. -/
def fitsSigned (w : Nat) (i : Int) : Bool := decide (-2 ^ (w - 1) ≤ i) && decide (i < 2 ^ (w - 1))

/-- The 32 codes of 16 bits of a frame on the link (R242, R348). -/
def samplesWf (l : List Nat) : Bool := l.length == 32 && l.all (· < 2 ^ 16)

/-- A control packet: 6-bit addresses, 8-bit kind, 30-bit SEQ, 1 to 62 blocks and a tag of 64 bits (R351, R353). -/
def Pkt.wf (p : Pkt) : Bool :=
  p.dst < 64 && p.src < 64 && p.kind < 256 && p.seq < 2 ^ 30 && 1 ≤ p.data.length && p.data.length ≤ 62 && p.data.all (· < 2 ^ 64) && p.tag < 2 ^ 64

/-- Conversions of the six sensors, at most 16 in a row, in 0.1 °C (R499). -/
def readingsWf (ts : List (List Int)) : Bool := ts.length ≤ 16 && ts.all fun t => t.length == 6 && t.all (fitsSigned 16)

/-- The words of one transaction: none is more than what the status word counts (R430). -/
def wordsWf (l : List Word) : Bool := l.length < 2 ^ 16

/-- What the converter may hand over: a code of 16 bits (R242). -/
def codesWf (l : List Int) : Bool := l.all (fitsSigned 16)

/-- Whether the command can be sent.  Rows whose operands are bounded by their types are well formed as they stand. -/
def Instr.wf : Instr → Bool
  | .framePublish raw _ => raw.length == 32 && codesWf raw
  | .burstDone codes => codes.length ≤ 2048 && codesWf codes
  | .directResultReady _ code _ => fitsSigned 16 code
  | .pathTestChannel zero scale => fitsSigned 16 zero && fitsSigned 16 scale
  | .streamFrameRx _ _ _ _ samples _ => samplesWf samples
  | .streamFrameForward _ _ _ _ samples _ => samplesWf samples
  | .rippleRx _ p => p.wf
  | .eisMeasureEnd cur => cur.length ≤ 60000000 && cur.all (fitsSigned 32)
  | .thmWarn ts => readingsWf ts
  | .thmLevelChange ts => readingsWf ts
  | .thmSensorFault ts => readingsWf ts
  | .thmShutdown ts => readingsWf ts
  | .thmShutdownRelease ts => readingsWf ts
  | .xspiRead _ n _ => n < 2 ^ 16
  | .xspiWrite _ words _ => wordsWf words
  | .xspiReadStatus n => n < 2 ^ 16
  | .xspiStreamRead n => n < 2 ^ 16
  | .i2cRead _ _ n _ => n < 2 ^ 16
  | .i2cWrite _ _ words _ => wordsWf words
  | .hostDescentWaitEnd _ words => wordsWf words
  | .summaryRx _ p => p.wf
  | .keyOfferRx _ p _ => p.wf
  | .keyReplyRx _ p _ => p.wf
  | .keyGroupRx _ p => p.wf
  | .keyConfirmRx _ p => p.wf
  | .armsRx _ p => p.wf
  | .rackIRx _ p => p.wf
  | .digestRx _ p => p.wf
  | .enumSetRx _ p => p.wf
  | .prepareRx _ p => p.wf
  | .ackRx _ p => p.wf
  | .commitRx _ p => p.wf
  | .abortRx _ p => p.wf
  | .queryRx _ p => p.wf
  | .regRdRx _ p _ => p.wf
  | .regWrRx _ p => p.wf
  | .regRspRx _ p => p.wf
  | .statusRx _ p => p.wf
  | .tripRequest _ ps codes => ps < 1000000 && codes.length ≤ 2048 && codesWf codes
  | _ => true

end Sys2Proof
end

