-- ==== Sys2Proof/Certificates/Slice0/Obligations.lean ====
section
/-!
DEFINITION. The statements for the provers, from the numbered rules of spec/.
-/
open Sys2Proof Sys2Proof.Machine

/-- Every command of clocks, registers, modes, resets, regulators, the sequencer, the phase controller, feeds and contactors
completes with its own effect: for every state and operands that meet the conditions of its clause, exec answers a next state in
which the effect named there has happened. The rest of each effect, and what stays unchanged, is in the statements behind.
Completing here, by constructor: aonPowerUp, vsysRiseThreshold, vsysFallThreshold, internalMonitorFall, vbkupAvailable,
vbkupUnavailable, rootMissingEdge, rootMeasWindowEnd, mpllReacquired, mpllLock, rootStartTimeout, lpllLock, mpllUnlock, lpllUnlock,
rootRetry, rootRetrySuccess, rootRetryFail, lfxoQualified, lfxoLoss, clkLfCfgWrite, clkSteerWrite, registerWrite, shadowWrite,
lockWrite, stgRegisterWrite, stageDiscard, stageView, modeReqPin, modeReqService, modeReqSafehold, modeReqFactory, modeReqAuto,
modeLtolWrite, modeAttPerWrite, modeDormPerWrite, modeCfgWrite, modeIdleIWrite, ascentDone, dwellExpiry, descentDone, wakePinRise,
stackWake, wakeHoldExpiry, dormantCheckTimer, dormantCheckDone, resetNFall, resetNAccept, resetNRise, rstCmdSys, rstCmdCore,
fixedRailStep, vsysQualificationEnd, fixedRailsSettled, fixedRailTimeout, fixedRailRetry, otpLoadDone, fillDone, patchVerifyDone,
coreRelease, regBkVsetWrite, regLdVsetWrite, regRampDone, buckIlimPersist, ldoIlimPersist, svCfgWrite, svFault, svConditionClear,
svShutdownTimer, seqGo, seqStop, seqSlotOn, seqSlotOff, seqClear, seqSlotStart, seqSlotUp, seqUpTimeout, seqSlotStop, seqSlotDown,
seqSlotStuck, seqStuckClear, seqMinOffElapsed, vsysSlotRetry, phcReenable, phcRailVsetWrite, railRampDone, railPowerGood,
railPgLoss, cycleLimitTrip, phaseIlimPersist, undershootDetect, undershootEnd, overshootDetect, overshootEnd, ustHoldoffEnd,
contArmWindowEnd, phaseLoss, feedInLimits, feedValid, feedInvalid, oringReverse, oringRedrive, startLogicPowerUp, prechargeDone,
pcGateOffDelay, prechargeTimeout, prechargeCoolEnd, efuseTimedTrip, efuseFastTrip, efuseCoolEnd, efuseTripCountReset,
fetCheckFinding, handoverComplete, packLow, packPresent, packAbsent, supplementStart, supplementEnd, feedEfOn, feedEfOff,
feedFetClear, chgStart, chgStop, chgClear, clearLockout, keepalive, pathFetClear, chgPackWrite, chgEligible, chgDetectDone,
chgPrecondDone, chgCvEntry, chgTerminate, chgTopoffDone, chgRecharge, chgSafetyTimer, chgOvervolt, chgSuspend, chgResume,
hostContactTimeout, contClose, contOpen, ftClear, weldClear, loopClear, contNegSensed, contPullTimeout, contPrechargeReached,
contPcTimeout, contPosTime, contReleaseCheck, contSagFault, contOpenDelayEnd, contNegDelayEnd, contCheckEntry, weldEvaluation,
coilHoldStart, coilOpenFault, coilShortFault, fastDisconnectTrip, ftBlankingEnd, floopInputLost, floopInputOk, floopResume. -/
def Obligations.supplyAndPowerCommandsComplete : Prop :=
  (∀ (vsys vbkup role testen a0 : Bool) (s : State), ∃ t, exec (.aonPowerUp vsys vbkup role testen a0) s = .next t ∧
    t.reg RST_CAUSE = 0xC000000C#32) ∧
  (∀ (role testen a0 : Bool) (s : State), bitOf s.eng.boot.hold 0 = false →
    ∃ t, exec (.vsysRiseThreshold role testen a0) s = .next t ∧ t.f RST_BOOT_STEP = 1) ∧
  (∀ (s : State), ∃ t, exec .vsysFallThreshold s = .next t ∧ t.eng.clk.vsys = false) ∧
  (∀ (k : Fin 6) (role testen a0 : Bool) (s : State), s.b (REG_INT_MON_ABOVE.bit k.val) = true → bitOf s.eng.boot.hold 0 = false →
    ∃ t, exec (.internalMonitorFall k role testen a0) s = .next t ∧ t.f RST_BOOT_STEP = 1) ∧
  (∀ (s : State), ∃ t, exec .vbkupAvailable s = .next t ∧ t.eng.clk.vbkup = true) ∧
  (∀ (s : State), ∃ t, exec .vbkupUnavailable s = .next t ∧ t.eng.clk.vbkup = false) ∧
  (∀ (s : State), s.rootXo = true → ∃ t, exec .rootMissingEdge s = .next t ∧ t.b CLK_STATUS_HOLDOVER = true) ∧
  (∀ (freq : Nat) (s : State), s.clocksOn = true → monLimit s.eng.clk.lfXo (s.f CLK_ROOT_CFG_MON_TOL) + 4000000 ≥ freq →
    freq + monLimit s.eng.clk.lfXo (s.f CLK_ROOT_CFG_MON_TOL) ≥ 4000000 → ∃ t, exec (.rootMeasWindowEnd freq) s = .next t ∧
    t.f CLK_MON_MEAS_FREQ = freq) ∧
  (∀ (s : State), s.clocksOn = true → s.b CLK_STATUS_HOLDOVER = true → ∃ t, exec .mpllReacquired s = .next t ∧
    t.b CLK_STATUS_HOLDOVER = false) ∧
  (∀ (s : State), s.eng.clk.startWait = true → ∃ t, exec .mpllLock s = .next t ∧ t.b CLK_STATUS_MPLL_LOCK = true) ∧
  (∀ (s : State), s.eng.clk.startWait = true → s.mode ≠ 1 → ∃ t, exec .rootStartTimeout s = .next t ∧
    t.b CLK_STATUS_MPLL_LOCK = true) ∧
  (∀ (s : State), s.b RST_BOOT_HALTED = false → s.eng.clk.lpllOn = true → s.rootXo = true → 3 ≤ s.mode →
    ∃ t, exec .lpllLock s = .next t ∧ t.b CLK_STATUS_LPLL_LOCK = true) ∧
  (∀ (s : State), s.rootXo = true → s.b CLK_STATUS_MPLL_LOCK = true → ∃ t, exec .mpllUnlock s = .next t ∧
    t.b CLK_STATUS_MPLL_LOCK = false) ∧
  (∀ (s : State), s.rootXo = true → s.b CLK_STATUS_LPLL_LOCK = true → ∃ t, exec .lpllUnlock s = .next t ∧
    t.b CLK_STATUS_LPLL_LOCK = false) ∧
  (∀ (src : Src) (key : BitVec 16) (s : State), s.takes src CLK_CMD (keyed key (2 ^ CLK_CMD_ROOT_RETRY.lo)) = true →
    s.clocksOn = true → s.b CLK_STATUS_ROOT_RC = true → s.eng.clk.startWait = false → ∃ t, exec (.rootRetry src key) s = .next t ∧
    t.eng.clk.retry = true) ∧
  (∀ (s : State), s.eng.clk.retry = true → ∃ t, exec .rootRetrySuccess s = .next t ∧ t.eng.clk.retry = false) ∧
  (∀ (s : State), s.eng.clk.retry = true → s.clocksOn = true → ∃ t, exec .rootRetryFail s = .next t ∧ t.eng.clk.retry = false) ∧
  (∀ (s : State), s.eng.clk.lfTry = true → s.b CLK_LF_CFG_SEL_RC = false → ∃ t, exec .lfxoQualified s = .next t ∧
    t.eng.clk.lfXo = true) ∧
  (∀ (s : State), s.eng.clk.lfXo = true → ∃ t, exec .lfxoLoss s = .next t ∧ t.eng.clk.lfXo = false) ∧
  (∀ (src : Src) (w : Word) (s : State), s.takes src CLK_LF_CFG w = true → ∃ t, exec (.clkLfCfgWrite src w) s = .next t ∧
    t.f CLK_LF_CFG_SEL_RC = CLK_LF_CFG_SEL_RC.of w) ∧
  (∀ (src : Src) (w : Word) (s : State), s.takes src CLK_STEER w = true → ∃ t, exec (.clkSteerWrite src w) s = .next t ∧
    t.i CLK_STEER_STEER = clampInt (-50000) 50000 (signed 20 (CLK_STEER_STEER.of w))) ∧
  (∀ (src : Src) (a : BitVec 18) (w : Word) (s : State), s.takes src a.toNat w = true →
    [some Acc.rw, some Acc.rwl, some Acc.rwMgr].contains ((rowAt a.toNat).map fun r => r.acc) = true →
    [0x01C, 0x028].contains (offOf a.toNat) = false → pageOf a.toNat ≠ pgMODE →
    ([CLK_LF_CFG, CLK_STEER, REG_BK_VSET 3, REG_LD_VSET 3, SV_CFG 0, PHC_RAIL_VSET 0, CHG_PACK, CHG_VREG, AFE_CFG, AFE_TMUX,
      AFE_CAL_U 0, SCAN_REQ_CFG, BAL_SH_I, BAL_BLEED, EIS_VIEW, ARC_CTRL, ISO_CTRL, GPIO_OUT, GPIO_CFG 0, ICU_SWI, ICU_T_MOD 3,
      ICU_LINE 0, WDG_CFG 0, RTC_ALARM, RTC_ALM_CFG, RTC_PWRON] : List Nat).contains (canon a.toNat) = false →
    ([RTC_TRIM, MODE_ATT_PER, MODE_CFG, MEM_CFG, THM_CFG, THM_THR, WDG_TM_CFG, FLT_CFG, BAL_PASS_CFG, FEED_QUAL, CONT_SENSE,
      ICU_GROUP, ICU_CFG] : List Nat).contains a.toNat = false → ∃ t, exec (.registerWrite src a w) s = .next t ∧
    t.reg a.toNat = s.norm a.toNat (s.reg a.toNat) w) ∧
  (∀ (src : Src) (page : Fin 40) (w : Word) (s : State), s.takes src (hdrShadow page.val) w = true → hasShd page.val = true →
    getBits w 0 2 = 1 → bitOf w.toNat 2 = true → s.b (shadowFrozen page.val) = false →
    ∃ t, exec (.shadowWrite src page w) s = .next t ∧ keptShd (shdAddrs page.val) s t) ∧
  (∀ (src : Src) (page : Fin 40) (key : BitVec 16) (lock : Bool) (s : State),
    s.takes src (page.val * 0x1000 + 0x018) (keyed key (b2n lock)) = true → ∃ t, exec (.lockWrite src page key lock) s = .next t ∧
    t.b ⟨page.val * 0x1000 + 0x018, 0, 1⟩ = (s.b ⟨page.val * 0x1000 + 0x018, 0, 1⟩ || lock)) ∧
  (∀ (src : Src) (a : BitVec 18) (w : Word) (s : State), s.takes src a.toNat w = true →
    ((rowAt a.toNat).map fun r => r.acc) = some .stg → pageOf a.toNat ≠ pgBAL → ∃ t, exec (.stgRegisterWrite src a w) s = .next t ∧
    t.stg a.toNat = s.norm a.toNat (s.stg a.toNat) w) ∧
  (∀ (src : Src) (page : Fin 40) (view : Bool) (s : State),
    s.takes src (hdrStage page.val) (BitVec.ofNat 32 (8 + b2n view)) = true → hasStg page.val = true →
    s.b (stageHeld page.val) = false → ∃ t, exec (.stageDiscard src page view) s = .next t ∧
    (pageAddrs page.val .stg).all (fun a => t.stg a == s.reg a) = true) ∧
  (∀ (src : Src) (page : Fin 40) (view : Bool) (s : State), s.takes src (hdrStage page.val) (BitVec.ofNat 32 (b2n view)) = true →
    hasStg page.val = true → ∃ t, exec (.stageView src page view) s = .next t ∧ t.b (stageView page.val) = view) ∧
  (∀ (src : Src) (tg : Fin 5) (s : State), s.takes src MODE_REQ (BitVec.ofNat 32 tg.val) = true → s.accepts 0 = true →
    ∃ t, exec (.modeReqPin src tg) s = .next t ∧ t.f MODE_REQ_TARGET = tg.val) ∧
  (∀ (src : Src) (s : State), s.takes src MODE_REQ 5 = true → s.accepts 0 = true → s.contOpenNow = true →
    ∃ t, exec (.modeReqService src) s = .next t ∧ t.f MODE_REQ_TARGET = 5) ∧
  (∀ (src : Src) (s : State), s.takes src MODE_REQ 6 = true → s.mode ≠ 7 → s.heldBy pgMODE < 4 →
    ∃ t, exec (.modeReqSafehold src) s = .next t ∧ t.f MODE_REQ_TARGET = 6) ∧
  (∀ (src : Src) (s : State), s.takes src MODE_REQ 7 = true → s.accepts 0 = true → ∃ t, exec (.modeReqFactory src) s = .next t ∧
    t.f MODE_REQ_TARGET = 7) ∧
  (∀ (src : Src) (s : State), s.takes src MODE_REQ 15 = true → s.accepts 0 = true → ∃ t, exec (.modeReqAuto src) s = .next t ∧
    t.f MODE_REQ_TARGET = 15) ∧
  (∀ (src : Src) (n : Fin 8) (w : Word) (s : State), s.takes src (MODE_LTOL n.val) w = true →
    ∃ t, exec (.modeLtolWrite src n w) s = .next t ∧ t.reg (MODE_LTOL n.val) = w) ∧
  (∀ (src : Src) (w : Word) (s : State), s.takes src MODE_ATT_PER w = true → ∃ t, exec (.modeAttPerWrite src w) s = .next t ∧
    t.f MODE_ATT_PER_PER = clamp 10 10000 (MODE_ATT_PER_PER.of w)) ∧
  (∀ (src : Src) (w : Word) (s : State), s.takes src MODE_DORM_PER w = true → ∃ t, exec (.modeDormPerWrite src w) s = .next t ∧
    t.f MODE_DORM_PER_SEC = clamp 1 86400 (MODE_DORM_PER_SEC.of w)) ∧
  (∀ (src : Src) (w : Word) (s : State), s.takes src MODE_CFG w = true → ∃ t, exec (.modeCfgWrite src w) s = .next t ∧
    t.f MODE_CFG_DWELL = MODE_CFG_DWELL.of w) ∧
  (∀ (src : Src) (w : Word) (s : State), s.takes src MODE_IDLE_I w = true → ∃ t, exec (.modeIdleIWrite src w) s = .next t ∧
    t.f MODE_IDLE_I_THR = MODE_IDLE_I_THR.of w) ∧
  (∀ (s : State), s.b MODE_STATUS_ASCENDING = true → s.mode = 2 ∨ s.mode = 3 ∨ s.mode = 4 → s.mode < s.f MODE_STATUS_ENTERING →
    s.eng.mode.aborted = false → s.eng.mode.check = 0 → ∃ t, exec .ascentDone s = .next t ∧ t.mode = s.f MODE_STATUS_ENTERING) ∧
  (∀ (s : State), s.released = true → s.mode ≤ 4 → s.inTransition = false → s.target < s.mode → 2 ≤ s.target →
    ∃ t, exec .dwellExpiry s = .next t ∧ t.b MODE_STATUS_DESCENDING = true) ∧
  (∀ (s : State), s.b MODE_STATUS_DESCENDING = true → s.mode = 3 ∨ s.mode = 4 → s.f MODE_STATUS_ENTERING < s.mode →
    2 ≤ s.f MODE_STATUS_ENTERING → s.eng.mode.check = 0 → ∃ t, exec .descentDone s = .next t ∧ t.mode = s.f MODE_STATUS_ENTERING) ∧
  (∀ (s : State), s.b MODE_CFG_WAKE_EN = true → 1 ≤ s.mode → s.mode ≤ 4 → ∃ t, exec .wakePinRise s = .next t ∧
    t.b MODE_WAKE_SRC_PIN = true) ∧
  (∀ (s : State), s.isWrk = true → s.mode = 0 → s.released = true → s.inTransition = false → ∃ t, exec .stackWake s = .next t ∧
    t.b MODE_WAKE_SRC_STACK = true) ∧
  (∀ (s : State), s.isMgr = true → s.reg (MODE_EVT_RAW + 8) = 0 → ∃ t, exec .wakeHoldExpiry s = .next t ∧
    t.eng.mode.wakeHold = false) ∧
  (∀ (s : State), s.mode = 1 → s.inTransition = false → ∃ t, exec .dormantCheckTimer s = .next t ∧ t.b MODE_WAKE_SRC_CHECK = true) ∧
  (∀ (hit : Bool) (s : State), s.mode = 3 → s.eng.mode.check = 2 → hit = false → s.f CELL_OV_MAP_MAP = 0 → s.f CELL_UV_MAP_MAP = 0 →
    s.f AUX_T_MAP_OT = 0 → s.f AUX_T_MAP_UT = 0 → s.target ≤ 1 → s.isMgr = true → ∃ t, exec (.dormantCheckDone hit) s = .next t ∧
    t.eng.mode.check = 3) ∧
  (∀ (s : State), ∃ t, exec .resetNFall s = .next t ∧ t.balls.resetN = false) ∧
  (∀ (s : State), s.eng.boot.pinLow = true → s.eng.boot.hold = 0 → s.powered = true → ∃ t, exec .resetNAccept s = .next t ∧
    t.eng.boot.hold = 1) ∧
  (∀ (s : State), s.eng.boot.hold = 1 → ∃ t, exec .resetNRise s = .next t ∧ t.balls.resetN = true) ∧
  (∀ (src : Src) (key : BitVec 16) (s : State), s.takes src RST_CMD (keyed key (2 ^ RST_CMD_SYS.lo)) = true → s.powered = true →
    s.eng.boot.hold = 0 → ∃ t, exec (.rstCmdSys src key) s = .next t ∧ t.eng.boot.hold = 0) ∧
  (∀ (src : Src) (key : BitVec 16) (cores : Fin 8) (c : Fin 3) (s : State),
    s.takes src RST_CMD (keyed key (cores.val * 2 ^ RST_CMD_CORE.lo)) = true → s.released = true → s.keep = 0 ∨ s.keep = 2 →
    bitOf cores.val c.val = true → s.coreRuns c.val = true → ∃ t, exec (.rstCmdCore src key cores) s = .next t ∧
    t.coreRuns c.val = false) ∧
  (∀ (x : Nat × Nat) (n : Nat) (s : State), s.f RST_BOOT_STEP = 1 → s.eng.pwr.fixedFailed = false → 2 ≤ s.eng.pwr.fixedRow →
    s.eng.pwr.fixedRow ≤ 4 → x ∈ fixedRow s.eng.pwr.fixedRow → n ∈ fixedSlots s.eng.pwr.fixedRow →
    ∃ t, exec .fixedRailStep s = .next t ∧ t.eng.pwr.fixedRow = s.eng.pwr.fixedRow + 1) ∧
  (∀ (s : State), s.f RST_BOOT_STEP = 1 → s.eng.clk.vsys = true → s.eng.pwr.fixedRow = 1 →
    ∃ t, exec .vsysQualificationEnd s = .next t ∧ t.eng.pwr.fixedRow = 2) ∧
  (∀ (s : State), s.f RST_BOOT_STEP = 1 → s.eng.pwr.fixedRow = 5 → s.railsUp = true → s.f SUP_FAULTED_MAP = 0 →
    ∃ t, exec .fixedRailsSettled s = .next t ∧ t.f RST_BOOT_STEP = 2) ∧
  (∀ (r : Nat) (x : Nat × Nat) (s : State), s.f RST_BOOT_STEP = 1 → s.eng.pwr.fixedFailed = false → 2 ≤ s.eng.pwr.fixedRow →
    s.eng.pwr.fixedRow ≤ 4 → r ∈ [2, 3, 4] → x ∈ fixedRow r → ∃ t, exec .fixedRailTimeout s = .next t ∧
    t.eng.pwr.fixedFailed = true) ∧
  (∀ (s : State), s.f RST_BOOT_STEP = 1 → s.eng.pwr.fixedFailed = true → s.eng.clk.vsys = true →
    ∃ t, exec .fixedRailRetry s = .next t ∧ t.eng.pwr.fixedFailed = false) ∧
  (∀ (s : State), s.f RST_BOOT_STEP = 2 → s.eng.boot.fresh = false → s.b IDENT_ROLE_MISMATCH = false →
    ∃ t, exec .otpLoadDone s = .next t ∧ t.f RST_BOOT_STEP = 4) ∧
  (∀ (us : Nat) (s : State), s.b MEM_STATUS_FILLING = true → us < 2 ^ MEM_FILL_US.wd → 3 ≤ s.mode →
    ∃ t, exec (.fillDone us) s = .next t ∧ t.b MEM_STATUS_FILLING = false) ∧
  (∀ (core : Fin 3) (s : State), s.eng.boot.verify.contains core.val = true → s.released = true → s.eng.boot.cores.length = 3 →
    ∃ t, exec (.patchVerifyDone core) s = .next t ∧ t.coreRuns core.val = true) ∧
  (∀ (rb : BitVec 25) (s : State), s.f RST_BOOT_STEP = 7 → s.isMgr = true → s.keep = 0 → s.eng.boot.testen = false →
    ∃ t, exec (.coreRelease rb) s = .next t ∧ t.f RST_BOOT_STEP = 8) ∧
  (∀ (src : Src) (w : Word) (s : State), s.takes src (REG_BK_VSET 3) w = true → ∃ t, exec (.regBkVsetWrite src w) s = .next t ∧
    t.f (REG_BK_VSET_VSET 3) = clamp 120 1000 ((REG_BK_VSET_VSET 3).of w)) ∧
  (∀ (src : Src) (n : Fin 3) (w : Word) (s : State), s.takes src (REG_LD_VSET (3 + n.val)) w = true →
    ∃ t, exec (.regLdVsetWrite src n w) s = .next t ∧
    t.f (REG_LD_VSET_VSET (3 + n.val)) = clamp 240 1000 ((REG_LD_VSET_VSET (3 + n.val)).of w)) ∧
  (∀ (k : Fin 10) (s : State), s.ramping k.val = true → ∃ t, exec (.regRampDone k) s = .next t ∧
    t.f (vnowOf k.val) = s.f (vsetOf k.val)) ∧
  (∀ (n : Fin 4) (cycles : Nat) (s : State), s.f (regState n.val) % 2 = 1 → 64 ≤ cycles →
    ∃ t, exec (.buckIlimPersist n cycles) s = .next t ∧ t.b ((regState n.val).bit 3) = true) ∧
  (∀ (n : Fin 6) (us : Nat) (s : State), s.f (regState (4 + n.val)) % 2 = 1 → 100 ≤ us →
    ∃ t, exec (.ldoIlimPersist n us) s = .next t ∧ t.b ((regState (4 + n.val)).bit 3) = true) ∧
  (∀ (src : Src) (n : Fin 16) (w : Word) (s : State), s.takes src (SV_CFG n.val) w = true → (SV_CFG_EN n.val).of w = 0 →
    ∃ t, exec (.svCfgWrite src n w) s = .next t ∧ t.b (SV_CFG_EN n.val) = false) ∧
  (∀ (n : Fin 16) (uv clks : Nat) (s : State), s.svActive n.val = true → s.f (SV_STAT_STATE n.val) = 2 →
    s.svUv n.val (s.svSource n.val uv) = true ∨ s.svOv n.val (s.svSource n.val uv) = true → s.svFilt n.val ≤ clks →
    ∃ t, exec (.svFault n uv clks) s = .next t ∧ t.f (SV_STAT_STATE n.val) = 3) ∧
  (∀ (n : Fin 16) (uv : Nat) (expiry : Bool) (s : State), s.svActive n.val = true → s.f (SV_STAT_STATE n.val) = 3 → expiry = false →
    s.eng.pwr.svWait.contains n.val = false → ∃ t, exec (.svConditionClear n uv expiry) s = .next t ∧
    t.f (SV_STAT_STATE n.val) = (if s.b (SV_CFG_RIDE n.val) && !s.svUv n.val (s.svSource n.val uv) && !s.svOv n.val (s.svSource
      n.val uv) then (if s.svBlanked n.val then 1 else 2) else 3)) ∧
  (∀ (n : Fin 16) (s : State), s.svActive n.val = true → s.f (SV_STAT_STATE n.val) = 3 → s.b (SUP_TIMING_MAP.bit n.val) = true →
    s.f (SV_CFG_SLOT n.val) = 0x1F → s.eng.pwr.svWait.contains n.val = false → ∃ t, exec (.svShutdownTimer n) s = .next t ∧
    t.f (SV_STAT_STATE n.val) = (if s.b (SV_STAT_UV_NOW n.val) || s.b (SV_STAT_OV_NOW n.val) then 3 else if s.svBlanked n.val then
      1 else 2)) ∧
  (∀ (src : Src) (key : BitVec 16) (p : Nat) (s : State), s.takes src SEQ_CTRL (keyed key 1) = true → s.accepts 10 = true →
    s.f SEQ_STATUS_STATE = 0 → s.seqCheck = true → s.heldBack = [] → p ∈ s.progSlots → s.toStart p = true →
    1 ≤ s.f (SEQ_SLOT_CFG_UP_STEP p) → ∃ t, exec (.seqGo src key) s = .next t ∧ t.f SEQ_STATUS_STATE = 1) ∧
  (∀ (src : Src) (key : BitVec 16) (p : Nat) (s : State), s.takes src SEQ_CTRL (keyed key 2) = true → s.accepts 11 = true →
    s.f SEQ_STATUS_STATE = 2 → p ∈ s.progSlots → s.slotOn p = true → ∃ t, exec (.seqStop src key) s = .next t ∧
    t.f SEQ_STATUS_STATE = 3) ∧
  (∀ (src : Src) (key : BitVec 16) (n : Fin 32) (s : State),
    s.takes src SEQ_CTRL (keyed key (3 + n.val * 2 ^ SEQ_CTRL_SLOT.lo)) = true → s.accepts 10 = true → s.cmdSlot n.val = true →
    s.f SEQ_STATUS_STATE = 1 ∨ s.f SEQ_STATUS_STATE = 3 ∨ s.f SEQ_STATUS_STATE = 4 → ∃ t, exec (.seqSlotOn src key n) s = .next t ∧
    t.eng.seq.slotOn = s.eng.seq.slotOn ++ [n.val]) ∧
  (∀ (src : Src) (key : BitVec 16) (n : Fin 32) (s : State),
    s.takes src SEQ_CTRL (keyed key (4 + n.val * 2 ^ SEQ_CTRL_SLOT.lo)) = true → s.accepts 11 = true → s.cmdSlot n.val = true →
    s.f SEQ_STATUS_STATE = 2 → n.val ∉ s.eng.seq.dnSet → ∃ t, exec (.seqSlotOff src key n) s = .next t ∧
    t.b (SEQ_SLOT_STAT_OVR_OFF n.val) = true) ∧
  (∀ (src : Src) (key : BitVec 16) (s : State), s.takes src SEQ_CTRL (keyed key 5) = true → s.accepts 11 = true →
    ∃ t, exec (.seqClear src key) s = .next t ∧ t.b SEQ_FIRST_VALID = false) ∧
  (∀ (n : Fin 19) (s : State), s.slotState n.val = 1 → s.depsUp n.val = true → ∃ t, exec (.seqSlotStart n) s = .next t ∧
    (t.slotState n.val = 2 ∨ t.slotState n.val = 3)) ∧
  (∀ (n : Fin 19) (s : State), s.slotState n.val = 2 → s.slotPg n.val = true → ∃ t, exec (.seqSlotUp n) s = .next t ∧
    t.slotState n.val = 3) ∧
  (∀ (n : Fin 19) (s : State), s.slotState n.val = 2 → n.val ∉ s.eng.seq.dnSet → n.val ∉ s.eng.seq.side →
    ∃ t, exec (.seqUpTimeout n) s = .next t ∧
    t.f (SEQ_SLOT_CNT_UP_FAILS n.val) = satInc (SEQ_SLOT_CNT_UP_FAILS n.val).wd (s.f (SEQ_SLOT_CNT_UP_FAILS n.val))) ∧
  (∀ (n : Fin 19) (s : State), s.slotOn n.val = true → s.mayStop n.val = true → n.val ≤ 10 ∨ s.isDown n.val 0 = false →
    ∃ t, exec (.seqSlotStop n) s = .next t ∧ t.slotState n.val = 4) ∧
  (∀ (n : Fin 19) (uv : Nat) (s : State), s.slotState n.val = 4 → s.isDown n.val uv = true → s.f SEQ_STATUS_STATE = 2 →
    ∃ t, exec (.seqSlotDown n uv) s = .next t ∧
    t.slotState n.val = (if s.stuck n.val then 5 else if s.faulted n.val then 7 else 0)) ∧
  (∀ (n : Fin 19) (s : State), s.slotState n.val = 4 → s.f SEQ_STATUS_STATE = 2 → ∃ t, exec (.seqSlotStuck n) s = .next t ∧
    t.slotState n.val = 5) ∧
  (∀ (n : Fin 19) (uv : Nat) (s : State), s.stuck n.val = true → s.isDown n.val uv = true →
    ∃ t, exec (.seqStuckClear n uv) s = .next t ∧ t.stuck n.val = false) ∧
  (∀ (s : State), s.f SEQ_STATUS_STATE = 4 → s.eng.seq.retry = true → s.seqCheck = true → s.eng.seq.goLatched = false →
    s.eng.seq.addNext = [] → ∃ t, exec .seqMinOffElapsed s = .next t ∧
    t.f SEQ_RETRY_COUNT = satInc SEQ_RETRY_COUNT.wd (s.f SEQ_RETRY_COUNT)) ∧
  (∀ (s : State), s.eng.seq.vsysRetry = true → s.isWrk = true → 7 ≤ s.vsysSlot → s.vsysSlot ≤ 10 → s.slotState s.vsysSlot = 0 →
    ∃ t, exec .vsysSlotRetry s = .next t ∧ t.slotState s.vsysSlot = 2) ∧
  (∀ (src : Src) (key : BitVec 16) (n : Fin 8) (s : State),
    s.takes src PHC_CMD (keyed key (1 + n.val * 2 ^ PHC_CMD_PHASE.lo)) = true → s.accepts 10 = true →
    s.phState n.val = 3 ∨ s.phState n.val = 4 → ∀ r : Fin 4, s.railOn r.val = false ∨ bitOf (s.rail r.val).phases n.val = false →
    ∃ t, exec (.phcReenable src key n) s = .next t ∧ t.phState n.val = 1) ∧
  (∀ (src : Src) (r : Fin 4) (w : Word) (s : State), s.takes src (PHC_RAIL_VSET r.val) w = true →
    ∃ t, exec (.phcRailVsetWrite src r w) s = .next t ∧
    t.f (PHC_RAIL_VSET_VSET r.val) = clamp 120 16000 ((PHC_RAIL_VSET_VSET r.val).of w)) ∧
  (∀ (r : Fin 4) (s : State), s.ramping (10 + r.val) = true → s.railOn r.val = true → s.eng.pwr.rails.length = 4 →
    ∃ t, exec (.railRampDone r) s = .next t ∧ t.f (PHC_RAIL_STATUS_STATE r.val) = 2) ∧
  (∀ (r : Fin 4) (fb k : Nat) (s : State), (s.rail r.val).done = true → s.railOn r.val = true → s.active r.val ≠ [] →
    s.f (PHC_RAIL_PG_FILT r.val) ≤ (s.rail r.val).good + k → ((s.rail r.val).volt (fb % 4096)) < 2 ^ (PHC_RAIL_VMEAS_V r.val).wd →
    (if ((s.rail r.val).volt (fb % 4096)) ≤ s.f (PHC_RAIL_VSET_VSET r.val) then s.f (PHC_RAIL_VSET_VSET r.val) - ((s.rail
      r.val).volt (fb % 4096)) else ((s.rail r.val).volt (fb % 4096)) - s.f (PHC_RAIL_VSET_VSET r.val)) * 100 ≤ s.f
      (PHC_RAIL_VSET_VSET r.val) * s.f (PHC_RAIL_PG_WIN r.val) → ∃ t, exec (.railPowerGood r fb k) s = .next t ∧
    t.b (PHC_RAIL_STATUS_PG r.val) = true) ∧
  (∀ (r : Fin 4) (fb : Nat) (s : State), ((s.rail r.val).volt (fb % 4096)) < 2 ^ (PHC_RAIL_VMEAS_V r.val).wd →
    s.f (PHC_RAIL_VSET_VSET r.val) * s.f (PHC_RAIL_PG_WIN r.val) < (if ((s.rail r.val).volt (fb % 4096)) ≤ s.f (PHC_RAIL_VSET_VSET
      r.val) then s.f (PHC_RAIL_VSET_VSET r.val) - ((s.rail r.val).volt (fb % 4096)) else ((s.rail r.val).volt (fb % 4096)) - s.f
      (PHC_RAIL_VSET_VSET r.val)) * 100 → s.b (PHC_RAIL_STATUS_PG r.val) = true → ∃ t, exec (.railPgLoss r fb) s = .next t ∧
    t.b (PHC_RAIL_STATUS_PG r.val) = false) ∧
  (∀ (n : Fin 8) (uv tm : Nat) (s : State), s.pulseOn n.val tm = true → 500 * (s.ph n.val).cl < uv →
    (s.rail (s.f (PHC_PH_STATUS_RAIL n.val))).blank ≤ tm → (s.ph n.val).limited = false →
    ∃ t, exec (.cycleLimitTrip n uv tm) s = .next t ∧ t.b (PHC_PH_STATUS_LIMITING n.val) = true) ∧
  (∀ (n : Fin 8) (k : Nat) (s : State), s.phState n.val = 2 → 64 ≤ k → ∃ t, exec (.phaseIlimPersist n k) s = .next t ∧
    t.b (PHC_EVT_RAW_ILIM.bit n.val) = true) ∧
  (∀ (r : Fin 4) (fb : Nat) (s : State), s.f (PHC_RAIL_STATUS_STATE r.val) = 2 → s.active r.val ≠ [] →
    s.ustF r.val (PHC_RAIL_UST_UST_EN 0) = 1 → s.ustHold r.val ≤ (s.rail r.val).since → s.under r.val fb = true →
    ∃ t, exec (.undershootDetect r fb) s = .next t ∧ t.f (PHC_RAIL_STATUS_STATE r.val) = 3) ∧
  (∀ (r : Fin 4) (fb tm : Nat) (trips : BitVec 8) (d : Nat) (n : Nat) (s : State), s.f (PHC_RAIL_STATUS_STATE r.val) = 3 →
    s.recovered r.val fb = true ∨ s.ustF r.val (PHC_RAIL_UST_MAXON 0) ≤ tm ∨ (s.active r.val).all (bitOf trips.toNat) = true →
    s.eng.pwr.rails.length = 4 → n ∈ s.active r.val → ∃ t, exec (.undershootEnd r fb tm trips d) s = .next t ∧
    t.f (PHC_RAIL_STATUS_STATE r.val) = 2) ∧
  (∀ (r : Fin 4) (fb : Nat) (s : State), s.f (PHC_RAIL_STATUS_STATE r.val) = 2 → s.active r.val ≠ [] →
    s.ustF r.val (PHC_RAIL_UST_OST_EN 0) = 1 → s.above r.val fb = true → ∃ t, exec (.overshootDetect r fb) s = .next t ∧
    t.f (PHC_RAIL_STATUS_STATE r.val) = 4) ∧
  (∀ (r : Fin 4) (fb d : Nat) (n : Nat) (s : State), s.f (PHC_RAIL_STATUS_STATE r.val) = 4 → s.fallenBack r.val fb = true →
    s.eng.pwr.rails.length = 4 → n ∈ s.active r.val → ∃ t, exec (.overshootEnd r fb d) s = .next t ∧
    t.f (PHC_RAIL_STATUS_STATE r.val) = 2) ∧
  (∀ (r : Fin 4) (k : Nat) (s : State), s.eng.pwr.rails.length = 4 → ∃ t, exec (.ustHoldoffEnd r k) s = .next t ∧
    (t.rail r.val).since = min 8 ((s.rail r.val).since + k)) ∧
  (∀ (s : State), s.ustArmed 0 = false → ∃ t, exec .contArmWindowEnd s = .next t ∧ t.eng.pwr.armAt = none) ∧
  (∀ (r : Fin 4) (cs : List (Nat × Nat × Nat)) (k : Nat) (n : Nat) (s : State), s.f (PHC_RAIL_STATUS_STATE r.val) = 2 →
    (s.rail r.val).susp < k →
    s.worstPhase r.val cs ((s.active r.val).filter fun m => 64 ≤ (s.health r.val cs (k - (s.rail r.val).susp) m).2) = some n →
    ∃ t, exec (.phaseLoss r cs k) s = .next t ∧ t.phState n = 4) ∧
  (∀ (n : Fin 2) (v : Nat) (s : State), s.f FEED_QUAL_UV ≤ v → v ≤ s.f FEED_QUAL_OV → ∃ t, exec (.feedInLimits n v) s = .next t ∧
    t.feedV n.val = v) ∧
  (∀ (n : Fin 2) (s : State), s.inLimits n.val = true → s.b (validOf n.val) = false → s.qualOk (s.feedV n.val) = true →
    ∃ t, exec (.feedValid n) s = .next t ∧ t.b (validOf n.val) = true) ∧
  (∀ (n : Fin 2) (v : Nat) (s : State), v < s.f FEED_QUAL_UV ∨ s.f FEED_QUAL_OV < v → s.b (validOf n.val) = true →
    ∃ t, exec (.feedInvalid n v) s = .next t ∧ t.b (validOf n.val) = false) ∧
  (∀ (n : Fin 2) (s : State), s.b (gateOf n.val) = true → ∃ t, exec (.oringReverse n) s = .next t ∧ t.b (gateOf n.val) = false) ∧
  (∀ (n : Fin 2) (s : State), s.b (validOf n.val) = true → ∃ t, exec (.oringRedrive n) s = .next t ∧ t.b (gateOf n.val) = true) ∧
  (∀ (s : State), ∃ t, exec .startLogicPowerUp s = .next t ∧ t.path = 0) ∧
  (∀ (vpb : Nat) (s : State), s.ef = 1 → 95 * s.orBus ≤ 100 * (20 * vpb) → ∃ t, exec (.prechargeDone vpb) s = .next t ∧ t.ef = 2) ∧
  (∀ (s : State), s.ef = 2 ∨ s.ef = 3 → s.busUp = true → s.i FEED_IEF_I < 10 * (s.f FEED_EF_ILIM : Int) → s.eng.feed.pcGate = true →
    ∃ t, exec .pcGateOffDelay s = .next t ∧ t.b FEED_STATUS_PG = true) ∧
  (∀ (s : State), s.ef = 1 → s.path = 5 → ∃ t, exec .prechargeTimeout s = .next t ∧ t.b FEED_EVT_RAW_PC_FAIL = true) ∧
  (∀ (s : State), ∃ t, exec .prechargeCoolEnd s = .next t ∧ t.eng.feed.pcCool = false) ∧
  (∀ (i : BitVec 16) (tm : Nat) (s : State), s.ef = 2 ∨ s.ef = 3 → s.path = 1 → 10 * (s.f FEED_EF_ILIM : Int) ≤ signed 16 i.toNat →
    s.f FEED_EF_TMO ≤ tm → ∃ t, exec (.efuseTimedTrip i tm) s = .next t ∧
    t.f FEED_CNT_TRIPS = satInc FEED_CNT_TRIPS.wd (s.f FEED_CNT_TRIPS)) ∧
  (∀ (i : BitVec 16) (s : State), s.ef = 2 ∨ s.ef = 3 → s.path = 1 → 20 * (s.f FEED_EF_ILIM : Int) ≤ signed 16 i.toNat →
    ∃ t, exec (.efuseFastTrip i) s = .next t ∧ t.f FEED_CNT_TRIPS = satInc FEED_CNT_TRIPS.wd (s.f FEED_CNT_TRIPS)) ∧
  (∀ (s : State), s.ef = 4 → ∃ t, exec .efuseCoolEnd s = .next t ∧ (t.ef = 0 ∨ t.ef = 1)) ∧
  (∀ (s : State), s.ef = 2 → ∃ t, exec .efuseTripCountReset s = .next t ∧ t.eng.feed.trips = 0) ∧
  (∀ (k : Fin 6) (s : State), k.val < 4 → s.fetJudged k.val = true → ∃ t, exec (.fetCheckFinding k) s = .next t ∧
    t.b (FEED_FET_MARKS.bit k.val) = true) ∧
  (∀ (s : State), s.path = 2 → s.b PATH_STATUS_PACK_PRESENT = true → ∃ t, exec .handoverComplete s = .next t ∧
    (t.path = 3 ∨ t.path = 4 ∨ t.path = 5)) ∧
  (∀ (mv : Nat) (s : State), s.path = 3 ∨ s.path = 4 ∨ s.b PATH_STATUS_LOCKED = true →
    mv < s.f CHG_PACK_CELLS * 10 * s.f CHG_THR_VLOW → ∃ t, exec (.packLow mv) s = .next t ∧ t.b PATH_STATUS_PACK_LOW = true) ∧
  (∀ (mv : Nat) (s : State), s.f CHG_PACK_CELLS ≠ 0 → s.b PATH_STATUS_PACK_PRESENT = false → s.f CHG_PACK_CELLS * 1000 ≤ mv →
    ∃ t, exec (.packPresent mv) s = .next t ∧ t.b PATH_STATUS_PACK_PRESENT = true) ∧
  (∀ (mv : Nat) (s : State), s.b PATH_STATUS_PACK_PRESENT = true → mv < s.f CHG_PACK_CELLS * 500 →
    ∃ t, exec (.packAbsent mv) s = .next t ∧ t.b PATH_STATUS_PACK_PRESENT = false) ∧
  (∀ (s : State), s.path = 1 → ∃ t, exec .supplementStart s = .next t ∧ t.b PATH_STATUS_SUPPLEMENT = true) ∧
  (∀ (s : State), ∃ t, exec .supplementEnd s = .next t ∧ t.b PATH_STATUS_SUPPLEMENT = false) ∧
  (∀ (src : Src) (key : BitVec 16) (s : State), s.takes src FEED_CMD (keyed key 1) = true → s.accepts 12 = true →
    s.ef = 5 ∨ s.ef = 6 → ∃ t, exec (.feedEfOn src key) s = .next t ∧ (t.ef = 0 ∨ t.ef = 1)) ∧
  (∀ (src : Src) (key : BitVec 16) (s : State), s.takes src FEED_CMD (keyed key 2) = true → s.accepts 12 = true →
    ∃ t, exec (.feedEfOff src key) s = .next t ∧ t.ef = (if s.ef = 5 then 5 else 6)) ∧
  (∀ (src : Src) (key : BitVec 16) (s : State), s.takes src FEED_CMD (keyed key 3) = true → s.accepts 12 = true → s.chg ≠ 9 →
    ∃ t, exec (.feedFetClear src key) s = .next t ∧ t.f FEED_FET_MARKS = 0) ∧
  (∀ (src : Src) (key : BitVec 16) (s : State), s.takes src PATH_CMD (keyed key 1) = true → s.accepts 12 = true → s.chg = 8 →
    ∃ t, exec (.chgStart src key) s = .next t ∧ t.chg = 0) ∧
  (∀ (src : Src) (key : BitVec 16) (s : State), s.takes src PATH_CMD (keyed key 2) = true → s.accepts 12 = true → s.chg ≠ 9 →
    ∃ t, exec (.chgStop src key) s = .next t ∧ t.chg = 8) ∧
  (∀ (src : Src) (key : BitVec 16) (s : State), s.takes src PATH_CMD (keyed key 3) = true → s.accepts 12 = true → s.chg = 9 →
    s.f CHG_STATUS_FAULT ≠ 4 → ∃ t, exec (.chgClear src key) s = .next t ∧ t.chg = 0) ∧
  (∀ (src : Src) (key : BitVec 16) (s : State), s.takes src PATH_CMD (keyed key 4) = true → s.accepts 12 = true →
    ∃ t, exec (.clearLockout src key) s = .next t ∧ t.b PATH_STATUS_LOCKED = false) ∧
  (∀ (src : Src) (key : BitVec 16) (s : State), s.takes src PATH_CMD (keyed key 5) = true → s.accepts 12 = true →
    ∃ t, exec (.keepalive src key) s = .next t ∧ t.eng.feed.contactAt = s.now) ∧
  (∀ (src : Src) (key : BitVec 16) (s : State), s.takes src PATH_CMD (keyed key 6) = true → s.accepts 12 = true → s.chg ≠ 9 →
    ∃ t, exec (.pathFetClear src key) s = .next t ∧ t.f PATH_STATUS_SHORTS = 0) ∧
  (∀ (src : Src) (w : Word) (s : State), s.takes src CHG_PACK w = true → CHG_PACK_CHEM.of w < 3 →
    ∃ t, exec (.chgPackWrite src w) s = .next t ∧ t.f CHG_PACK_CHEM = CHG_PACK_CHEM.of w) ∧
  (∀ (vpb : Nat) (s : State), s.chg = 0 → s.f CHG_PACK_CELLS ≠ 0 → s.b PATH_STATUS_PACK_PRESENT = true → s.path = 1 →
    s.b PATH_STATUS_SUPPLEMENT = false → s.b PATH_STATUS_LOCKED = false → s.f CHG_PACK_CELLS * s.vreg + 2000 ≤ 20 * vpb →
    s.b CHG_PACK_AUTO = true ∨ s.eng.feed.startReq = true → ∃ t, exec (.chgEligible vpb) s = .next t ∧ t.chg = 1) ∧
  (∀ (mv : Nat) (s : State), s.chg = 1 → ∃ t, exec (.chgDetectDone mv) s = .next t ∧
    t.chg = (if mv < s.f CHG_PACK_CELLS * 10 * s.f CHG_THR_VPRE then 2 else if mv < s.f CHG_PACK_CELLS * 10 * s.f CHG_THR_VRECH
      then 3 else 6)) ∧
  (∀ (mv : Nat) (s : State), s.chg = 2 → s.f CHG_PACK_CELLS * 10 * s.f CHG_THR_VPRE ≤ mv →
    ∃ t, exec (.chgPrecondDone mv) s = .next t ∧ t.chg = 3) ∧
  (∀ (mv : Nat) (s : State), s.chg = 3 → s.f CHG_PACK_CELLS * s.vreg ≤ mv → ∃ t, exec (.chgCvEntry mv) s = .next t ∧ t.chg = 4) ∧
  (∀ (ma : Nat) (s : State), s.chg = 4 → ma ≤ 10 * s.f CHG_ICHG_ITERM → ∃ t, exec (.chgTerminate ma) s = .next t ∧
    t.chg = (if s.f CHG_TIMER_TOPOFF = 0 then 6 else 5)) ∧
  (∀ (s : State), s.chg = 5 → ∃ t, exec .chgTopoffDone s = .next t ∧ t.chg = 6) ∧
  (∀ (mv : Nat) (s : State), s.chg = 6 → s.chgEligible = true → mv < s.f CHG_PACK_CELLS * 10 * s.f CHG_THR_VRECH →
    ∃ t, exec (.chgRecharge mv) s = .next t ∧ t.chg = 3) ∧
  (∀ (t8 : Nat) (s : State), 2 ≤ s.chg → s.chg ≤ 5 →
    (if s.chg = 2 then s.f CHG_TIMER_PRE * 480 else s.f CHG_TIMER_SAFETY * 28800) ≤ t8 → t8 < 2 ^ CHG_ELAPSED_T8.wd →
    ∃ t, exec (.chgSafetyTimer t8) s = .next t ∧ t.chg = 9) ∧
  (∀ (mv : Nat) (s : State), s.chg ≠ 9 → s.f CHG_PACK_CELLS ≠ 0 → s.f CHG_PACK_CELLS * (s.vreg + 100) < mv →
    ∃ t, exec (.chgOvervolt mv) s = .next t ∧ t.chg = 9) ∧
  (∀ (s : State), 2 ≤ s.chg → s.chg ≤ 5 → ∃ t, exec .chgSuspend s = .next t ∧ t.chg = 7) ∧
  (∀ (s : State), s.chg = 7 → s.chgHeld = false → s.eng.feed.phaseLeft < 16 → ∃ t, exec .chgResume s = .next t ∧
    t.chg = s.eng.feed.phaseLeft) ∧
  (∀ (sec : Nat) (s : State), s.released = true ∨ s.eng.feed.alive = true → s.f CHG_FALLBACK_HCT ≠ 0 → s.f CHG_FALLBACK_HCT ≤ sec →
    s.b PATH_STATUS_HOST_LOST = false → ∃ t, exec (.hostContactTimeout sec) s = .next t ∧ t.b PATH_STATUS_HOST_LOST = true) ∧
  (∀ (src : Src) (key : BitVec 16) (s : State), s.takes src CONT_CMD (keyed key 1) = true → s.accepts 1 = true → s.cont = 0 →
    s.released = true → s.f CONT_STATUS_WELD = 0 → s.b CONT_STATUS_FT_LATCH = false → s.b CONT_STATUS_LOOP_TRIP = false →
    s.b CONT_STATUS_LOOP_OK = true ∨ s.b CONT_LOOP_LOOP_EN = false → ∃ t, exec (.contClose src key) s = .next t ∧ t.cont = 1) ∧
  (∀ (src : Src) (key : BitVec 16) (s : State), s.takes src CONT_CMD (keyed key 2) = true → s.accepts 2 = true → s.closing = true →
    ∃ t, exec (.contOpen src key) s = .next t ∧ t.cont = 6) ∧
  (∀ (src : Src) (key : BitVec 16) (s : State), s.takes src CONT_CMD (keyed key 3) = true → s.accepts 2 = true →
    ∃ t, exec (.ftClear src key) s = .next t ∧ t.b CONT_STATUS_FT_LATCH = false) ∧
  (∀ (src : Src) (key : BitVec 16) (s : State), s.takes src CONT_CMD (keyed key 4) = true → s.accepts 2 = true →
    ∃ t, exec (.weldClear src key) s = .next t ∧ t.f CONT_STATUS_WELD = 0) ∧
  (∀ (src : Src) (key : BitVec 16) (s : State), s.takes src CONT_CMD (keyed key 5) = true → s.accepts 2 = true →
    ∃ t, exec (.loopClear src key) s = .next t ∧ t.b CONT_STATUS_LOOP_TRIP = false) ∧
  (∀ (p0 p1 p2 : Nat) (s : State), s.cont = 1 → s.onPm ≤ p1 → p0 < s.offPm → p0 < 1024 → p1 < 1024 → p2 < 1024 →
    ∃ t, exec (.contNegSensed p0 p1 p2) s = .next t ∧ t.cont = 2) ∧
  (∀ (s : State), s.cont = 1 → ∃ t, exec .contPullTimeout s = .next t ∧ t.cont = 6) ∧
  (∀ (p0 p1 p2 : Nat) (s : State), s.cont = 2 → s.f CONT_PC_PC_PCT * 10 ≤ p2 → p0 < 1024 → p1 < 1024 → p2 < 1024 →
    ∃ t, exec (.contPrechargeReached p0 p1 p2) s = .next t ∧ t.cont = 3) ∧
  (∀ (s : State), s.cont = 2 → ∃ t, exec .contPcTimeout s = .next t ∧ t.cont = 6) ∧
  (∀ (s : State), s.cont = 3 → ∃ t, exec .contPosTime s = .next t ∧ t.cont = 4) ∧
  (∀ (p0 p1 p2 : Nat) (s : State), s.cont = 4 → s.onPm ≤ p0 → p0 < 1024 → p1 < 1024 → p2 < 1024 →
    ∃ t, exec (.contReleaseCheck p0 p1 p2) s = .next t ∧ t.cont = 5) ∧
  (∀ (p0 p1 p2 : Nat) (s : State), s.cont = 5 → p0 < s.onPm ∨ p1 < s.onPm → p0 < 1024 → p1 < 1024 → p2 < 1024 →
    ∃ t, exec (.contSagFault p0 p1 p2) s = .next t ∧ t.cont = 6) ∧
  (∀ (s : State), s.cont = 6 → ∃ t, exec .contOpenDelayEnd s = .next t ∧ t.b (CONT_STATUS_CMD.bit 0) = false) ∧
  (∀ (s : State), s.cont = 6 → s.b (CONT_STATUS_CMD.bit 0) = false → s.b (CONT_STATUS_CMD.bit 2) = false →
    ∃ t, exec .contNegDelayEnd s = .next t ∧ t.f CONT_STATUS_CMD = 0) ∧
  (∀ (s : State), s.cont = 6 → s.f CONT_STATUS_CMD = 0 → ∃ t, exec .contCheckEntry s = .next t ∧ t.cont = 7) ∧
  (∀ (p0 p1 p2 : Nat) (s : State), s.cont = 7 → p0 < 1024 → p1 < 1024 → p2 < 1024 →
    ∃ t, exec (.weldEvaluation p0 p1 p2) s = .next t ∧ t.cont = 0) ∧
  (∀ (n : Fin 3) (s : State), s.f (CONT_COIL_STATE n.val) = 1 → ∃ t, exec (.coilHoldStart n) s = .next t ∧
    t.f (CONT_COIL_STATE n.val) = 2) ∧
  (∀ (n : Fin 3) (s : State), s.b (CONT_STATUS_CMD.bit n.val) = true → ∃ t, exec (.coilOpenFault n) s = .next t ∧
    t.b (CONT_STATUS_CMD.bit n.val) = false) ∧
  (∀ (n : Fin 3) (s : State), s.b (CONT_STATUS_CMD.bit n.val) = true → ∃ t, exec (.coilShortFault n) s = .next t ∧
    t.b (CONT_STATUS_CMD.bit n.val) = false) ∧
  (∀ (mag : Nat) (s : State), s.isMgr = true → 3 ≤ s.mode → s.b CONT_STATUS_FD_ON = true → s.f CONT_FT_HARD_THR < mag →
    ∃ t, exec (.fastDisconnectTrip mag) s = .next t ∧ t.b CONT_STATUS_FD_ON = false) ∧
  (∀ (pos : Bool) (s : State), ∃ t, exec (.ftBlankingEnd pos) s = .next t ∧ (if pos then t.eng.cont.blankPos = false ∧
    t.eng.cont.blankFd = s.eng.cont.blankFd else t.eng.cont.blankFd = false ∧ t.eng.cont.blankPos = s.eng.cont.blankPos)) ∧
  (∀ (s : State), s.isMgr = true → s.b CONT_STATUS_LOOP_OK = true → s.loopSourcing = true → s.closing = true →
    ∃ t, exec .floopInputLost s = .next t ∧ t.b CONT_STATUS_LOOP_TRIP = true) ∧
  (∀ (s : State), ∃ t, exec .floopInputOk s = .next t ∧
    (if s.isMgr then t.b CONT_STATUS_LOOP_OK = true else t.eng.cont.loopIn = true)) ∧
  (∀ (s : State), s.isWrk = true → s.released = true → s.eng.cont.loopIn = true → s.mode ≠ 6 → ∃ t, exec .floopResume s = .next t ∧
    t.eng.cont.loopOut = true)

/-- Every command of the front end, conversion, balancing, impedance, estimation, the ring, epochs and rack services completes with
its own effect: for every state and operands that meet the conditions of its clause, exec answers a next state in which the effect
named there has happened. The rest of each effect, and what stays unchanged, is in the statements behind. Completing here, by
constructor: refReady, owStart, pathStart, diagAbort, owAutoTimer, owShuttleFree, owBusyTimeout, owPhaseEnd, owBleedResume,
pathTestChannel, afeCalUWrite, afeCfgWrite, frameStrike, conversionWindowEnd, framePublish, tripRequest, directResultReady,
scanReqGo, scanRequestComplete, burstDone, balStart, balStop, balUnlock, balLease, balSelWrite, balBleedWrite, balShIWrite,
shRampDownDone, shNodesOff, shStuckOn, shBbmEnd, shPairClosed, shFailToClose, shRampUpDone, shInterlock, shOvercurrent, bleedOpen,
bleedBudgetReturn, policyLeaseLapse, hostLeaseLapse, balPolicyTick, balSlotEnd, shuttleRequest, shuttleRelease, eisStart, eisStop,
eisOne, eisTref, eisSlotDue, eisExcitationStart, eisWindowStart, eisMeasureEnd, eisSlotRelease, eisSpectrumStored, eisViewWrite,
rippleWindowEnd, rippleRx, ripplePacketMissing, estUpdate, estCurrentLost, estAccept, estRestore, estCkpt, estForget, estRenew,
checkpointDone, estSummarySend, summaryRx, rackAggregation, portSeek, portAlign, portUp, portAlignTimeout, portDown, ringRetrain,
beaconSend, beaconRx, ringEnum, autoEnumStart, enumBlockRx, enumBlockReturn, enumSetRx, enumDone, keyOfferRx, keyReplyRx,
keyGroupRx, keyConfirmRx, keyStepTimeout, streamFrameRx, frameTransmit, frameAged, frameMissing, armsRx, armsApply, rackISend,
rackIRx, digestSend, digestRx, epochBlockSend, epochBlockRx, syncHoldoverTimeout, breakRx, armMove, linkHeal, epochNowLoRead,
pathDelayUpdate, brkOpen, brkClose, bracketLatch, bracketTimeout, snap, snapPeriod, snapGatherDone, snapDeadline, cmPrepare,
cmAbort, cmReconcile, prepareRx, ackRx, commitDecision, commitRx, abortRx, commitApply, queryRx, commitQueryTimer, commitIndoubt,
indoubtHoldEnd, commitReportDeadline, regRdRx, regWrRx, regRspRx, mirrorTimeout, statusSend, statusRx, rosterStale, rosterBlind,
rosterReadmit, rosterAdopt, rackResult, arcBlockEval, arcCtrlWrite, arcClear, arcRelearn, isoCtrlWrite, isoHalfEnd. -/
def Obligations.measurementAndRingCommandsComplete : Prop :=
  (∀ (s : State), s.b AFE_STATUS_REF_RDY = false → s.refOn = true → s.eng.boot.fresh = true ∨ 3 ≤ s.f RST_BOOT_STEP →
    ∃ t, exec .refReady s = .next t ∧ t.b AFE_STATUS_REF_RDY = true) ∧
  (∀ (src : Src) (key : BitVec 16) (s : State), s.takes src AFE_DIAG_CMD (keyed key 1) = true → s.isMgr = false →
    s.f AFE_STATUS_DIAG = 0 → ∃ t, exec (.owStart src key) s = .next t ∧ t.f AFE_STATUS_DIAG = 1) ∧
  (∀ (src : Src) (key : BitVec 16) (s : State), s.takes src AFE_DIAG_CMD (keyed key 2) = true → s.f AFE_STATUS_DIAG = 0 →
    s.mode = 4 ∨ s.mode = 5 ∨ s.mode = 7 → ∃ t, exec (.pathStart src key) s = .next t ∧ t.f AFE_STATUS_DIAG = 8) ∧
  (∀ (src : Src) (key : BitVec 16) (s : State), s.takes src AFE_DIAG_CMD (keyed key 3) = true → s.f AFE_STATUS_DIAG ≠ 0 →
    ∃ t, exec (.diagAbort src key) s = .next t ∧ t.f AFE_STATUS_DIAG = 0) ∧
  (∀ (s : State), s.f AFE_DIAG_CFG_AUTO_PER ≠ 0 → s.f AFE_STATUS_DIAG = 0 → s.isMgr = false → ∃ t, exec .owAutoTimer s = .next t ∧
    t.f AFE_STATUS_DIAG = 1) ∧
  (∀ (s : State), s.f AFE_STATUS_DIAG = 1 → s.f BAL_SH_STATUS_STATE = 0 ∨ s.f BAL_SH_STATUS_STATE = 7 →
    ∃ t, exec .owShuttleFree s = .next t ∧ t.f AFE_STATUS_DIAG = 2) ∧
  (∀ (s : State), s.f AFE_STATUS_DIAG = 1 → ∃ t, exec .owBusyTimeout s = .next t ∧ t.f AFE_STATUS_DIAG = 0) ∧
  (∀ (s : State), 2 ≤ s.f AFE_STATUS_DIAG → s.f AFE_STATUS_DIAG ≤ 6 → ∃ t, exec .owPhaseEnd s = .next t ∧
    t.f AFE_STATUS_DIAG = s.f AFE_STATUS_DIAG + 1) ∧
  (∀ (s : State), s.f AFE_STATUS_DIAG = 0 → ∃ t, exec .owBleedResume s = .next t ∧ t.eng.afe.owHold = false) ∧
  (∀ (zero scale : Int) (s : State), s.f AFE_STATUS_DIAG = 8 → s.f AFE_DIAG_STATUS_CHAN < 28 →
    ∃ t, exec (.pathTestChannel zero scale) s = .next t ∧
    t.b (AFE_PATH_RES_FAIL.bit (s.f AFE_DIAG_STATUS_CHAN)) = (s.b (AFE_PATH_RES_FAIL.bit (s.f AFE_DIAG_STATUS_CHAN)) || !(pathOk
      (s.b AFE_AUXCFG_AUX2_SE) (s.f AFE_DIAG_STATUS_CHAN) false zero && pathOk (s.b AFE_AUXCFG_AUX2_SE) (s.f AFE_DIAG_STATUS_CHAN)
      true scale))) ∧
  (∀ (src : Src) (ch : Fin 32) (w : Word) (s : State), s.takes src (AFE_CAL_U ch.val) w = true → s.accepts 6 = true →
    ∃ t, exec (.afeCalUWrite src ch w) s = .next t ∧ t.reg (AFE_CAL_U ch.val) = w) ∧
  (∀ (src : Src) (w : Word) (s : State), s.takes src AFE_CFG w = true → s.accepts 6 = true →
    ∃ t, exec (.afeCfgWrite src w) s = .next t ∧ t.f AFE_CFG_SUM_TOL = max 1 (AFE_CFG_SUM_TOL.of w)) ∧
  (∀ (s : State), s.eng.epoch.running = true → s.b AFE_STATUS_REF_RDY = true → s.mode = 3 → s.fullRate = false →
    s.epoch % s.f MODE_ATT_PER_PER = 0 → s.eng.scan.lastTick = none → s.eng.scan.trips = [] → s.eng.scan.burst = 0 →
    s.eng.scan.skipK = 1 → s.eng.scan.skipNext = none → s.eng.scan.rerun = false → s.fineNext < 2 ^ AFE_STROBE_FINE.wd →
    ∃ t, exec .frameStrike s = .next t ∧
    t.eng.scan.flight = s.eng.scan.flight ++ [⟨s.epoch, s.strikeFlags, s.fineNext, s.period.getD 1⟩]) ∧
  (∀ (k o c ch : Nat) (s : State), s.grantBarred = false → s.eng.scan.reqs = [⟨k, o, c, 0, ch, 1, 0, false, none, none⟩] → c = 1 →
    ∃ t, exec .conversionWindowEnd s = .next t ∧ t.eng.scan.reqs = [⟨k, o, c, 0, ch, 1, 0, true, none, none⟩]) ∧
  (∀ (raw : List Int) (poison : BitVec 32) (x : Flight) (rest : List Flight) (s : State), s.eng.scan.flight = x :: rest →
    raw.length = 32 → ∃ t, exec (.framePublish raw poison) s = .next t ∧ t.eng.scan.flight = rest) ∧
  (∀ (ch : Fin 32) (ps : Nat) (codes : List Int) (fine per : Nat) (s : State), ps < 1000000 →
    s.eng.scan.flight = [⟨s.epoch, 0, fine, per⟩] → s.eng.scan.trips = [] → s.eng.scan.reqs = [] →
    overlaps (strikePs s.epoch fine) (s.epoch * 1000000 + ps + 62500, s.epoch * 1000000 + ps + 312500) = true →
    ∃ t, exec (.tripRequest ch ps codes) s = .next t ∧ t.b ADC_STATUS_TRIP = true) ∧
  (∀ (trip : Bool) (code : Int) (poison : Bool) (s : State), trip = true →
    ∃ t, exec (.directResultReady trip code poison) s = .next t ∧ t.b ADC_STATUS_TRIP = decide (1 < s.eng.scan.tripRun)) ∧
  (∀ (src : Src) (key : BitVec 16) (fw : Option (Bool × Word)) (s : State), fw = none →
    s.takes src SCAN_REQ (keyed key (2 ^ SCAN_REQ_GO.lo)) = true → s.f SCAN_REQ_CFG_KIND < 2 → s.eng.scan.reqs = [] →
    ∃ t, exec (.scanReqGo src key fw) s = .next t ∧ t.b SCAN_REQ_LAST_VALID = true) ∧
  (∀ (entry : Nat) (o c kind ch n g e v : Nat) (p : Bool) (s : State),
    s.eng.scan.reqs = [⟨entry, o, c, kind, ch, n, g, true, some e, some (v, p)⟩] → entry < 16 →
    ∃ t, exec (.scanRequestComplete entry) s = .next t ∧ t.f (SCAN_RES_VALUE entry) = v % 2 ^ (SCAN_RES_VALUE entry).wd) ∧
  (∀ (codes : List Int) (k o c ch n g e : Nat) (s : State), s.eng.scan.reqs = [⟨k, o, c, 2, ch, n, g, true, some e, none⟩] →
    codes.length = n → n < 4096 → ∃ t, exec (.burstDone codes) s = .next t ∧
    t.eng.scan.reqs = [⟨k, o, c, 2, ch, n, g, true, some e, some (n, false)⟩]) ∧
  (∀ (src : Src) (key : BitVec 16) (s : State), s.takes src BAL_CMD (keyed key 1) = true → s.accepts 3 = true →
    ∃ t, exec (.balStart src key) s = .next t ∧ t.b (balFlag 7) = false) ∧
  (∀ (src : Src) (key : BitVec 16) (s : State), s.takes src BAL_CMD (keyed key 2) = true →
    ∃ t, exec (.balStop src key) s = .next t ∧ t.b (balFlag 7) = true) ∧
  (∀ (src : Src) (key : BitVec 16) (s : State), s.takes src BAL_CMD (keyed key 3) = true → s.accepts 3 = true → s.sh = 7 →
    s.f BAL_NODE_RB_MAP = 0 → ∃ t, exec (.balUnlock src key) s = .next t ∧ t.sh = 0) ∧
  (∀ (src : Src) (key : BitVec 16) (s : State), s.takes src BAL_CMD (keyed key 4) = true → s.f BAL_POLICY_MODE = 2 →
    ∃ t, exec (.balLease src key) s = .next t ∧ t.eng.bal.leaseAt = s.now) ∧
  (∀ (src : Src) (key : BitVec 16) (cell : Fin 32) (s : State),
    s.takes src BAL_SEL (keyed key (cell.val * 2 ^ BAL_SEL_CELL.lo)) = true → s.accepts 3 = true →
    s.selCause (src == .core) cell.val = 0 → s.balPermitted = true → s.sh = 0 → cell.val < 24 →
    ∃ t, exec (.balSelWrite src key cell) s = .next t ∧ t.f BAL_SEL_CELL = cell.val) ∧
  (∀ (src : Src) (w : Word) (s : State), s.takes src BAL_BLEED w = true → s.accepts 3 = true → s.balForeign (src == .core) = false →
    popcount (BAL_BLEED_MASK.of w) ≤ s.f BAL_PASS_CFG_MAX_ON → BAL_BLEED_MASK.of w < 2 ^ s.cells →
    ∃ t, exec (.balBleedWrite src w) s = .next t ∧ t.f BAL_BLEED_MASK = BAL_BLEED_MASK.of w) ∧
  (∀ (src : Src) (w : Word) (s : State), s.takes src BAL_SH_I w = true → s.accepts 3 = true → s.balForeign (src == .core) = false →
    ∃ t, exec (.balShIWrite src w) s = .next t ∧
    t.i BAL_SH_I_I = clampInt (-(s.f BAL_SH_CFG_ILIM * 10 : Int)) (s.f BAL_SH_CFG_ILIM * 10) (signed 16 (BAL_SH_I_I.of w))) ∧
  (∀ (s : State), s.sh = 1 → ∃ t, exec .shRampDownDone s = .next t ∧ t.sh = 2) ∧
  (∀ (s : State), s.sh = 2 → s.f BAL_NODE_CMD_MAP = 0 → ∃ t, exec .shNodesOff s = .next t ∧ t.sh = 3) ∧
  (∀ (rb : BitVec 25) (s : State), s.sh = 2 → ∃ t, exec (.shStuckOn rb) s = .next t ∧ t.sh = 7) ∧
  (∀ (s : State), s.sh = 3 → s.f BAL_NODE_RB_MAP = 0 → s.f BAL_SEL_CELL ≤ 23 → ∃ t, exec .shBbmEnd s = .next t ∧ t.sh = 4) ∧
  (∀ (s : State), s.sh = 4 → s.eng.bal.closing < 32 → ∃ t, exec .shPairClosed s = .next t ∧ t.sh = 5) ∧
  (∀ (rb : BitVec 25) (s : State), s.sh = 4 → ∃ t, exec (.shFailToClose rb) s = .next t ∧ t.sh = 2) ∧
  (∀ (i : BitVec 16) (s : State), s.sh = 5 → ∃ t, exec (.shRampUpDone i) s = .next t ∧ t.sh = 6) ∧
  (∀ (rb on : BitVec 25) (us : Nat) (node : Nat) (rest : List Nat) (s : State), s.badNodes rb.toNat on.toNat us = node :: rest →
    ∃ t, exec (.shInterlock rb on us) s = .next t ∧ t.sh = 7) ∧
  (∀ (i : BitVec 16) (us : Nat) (s : State), s.sh = 1 ∨ s.sh = 5 ∨ s.sh = 6 →
    50 * s.f BAL_SH_CFG_ILIM < 4 * (signed 16 i.toNat).natAbs → 10 ≤ us → s.f BAL_SH_STATUS_CELL ≠ 31 →
    ∃ t, exec (.shOvercurrent i us) s = .next t ∧ t.sh = 1) ∧
  (∀ (cell : Fin 24) (ma : BitVec 16) (ms : Nat) (s : State), bitOf (s.f BAL_BLEED_ON_MASK) cell.val = true →
    2 * ma.toNat < s.bleedI → 10 ≤ ms → 1600000 ≤ s.bleedDrop cell.val → ∃ t, exec (.bleedOpen cell ma ms) s = .next t ∧
    bitOf t.eng.bal.openOff cell.val = true) ∧
  (∀ (cell : Fin 24) (s : State), bitOf s.eng.bal.removed cell.val = true →
    s.bleedSum (withBit (s.f BAL_BLEED_ON_MASK) cell.val true) ≤ s.pmax4 → ∃ t, exec (.bleedBudgetReturn cell) s = .next t ∧
    bitOf t.eng.bal.removed cell.val = false) ∧
  (∀ (ms : Nat) (s : State), s.f BAL_POLICY_MODE = 1 → s.b (balFlag 5) = false → s.leaseMs ≤ ms →
    ∃ t, exec (.policyLeaseLapse ms) s = .next t ∧ t.b (balFlag 5) = true) ∧
  (∀ (ms : Nat) (s : State), s.f BAL_POLICY_MODE = 2 → s.b (balFlag 5) = false → s.leaseMs ≤ ms →
    ∃ t, exec (.hostLeaseLapse ms) s = .next t ∧ t.b (balFlag 5) = true) ∧
  (∀ (s : State), s.isWrk = true → s.f BAL_POLICY_MODE = 1 → s.mode = 3 → s.b (balFlag 7) = false → s.f BAL_POLICY_METHOD = 0 →
    s.eng.bal.slot = none → ∃ t, exec .balPolicyTick s = .next t ∧ t.f BAL_BLEED_MASK = s.policyMask t.eng.bal.need % 2 ^ 24) ∧
  (∀ (us : Nat) (s : State), s.eng.bal.slot.isSome = true → s.f BAL_SH_STATUS_OWNER ≠ 2 →
    s.eng.bal.slotLen ≤ us ∨ s.slotEarly = true → ∃ t, exec (.balSlotEnd us) s = .next t ∧ t.eng.bal.slot = none) ∧
  (∀ (x : EisSlot) (s : State), s.eisState = 1 → s.eisMode = true → s.eng.eis.slot = some x → s.f BAL_SH_STATUS_OWNER ≠ 2 →
    s.eng.bal.forEis = false → s.f BAL_POLICY_MODE = 2 → ∃ t, exec .shuttleRequest s = .next t ∧ t.eng.bal.eisAsk = some x.cell) ∧
  (∀ (s : State), s.f BAL_SH_STATUS_OWNER = 2 → s.eng.bal.yielded = none → ∃ t, exec .shuttleRelease s = .next t ∧
    t.f BAL_SH_STATUS_OWNER = 1) ∧
  (∀ (src : Src) (key : BitVec 16) (s : State), s.takes src EIS_CMD (keyed key 1) = true → s.accepts 4 = true →
    ∃ t, exec (.eisStart src key) s = .next t ∧ t.eng.eis.on = true) ∧
  (∀ (src : Src) (key : BitVec 16) (s : State), s.takes src EIS_CMD (keyed key 2) = true →
    ∃ t, exec (.eisStop src key) s = .next t ∧ t.eng.eis.on = false) ∧
  (∀ (src : Src) (key : BitVec 16) (kind : Fin 4) (cell : Fin 32) (s : State),
    s.takes src EIS_CMD (keyed key (3 + kind.val * 2 ^ EIS_CMD_KIND.lo + cell.val * 2 ^ EIS_CMD_CELL.lo)) = true →
    s.accepts 4 = true → kind.val < 2 → cell.val < s.cells → ∃ t, exec (.eisOne src key kind cell) s = .next t ∧
    t.eng.eis.one = some (kind.val, cell.val)) ∧
  (∀ (src : Src) (key : BitVec 16) (cell : Fin 32) (x : Spectrum) (re im : Int) (s : State),
    s.takes src EIS_CMD (keyed key (4 + cell.val * 2 ^ EIS_CMD_CELL.lo)) = true → s.accepts 4 = true → cell.val < s.cells →
    s.latest cell.val = some x → x.valid (s.f EIS_TEMP_CFG_TRACK_I) = some (re, im) → later s.epoch (x.epoch + 60000000) = false →
    s.f (AUX_TEMP_STATE (s.f (EIS_TREF_TH cell.val))) = 0 → ∃ t, exec (.eisTref src key cell) s = .next t ∧
    t.b (EIS_EVT_RAW_EVENTS.bit 5) = true) ∧
  (∀ (kd c : Nat) (s : State), s.isWrk = true → s.eisState = 0 → s.mode = 4 → s.eng.boot.cores.getD 1 false = true →
    s.eng.eis.one = some (kd, c) → ∃ t, exec .eisSlotDue s = .next t ∧ t.eisState = 1) ∧
  (∀ (s : State), s.eisState = 2 → ∃ t, exec .eisExcitationStart s = .next t ∧ t.eisState = (if s.f BAL_SH_STATUS_OWNER = 2 ∧
    s.f BAL_SH_STATUS_CELL ≤ 23 then 3 else 5)) ∧
  (∀ (s : State), s.eisState = 3 → ∃ t, exec .eisWindowStart s = .next t ∧ t.eisState = 4) ∧
  (∀ (cur : List Int) (x : EisSlot) (s : State), s.eisState = 4 → s.eng.eis.slot = some x →
    ∃ t, exec (.eisMeasureEnd cur) s = .next t ∧ t.eisState = 5) ∧
  (∀ (x : EisSlot) (s : State), s.eisState = 5 → s.eng.eis.slot = some x → s.f BAL_SH_STATUS_OWNER = 2 → s.eng.bal.yielded = none →
    ∃ t, exec .eisSlotRelease s = .next t ∧ t.eng.eis.slot = none) ∧
  (∀ (x : EisSlot) (s : State), s.eng.eis.done = some x → x.fin = some 3 → s.f EIS_VIEW_CELL ≠ x.cell →
    ∃ t, exec .eisSpectrumStored s = .next t ∧ t.eng.eis.done = none) ∧
  (∀ (src : Src) (w : Word) (s : State), s.takes src EIS_VIEW w = true → s.isMgr = false →
    ∃ t, exec (.eisViewWrite src w) s = .next t ∧ t.f EIS_VIEW_CELL = min 23 (EIS_VIEW_CELL.of w)) ∧
  (∀ (s : State), s.isMgr = true → s.fullRate = true → ∃ t, exec .rippleWindowEnd s = .next t ∧ t.b EIS_STATUS_RIP_LIVE = true) ∧
  (∀ (port : Fin 2) (p : Pkt) (s : State), s.isWrk = true → later s.epoch (bits64 (pw p 0) 16 48 + 500000) = false →
    s.hears port.val 0x30 p = true → s.f EIS_CFG_METHOD = 1 ∨ s.f EIS_CFG_METHOD = 2 → s.fullRate = true →
    s.eng.eis.ripN + 1 < s.f EIS_QUAL_RIP_AVG → ∃ t, exec (.rippleRx port p) s = .next t ∧ t.b EIS_STATUS_RIP_LIVE = true) ∧
  (∀ (s : State), s.isWrk = true → s.f EIS_CFG_METHOD = 1 ∨ s.f EIS_CFG_METHOD = 2 → s.fullRate = true →
    ∃ t, exec .ripplePacketMissing s = .next t ∧ t.b EIS_STATUS_RIP_LIVE = false) ∧
  (∀ (s : State), s.isWrk = true → s.released = true → s.eng.boot.cores.getD 1 false = true → s.b EST_CFG_EN = true → 3 ≤ s.mode →
    s.epoch % s.estU = 0 → ∃ t, exec .estUpdate s = .next t ∧ t.b (estFlag 0) = true) ∧
  (∀ (ms : Nat) (s : State), s.isWrk = true → s.f EST_CFG_ISRC = 0 → s.b (estFlag 6) = false → 1000 ≤ ms →
    ∃ t, exec (.estCurrentLost ms) s = .next t ∧ t.b (estFlag 6) = true) ∧
  (∀ (src : Src) (key : BitVec 16) (a : Nat) (s : State), s.takes src EST_CMD (keyed key 1) = true → s.isWrk = true →
    s.eng.est.pend = none → s.f EST_CKPT_SUGGEST = a + 1 → ∃ t, exec (.estAccept src key) s = .next t ∧
    t.eng.est.pend = some (2, (List.range s.cells).map fun c => (c, (List.range 7).map fun k => s.ckptWord a (8 + 7 * c + k)))) ∧
  (∀ (src : Src) (key : BitVec 16) (s : State), s.takes src EST_CMD (keyed key 2) = true → s.isWrk = true → s.eng.est.pend = none →
    s.rsCells = [] → s.f EST_RS_CRC_CRC = crc32 [] → ∃ t, exec (.estRestore src key) s = .next t ∧ t.eng.est.pend = some (1, [])) ∧
  (∀ (src : Src) (key : BitVec 16) (s : State), s.takes src EST_CMD (keyed key 3) = true → s.isWrk = true →
    s.anyUnrestored = false → s.b (estFlag 2) = false → s.eng.recs.cur = none → s.eng.recs.queue = [] →
    ∃ t, exec (.estCkpt src key) s = .next t ∧ t.eng.recs.cur = some ⟨2, s.ckptOlder, s.ckptWords⟩) ∧
  (∀ (src : Src) (key : BitVec 16) (s : State), s.takes src EST_CMD (keyed key 4) = true → s.isWrk = true →
    ∃ t, exec (.estForget src key) s = .next t ∧ t.ckptWord 0 0 = 0) ∧
  (∀ (src : Src) (key : BitVec 16) (s : State), s.takes src EST_CMD (keyed key 5) = true → s.isWrk = true → s.eng.est.pend = none →
    ∃ t, exec (.estRenew src key) s = .next t ∧ t.eng.est.pend = some (3, s.rsCells.map fun c => (c, []))) ∧
  (∀ (poison : Bool) (err : Option Nat) (j : RecJob) (s : State), s.eng.recs.cur = some j → j.kind = 2 → poison = false →
    err = none → ∃ t, exec (.checkpointDone poison err) s = .next t ∧
    t.f EST_CNT_CKPTS = satInc EST_CNT_CKPTS.wd (s.f EST_CNT_CKPTS)) ∧
  (∀ (s : State), s.isWrk = true → s.enumerated = true → later s.epoch (s.second + 10000) = false → s.weldDown = false →
    ∃ t, exec .estSummarySend s = .next t ∧ t.eng.ring.ctl.length = s.eng.ring.ctl.length + 1) ∧
  (∀ (port : Fin 2) (p : Pkt) (s : State), s.isMgr = true → s.hears port.val 0x32 p = true → p.seq ≠ 0x3F000000 →
    ∃ t, exec (.summaryRx port p) s = .next t ∧
    t.eng.est.sums.head? = some ⟨p.src, bits64 (pw p 0) 16 48, bits64 (pw p 1) 32 32, bits64 (pw p 1) 0 32, bits64 (pw p 2) 47 17,
      bits64 (pw p 2) 42 5, bits64 (pw p 2) 25 17, bits64 (pw p 2) 20 5, bits64 (pw p 2) 0 3⟩) ∧
  (∀ (x : Summary) (s : State), s.isMgr = true → s.epoch = s.second + 20000 → s.f RING_ENUM_M = 1 → s.eng.est.sums = [x] →
    x.worker = 1 → later s.epoch (x.epoch + 3000000) = false → x.loCell < 32 → x.hiCell < 32 → x.lo < 2 ^ 17 → x.hi < 2 ^ 17 →
    x.d + x.c < 2 ^ 32 → x.d + x.c ≠ 0 → ∃ t, exec .rackAggregation s = .next t ∧ t.f EST_RACK_STAT_NW = 1) ∧
  (∀ (port : Fin 2) (training : Bool) (s : State), s.released = true → 3 ≤ s.mode → s.b CLK_STATUS_LPLL_LOCK = true →
    s.port port.val ≤ 1 → training = true ∨ s.beaconQuiet port.val = true → ∃ t, exec (.portSeek port training) s = .next t ∧
    t.port port.val = 2) ∧
  (∀ (port : Fin 2) (inv : Bool) (s : State), s.port port.val = 2 → ∃ t, exec (.portAlign port inv) s = .next t ∧
    t.port port.val = 3) ∧
  (∀ (port : Fin 2) (rtt : List Nat) (turn : BitVec 16) (s : State), s.port port.val = 3 → rtt.length = 256 →
    linkDelay rtt turn.toNat < 2 ^ (RING_P_DLY_DLY port.val).wd → ∃ t, exec (.portUp port rtt turn) s = .next t ∧
    t.port port.val = 4) ∧
  (∀ (port : Fin 2) (s : State), s.port port.val = 3 → s.eng.ring.alignAt.getD port.val 0 + 1000 ≤ s.now →
    ∃ t, exec (.portAlignTimeout port) s = .next t ∧ t.port port.val = 2) ∧
  (∀ (port : Fin 2) (bad : Fin 65) (ns : Nat) (s : State), s.port port.val = 4 → 16 ≤ bad.val ∨ 100 ≤ ns →
    ∃ t, exec (.portDown port bad ns) s = .next t ∧ t.port port.val = 2) ∧
  (∀ (src : Src) (key : BitVec 16) (port : Fin 2) (s : State),
    s.takes src RING_CMD (keyed key (2 + port.val * 2 ^ RING_CMD_PORT.lo)) = true → s.port port.val = 4 →
    ∃ t, exec (.ringRetrain src key port) s = .next t ∧ t.port port.val = 2) ∧
  (∀ (port : Fin 2) (type : Fin 2) (s : State), s.port port.val = 1 → s.isMgr = true →
    ∃ t, exec (.beaconSend port type) s = .next t ∧
    t.eng.ring.tx = [.beacon port.val (beaconBits type.val (s.f MODE_FLOOR_RACK) s.coFlag s.epoch)]) ∧
  (∀ (port : Fin 2) (bits : BitVec 56) (s : State), s.isWrk = true → s.mode = 2 → s.port port.val = 1 → s.port (1 - port.val) = 1 →
    crc16 (bits.toNat / 65536) 40 = bits.toNat % 65536 → bits64 bits.toNat 52 4 = 0 → bits64 bits.toNat 49 3 < 3 →
    ∃ t, exec (.beaconRx port bits) s = .next t ∧ t.eng.ring.tx = [.beacon (1 - port.val) bits.toNat]) ∧
  (∀ (src : Src) (key : BitVec 16) (s : State), s.takes src RING_CMD (keyed key 1) = true → s.accepts 8 = true → s.isMgr = true →
    s.port 0 = 4 → s.port 1 = 4 → ∃ t, exec (.ringEnum src key) s = .next t ∧ t.eng.ring.enumOut = 2) ∧
  (∀ (s : State), s.isMgr = true → s.eng.ring.autoDue = true → s.eng.ring.upAt.getD 0 0 + 100000 ≤ s.now →
    s.b RING_CFG_AUTO_ENUM = true → s.accepts 8 = true → s.port 0 = 4 → s.port 1 ≠ 4 → s.weldDown = false →
    ∃ t, exec .autoEnumStart s = .next t ∧ t.eng.ring.enumOut = 1) ∧
  (∀ (port : Fin 2) (count : Fin 64) (fin : Bool) (origin : Fin 2) (s : State), s.isWrk = true → s.port port.val = 4 → fin = false →
    ∃ t, exec (.enumBlockRx port count fin origin) s = .next t ∧ t.f RING_SELF_INDEX = 0) ∧
  (∀ (port : Fin 2) (count : Fin 64) (fin : Bool) (origin : Fin 2) (s : State), s.isMgr = true → s.port port.val = 4 →
    s.eng.ring.enumOut = 2 → s.f RING_ENUM_M = 0 → fin = true ∨ port = origin →
    ∃ t, exec (.enumBlockReturn port count fin origin) s = .next t ∧ t.eng.ring.enumOut = 1) ∧
  (∀ (port : Fin 2) (p : Pkt) (s : State), s.isWrk = true → s.port port.val = 4 → p.kind = 0x01 → p.dst = 0x3E →
    s.setMine (pw p 0) (pw p 2) = true → pw p 0 < 64 → pw p 1 < 2 → ∃ t, exec (.enumSetRx port p) s = .next t ∧
    t.f RING_SELF_INDEX = pw p 0) ∧
  (∀ (s : State), s.isMgr = true → s.eng.ring.enumOut ≠ 0 → s.f RING_ENUM_M ≠ 0 → ∃ t, exec .enumDone s = .next t ∧
    t.eng.ring.enumOut = 0) ∧
  (∀ (port : Fin 2) (p : Pkt) (uid : BitVec 64) (s : State), s.isWrk = true → s.f RING_SELF_INDEX ≠ 0 →
    p.dst = s.f RING_SELF_INDEX → s.port port.val = 4 → s.b SEC_RNG_OK = true → s.helloOk p (Sha.lowBytes 8 uid.toNat) = true →
    p.kind = 0x02 → bits64 (pw p 0) 56 8 = 1 → ∃ t, exec (.keyOfferRx port p uid) s = .next t ∧
    (t.eng.sec.setups.map (fun x => (x.w, x.await, x.tries, x.gen, x.t)) = [(0, 3, 1, bits64 (pw p 0) 48 8, s.now)] ∧
    t.eng.sec.setups.all (fun x => decide (sessionKey x.d x.gen p (Sha.lowBytes 8 uid.toNat) s.uidBytes = some x.ks)) = true ∧
    (s.weldDown = false → t.eng.ring.tx.length = 1) ∧ t.eng.ring.keys = s.eng.ring.keys ∧
    sameBut [] [] s t) ∨ (t.f SEC_RING_LAST_W = s.f RING_SELF_INDEX ∧ t.b (SEC_EVT_RAW_EVENTS.bit 2) = true)) ∧
  (∀ (port : Fin 2) (p : Pkt) (uid : BitVec 64) (x : KeySetup) (ks : Nat) (s : State), s.isMgr = true → s.port port.val = 4 →
    p.dst = 0 → s.portTo p.src < 2 → s.port (s.portTo p.src) = 4 → s.eng.sec.setups = [x] → x.w = p.src → x.await = 2 →
    x.gen = bits64 (pw p 0) 48 8 → s.helloOk p (Sha.lowBytes 8 uid.toNat) = true →
    sessionKey x.d x.gen p s.uidBytes (Sha.lowBytes 8 uid.toNat) = some ks → s.eng.rack.readmit = none → s.weldDown = false →
    p.kind = 0x02 → bits64 (pw p 0) 56 8 = 2 → ∃ t, exec (.keyReplyRx port p uid) s = .next t ∧
    t.eng.sec.setups = [{ x with await := 4, ks := ks, t := s.now }]) ∧
  (∀ (port : Fin 2) (p : Pkt) (x : KeySetup) (s : State), s.isWrk = true → s.port port.val = 4 → s.f RING_SELF_INDEX ≠ 0 →
    p.dst = s.f RING_SELF_INDEX → s.eng.sec.setups = [x] → x.await = 3 → x.gen = bits64 (pw p 0) 48 8 →
    pw p 3 = tagOf x.ks (blockBytes (p.data.take 3)) → p.kind = 0x02 → bits64 (pw p 0) 56 8 = 3 →
    ∃ t, exec (.keyGroupRx port p) s = .next t ∧ t.eng.ring.keys.contains (s.f RING_SELF_INDEX) = true) ∧
  (∀ (port : Fin 2) (p : Pkt) (x : KeySetup) (s : State), s.isMgr = true → s.port port.val = 4 → p.dst = 0 →
    s.eng.sec.setups = [x] → x.w = p.src → x.await = 4 → x.gen = bits64 (pw p 0) 48 8 →
    pw p 1 = tagOf x.ks (blockBytes (p.data.take 1)) → s.eng.rack.readmit = none → p.kind = 0x02 → bits64 (pw p 0) 56 8 = 4 →
    ∃ t, exec (.keyConfirmRx port p) s = .next t ∧ t.eng.ring.keys.contains p.src = true) ∧
  (∀ (worker : Fin 33) (x : KeySetup) (s : State), s.isMgr = true → s.eng.sec.setups = [x] → x.w = worker.val →
    x.late s.now = true → x.tries < 3 → s.b SEC_RNG_OK = false → ∃ t, exec (.keyStepTimeout worker) s = .next t ∧
    t.eng.sec.setups = [⟨x.w, 2, x.tries + 1, x.gen, 0, 0, s.now⟩]) ∧
  (∀ (port : Fin 2) (worker : Fin 64) (e14 : BitVec 14) (flags : BitVec 10) (samples : List Nat) (crc : BitVec 32) (s : State),
    s.isMgr = true → s.port port.val = 4 → frameCrc ⟨rebuildEpoch s.epoch e14.toNat, worker.val, flags.toNat, samples⟩ ≠ crc.toNat →
    samples.length = 32 → ∃ t, exec (.streamFrameRx port worker e14 flags samples crc) s = .next t ∧
    t.f (RING_P_CNT_RX_COUNT port.val) = (s.f (RING_P_CNT_RX_COUNT port.val) + 1) % 2 ^ (RING_P_CNT_RX_COUNT port.val).wd) ∧
  (∀ (p : Pkt) (rest : List Pkt) (s : State), s.isWrk = true → s.portUp s.outPort = true → s.eng.ring.ctl = p :: rest →
    ∃ t, exec .frameTransmit s = .next t ∧ t.eng.ring.ctl = rest) ∧
  (∀ (f : Frame) (rest : List Frame) (s : State), s.eng.ring.own = f :: rest → later (f.epoch + 4096) s.epoch = false →
    ∃ t, exec .frameAged s = .next t ∧ t.eng.ring.own = rest) ∧
  (∀ (worker : Fin 33) (e : BitVec 48) (s : State), s.isMgr = true → s.liveAt worker.val e.toNat = true →
    s.expects worker.val e.toNat = true → later (e.toNat + 4200) s.epoch = false → later (e.toNat + 8000) s.epoch = true →
    (s.eng.ring.rx.any fun x => x.1 == worker.val && x.2.1 == e.toNat) = false →
    s.eng.ring.missed.contains (worker.val, e.toNat) = false → ∃ t, exec (.frameMissing worker e) s = .next t ∧
    t.f RING_CNT_MISS_COUNT = satInc RING_CNT_MISS_COUNT.wd (s.f RING_CNT_MISS_COUNT)) ∧
  (∀ (port : Fin 2) (p : Pkt) (s : State), s.hears port.val 0x05 p = true → s.isWrk = true →
    ∃ t, exec (.armsRx port p) s = .next t ∧
    t.eng.ring.arms = some (bits64 (pw p 0) 16 48, b2n (bitOf (pw p 1) (s.f RING_SELF_INDEX - 1)),
    (if bitOf (pw p 1) (s.f RING_SELF_INDEX - 1) then bits64 (pw p 0) 10 2 else bits64 (pw p 0) 12 2),
    bitOf (pw p 2) (s.f RING_SELF_INDEX - 1))) ∧
  (∀ (e arm dec : Nat) (lost : Bool) (s : State), s.eng.ring.arms = some (e, arm, dec, lost) → later e s.epoch = false → arm < 2 →
    dec < 4 → ∃ t, exec .armsApply s = .next t ∧ t.eng.ring.arms = none) ∧
  (∀ (i : Rat) (s : State), s.isMgr = true → later (s.epoch / 1000 * 1000) (s.eng.rack.iNext * 1000) = true →
    s.port 0 = 4 ∨ s.port 1 = 4 → (s.msMean 0 (s.epoch / 1000 - 1)).2 = some i → s.seqFree 0x3F = true →
    ∃ t, exec .rackISend s = .next t ∧
    t.eng.ring.tx = [.pkt 2 (s.tagged 0x3F ⟨0x3F, s.f RING_SELF_INDEX, 0x31, (countOf s.eng.ring.seqOut 0x3F + 1) % 2 ^ 30,
      [(s.epoch / 1000 - 1) * 1000 * 65536, unsigned 32 (rnd (s.rackMa i))], 0⟩)]) ∧
  (∀ (port : Fin 2) (p : Pkt) (s : State), s.isWrk = true → s.hears port.val 0x31 p = true →
    ∃ t, exec (.rackIRx port p) s = .next t ∧ t.eng.est.rack = signed 32 (bits64 (pw p 1) 0 32)) ∧
  (∀ (s : State), s.isWrk = true → s.enumerated = true → s.epoch % 1000 = 0 → ∃ t, exec .digestSend s = .next t ∧
    t.eng.ring.ctl.length = s.eng.ring.ctl.length + 1) ∧
  (∀ (port : Fin 2) (p : Pkt) (s : State), s.isMgr = true → s.hears port.val 0x34 p = true → p.seq ≠ 0x3F000000 →
    ((s.eng.ring.rx.filter fun x => x.1 == p.src && bits64 (pw p 0) 16 48 ≤ x.2.1 + 1000 && x.2.1 < bits64 (pw p 0) 16 48).map
      Prod.snd).length = pw p 1 →
    digestOf (s.keyWith p.src) ((s.eng.ring.rx.filter fun x => x.1 == p.src && bits64 (pw p 0) 16 48 ≤ x.2.1 + 1000 && x.2.1 <
      bits64 (pw p 0) 16 48).map Prod.snd) = pw p 2 → ∃ t, exec (.digestRx port p) s = .next t ∧
    t.f RING_CNT_DIGEST_DIG_OK = satInc RING_CNT_DIGEST_DIG_OK.wd (s.f RING_CNT_DIGEST_DIG_OK)) ∧
  (∀ (s : State), s.isMgr = true → s.eng.epoch.running = true → s.epoch % 64 = 0 → s.port 0 = 4 → s.port 1 = 4 →
    ∃ t, exec .epochBlockSend s = .next t ∧ t.eng.ring.tx = [.block 0 0x33 (epochBlock s.epoch (s.f MODE_FLOOR_RACK) s.coFlag),
    .block 1 0x33 (epochBlock s.epoch (s.f MODE_FLOOR_RACK) s.coFlag)]) ∧
  (∀ (port : Fin 2) (floor : Fin 8) (co : Bool) (e : BitVec 48) (phi : Int) (s : State), s.isWrk = true → s.port port.val = 4 →
    port.val = s.outPort → s.b EPOCH_PATH_VALID = true → s.f EPOCH_STATUS_SYNC ≠ 2 → s.eng.epoch.near = 15 →
    (sigmaOf phi (s.f AFE_STROBE_FINE)).natAbs ≤ 1000 → phi.natAbs ≤ 400000 →
    ∃ t, exec (.epochBlockRx port floor co e phi) s = .next t ∧ t.f EPOCH_STATUS_SYNC = 2) ∧
  (∀ (s : State), s.isWrk = true → s.f EPOCH_STATUS_SYNC = 2 → s.blocksLost = true → 3 ≤ s.mode → s.heldBy pgEPOCH < 4 →
    ∃ t, exec .syncHoldoverTimeout s = .next t ∧ t.f EPOCH_STATUS_SYNC = 3) ∧
  (∀ (port : Fin 2) (link : Fin 64) (heal : Bool) (s : State), s.isWrk = true → s.port port.val = 4 → s.port (1 - port.val) = 4 →
    heal = false → s.eng.ring.brk.contains link.val = false → ∃ t, exec (.breakRx port link heal) s = .next t ∧
    t.eng.ring.tx = [.block (1 - port.val) 0x66 (breakBlock link.val false)]) ∧
  (∀ (s : State), s.isWrk = true → s.enumerated = true → s.eng.ring.armDue = true →
    brokenA s.eng.ring.brk (s.f RING_SELF_POS) = true → brokenB s.eng.ring.brk (s.f RING_SELF_POS) = false → s.f RING_SELF_ARM = 0 →
    ∃ t, exec .armMove s = .next t ∧ t.f RING_SELF_ARM = 1) ∧
  (∀ (port : Fin 2) (k : Nat) (s : State), s.port port.val = 4 → s.linkAt port.val = some k → s.isWrk = true →
    s.port (1 - port.val) = 4 → s.eng.ring.upAt.getD port.val 0 + 100000 ≤ s.now → s.eng.ring.brk.contains k = true →
    ∃ t, exec (.linkHeal port) s = .next t ∧ t.eng.ring.tx = [.block (1 - port.val) 0x66 (breakBlock k true)]) ∧
  (∀ (src : Src) (s : State), s.served src = true → s.watchShut src EPOCH_NOW_LO = false →
    ∃ t, exec (.epochNowLoRead src) s = .next t ∧ t.resp = [BitVec.ofNat 32 s.epoch]) ∧
  (∀ (w : Nat) (s : State), s.isMgr = true → s.liveWorkers = [w] → s.seqFree w = true → s.port (s.portTo w) = 4 →
    s.weldDown = false → ∃ t, exec .pathDelayUpdate s = .next t ∧ t.eng.epoch.tid = (s.eng.epoch.tid + 1) % 65536) ∧
  (∀ (src : Src) (key : BitVec 16) (s : State), s.takes src EPOCH_CMD (keyed key 1) = true → s.b EPOCH_BRK_EP_HI_SCOPE = false →
    s.eng.epoch.brk = 0 → s.eng.epoch.snapE = none → s.f EPOCH_BRK_EP_LO_EPOCH + 2 ^ 32 * s.f EPOCH_BRK_EP_HI_EPOCH = 0 →
    ∃ t, exec (.brkOpen src key) s = .next t ∧ t.eng.epoch.brk = 1) ∧
  (∀ (src : Src) (key : BitVec 16) (s : State), s.takes src EPOCH_CMD (keyed key 2) = true → s.eng.epoch.brk ≠ 0 →
    s.isMgr = false ∨ s.eng.epoch.brkRack = false → ∃ t, exec (.brkClose src key) s = .next t ∧ t.eng.epoch.brk = 0) ∧
  (∀ (s : State), s.eng.epoch.brk = 1 → later (s.eng.epoch.brkE + 2) s.epoch = false → s.eng.epoch.brkSnap = false →
    ∃ t, exec .bracketLatch s = .next t ∧ t.eng.epoch.brk = 2) ∧
  (∀ (s : State), s.eng.epoch.brk ≠ 0 → later (s.eng.epoch.brkE + 1000 * s.f EPOCH_BRK_EP_HI_TMO) s.epoch = false →
    s.isMgr = false ∨ s.eng.epoch.brkRack = false → ∃ t, exec .bracketTimeout s = .next t ∧ t.eng.epoch.brk = 0) ∧
  (∀ (src : Src) (key : BitVec 16) (s : State), s.takes src EPOCH_CMD (keyed key 3) = true → s.eng.epoch.brk = 0 →
    s.eng.epoch.snapE = none → ∃ t, exec (.snap src key) s = .next t ∧ t.eng.epoch.snapE = some (s.autoEpoch s.isMgr)) ∧
  (∀ (s : State), s.f EPOCH_SNAP_CFG_PER ≠ 0 → s.eng.epoch.running = true → s.epoch % (1000 * s.f EPOCH_SNAP_CFG_PER) = 0 →
    s.eng.epoch.snapAt ≠ some s.epoch → s.eng.epoch.brk = 0 → s.eng.epoch.snapE = none → ∃ t, exec .snapPeriod s = .next t ∧
    t.eng.epoch.snapE = some (s.autoEpoch s.isMgr)) ∧
  (∀ (e : Nat) (s : State), s.eng.epoch.snapE = some e → s.eng.epoch.brk ≠ 1 → s.snapAll = true → s.eng.epoch.snapBuf < 2 →
    ∃ t, exec .snapGatherDone s = .next t ∧ t.eng.epoch.snapE = none) ∧
  (∀ (e : Nat) (s : State), s.eng.epoch.snapE = some e → s.snapAll = false → later (e + 8000) s.epoch = false →
    s.eng.epoch.snapBuf < 2 → ∃ t, exec .snapDeadline s = .next t ∧ t.eng.epoch.snapE = none) ∧
  (∀ (src : Src) (key : BitVec 16) (s : State), s.takes src EPOCH_CMD (keyed key 4) = true → s.accepts 7 = true →
    later (s.epoch + 200) (s.f EPOCH_CM_EP_LO_EPOCH + 2 ^ 32 * s.f EPOCH_CM_EP_HI_EPOCH) = false → s.eng.epoch.cm = none →
    s.eng.epoch.holds = [] → s.b EPOCH_CM_EP_HI_SCOPE = false → ∃ t, exec (.cmPrepare src key) s = .next t ∧
    t.f EPOCH_CM_STATUS_RESULT = 1) ∧
  (∀ (src : Src) (key : BitVec 16) (c : CmRun) (s : State), s.takes src EPOCH_CMD (keyed key 5) = true → s.eng.epoch.cm = some c →
    c.decided = false → ∃ t, exec (.cmAbort src key) s = .next t ∧ t.eng.epoch.cm = some { c with abort := true }) ∧
  (∀ (src : Src) (key : BitVec 16) (d e w : Nat) (s : State), s.takes src EPOCH_CMD (keyed key 6) = true → s.isMgr = true →
    s.eng.epoch.lastDec = some (d, e, true) →
    ((List.range 32).map (· + 1)).filter (fun w => s.f (cmOut w) == 8 || s.f (cmOut w) == 10) = [w] → s.seqFree w = true →
    s.port (s.portTo w) = 4 → s.weldDown = false → ∃ t, exec (.cmReconcile src key) s = .next t ∧ t.eng.ring.tx.length = 1) ∧
  (∀ (port : Fin 2) (p : Pkt) (s : State), s.isWrk = true → s.hears port.val 0x20 p = true →
    bitOf (pw p 2) (s.f RING_SELF_INDEX - 1) = true →
    (s.stgTargets (bits64 (pw p 1) 0 40)).all (fun q => !s.b (stageHeld q)) = true →
    later (s.epoch + 50) (bits64 (pw p 0) 16 48) = false → s.mode ≠ 2 → s.mode ≠ 6 → s.weldDown = false →
    ∃ t, exec (.prepareRx port p) s = .next t ∧ (s.stgTargets (bits64 (pw p 1) 0 40)).all (fun q => t.b (stageHeld q)) = true) ∧
  (∀ (port : Fin 2) (p : Pkt) (c : CmRun) (s : State), s.isMgr = true → s.hears port.val 0x21 p = true → p.seq ≠ 0x3F000000 →
    1 ≤ p.src → p.src ≤ 32 → bits64 (pw p 0) 8 8 = s.f EPOCH_CM_EP_HI_ID → bits64 (pw p 0) 4 4 = 0 → s.eng.epoch.cm = some c →
    c.decided = false → c.mem.contains p.src = true → ∃ t, exec (.ackRx port p) s = .next t ∧
    t.f (cmOut p.src) = (if bits64 (pw p 0) 0 4 = 0 then 2 else 3)) ∧
  (∀ (c : CmRun) (h : CmHold) (s : State), s.eng.epoch.cm = some c → c.decided = false → c.rack = false → c.mem = [] →
    s.eng.epoch.holds = [h] → h.id = c.id → h.rack = false → later c.e (s.epoch + 50) = false → c.abort = false →
    ∃ t, exec .commitDecision s = .next t ∧ t.f EPOCH_CM_STATUS_RESULT = 5) ∧
  (∀ (port : Fin 2) (p : Pkt) (h : CmHold) (s : State), s.isWrk = true → s.hears port.val 0x22 p = true → s.eng.epoch.holds = [h] →
    h.rack = true → h.id = bits64 (pw p 0) 8 8 → bitOf (pw p 0) 0 = false → h.apply = none → later h.e s.epoch = true →
    ∃ t, exec (.commitRx port p) s = .next t ∧ t.eng.epoch.holds = [{ h with apply := some (h.e, 1) }]) ∧
  (∀ (port : Fin 2) (p : Pkt) (h : CmHold) (s : State), s.isWrk = true → s.hears port.val 0x23 p = true → s.eng.epoch.holds = [h] →
    h.rack = true → h.id = bits64 (pw p 0) 8 8 → s.weldDown = false → ∃ t, exec (.abortRx port p) s = .next t ∧
    t.eng.epoch.holds = []) ∧
  (∀ (h : CmHold) (x : Nat × Nat) (s : State), s.eng.epoch.holds = [h] → h.rack = false → h.apply = some x →
    later x.1 s.epoch = false → (s.stgTargets h.pages).contains pgBAL = false → ∃ t, exec .commitApply s = .next t ∧
    t.eng.epoch.holds = []) ∧
  (∀ (port : Fin 2) (p : Pkt) (e : Nat) (ok : Bool) (s : State), s.isMgr = true → s.hears port.val 0x24 p = true →
    p.seq ≠ 0x3F000000 → s.seqFree p.src = true → s.portTo p.src < 2 → s.port (s.portTo p.src) = 4 →
    s.eng.epoch.lastDec = some (bits64 (pw p 0) 8 8, e, ok) → s.weldDown = false → ∃ t, exec (.queryRx port p) s = .next t ∧
    t.eng.ring.tx = [.pkt (s.portTo p.src) (s.tagged p.src ⟨p.src, s.f RING_SELF_INDEX, if ok then 0x22 else 0x23, (countOf
      s.eng.ring.seqOut p.src + 1) % 2 ^ 30, [e * 2 ^ 16 + bits64 (pw p 0) 8 8 * 2 ^ 8], 0⟩)]) ∧
  (∀ (h : CmHold) (s : State), s.eng.epoch.holds = [h] → h.rack = true → h.apply = none → h.doubt = false → s.isWrk = true →
    later (h.e + 50) s.epoch = false → h.asked.all (fun t => !later (t + 1000) s.epoch) = true → s.weldDown = false →
    ∃ t, exec .commitQueryTimer s = .next t ∧ t.f EPOCH_STATUS_CM_STATE = 3) ∧
  (∀ (h : CmHold) (s : State), s.eng.epoch.holds = [h] → h.rack = true → h.apply = none → h.doubt = false → s.isWrk = true →
    later (h.e + 10050) s.epoch = false → s.heldBy pgEPOCH < 4 → s.weldDown = false → ∃ t, exec .commitIndoubt s = .next t ∧
    t.f EPOCH_STATUS_CM_STATE = 4) ∧
  (∀ (h : CmHold) (s : State), s.eng.epoch.holds = [h] → h.doubt = true → h.apply = none →
    later (h.e + 10050 + 1000000 * s.f EPOCH_CM_CFG_HOLD) s.epoch = false → ∃ t, exec .indoubtHoldEnd s = .next t ∧
    t.eng.epoch.holds = []) ∧
  (∀ (c : CmRun) (s : State), s.eng.epoch.cm = some c → c.rack = true → c.decided = true → later (c.e + 20000) s.epoch = false →
    c.mem.all (fun w => decide (1 ≤ w ∧ w ≤ 32)) = true → ∃ t, exec .commitReportDeadline s = .next t ∧ t.eng.epoch.cm = none) ∧
  (∀ (port : Fin 2) (p : Pkt) (ecc : List Nat) (s : State), s.isWrk = true → s.hears port.val 0x10 p = true → ecc.headD 0 = 0 →
    bits64 (pw p 0) 24 8 = 1 → bits64 (pw p 0) 32 32 = IDENT_ROLE → s.weldDown = false →
    ∃ t, exec (.regRdRx port p ecc) s = .next t ∧
    (t.eng.ring.ctl.getLast?.map fun x => (x.dst, x.kind, x.data)) = some (0, 0x12, [IDENT_ROLE * 2 ^ 32 + 2 ^ 24 + bits64 (pw p 0)
      0 16, (s.reg IDENT_ROLE).toNat])) ∧
  (∀ (port : Fin 2) (p : Pkt) (s : State), s.isWrk = true → s.hears port.val 0x11 p = true → bits64 (pw p 0) 24 8 = 1 →
    p.data.length = 2 → bits64 (pw p 0) 32 32 = EPOCH_PATH →
    s.deniedTo (packetSrc p) (s.levelNeed EPOCH_PATH (BitVec.ofNat 32 (pw p 1))) = false → s.weldDown = false →
    ∃ t, exec (.regWrRx port p) s = .next t ∧ t.f EPOCH_PATH_DLY = bits64 (pw p 1) 0 20) ∧
  (∀ (port : Fin 2) (p : Pkt) (r : MirReq) (s : State), s.isMgr = true → s.hears port.val 0x12 p = true → p.seq ≠ 0x3F000000 →
    s.eng.epoch.mir = [r] → r.tid = bits64 (pw p 0) 0 16 → r.dead = false → r.worker = p.src → r.use = 0 → s.mirState = 1 →
    ∃ t, exec (.regRspRx port p) s = .next t ∧ t.eng.epoch.mir = []) ∧
  (∀ (tid : BitVec 16) (r : MirReq) (s : State), s.eng.epoch.mir = [r] → r.tid = tid.toNat → r.at0 + s.f EPOCH_MIR_CFG_TMO ≤ s.now →
    1 ≤ r.worker → r.worker ≤ 32 → r.use = 3 → ∃ t, exec (.mirrorTimeout tid) s = .next t ∧ t.eng.epoch.mir = []) ∧
  (∀ (s : State), s.isWrk = true → s.statusDue = true → s.enumerated = true → s.port 0 = 4 ∨ s.port 1 = 4 → s.weldDown = false →
    ∃ t, exec .statusSend s = .next t ∧ t.eng.ring.ctl.length = s.eng.ring.ctl.length + 1) ∧
  (∀ (port : Fin 2) (p : Pkt) (s : State), s.isMgr = true → s.hears port.val 0x33 p = true → p.seq ≠ 0x3F000000 → 1 ≤ p.src →
    p.src ≤ 32 → s.f RING_STATUS_STATE ≠ 1 → ∃ t, exec (.statusRx port p) s = .next t ∧ t.f (ROSTER_W_STAT_STATE p.src) = 1) ∧
  (∀ (worker : Fin 33) (s : State), s.isMgr = true → s.workers.contains worker.val = true →
    s.f (ROSTER_W_STAT_STATE worker.val) ≤ 1 → s.port 0 = 4 ∨ s.port 1 = 4 → s.f RING_STATUS_STATE ≠ 1 →
    s.statusLate worker.val = true → s.heldBy pgROSTER < 4 → s.f RING_ENUM_M ≤ 32 → ∃ t, exec (.rosterStale worker) s = .next t ∧
    t.f (ROSTER_W_STAT_STATE worker.val) = 2) ∧
  (∀ (s : State), s.isMgr = true → s.f ROSTER_CFG_BLIND_T ≠ 0 → s.anyClosed = true → s.anyBad = true →
    s.b ROSTER_STATUS_BLIND = false → (s.eng.rack.blindAt.any fun x => decide (x + 1000 * s.f ROSTER_CFG_BLIND_T ≤ s.now)) = true →
    s.heldBy pgROSTER < 4 → ∃ t, exec .rosterBlind s = .next t ∧ t.b ROSTER_STATUS_BLIND = true) ∧
  (∀ (src : Src) (key : BitVec 16) (worker : Fin 64) (s : State),
    s.takes src ROSTER_CMD (keyed key (1 + worker.val * 2 ^ ROSTER_CMD_W.lo)) = true → s.accepts 8 = true → s.isMgr = true →
    s.eng.boot.cores.getD 2 false = true → s.workers.contains worker.val = true → s.f (ROSTER_W_STAT_STATE worker.val) = 4 →
    ∃ t, exec (.rosterReadmit src key worker) s = .next t ∧ t.eng.rack.readmit = some worker.val) ∧
  (∀ (src : Src) (key : BitVec 16) (worker : Fin 64) (x : Nat × Nat × Nat) (s : State),
    s.takes src ROSTER_CMD (keyed key (2 + worker.val * 2 ^ ROSTER_CMD_W.lo)) = true → s.accepts 8 = true → s.isMgr = true →
    s.eng.boot.cores.getD 2 false = true → s.workers.contains worker.val = true → worker.val ≤ 32 →
    4 ≤ s.f (ROSTER_W_STAT_STATE worker.val) → (s.eng.rack.seen.find? fun x => x.2.2 == worker.val) = some x →
    ∃ t, exec (.rosterAdopt src key worker) s = .next t ∧ t.eng.rack.readmit = some worker.val) ∧
  (∀ (v i : Rat) (s : State), s.isMgr = true → later (s.eng.rack.resNext * 1000) (s.resMs * 1000) = false →
    s.msMean 0 s.resMs = (some v, some i) → (s.f (shadowSrc pgRACK)) = 0 → s.b (shadowFrozen pgRACK) = false →
    ∃ t, exec .rackResult s = .next t ∧
    t.i RACK_V_MV = clampInt (-2 ^ 31) (2 ^ 31 - 1) (rnd (v * ((375 * s.f AFE_STACK_EXT_ATTEN : Nat) : Rat) / 10000))) ∧
  (∀ (hfe : Nat) (s : State), s.isMgr = true → s.eng.boot.cores.getD 1 false = true →
    later (s.arcBlock * 100) (s.eng.rack.blockNext * 100) = true →
    (s.arcEpochs ((s.epoch - 10 * s.f ARC_CFG_WAIT) / 100 - 1)).filterMap s.arcAt = [] → ∃ t, exec (.arcBlockEval hfe) s = .next t ∧
    t.f ARC_STATUS_COUNT = 0) ∧
  (∀ (src : Src) (w : Word) (s : State), s.takes src ARC_CTRL w = true → s.isMgr = true →
    ∃ t, exec (.arcCtrlWrite src w) s = .next t ∧ t.f ARC_CTRL_EN = ARC_CTRL_EN.of w) ∧
  (∀ (src : Src) (key : BitVec 16) (s : State), s.takes src ARC_CMD (keyed key 1) = true →
    ∃ t, exec (.arcClear src key) s = .next t ∧ t.eng.rack.decided = false) ∧
  (∀ (src : Src) (key : BitVec 16) (s : State), s.takes src ARC_CMD (keyed key 2) = true →
    ∃ t, exec (.arcRelearn src key) s = .next t ∧ t.eng.rack.rEnd = 0) ∧
  (∀ (src : Src) (w : Word) (s : State), s.takes src ISO_CTRL w = true → s.isMgr = true → 3 ≤ s.mode →
    ∃ t, exec (.isoCtrlWrite src w) s = .next t ∧ t.f ISO_CTRL_EN = ISO_CTRL_EN.of w) ∧
  (∀ (m80 m90 : Int) (limit : Bool) (s : State), s.isMgr = true → s.eng.rack.isoAt + 100000 * s.f ISO_CFG_T_HALF ≤ s.now →
    s.f ISO_STATUS_STATE = 1 → ∃ t, exec (.isoHalfEnd m80 m90 limit) s = .next t ∧ t.f ISO_STATUS_STATE = 2)

/-- Every command of capture, the host port, interrupts, fault collection, watchdogs, thermal management, the calendar, memory, OTP
and security completes with its own effect: for every state and operands that meet the conditions of its clause, exec answers a next
state in which the effect named there has happened. The rest of each effect, and what stays unchanged, is in the statements behind.
Completing here, by constructor: capArm, capForce, capRelease, capAbort, capPostComplete, capSettleEnd, xspiRead, xspiWrite,
xspiReadStatus, xspiStreamRead, xspiBadOpcode, mirrorReadyExpiry, hostDescentWaitEnd, expStart, expStop, expFlush, i2cWrite,
i2cRead, gpioOutWrite, gpioOutSet, gpioOutClr, gpioCfgWrite, gpioLevelChange, icuLineDeliver, icuLineWithdraw, icuClaim, icuDone,
icuSwiWrite, icuLineWrite, icuModTimeout, icuStartupRoutingEnd, faultMessage, quietPeriodEnd, fltRelease, fltClearRec, fltPendClear,
fltFirstClear, fltInject, wdgServiceWrite, wdgKeyArrival, wdgArmExpiry, wdgExpiry, wdgClkStop, wdgCfgWrite, tmCheckin, tmPeriodEnd,
lockstepMismatch, keeperRestart, keeperHandback, keeperAttemptsReset, keepRelease, thmWarn, thmLevelChange, skipFactorApply,
thmSensorFault, thmShutdown, thmShutdownRelease, rtcSecond, rtcPeriodicWake, rtcCalibrate, rtcTimeRead, rtcFreezeEnd, rtcSet,
pwronClr, rtcAlarmWrite, rtcPwronWrite, pwronPulseEnd, ceWindowExpiry, poisonConsumed, recRecordDone, recClrEvt, recClrTherm,
otpRead, otpProg, otpRepair, otpFinalise, otpBurnAttemptDone, lcAdvance, lcDecom, rekey, rngRestart, rngHealthFail, svcChallenge,
svcRespond, svcPassword, svcDrop, svcDebugOpen, svcDebugClose, nonceExpiry, lockoutEnd, sessionLapse, bounceWindowExpiry,
streamFrameForward, invalidBlockRx, contactorSensedChange, rngStartupTestDone. -/
def Obligations.hostAndSafetyCommandsComplete : Prop :=
  (∀ (src : Src) (key : BitVec 16) (s : State), s.takes src CAP_CMD (keyed key 1) = true → s.accepts 5 = true → s.isWrk = true →
    ∃ t, exec (.capArm src key) s = .next t ∧ t.capState = 1) ∧
  (∀ (src : Src) (key : BitVec 16) (s : State), s.takes src CAP_CMD (keyed key 2) = true → s.capState = 1 →
    ∃ t, exec (.capForce src key) s = .next t ∧ t.capState = 2) ∧
  (∀ (src : Src) (key : BitVec 16) (s : State), s.takes src CAP_CMD (keyed key 3) = true →
    ∃ t, exec (.capRelease src key) s = .next t ∧ t.capState = (if s.capState = 4 then 0 else s.capState)) ∧
  (∀ (src : Src) (key : BitVec 16) (s : State), s.takes src CAP_CMD (keyed key 4) = true → 1 ≤ s.capState → s.capState ≤ 3 →
    ∃ t, exec (.capAbort src key) s = .next t ∧ t.capState = 0) ∧
  (∀ (s : State), s.capState = 2 → later ((s.eng.cap.trig + s.eng.cap.post) * s.eng.cap.stride) s.epoch = false →
    ∃ t, exec .capPostComplete s = .next t ∧ t.capState = 3) ∧
  (∀ (s : State), s.capState = 3 → later (s.eng.cap.settleAt + 4200) s.epoch = false → ∃ t, exec .capSettleEnd s = .next t ∧
    t.capState = 4) ∧
  (∀ (a : BitVec 32) (n : Nat) (ecc : List Nat) (s : State), s.hostOpen = true → n = 1 → ecc.headD 0 = 0 →
    s.watchShut .xspi a.toNat = false → pageOf a.toNat ∉ [pgSVC, pgRTC, pgICU, pgSEC, pgEPOCH, pgHOST] →
    s.windowOf a.toNat = some .local → a.toNat % 4 = 0 → mapped a.toNat = true → ∃ t, exec (.xspiRead a n ecc) s = .next t ∧
    t.resp = [s.view pathXspi a.toNat]) ∧
  (∀ (a : BitVec 32) (words : List Word) (cut : Bool) (w : Word) (s : State), words = [w] → cut = false →
    s.windowOf a.toNat = some .local → a.toNat % 4 = 0 → [pgEST, pgCONT, pgEIS].contains (pageOf a.toNat) = true →
    a.toNat ≠ EIS_VIEW → ((rowAt a.toNat).map fun r => r.acc) = some .rwl → s.takes .xspi a.toNat w = true →
    ∃ t, exec (.xspiWrite a words cut) s = .next t ∧ t.reg a.toNat = s.norm a.toNat (s.reg a.toNat) w) ∧
  (∀ (n : Nat) (s : State), s.hostOpen = true → ∃ t, exec (.xspiReadStatus n) s = .next t ∧
    t.resp = List.replicate n (s.reg HOST_LAST)) ∧
  (∀ (n : Nat) (s : State), s.hostOpen = true → ∃ t, exec (.xspiStreamRead n) s = .next t ∧
    t.resp = ((s.eng.host.fifo.flatMap expRecord ++ List.replicate n 0).take n).map (BitVec.ofNat 32)) ∧
  (∀ (s : State), s.hostOpen = true → ∃ t, exec .xspiBadOpcode s = .next t ∧
    t.reg HOST_LAST = BitVec.ofNat 32 (statusWord 10 ((s.eng.host.seq + 1) % 256) 0)) ∧
  (∀ (s : State), s.mirState = 2 → s.eng.host.mirAt + 10000 ≤ s.now → ∃ t, exec .mirrorReadyExpiry s = .next t ∧ t.mirState = 0) ∧
  (∀ (a : BitVec 32) (words : List Word) (w : Word) (s : State), s.b MODE_STATUS_DESCENDING = true → s.f MODE_STATUS_ENTERING ≤ 1 →
    words = [w] → s.windowOf a.toNat = some .local → a.toNat % 4 = 0 → [pgEST, pgCONT, pgEIS].contains (pageOf a.toNat) = true →
    a.toNat ≠ EIS_VIEW → ((rowAt a.toNat).map fun r => r.acc) = some .rwl → s.takes .xspi a.toNat w = true →
    ∃ t, exec (.hostDescentWaitEnd a words) s = .next t ∧ t.reg a.toNat = s.norm a.toNat (s.reg a.toNat) w) ∧
  (∀ (src : Src) (key : BitVec 16) (s : State), s.takes src HOST_EXP_CMD (keyed key 1) = true → s.accepts 5 = true →
    ∃ t, exec (.expStart src key) s = .next t ∧ t.b HOST_STATUS_EXP_ON = true) ∧
  (∀ (src : Src) (key : BitVec 16) (s : State), s.takes src HOST_EXP_CMD (keyed key 2) = true →
    ∃ t, exec (.expStop src key) s = .next t ∧ t.b HOST_STATUS_EXP_ON = false) ∧
  (∀ (src : Src) (key : BitVec 16) (s : State), s.takes src HOST_EXP_CMD (keyed key 3) = true →
    ∃ t, exec (.expFlush src key) s = .next t ∧ t.eng.host.fifo = []) ∧
  (∀ (dev : BitVec 7) (a : BitVec 32) (words : List Word) (cut : Bool) (w : Word) (s : State), s.served .i2c = true →
    dev.toNat = 0x3A + s.f HOST_STATUS_I2C_A0 → words = [w] → cut = false → s.windowOf a.toNat = some .local → a.toNat % 4 = 0 →
    [pgEST, pgCONT, pgEIS].contains (pageOf a.toNat) = true → a.toNat ≠ EIS_VIEW →
    ((rowAt a.toNat).map fun r => r.acc) = some .rwl → s.takes .i2c a.toNat w = true →
    ∃ t, exec (.i2cWrite dev a words cut) s = .next t ∧ t.reg a.toNat = s.norm a.toNat (s.reg a.toNat) w) ∧
  (∀ (dev : BitVec 7) (a : BitVec 32) (n : Nat) (ecc : List Nat) (s : State), s.served .i2c = true →
    dev.toNat = 0x3A + s.f HOST_STATUS_I2C_A0 → n = 1 → ecc.headD 0 = 0 → s.watchShut .i2c a.toNat = false →
    pageOf a.toNat ∉ [pgSVC, pgRTC, pgICU, pgSEC, pgEPOCH, pgHOST] → s.windowOf a.toNat = some .local → a.toNat % 4 = 0 →
    mapped a.toNat = true → ∃ t, exec (.i2cRead dev a n ecc) s = .next t ∧ t.resp = [s.view pathI2c a.toNat]) ∧
  (∀ (src : Src) (w : Word) (s : State), s.takes src GPIO_OUT w = true → ∃ t, exec (.gpioOutWrite src w) s = .next t ∧
    (List.range 16).all (fun k => bitOf (t.f GPIO_OUT_VALUE) k == (if bitOf s.gpioOwner k then bitOf (s.f GPIO_OUT_VALUE) k else
      bitOf w.toNat k)) = true) ∧
  (∀ (src : Src) (w : Word) (s : State), s.takes src GPIO_OUT_SET w = true → ∃ t, exec (.gpioOutSet src w) s = .next t ∧
    (List.range 16).all (fun k => bitOf (t.f GPIO_OUT_VALUE) k == (if bitOf s.gpioOwner k then bitOf (s.f GPIO_OUT_VALUE) k else
      (bitOf (s.f GPIO_OUT_VALUE) k || bitOf w.toNat k))) = true) ∧
  (∀ (src : Src) (w : Word) (s : State), s.takes src GPIO_OUT_CLR w = true → ∃ t, exec (.gpioOutClr src w) s = .next t ∧
    (List.range 16).all (fun k => bitOf (t.f GPIO_OUT_VALUE) k == (if bitOf s.gpioOwner k then bitOf (s.f GPIO_OUT_VALUE) k else
      (bitOf (s.f GPIO_OUT_VALUE) k && !bitOf w.toNat k))) = true) ∧
  (∀ (src : Src) (n : Fin 16) (w : Word) (s : State), s.takes src (GPIO_CFG n.val) w = true → bitOf s.gpioOwner n.val = false →
    ∃ t, exec (.gpioCfgWrite src n w) s = .next t ∧ t.f (GPIO_CFG_DEB n.val) = min 5 ((GPIO_CFG_DEB n.val).of w)) ∧
  (∀ (n : Fin 16) (high : Bool) (s : State), bitOf s.balls.gpio n.val ≠ high → s.mode ≠ 0 → s.f (GPIO_CFG_EDGE n.val) = 3 →
    ∃ t, exec (.gpioLevelChange n high) s = .next t ∧ bitOf t.balls.gpio n.val = high) ∧
  (∀ (line : Fin 256) (u : Nat) (s : State), s.lineOn line.val = true → s.lineMask line.val ≠ 0 → s.inService line.val = false →
    (s.eng.icu.pend.any fun x => x.1 == line.val) = false → s.icuTarget line.val = some u →
    ∃ t, exec (.icuLineDeliver line) s = .next t ∧ t.eng.icu.pend = s.eng.icu.pend ++ [(line.val, u)]) ∧
  (∀ (line : Fin 256) (u : Nat) (s : State), s.eng.icu.pend = [(line.val, u)] → s.lineOn line.val = false →
    ∃ t, exec (.icuLineWithdraw line) s = .next t ∧ t.eng.icu.pend = []) ∧
  (∀ (src : Src) (tg : Fin 5) (l : Nat) (s : State), src = .core → tg.val < 3 → s.presentable tg.val = some l →
    (s.stack tg.val).length < 8 → s.eng.icu.claims.length = 5 → l < 256 → ∃ t, exec (.icuClaim src tg) s = .next t ∧
    t.resp = [BitVec.ofNat 32 (2 ^ 31 + s.linePrio l tg.val * 65536 + l)]) ∧
  (∀ (src : Src) (tg : Fin 5) (line : BitVec 8) (q : Nat) (r : List (Nat × Nat)) (s : State),
    s.takes src (ICU_T_DONE tg.val) (line.zeroExtend 32) = true → src = .core → tg.val < 3 → s.stack tg.val = (line.toNat, q) :: r →
    s.eng.icu.claims.length = 5 → s.lineOn line.toNat = false → ∃ t, exec (.icuDone src tg line) s = .next t ∧ t.stack tg.val = r) ∧
  (∀ (src : Src) (w : Word) (s : State), s.takes src ICU_SWI w = true → ∃ t, exec (.icuSwiWrite src w) s = .next t ∧
    t.f ICU_SWI_SW = ICU_SWI_SW.of w) ∧
  (∀ (src : Src) (line : Fin 256) (w : Word) (s : State), s.takes src (ICU_LINE line.val) w = true → src = .core →
    ∃ t, exec (.icuLineWrite src line w) s = .next t ∧ t.f (ICU_LINE_CPRIO line.val) = (ICU_LINE_CPRIO line.val).of w) ∧
  (∀ (tg : Fin 5) (s : State), s.gateDue tg.val = true → s.eng.icu.gate.length = 5 → s.eng.icu.shown.getD tg.val false = false →
    ∃ t, exec (.icuModTimeout tg) s = .next t ∧ t.b (ICU_T_PEND_GATE tg.val) = true) ∧
  (∀ (s : State), s.startUpOver = true → ∃ t, exec .icuStartupRoutingEnd s = .next t ∧ t.eng.icu.startUp = false) ∧
  (∀ (m : Msg) (s : State), s.released = true → s.fltNext = some m → (s.fltClass m + b2n (s.fltCount m).1) ≤ 3 →
    1 ≤ (s.fltClass m + b2n (s.fltCount m).1) → s.heldBy pgREC < 4 → ∃ t, exec .faultMessage s = .next t ∧
    t.reg FLT_LAST = BitVec.ofNat 32 m.word) ∧
  (∀ (s : State), s.mode = 6 → s.fltMayQuiet = true → s.quietOver = true → s.fltGrave = false →
    ∃ t, exec .quietPeriodEnd s = .next t ∧ t.mode = 3) ∧
  (∀ (src : Src) (key : BitVec 16) (s : State), s.takes src FLT_CMD (keyed key 1) = true → s.accepts 9 = true → s.mode = 6 →
    s.fltHold % 64 = 0 → s.fltGrave = false → ∃ t, exec (.fltRelease src key) s = .next t ∧ t.mode = 3) ∧
  (∀ (src : Src) (key : BitVec 16) (s : State), s.takes src FLT_CMD (keyed key 2) = true →
    ∃ t, exec (.fltClearRec src key) s = .next t ∧ t.f FLT_CNT_RECOVERIES = 0) ∧
  (∀ (src : Src) (w : Word) (s : State), s.takes src FLT_PEND w = true → ∃ t, exec (.fltPendClear src w) s = .next t ∧
    (List.range 4).all (fun k => bitOf (t.f FLT_PEND_SEV) k == (bitOf (s.f FLT_PEND_SEV) k && (!bitOf w.toNat k || (k == 3 && s.b
      FLT_STATUS_HOLDING)))) = true) ∧
  (∀ (src : Src) (w : Word) (s : State), s.takes src FLT_FIRST_INFO w = true → FLT_FIRST_INFO_VALID.of w = 1 →
    ∃ t, exec (.fltFirstClear src w) s = .next t ∧ t.b FLT_FIRST_INFO_VALID = false) ∧
  (∀ (src : Src) (w : Word) (s : State), s.takes src FLT_INJ w = true → s.mode = 7 → s.heldBy (getBits w 24 8) < 4 →
    ∃ t, exec (.fltInject src w) s = .next t ∧
    t.eng.flt.held = s.eng.flt.held ++ [⟨getBits w 24 8, getBits w 18 6, getBits w 12 6, getBits w 0 12, true⟩]) ∧
  (∀ (src : Src) (n : Fin 4) (w : Word) (s : State), s.takes src (WDG_SVC n.val) w = true → src ≠ .core ↔ n = 3 →
    (s.eng.wdg.sync.filter fun x => x.n == n.val).length < 2 → ∃ t, exec (.wdgServiceWrite src n w) s = .next t ∧
    t.eng.wdg.sync = s.eng.wdg.sync ++ [⟨n.val, w.toNat, s.now⟩]) ∧
  (∀ (n : Fin 4) (t0 : Nat) (s : State), s.eng.wdg.sync = [⟨n.val, 0xA5C3, t0⟩] → 2 ≤ s.wdgSince n.val t0 → s.wdgRuns n.val = true →
    s.b WDG_STATUS_COMPAT = false → s.wdgCnt n.val < s.wdgPeriod n.val → ∃ t, exec (.wdgKeyArrival n) s = .next t ∧
    t.b (WDG_STATUS_ARMED.bit n.val) = true) ∧
  (∀ (n : Fin 4) (s : State), s.armOver n.val = true → ∃ t, exec (.wdgArmExpiry n) s = .next t ∧
    t.b (WDG_STATUS_ARMED.bit n.val) = false) ∧
  (∀ (n : Fin 4) (s : State), s.wdgOver n.val = true → s.f (WDG_CFG_ACT n.val) = 0 → ∃ t, exec (.wdgExpiry n) s = .next t ∧
    t.reg (WDG_EVID n.val) = BitVec.ofNat 32 (2 ^ 31 + 0 * 2 ^ 28 + (s.wdgPeriod n.val) % 2 ^ 24)) ∧
  (∀ (n : Fin 4) (cnt : Nat) (s : State), s.wdgRuns n.val = true → cnt ≤ s.wdgCnt n.val → s.f (WDG_CFG_ACT n.val) = 0 →
    ∃ t, exec (.wdgClkStop n cnt) s = .next t ∧ t.reg (WDG_EVID n.val) = BitVec.ofNat 32 (2 ^ 31 + 5 * 2 ^ 28 + cnt % 2 ^ 24)) ∧
  (∀ (src : Src) (n : Fin 4) (w : Word) (s : State), s.takes src (WDG_CFG n.val) w = true →
    ∃ t, exec (.wdgCfgWrite src n w) s = .next t ∧ t.b (WDG_CFG_EN n.val) = ((WDG_CFG_EN n.val).of w == 1 || s.wdgStart n.val)) ∧
  (∀ (src : Src) (key : BitVec 16) (slot : Fin 16) (s : State),
    s.takes src WDG_TM_CHECKIN (keyed key (slot.val * 2 ^ WDG_TM_CHECKIN_SLOT.lo)) = true → src ≠ .core →
    ∃ t, exec (.tmCheckin src key slot) s = .next t ∧
    t.f (WDG_TM_SLOT_COUNT slot.val) = (if s.b (WDG_TM_SLOT_EN slot.val) then satInc (WDG_TM_SLOT_COUNT slot.val).wd (s.f
      (WDG_TM_SLOT_COUNT slot.val)) else s.f (WDG_TM_SLOT_COUNT slot.val))) ∧
  (∀ (s : State), s.tmOver = true → s.b WDG_TM_CFG_TO_WD3 = false → ∃ t, exec .tmPeriodEnd s = .next t ∧
    t.f WDG_TM_MISSING_MAP = maskOf s.tmMissing) ∧
  (∀ (pc0 pc1 : Word) (s : State), s.coreRuns 0 = true → s.mode = 3 ∨ s.mode = 4 → s.keep = 0 → s.keepTries < 3 →
    s.heldBy pgKEEP < 4 → ∃ t, exec (.lockstepMismatch pc0 pc1) s = .next t ∧ t.keep = 1) ∧
  (∀ (s : State), s.keep = 1 → s.keepFor 1000 = true → s.keepTries < 3 → ∃ t, exec .keeperRestart s = .next t ∧ t.keep = 2) ∧
  (∀ (s : State), s.keep = 2 → s.keepFor (s.f KEEP_CFG_PROB * 1000) = true → 1 ≤ s.keepTries → s.heldBy pgKEEP < 4 →
    ∃ t, exec .keeperHandback s = .next t ∧ t.keep = 0) ∧
  (∀ (s : State), s.keep = 0 → s.keepTries ≠ 0 → s.keepFor 600000000 = true → ∃ t, exec .keeperAttemptsReset s = .next t ∧
    t.keepTries = 0) ∧
  (∀ (src : Src) (key : BitVec 16) (s : State), s.takes src KEEP_CMD (keyed key 1) = true → s.accepts 9 = true → s.keep = 3 →
    ∃ t, exec (.keepRelease src key) s = .next t ∧ t.keep = 1) ∧
  (∀ (ts : List (List Int)) (a b c d e g : Int) (s : State), s.thmSamples = true → s.eng.boot.hold = 0 → ts = [[a, b, c, d, e, g]] →
    s.f THM_CFG_EN = 63 → (List.range 6).all (fun k => !s.b (THM_T_FAULT k)) = true →
    [a, b, c, d, e, g].all (fun x => -550 ≤ x && x ≤ 1750) = true → s.eng.thm.conds = [⟨false, 3⟩, {}, {}, {}, {}] →
    10 * (s.f THM_THR_WARN : Int) ≤ max (max a b) c → s.b (THM_STATUS_WARN.bit 0) = false → s.b (THM_STATUS_WARN.bit 1) = false →
    s.f THM_STATUS_LEVEL = 0 → s.f THM_STATUS_UNMON = 0 → s.heldBy pgTHM < 4 → ∃ t, exec (.thmWarn ts) s = .next t ∧
    t.b (THM_STATUS_WARN.bit 0) = true) ∧
  (∀ (ts : List (List Int)) (a b c d e g : Int) (s : State), s.thmSamples = true → s.eng.boot.hold = 0 → ts = [[a, b, c, d, e, g]] →
    s.f THM_CFG_EN = 63 → (List.range 6).all (fun k => !s.b (THM_T_FAULT k)) = true →
    [a, b, c, d, e, g].all (fun x => -550 ≤ x && x ≤ 1750) = true → s.eng.thm.conds = [{}, {}, ⟨false, 3⟩, {}, {}] →
    10 * (s.f THM_THR_THR : Int) ≤ max (max (max a b) c) (max (max d e) g) → s.f THM_STATUS_LEVEL = 0 → s.f THM_STATUS_UNMON = 0 →
    s.heldBy pgTHM < 4 → ∃ t, exec (.thmLevelChange ts) s = .next t ∧ t.f THM_STATUS_LEVEL = 1) ∧
  (∀ (k : Nat) (s : State), s.eng.scan.skipNext = some k → s.epoch % 64 = 0 → ∃ t, exec .skipFactorApply s = .next t ∧
    t.eng.scan.skipK = k) ∧
  (∀ (ts : List (List Int)) (k : Nat) (a b c d e g : Int) (s : State), s.thmSamples = true → s.eng.boot.hold = 0 →
    ts = [[a, b, c, d, e, g]] → s.f THM_CFG_EN = 63 → s.eng.thm.conds = [{}, {}, {}, {}, {}] → s.f THM_STATUS_LEVEL = 0 →
    s.f THM_STATUS_UNMON = 0 → k < 6 → s.eng.thm.odd = (List.range 6).map (fun j => if j = k then 9 else 0) →
    (List.range 6).all (fun j => !s.b (THM_T_FAULT j)) = true →
    (List.range 6).all (fun j => decide (-550 ≤ [a, b, c, d, e, g].getD j 0 ∧
    [a, b, c, d, e, g].getD j 0 ≤ 1750) == decide (j ≠ k)) = true → s.b (THM_STATUS_WARN.bit 0) = false →
    s.b (THM_STATUS_WARN.bit 1) = false → s.heldBy pgTHM < 4 → ∃ t, exec (.thmSensorFault ts) s = .next t ∧
    t.b (THM_T_FAULT k) = true) ∧
  (∀ (ts : List (List Int)) (x : Int) (a b c d e g : Int) (s : State), s.thmSamples = true → s.eng.boot.hold = 0 →
    ts = [[a, b, c, d, e, g]] → s.f THM_CFG_EN = 63 → (List.range 6).all (fun k => !s.b (THM_T_FAULT k)) = true →
    [a, b, c, d, e, g].all (fun x => -550 ≤ x && x ≤ 1750) = true → s.released = true →
    s.eng.thm.conds = [{}, {}, {}, {}, ⟨false, 1⟩] → [a, b, c, d, e, g] = [x, x, x, x, x, x] → 10 * (s.f THM_THR_SHUT : Int) ≤ x →
    ∃ t, exec (.thmShutdown ts) s = .next t ∧ t.eng.boot.hold = 2) ∧
  (∀ (ts : List (List Int)) (a b c d e g : Int) (n : Nat) (s : State), ts = [[a, b, c, d, e, g]] → s.f THM_CFG_EN = 63 →
    (List.range 6).all (fun k => !s.b (THM_T_FAULT k)) = true → [a, b, c, d, e, g].all (fun x => -550 ≤ x && x ≤ 1750) = true →
    s.eng.boot.hold = 2 → max (max (max a b) c) (max (max d e) g) ≤ 10 * (s.f THM_THR_SHUT : Int) - 10 * (s.f THM_CFG_HYS : Int) →
    s.eng.thm.cool = some n → n + 100000 ≤ s.now → ∃ t, exec (.thmShutdownRelease ts) s = .next t ∧ t.eng.boot.hold = 0) ∧
  (∀ (s : State), 32768 ≤ s.rtcCount → s.b RTC_ALM_CFG_EN = false → 1 ≤ s.mode → s.f RTC_SEC_SEC + 1 < 2 ^ 32 →
    ∃ t, exec .rtcSecond s = .next t ∧ t.f RTC_SEC_SEC = (s.f RTC_SEC_SEC + 1) % 2 ^ 32) ∧
  (∀ (s : State), s.perDue = true → 1 ≤ s.mode → s.mode ≤ 4 → ∃ t, exec .rtcPeriodicWake s = .next t ∧
    t.f RTC_CNT_PERIODIC = satInc RTC_CNT_PERIODIC.wd (s.f RTC_CNT_PERIODIC)) ∧
  (∀ (s : State), s.calDue = true → ∃ t, exec .rtcCalibrate s = .next t ∧ t.b RTC_STATUS_CAL = true) ∧
  (∀ (src : Src) (r : Fin 4) (s : State), s.served src = true → s.watchShut src (RTC_SUB + 4 * r.val) = false → r.val ≠ 3 →
    ∃ t, exec (.rtcTimeRead src r) s = .next t ∧ t.resp = [s.rtcValue (pathOf src) (RTC_SUB + 4 * r.val)]) ∧
  (∀ (src : Src) (u v n : Nat) (s : State), s.eng.rtc.frozen = [⟨pathOf src, u, v, n⟩] → n + 1000000 ≤ s.now →
    ∃ t, exec (.rtcFreezeEnd src) s = .next t ∧ t.eng.rtc.frozen = []) ∧
  (∀ (src : Src) (key : BitVec 16) (s : State), s.takes src RTC_CMD (keyed key 1) = true → s.b RTC_ALM_CFG_EN = false →
    ∃ t, exec (.rtcSet src key) s = .next t ∧ t.f RTC_SEC_SEC = (s.f RTC_SET_SEC_SEC)) ∧
  (∀ (src : Src) (key : BitVec 16) (s : State), s.takes src RTC_CMD (keyed key 2) = true →
    ∃ t, exec (.pwronClr src key) s = .next t ∧ t.eng.rtc.latched = false) ∧
  (∀ (src : Src) (cfg : Bool) (w : Word) (s : State), s.takes src (if cfg then RTC_ALM_CFG else RTC_ALARM) w = true → cfg = false →
    ∃ t, exec (.rtcAlarmWrite src cfg w) s = .next t ∧ t.f RTC_ALARM_SEC = w.toNat) ∧
  (∀ (src : Src) (w : Word) (s : State), s.takes src RTC_PWRON w = true → ∃ t, exec (.rtcPwronWrite src w) s = .next t ∧
    t.f RTC_PWRON_MODE = RTC_PWRON_MODE.of w) ∧
  (∀ (s : State), s.pulseOver = true → ∃ t, exec .pwronPulseEnd s = .next t ∧ t.eng.rtc.pulse = false) ∧
  (∀ (s : State), ∃ t, exec .ceWindowExpiry s = .next t ∧
    (List.range 16).all (fun b => t.b (MEM_STATUS_CE_HIGH.bit b) == decide (s.f MEM_CFG_CE_THR ≤ s.ceCount b)) = true) ∧
  (∀ (off : BitVec 22) (s : State), s.heldBy pgMEM < 3 → ∃ t, exec (.poisonConsumed off) s = .next t ∧
    t.f MEM_CNT_CORE_EXC = satInc MEM_CNT_CORE_EXC.wd (s.f MEM_CNT_CORE_EXC)) ∧
  (∀ (poison : Bool) (err : Option Nat) (j : RecJob) (s : State), s.eng.recs.cur = some j → s.eng.recs.queue = [] → j.kind = 3 →
    j.words.length = 7 → poison = false → err = none → ∃ t, exec (.recRecordDone poison err) s = .next t ∧
    t.f REC_CNT_WRITES = satInc REC_CNT_WRITES.wd (s.f REC_CNT_WRITES)) ∧
  (∀ (src : Src) (key : BitVec 16) (s : State), s.takes src REC_CMD (keyed key 1) = true →
    ∃ t, exec (.recClrEvt src key) s = .next t ∧ t.f REC_EVT_PTR_NEXT = 0) ∧
  (∀ (src : Src) (key : BitVec 16) (s : State), s.takes src REC_CMD (keyed key 2) = true →
    ∃ t, exec (.recClrTherm src key) s = .next t ∧ t.f REC_THM_PTR_NEXT = 0) ∧
  (∀ (src : Src) (key : BitVec 16) (margin : Fin 4) (s : State),
    s.takes src OTP_CMD (keyed key (1 + margin.val * 2 ^ OTP_CMD_MARGIN.lo)) = true → margin.val = 0 → s.b OTP_STATUS_BUSY = false →
    isProtected (s.f OTP_ADDR_ROW) = false → ∃ t, exec (.otpRead src key margin) s = .next t ∧
    t.reg OTP_RDATA = BitVec.ofNat 32 (s.otpRead (s.f OTP_ADDR_ROW))) ∧
  (∀ (src : Src) (key : BitVec 16) (margin : Fin 4) (s : State),
    s.takes src OTP_CMD (keyed key (2 + margin.val * 2 ^ OTP_CMD_MARGIN.lo)) = true → margin.val ≠ 3 → s.accepts 6 = true →
    s.b OTP_STATUS_BUSY = false → s.f OTP_ADDR_ROW ≤ 0x3FF →
    isSealed (s.f OTP_ADDR_ROW) = false ∨ (regionOfRow (s.f OTP_ADDR_ROW)).all (fun r => s.regionState r == 0) = true →
    s.lowSupply = false → ∃ t, exec (.otpProg src key margin) s = .next t ∧
    t.eng.otp.job.map (fun j => (j.op, j.rows)) = some (2, [(s.rowAtHand (s.f OTP_ADDR_ROW), s.f OTP_WDATA_DATA)])) ∧
  (∀ (src : Src) (key : BitVec 16) (margin : Fin 4) (e : Nat) (s : State),
    s.takes src OTP_CMD (keyed key (3 + margin.val * 2 ^ OTP_CMD_MARGIN.lo)) = true → margin.val ≠ 3 → s.accepts 6 = true →
    s.b OTP_STATUS_BUSY = false → s.f OTP_ADDR_ROW ≤ 0x3FF →
    isSealed (s.f OTP_ADDR_ROW) = false ∨ s.f OTP_WDATA_DATA = s.otpRead (s.f OTP_ADDR_ROW) → s.lowSupply = false →
    s.freeSpare = some e → ∃ t, exec (.otpRepair src key margin) s = .next t ∧ t.b OTP_STATUS_BUSY = true) ∧
  (∀ (src : Src) (key : BitVec 16) (margin : Fin 4) (region : Fin 8) (s : State),
    s.takes src OTP_CMD (keyed key (4 + margin.val * 2 ^ OTP_CMD_MARGIN.lo + region.val * 2 ^ OTP_CMD_REGION.lo)) = true →
    margin.val ≠ 3 → s.accepts 6 = true → s.b OTP_STATUS_BUSY = false → s.regionState region.val = 0 → s.lowSupply = false →
    ∃ t, exec (.otpFinalise src key margin region) s = .next t ∧ t.b OTP_STATUS_BUSY = true) ∧
  (∀ (fail : Word) (j : OtpJob) (q data : Nat) (s : State), s.eng.otp.job = some j → j.op = 2 → j.rows = [(q, data)] →
    data < 2 ^ 32 → BitVec.ofNat 32 data &&& fail = 0 → j.retries ≤ 8 → j.most ≤ 8 →
    ∃ t, exec (.otpBurnAttemptDone fail) s = .next t ∧ t.otpRow q = s.otpRow q ||| BitVec.ofNat 32 data) ∧
  (∀ (src : Src) (key : BitVec 16) (l : Nat) (rs : List Nat) (s : State), s.takes src SEC_CMD (keyed key (1)) = true →
    s.accepts 6 = true → lcNeeds s.lc = some (l, rs) → l ≤ s.sessionOf src → (rs.all fun r => s.regionState r == 1) = true →
    s.b OTP_STATUS_BUSY = false → s.lowSupply = false → ∃ t, exec (.lcAdvance src key) s = .next t ∧
    t.eng.otp.job.map (fun j => (j.op, j.region, j.rows)) = some (5, s.lc + 1, [(s.rowAtHand (0x110 + s.lc), 2 ^ 32 - 1)])) ∧
  (∀ (src : Src) (key : BitVec 16) (s : State), s.takes src SEC_CMD (keyed key (2)) = true → s.accepts 6 = true → s.lc ≠ 4 →
    2 ≤ s.sessionOf src → s.b OTP_STATUS_BUSY = false → s.lowSupply = false → ∃ t, exec (.lcDecom src key) s = .next t ∧
    t.eng.otp.job.map (fun j => (j.op, j.region, j.rows)) = some (5, 4, [(s.rowAtHand 0x113, 2 ^ 32 - 1)])) ∧
  (∀ (src : Src) (key : BitVec 16) (worker : Fin 64) (s : State),
    s.takes src SEC_CMD (keyed key (3 + worker.val * 2 ^ SEC_CMD_W.lo)) = true → s.accepts 8 = true → s.isMgr = true →
    worker.val ≠ 0 → s.eng.ring.keys.contains worker.val = true → ∃ t, exec (.rekey src key worker) s = .next t ∧
    t.f SEC_RING_GEN = (s.f SEC_RING_GEN + 1) % 2 ^ SEC_RING_GEN.wd) ∧
  (∀ (src : Src) (key : BitVec 16) (s : State), s.takes src SEC_CMD (keyed key (4)) = true →
    ∃ t, exec (.rngRestart src key) s = .next t ∧ t.b SEC_RNG_OK = false) ∧
  (∀ (apt : Bool) (s : State), s.heldBy pgSEC < 4 → ∃ t, exec (.rngHealthFail apt) s = .next t ∧ t.b SEC_RNG_OK = false) ∧
  (∀ (src : Src) (key : BitVec 16) (level : Fin 4) (s : State),
    s.takes src SVC_CMD (keyed key (1 + level.val * 2 ^ SVC_CMD_LEVEL.lo)) = true → s.lockedOut = false →
    lcOffers s.lc level.val = true → s.keyUsable (keyRow level.val) = true → s.b SEC_RNG_OK = true →
    ∃ t, exec (.svcChallenge src key level) s = .next t ∧ t.f SVC_STATUS_RESULT = 1) ∧
  (∀ (src : Src) (key : BitVec 16) (s : State), s.takes src SVC_CMD (keyed key (2)) = true → s.eng.sec.nonce = true →
    ∃ t, exec (.svcRespond src key) s = .next t ∧ t.f SVC_STATUS_RESULT = (if s.respBytes 8 == s.svcMac then 1 else 2)) ∧
  (∀ (src : Src) (key : BitVec 16) (level : Fin 4) (s : State),
    s.takes src SVC_CMD (keyed key (3 + level.val * 2 ^ SVC_CMD_LEVEL.lo)) = true → s.lockedOut = false →
    s.b SEC_POLICY_PW_DIS = false → level.val = 1 ∨ level.val = 2 → s.keyUsable (pwRow level.val) = true →
    ∃ t, exec (.svcPassword src key level) s = .next t ∧
    t.level = (if Sha.sha256 (s.respBytes 4 ++ s.uidBytes) == s.rowBytes (pwRow level.val) then level.val else s.level)) ∧
  (∀ (src : Src) (key : BitVec 16) (s : State), s.takes src SVC_CMD (keyed key (4)) = true → s.lc = 2 →
    ∃ t, exec (.svcDrop src key) s = .next t ∧ t.level = 0) ∧
  (∀ (src : Src) (key : BitVec 16) (s : State), s.takes src SVC_CMD (keyed key (5)) = true → s.lc = 2 → 2 ≤ s.sessionOf src →
    s.b SEC_POLICY_DEBUG_FIELD = true → s.heldBy pgSVC < 4 → ∃ t, exec (.svcDebugOpen src key) s = .next t ∧
    t.b SVC_DEBUG_SAP_OPEN = true) ∧
  (∀ (src : Src) (key : BitVec 16) (s : State), s.takes src SVC_CMD (keyed key (6)) = true → s.lc = 2 →
    ∃ t, exec (.svcDebugClose src key) s = .next t ∧ t.b SVC_DEBUG_SAP_OPEN = false) ∧
  (∀ (s : State), s.nonceOld = true → ∃ t, exec .nonceExpiry s = .next t ∧ t.eng.sec.nonce = false) ∧
  (∀ (s : State), s.lockOver = true → ∃ t, exec .lockoutEnd s = .next t ∧ t.f SVC_FAIL_LOCK_REM = 0) ∧
  (∀ (s : State), s.lapseDue = true → s.lc = 2 → ∃ t, exec .sessionLapse s = .next t ∧ t.level = 0) ∧
  (∀ (s : State), ∃ t, exec .bounceWindowExpiry s = .next t ∧ t.f PATH_BOUNCE_WINDOW = s.f PATH_BOUNCE_WINDOW - 1) ∧
  (∀ (port : Fin 2) (worker : Fin 64) (e14 : BitVec 14) (flags : BitVec 10) (samples : List Nat) (crc : BitVec 32) (s : State),
    s.isWrk = true → s.port port.val = 4 → s.port (1 - port.val) = 4 →
    ∃ t, exec (.streamFrameForward port worker e14 flags samples crc) s = .next t ∧
    t.eng.ring.tx = [.frame (1 - port.val) ⟨rebuildEpoch s.epoch e14.toNat, worker.val, flags.toNat, samples⟩ crc.toNat]) ∧
  (∀ (port : Fin 2) (hdr : Fin 4) (w : BitVec 64) (s : State), hdr ≠ 1 → hdr ≠ 2 →
    ∃ t, exec (.invalidBlockRx port hdr w) s = .next t ∧
    t.f (RING_P_CNT_BLK_COUNT port.val) = satInc (RING_P_CNT_BLK_COUNT port.val).wd (s.f (RING_P_CNT_BLK_COUNT port.val))) ∧
  (∀ (p0 p1 p2 : Nat) (s : State), p0 < 1024 → p1 < 1024 → p2 < 1024 → ∃ t, exec (.contactorSensedChange p0 p1 p2) s = .next t ∧
    t.b (CONT_STATUS_SENSED.bit 0) = decide (s.onPm ≤ p0)) ∧
  (∀ (ok : Bool) (s : State), s.b SEC_RNG_STARTUP_DONE = false → ok = true → ∃ t, exec (.rngStartupTestDone ok) s = .next t ∧
    t.b SEC_RNG_STARTUP_DONE = true)

/-- Supplies of the AON domain and what their return resets: For every state: the AON supply rising from absent leaves RST_CAUSE at
AON_POR, POR and no core reset, step 1 exactly when VSYS is available, and the balls sampled; a rise of VSYS, and a fall of a fixed
monitor that stood above, leave RST_PREV with the old RST_CAUSE, POR set and bring-up at step 1; a source of the AON domain that
goes or comes changes no register, byte, OTP row, shadow or staging copy. Completing here, by constructor: aonPowerUp,
vsysRiseThreshold, internalMonitorFall, vsysFallThreshold, vbkupAvailable, vbkupUnavailable. -/
def Obligations.powerAndFixedMonitors : Prop :=
  (∀ (vsys vbkup role testen a0 : Bool) (s : State), completes (.aonPowerUp vsys vbkup role testen a0) s fun t =>
    t.reg RST_CAUSE = 0xC000000C#32 ∧ t.f RST_BOOT_STEP = b2n vsys ∧ t.reg RST_CNT = 0 ∧ t.f MODE_REQ_TARGET = 15 ∧ t.mode = 3 ∧
    t.eng.clk.vsys = vsys ∧ t.eng.clk.vbkup = vbkup ∧ t.balls.role = role ∧ t.balls.testen = testen ∧ t.balls.i2cA0 = a0 ∧
    t.reg THM_SHUT = (if bitOf s.eng.boot.hold 1 then s.reg THM_SHUT else 0)) ∧
  (∀ (role testen a0 : Bool) (s : State), bitOf s.eng.boot.hold 0 = false → completes (.vsysRiseThreshold role testen a0) s fun t =>
    t.reg RST_PREV = s.reg RST_CAUSE ∧ t.reg RST_CAUSE = (if s.booting then 0x4000008C#32 else 0x4000000C#32) ∧
    t.f RST_BOOT_STEP = 1 ∧ t.mode = 3 ∧ t.balls.role = role ∧ t.eng.clk.vsys = true) ∧
  (∀ (role testen a0 : Bool) (s : State), bitOf s.eng.boot.hold 0 = true → completes (.vsysRiseThreshold role testen a0) s fun t =>
    t.reg RST_PREV = s.reg RST_CAUSE ∧ t.b RST_CAUSE_PIN = true ∧ t.b RST_CAUSE_POR = true ∧ t.f RST_BOOT_STEP = 0 ∧
    t.eng.boot.hold = 1 ∧ t.eng.clk.vsys = true) ∧
  (∀ (k : Fin 6) (role testen a0 : Bool) (s : State), s.b (REG_INT_MON_ABOVE.bit k.val) = true → bitOf s.eng.boot.hold 0 = false →
    completes (.internalMonitorFall k role testen a0) s fun t => t.reg RST_PREV = s.reg RST_CAUSE ∧
    t.reg RST_CAUSE = (if s.booting then 0x4000008C#32 else 0x4000000C#32) ∧ t.f RST_BOOT_STEP = 1 ∧ t.mode = 3 ∧
    t.balls.role = role) ∧
  (∀ (s : State), completes .vsysFallThreshold s fun t => t.eng.clk.vsys = false ∧ t.eng.clk.vbkup = s.eng.clk.vbkup ∧
    sameBut [] [] s t) ∧
  (∀ (s : State), completes .vbkupAvailable s fun t => t.eng.clk.vbkup = true ∧ t.eng.clk.vsys = s.eng.clk.vsys ∧
    sameBut [] [] s t) ∧
  (∀ (s : State), completes .vbkupUnavailable s fun t => t.eng.clk.vbkup = false ∧ t.eng.clk.vsys = s.eng.clk.vsys ∧
    sameBut [] [] s t)

/-- The root clock, its failure and return, and the two PLLs: For every state that meets the stated conditions: a missing root puts
the main PLL in holdover, unlocks both PLLs, selects the HFRC, counts the failure and flags it; the monitor records its reading;
reacquisition, lock, loss of lock and the end of the 20 ms wait leave the status bits R16, R19, R20, R24 and R591 give, and change
nothing else that the statement does not name. Completing here, by constructor: rootMissingEdge, rootMeasWindowEnd, mpllReacquired,
mpllLock, rootStartTimeout, lpllLock, mpllUnlock, lpllUnlock. -/
def Obligations.rootAndLinkClock : Prop :=
  (∀ (s : State), s.rootXo = true → completes .rootMissingEdge s fun t => t.b CLK_STATUS_HOLDOVER = true ∧
    t.b CLK_STATUS_MPLL_LOCK = false ∧ t.b CLK_STATUS_ROOT_RC = true ∧ t.b CLK_STATUS_LPLL_LOCK = false ∧
    t.f CLK_FAIL_CNT_ROOT_FAILS = satInc CLK_FAIL_CNT_ROOT_FAILS.wd (s.f CLK_FAIL_CNT_ROOT_FAILS) ∧
    t.b CLK_EVT_RAW_ROOT_FAIL = true ∧ t.eng.clk.lpllOn = false) ∧
  (∀ (freq : Nat) (s : State), s.clocksOn = true → monLimit s.eng.clk.lfXo (s.f CLK_ROOT_CFG_MON_TOL) + 4000000 ≥ freq →
    freq + monLimit s.eng.clk.lfXo (s.f CLK_ROOT_CFG_MON_TOL) ≥ 4000000 → completes (.rootMeasWindowEnd freq) s fun t =>
    t.b CLK_MON_MEAS_VALID = true ∧ t.b CLK_MON_MEAS_REF_XO = s.eng.clk.lfXo ∧ t.f CLK_MON_MEAS_FREQ = freq ∧
    t.reg CLK_STATUS = s.reg CLK_STATUS ∧ t.reg CLK_FAIL_CNT = s.reg CLK_FAIL_CNT) ∧
  (∀ (s : State), s.clocksOn = true → s.b CLK_STATUS_HOLDOVER = true → completes .mpllReacquired s fun t =>
    t.b CLK_STATUS_HOLDOVER = false ∧ t.b CLK_STATUS_MPLL_LOCK = true ∧ t.b CLK_STATUS_ROOT_RC = s.b CLK_STATUS_ROOT_RC ∧
    sameBut [CLK_STATUS] [] s t) ∧
  (∀ (s : State), s.eng.clk.startWait = true → completes .mpllLock s fun t => t.b CLK_STATUS_MPLL_LOCK = true ∧
    t.b CLK_STATUS_ROOT_RC = false ∧ t.b PHC_STATUS_CLK_RC = false ∧ t.eng.clk.startWait = false ∧ t.eng.clk.lpllOn = true) ∧
  (∀ (s : State), s.eng.clk.startWait = true → s.mode ≠ 1 → completes .rootStartTimeout s fun t => t.b CLK_STATUS_MPLL_LOCK = true ∧
    t.b CLK_STATUS_ROOT_RC = true ∧ t.b CLK_EVT_RAW_ROOT_FAIL = true ∧ t.eng.clk.startWait = false ∧ t.eng.clk.lpllOn = false) ∧
  (∀ (s : State), s.b RST_BOOT_HALTED = false → s.eng.clk.lpllOn = true → s.rootXo = true → 3 ≤ s.mode →
    completes .lpllLock s fun t => t.b CLK_STATUS_LPLL_LOCK = true ∧ t.b CLK_STATUS_MPLL_LOCK = s.b CLK_STATUS_MPLL_LOCK ∧
    sameBut [CLK_STATUS] [] s t) ∧
  (∀ (s : State), s.rootXo = true → s.b CLK_STATUS_MPLL_LOCK = true → completes .mpllUnlock s fun t =>
    t.b CLK_STATUS_MPLL_LOCK = false ∧ t.b CLK_EVT_RAW_MPLL_UNLOCK = true ∧ sameBut (CLK_EVT_RAW :: wakeRegs) [pgMODE] s t) ∧
  (∀ (s : State), s.rootXo = true → s.b CLK_STATUS_LPLL_LOCK = true → completes .lpllUnlock s fun t =>
    t.b CLK_STATUS_LPLL_LOCK = false ∧ t.b CLK_EVT_RAW_LPLL_UNLOCK = true ∧ t.b CLK_STATUS_MPLL_LOCK = s.b CLK_STATUS_MPLL_LOCK ∧
    t.port 0 = (if s.port 0 = 4 then 2 else s.port 0) ∧ t.port 1 = (if s.port 1 = 4 then 2 else s.port 1))

/-- The return to the crystal, the LF clock and steering: For every state that meets the stated conditions: a retry command that is
taken starts the attempt, and its success or failure leaves the bits R20 gives; the LF clock moves to and from LFXO under R21,
counting a loss; CLK_LF_CFG and CLK_STEER hold what R21 and R17 say of the word written. Completing here, by constructor: rootRetry,
rootRetrySuccess, rootRetryFail, lfxoQualified, lfxoLoss, clkLfCfgWrite, clkSteerWrite. -/
def Obligations.rootReturnAndLfClock : Prop :=
  (∀ (src : Src) (key : BitVec 16) (s : State), s.takes src CLK_CMD (keyed key (2 ^ CLK_CMD_ROOT_RETRY.lo)) = true →
    s.clocksOn = true → s.b CLK_STATUS_ROOT_RC = true → s.eng.clk.startWait = false → completes (.rootRetry src key) s fun t =>
    t.outcome = .ok ∧ t.eng.clk.retry = true ∧ sameBut [] [] s t) ∧
  (∀ (s : State), s.eng.clk.retry = true → completes .rootRetrySuccess s fun t => t.eng.clk.retry = false ∧
    t.eng.clk.lpllOn = true ∧ t.b CLK_STATUS_ROOT_RC = false ∧ t.b CLK_STATUS_HOLDOVER = true ∧ t.b CLK_STATUS_MPLL_LOCK = false ∧
    sameBut [CLK_STATUS, RTC_STATUS] [] s t) ∧
  (∀ (s : State), s.eng.clk.retry = true → s.clocksOn = true → completes .rootRetryFail s fun t => t.eng.clk.retry = false ∧
    t.b CLK_EVT_RAW_ROOT_FAIL = true ∧ t.b CLK_STATUS_ROOT_RC = s.b CLK_STATUS_ROOT_RC ∧
    sameBut (CLK_EVT_RAW :: wakeRegs) [pgMODE] s t) ∧
  (∀ (s : State), s.eng.clk.lfTry = true → s.b CLK_LF_CFG_SEL_RC = false → completes .lfxoQualified s fun t =>
    t.eng.clk.lfXo = true ∧ t.b CLK_STATUS_LF_XO = true ∧ t.b RTC_STATUS_LF_XO = true ∧ sameBut [CLK_STATUS, RTC_STATUS] [] s t) ∧
  (∀ (s : State), s.eng.clk.lfXo = true → completes .lfxoLoss s fun t => t.eng.clk.lfXo = false ∧ t.b CLK_STATUS_LF_XO = false ∧
    t.b CLK_EVT_RAW_LF_FAIL = true ∧ t.f CLK_FAIL_CNT_LF_FAILS = satInc CLK_FAIL_CNT_LF_FAILS.wd (s.f CLK_FAIL_CNT_LF_FAILS) ∧
    sameBut ([CLK_EVT_RAW, CLK_FAIL_CNT, RTC_STATUS] ++ wakeRegs) [pgMODE] s t) ∧
  (∀ (src : Src) (w : Word) (s : State), s.takes src CLK_LF_CFG w = true → completes (.clkLfCfgWrite src w) s fun t =>
    t.f CLK_LF_CFG_SEL_RC = CLK_LF_CFG_SEL_RC.of w ∧ t.eng.clk.lfTry = (CLK_LF_CFG_SEL_RC.of w == 0) ∧
    t.eng.clk.lfXo = (s.eng.clk.lfXo && CLK_LF_CFG_SEL_RC.of w == 0) ∧ sameBut [CLK_LF_CFG, CLK_STATUS, RTC_STATUS] [] s t) ∧
  (∀ (src : Src) (w : Word) (s : State), s.takes src CLK_STEER w = true → completes (.clkSteerWrite src w) s fun t =>
    t.i CLK_STEER_STEER = clampInt (-50000) 50000 (signed 20 (CLK_STEER_STEER.of w)) ∧
    sameBut ([CLK_STEER, CLK_EVT_RAW] ++ wakeRegs) [pgMODE] s t)

/-- RESET_N, software system resets and core resets: For every state that meets the stated conditions: the reset pin is accepted,
held and released as R100 says; a system reset sets its cause, counts, marks RESTART during bring-up and restarts bring-up at the
step that the fixed rails allow; a core reset stops exactly what R102 says of a selected running core. Completing here, by
constructor: resetNFall, resetNAccept, resetNRise, rstCmdSys, rstCmdCore. -/
def Obligations.resetsOfTheDevice : Prop :=
  (∀ (s : State), completes .resetNFall s fun t => t.balls.resetN = false ∧ t.eng.boot.pinLow = true ∧ sameBut [] [] s t) ∧
  (∀ (s : State), s.eng.boot.pinLow = true → s.eng.boot.hold = 0 → s.powered = true → completes .resetNAccept s fun t =>
    t.eng.boot.hold = 1 ∧ t.f RST_BOOT_STEP = 0 ∧ t.b RST_CAUSE_PIN = true ∧
    t.b RST_CAUSE_RESTART = (s.booting || s.b RST_CAUSE_RESTART) ∧
    t.f RST_CNT_SYS_CNT = satInc RST_CNT_SYS_CNT.wd (s.f RST_CNT_SYS_CNT) ∧ t.eng.boot.cores = [false, false, false] ∧ t.mode = 3) ∧
  (∀ (s : State), s.eng.boot.pinLow = true → s.eng.boot.hold = 2 → completes .resetNAccept s fun t => t.eng.boot.hold = 3 ∧
    t.eng.boot.pinLow = false ∧ t.b RST_CAUSE_PIN = true ∧ sameBut [RST_CAUSE] [] s t) ∧
  (∀ (s : State), s.eng.boot.hold = 1 → completes .resetNRise s fun t => t.balls.resetN = true ∧ t.eng.boot.pinLow = false ∧
    t.eng.boot.hold = 0 ∧ t.f RST_BOOT_STEP = (if s.railsUp && s.eng.boot.railsDone then 2 else 1) ∧ t.eng.boot.start = s.now ∧
    (s.f SUP_FAULTED_MAP = 0 → sameBut [RST_BOOT] [pgSUP] s t)) ∧
  (∀ (src : Src) (key : BitVec 16) (s : State), s.takes src RST_CMD (keyed key (2 ^ RST_CMD_SYS.lo)) = true → s.powered = true →
    s.eng.boot.hold = 0 → completes (.rstCmdSys src key) s fun t => t.eng.boot.hold = 0 ∧
    t.f RST_BOOT_STEP = (if s.railsUp && s.eng.boot.railsDone then 2 else 1) ∧ t.b RST_CAUSE_SW_SYS = true ∧
    t.b RST_CAUSE_RESTART = (s.booting || s.b RST_CAUSE_RESTART) ∧
    t.f RST_CNT_SYS_CNT = satInc RST_CNT_SYS_CNT.wd (s.f RST_CNT_SYS_CNT) ∧ t.eng.boot.cores = [false, false, false] ∧ t.mode = 3 ∧
    t.f IDENT_ROLE_ROLE = s.f IDENT_ROLE_ROLE ∧ t.f MODE_REQ_TARGET = 15) ∧
  (∀ (src : Src) (key : BitVec 16) (cores : Fin 8) (c : Fin 3) (s : State),
    s.takes src RST_CMD (keyed key (cores.val * 2 ^ RST_CMD_CORE.lo)) = true → s.released = true → s.keep = 0 ∨ s.keep = 2 →
    bitOf cores.val c.val = true → s.coreRuns c.val = true → completes (.rstCmdCore src key cores) s fun t =>
    t.coreRuns c.val = false ∧ t.eng.boot.verify.contains c.val = true ∧ t.b (causeOf c.val) = true ∧ t.f RST_CAUSE_CORE_SRC = 0 ∧
    t.f RST_CNT_CORE_CNT = satInc RST_CNT_CORE_CNT.wd (s.f RST_CNT_CORE_CNT) ∧ t.mode = s.mode)

/-- Bring-up: the fixed rails, the load, the fill and the verification: For every state that meets the stated conditions: the rows
of fixed rails rise one after another and fail together (R133); the end of the load runs step 3 (R104) and leaves step 4, or with a
role mismatch step 3 halted (R106); the fill records its time (R525); a verification that ends releases its core after the device
has been released, and else moves bring-up to step 7 with the last one. Completing here, by constructor: vsysQualificationEnd,
fixedRailStep, fixedRailsSettled, fixedRailTimeout, fixedRailRetry, otpLoadDone, fillDone, patchVerifyDone, coreRelease. -/
def Obligations.bringUpSteps : Prop :=
  (∀ (s : State), s.f RST_BOOT_STEP = 1 → s.eng.clk.vsys = true → s.eng.pwr.fixedRow = 1 →
    completes .vsysQualificationEnd s fun t => t.eng.pwr.fixedRow = 2 ∧ t.f (regState 0) = 0b0101 ∧ t.f (regState 1) = 0b0101 ∧
    t.f (vnowOf 0) = 0 ∧ t.f (vnowOf 1) = 0 ∧ sameBut [] [pgREG] s t) ∧
  (∀ (x : Nat × Nat) (n : Nat) (s : State), s.f RST_BOOT_STEP = 1 → s.eng.pwr.fixedFailed = false → 2 ≤ s.eng.pwr.fixedRow →
    s.eng.pwr.fixedRow ≤ 4 → x ∈ fixedRow s.eng.pwr.fixedRow → n ∈ fixedSlots s.eng.pwr.fixedRow →
    completes .fixedRailStep s fun t => t.eng.pwr.fixedRow = s.eng.pwr.fixedRow + 1 ∧ t.b (REG_INT_MON_ABOVE.bit x.2) = true ∧
    t.f (regState x.1) = 0b0011 ∧ t.slotState n = 3 ∧ t.b (doneEvt x.1) = true ∧ sameBut wakeRegs [pgREG, pgSEQ, pgMODE] s t) ∧
  (∀ (s : State), s.f RST_BOOT_STEP = 1 → s.eng.pwr.fixedRow = 5 → s.railsUp = true → s.f SUP_FAULTED_MAP = 0 →
    completes .fixedRailsSettled s fun t => t.f RST_BOOT_STEP = 2 ∧ t.eng.pwr.fixedRow = 0 ∧ t.eng.boot.railsDone = true ∧
    (∀ n : Fin 16, s.b (SV_CFG_EN n.val) = true → s.f (SV_STAT_STATE n.val) = 0 →
    t.f (SV_STAT_STATE n.val) = (if s.svBlanked n.val then 1 else 2)) ∧ sameBut [RST_BOOT] [pgSUP] s t) ∧
  (∀ (r : Nat) (x : Nat × Nat) (s : State), s.f RST_BOOT_STEP = 1 → s.eng.pwr.fixedFailed = false → 2 ≤ s.eng.pwr.fixedRow →
    s.eng.pwr.fixedRow ≤ 4 → r ∈ [2, 3, 4] → x ∈ fixedRow r → completes .fixedRailTimeout s fun t => t.eng.pwr.fixedFailed = true ∧
    t.f REG_INT_MON_ABOVE = 0 ∧ t.f (regState x.1) = 0 ∧ t.f (vnowOf x.1) = 0 ∧ t.f RST_BOOT_STEP = 1) ∧
  (∀ (s : State), s.f RST_BOOT_STEP = 1 → s.eng.pwr.fixedFailed = true → s.eng.clk.vsys = true →
    completes .fixedRailRetry s fun t => t.eng.pwr.fixedFailed = false ∧ t.eng.pwr.fixedRow = 2 ∧ t.f (regState 0) = 0b0101 ∧
    t.f (regState 1) = 0b0101 ∧ sameBut [] [pgREG] s t) ∧
  (∀ (s : State), s.f RST_BOOT_STEP = 2 → s.eng.boot.fresh = false → s.b IDENT_ROLE_MISMATCH = false →
    completes .otpLoadDone s fun t => t.f RST_BOOT_STEP = 4 ∧ t.b RST_BOOT_HALTED = s.b RST_BOOT_HALTED ∧
    t.b CLK_STATUS_ROOT_RC = true ∧ t.eng.clk.startWait = true ∧ t.b MEM_STATUS_FILLING = true ∧ t.eng.boot.fillAt = s.now ∧
    t.f IDENT_ROLE_ROLE = s.f IDENT_ROLE_ROLE) ∧
  (∀ (s : State), s.f RST_BOOT_STEP = 2 → s.eng.boot.fresh = true → s.eng.boot.fresh = true → completes .otpLoadDone s fun t =>
    (t.b IDENT_ROLE_MISMATCH = true → t.f RST_BOOT_STEP = 3 ∧ t.b RST_BOOT_HALTED = true ∧ t.b RST_CAUSE_ROLE_MM = true ∧
    t.f IDENT_ROLE_ROLE = 0) ∧ (t.b IDENT_ROLE_MISMATCH = false → t.f RST_BOOT_STEP = 4 ∧
    t.f IDENT_ROLE_ROLE = (if s.eng.boot.role then 2 else 1))) ∧
  (∀ (us : Nat) (s : State), s.b MEM_STATUS_FILLING = true → us < 2 ^ MEM_FILL_US.wd → 3 ≤ s.mode →
    completes (.fillDone us) s fun t => t.b MEM_STATUS_FILLING = false ∧ t.b (MEM_EVT_RAW_EVENTS.bit 4) = true ∧
    t.f MEM_FILL_US = us ∧ t.eng.boot.filled = true) ∧
  (∀ (core : Fin 3) (s : State), s.eng.boot.verify.contains core.val = true → s.released = true → s.eng.boot.cores.length = 3 →
    completes (.patchVerifyDone core) s fun t => t.coreRuns core.val = true ∧ t.eng.boot.verify.contains core.val = false) ∧
  (∀ (core : Fin 3) (s : State), s.eng.boot.verify = [core.val] → s.f RST_BOOT_STEP = 6 →
    completes (.patchVerifyDone core) s fun t => t.f RST_BOOT_STEP = 7 ∧ t.eng.boot.verify = [] ∧
    t.eng.boot.cores = s.eng.boot.cores) ∧
  (∀ (rb : BitVec 25) (s : State), s.f RST_BOOT_STEP = 7 → s.isMgr = true → s.keep = 0 → s.eng.boot.testen = false →
    completes (.coreRelease rb) s fun t => t.f RST_BOOT_STEP = 8 ∧ t.mode = 3 ∧ t.eng.boot.cores = [true, true, true] ∧
    t.f RST_BOOT_TIME_US = min (s.now - s.eng.boot.start) (2 ^ RST_BOOT_TIME_US.wd - 1) ∧ t.b RST_EVT_RAW_BOOT_DONE = true) ∧
  (∀ (rb : BitVec 25) (s : State), s.f RST_BOOT_STEP = 7 → s.isMgr = true → s.keep = 3 → completes (.coreRelease rb) s fun t =>
    t.f RST_BOOT_STEP = 8 ∧ t.mode = 6 ∧ t.eng.boot.cores = [false, false, false] ∧ t.b FLT_STATUS_HOLDING = true ∧
    t.b RST_EVT_RAW_BOOT_DONE = s.b RST_EVT_RAW_BOOT_DONE)

/-- Regulator setpoints, ramps and limits, and the supervisors: For every state that meets the stated conditions: a setpoint of BK3
or of an LDO is stored as the nearer limit, and with the regulator off nothing else changes (R114, R119); a ramp that ends shows the
setpoint and DONE (R119); a limit that persists shows LIMITING and its event (R115, R116); a supervisor enters WARN on a condition,
counts it and records the first, rides through or trips as R124 says. Completing here, by constructor: regBkVsetWrite,
regLdVsetWrite, regRampDone, buckIlimPersist, ldoIlimPersist, svCfgWrite, svFault, svConditionClear, svShutdownTimer. -/
def Obligations.regulatorsAndSupervisors : Prop :=
  (∀ (src : Src) (w : Word) (s : State), s.takes src (REG_BK_VSET 3) w = true → completes (.regBkVsetWrite src w) s fun t =>
    t.f (REG_BK_VSET_VSET 3) = clamp 120 1000 ((REG_BK_VSET_VSET 3).of w) ∧ (s.f (regState 3) % 2 = 0 →
    sameBut [REG_BK_VSET 3] [] s t)) ∧
  (∀ (src : Src) (n : Fin 3) (w : Word) (s : State), s.takes src (REG_LD_VSET (3 + n.val)) w = true →
    completes (.regLdVsetWrite src n w) s fun t =>
    t.f (REG_LD_VSET_VSET (3 + n.val)) = clamp 240 1000 ((REG_LD_VSET_VSET (3 + n.val)).of w) ∧
    (s.f (regState (7 + n.val)) % 2 = 0 → sameBut [REG_LD_VSET (3 + n.val)] [] s t)) ∧
  (∀ (k : Fin 10) (s : State), s.ramping k.val = true → completes (.regRampDone k) s fun t =>
    t.f (vnowOf k.val) = s.f (vsetOf k.val) ∧ t.f (regState k.val) % 8 = 0b011 ∧ t.b (REG_EVT_RAW_DONE.bit k.val) = true ∧
    t.ramping k.val = false) ∧
  (∀ (n : Fin 4) (cycles : Nat) (s : State), s.f (regState n.val) % 2 = 1 → 64 ≤ cycles →
    completes (.buckIlimPersist n cycles) s fun t => t.b ((regState n.val).bit 3) = true ∧ t.b (REG_EVT_RAW_ILIM.bit n.val) = true ∧
    sameBut ([REG_EVT_RAW, (regState n.val).reg] ++ dropRegs ++ wakeRegs) [pgMODE] s t) ∧
  (∀ (n : Fin 6) (us : Nat) (s : State), s.f (regState (4 + n.val)) % 2 = 1 → 100 ≤ us → completes (.ldoIlimPersist n us) s fun t =>
    t.b ((regState (4 + n.val)).bit 3) = true ∧ t.b (REG_EVT_RAW_ILIM.bit (4 + n.val)) = true ∧
    sameBut ([REG_EVT_RAW, (regState (4 + n.val)).reg] ++ dropRegs ++ wakeRegs) [pgMODE] s t) ∧
  (∀ (src : Src) (n : Fin 16) (w : Word) (s : State), s.takes src (SV_CFG n.val) w = true → (SV_CFG_EN n.val).of w = 0 →
    completes (.svCfgWrite src n w) s fun t => t.b (SV_CFG_EN n.val) = false ∧ t.f (SV_STAT_STATE n.val) = 0 ∧
    t.f (SV_CFG_SRC n.val) = (if 0x14 < (SV_CFG_SRC n.val).of w then s.f (SV_CFG_SRC n.val) else (SV_CFG_SRC n.val).of w) ∧
    t.b (SUP_FAULTED_MAP.bit n.val) = false) ∧
  (∀ (src : Src) (n : Fin 16) (w : Word) (s : State), s.takes src (SV_CFG n.val) w = true → (SV_CFG_EN n.val).of w = 1 →
    0 < (SV_CFG_SRC n.val).of w → (SV_CFG_SRC n.val).of w ≤ 0x14 → s.f (SV_STAT_STATE n.val) = 0 →
    completes (.svCfgWrite src n w) s fun t => t.b (SV_CFG_EN n.val) = true ∧
    (t.f (SV_STAT_STATE n.val) = 1 ∨ t.f (SV_STAT_STATE n.val) = 2)) ∧
  (∀ (n : Fin 16) (uv clks : Nat) (s : State), s.svActive n.val = true → s.f (SV_STAT_STATE n.val) = 2 →
    s.svUv n.val (s.svSource n.val uv) = true ∨ s.svOv n.val (s.svSource n.val uv) = true → s.svFilt n.val ≤ clks →
    completes (.svFault n uv clks) s fun t => t.f (SV_STAT_STATE n.val) = 3 ∧
    t.b (SV_STAT_OV_NOW n.val) = s.svOv n.val (s.svSource n.val uv) ∧
    t.b (SV_STAT_UV_NOW n.val) = s.svUv n.val (s.svSource n.val uv) ∧
    t.f (SV_STAT_FAULTS n.val) = satInc (SV_STAT_FAULTS n.val).wd (s.f (SV_STAT_FAULTS n.val)) ∧
    t.b (SUP_FAULTED_MAP.bit n.val) = true ∧ t.b (SUP_TIMING_MAP.bit n.val) = true ∧ t.b SUP_PFW_LOW = true ∧
    t.b SUP_FIRST_VALID = true ∧ (s.b SUP_FIRST_VALID = false → t.f SUP_FIRST_SV = n.val ∧
    t.b SUP_FIRST_OV = !s.svUv n.val (s.svSource n.val uv)) ∧ t.b SUP_EVT_RAW_EARLY_WARN = true) ∧
  (∀ (n : Fin 16) (uv : Nat) (expiry : Bool) (s : State), s.svActive n.val = true → s.f (SV_STAT_STATE n.val) = 3 → expiry = false →
    s.eng.pwr.svWait.contains n.val = false → completes (.svConditionClear n uv expiry) s fun t =>
    t.b (SV_STAT_OV_NOW n.val) = s.svOv n.val (s.svSource n.val uv) ∧
    t.b (SV_STAT_UV_NOW n.val) = s.svUv n.val (s.svSource n.val uv) ∧
    t.f (SV_STAT_STATE n.val) = (if s.b (SV_CFG_RIDE n.val) && !s.svUv n.val (s.svSource n.val uv) && !s.svOv n.val (s.svSource
      n.val uv) then (if s.svBlanked n.val then 1 else 2) else 3) ∧ (t.f (SV_STAT_STATE n.val) = 2 →
    t.b SUP_EVT_RAW_RIDE_THROUGH = true)) ∧
  (∀ (n : Fin 16) (uv : Nat) (expiry : Bool) (s : State), s.svActive n.val = true → s.f (SV_STAT_STATE n.val) = 3 →
    s.b (SUP_TIMING_MAP.bit n.val) = true → s.f (SV_CFG_SLOT n.val) ≠ 0x1F → expiry = true →
    completes (.svConditionClear n uv expiry) s fun t => t.b SUP_EVT_RAW_SHUTDOWN = true ∧ t.f (SV_STAT_STATE n.val) ≠ 3) ∧
  (∀ (n : Fin 16) (s : State), s.svActive n.val = true → s.f (SV_STAT_STATE n.val) = 3 → s.b (SUP_TIMING_MAP.bit n.val) = true →
    s.f (SV_CFG_SLOT n.val) = 0x1F → s.eng.pwr.svWait.contains n.val = false → completes (.svShutdownTimer n) s fun t =>
    t.f (SV_STAT_STATE n.val) = (if s.b (SV_STAT_UV_NOW n.val) || s.b (SV_STAT_OV_NOW n.val) then 3 else if s.svBlanked n.val then
      1 else 2)) ∧
  (∀ (n : Fin 16) (s : State), s.svActive n.val = true → s.f (SV_STAT_STATE n.val) = 3 → s.b (SUP_TIMING_MAP.bit n.val) = true →
    s.f (SV_CFG_SLOT n.val) = 0x1E → s.f SEQ_STATUS_STATE = 2 → completes (.svShutdownTimer n) s fun t =>
    t.b SUP_EVT_RAW_SHUTDOWN = true ∧ t.f SEQ_STATUS_STATE ≠ 2) ∧
  (∀ (n : Fin 16) (s : State), s.svActive n.val = true → s.f (SV_STAT_STATE n.val) = 3 → s.b (SUP_TIMING_MAP.bit n.val) = true →
    3 ≤ s.f (SV_CFG_SLOT n.val) → s.f (SV_CFG_SLOT n.val) ≤ 18 → s.faulted (s.f (SV_CFG_SLOT n.val)) = false →
    completes (.svShutdownTimer n) s fun t => t.b SUP_EVT_RAW_SHUTDOWN = true ∧ t.b SEQ_EVT_RAW_SLOT_FAULT = true ∧
    t.b SEQ_FIRST_VALID = true ∧ t.f (SV_STAT_STATE n.val) ≠ 3)

/-- The sequencer commands GO, STOP, SLOT_ON, SLOT_OFF and CLEAR: For every state in which the command is taken and its class
accepted: GO from OFF starts a power-up or reports the configuration; in POWERING_UP it is latched; in FAILED it is ignored and
reported; STOP moves an UP or starting sequence down; SLOT_OFF sets the override; SLOT_ON is latched while a sequence runs and
clears the override otherwise; CLEAR leaves FAILED and forgets the first-fault record. Completing here, by constructor: seqGo,
seqStop, seqSlotOn, seqSlotOff, seqClear. -/
def Obligations.sequencerCommands : Prop :=
  (∀ (src : Src) (key : BitVec 16) (p : Nat) (s : State), s.takes src SEQ_CTRL (keyed key 1) = true → s.accepts 10 = true →
    s.f SEQ_STATUS_STATE = 0 → s.seqCheck = true → s.heldBack = [] → p ∈ s.progSlots → s.toStart p = true →
    1 ≤ s.f (SEQ_SLOT_CFG_UP_STEP p) → completes (.seqGo src key) s fun t => t.f SEQ_STATUS_STATE = 1 ∧ t.f SEQ_RETRY_COUNT = 0 ∧
    1 ≤ t.f SEQ_STATUS_STEP) ∧
  (∀ (src : Src) (key : BitVec 16) (s : State), s.takes src SEQ_CTRL (keyed key 1) = true → s.accepts 10 = true →
    s.f SEQ_STATUS_STATE = 0 → s.seqCheck = false → completes (.seqGo src key) s fun t => t.f SEQ_STATUS_STATE = 0 ∧
    t.b SEQ_EVT_RAW_CFG_ERR = true ∧ sameBut (SEQ_EVT_RAW :: wakeRegs) [pgMODE] s t) ∧
  (∀ (src : Src) (key : BitVec 16) (s : State), s.takes src SEQ_CTRL (keyed key 1) = true → s.accepts 10 = true →
    s.f SEQ_STATUS_STATE = 5 → completes (.seqGo src key) s fun t => t.f SEQ_STATUS_STATE = 5 ∧ t.b SEQ_EVT_RAW_IGNORED = true ∧
    sameBut (SEQ_EVT_RAW :: wakeRegs) [pgMODE] s t) ∧
  (∀ (src : Src) (key : BitVec 16) (p : Nat) (s : State), s.takes src SEQ_CTRL (keyed key 2) = true → s.accepts 11 = true →
    s.f SEQ_STATUS_STATE = 2 → p ∈ s.progSlots → s.slotOn p = true → completes (.seqStop src key) s fun t =>
    t.f SEQ_STATUS_STATE = 3 ∧ p ∈ t.eng.seq.dnSet ∧ t.eng.seq.why = .stop) ∧
  (∀ (src : Src) (key : BitVec 16) (s : State), s.takes src SEQ_CTRL (keyed key 2) = true → s.accepts 11 = true →
    s.f SEQ_STATUS_STATE = 4 → s.progSlots.any s.slotOn = false → completes (.seqStop src key) s fun t => t.f SEQ_STATUS_STATE = 0 ∧
    t.b SEQ_STATUS_LATCHED_ON = false ∧ t.eng.seq.retry = false) ∧
  (∀ (src : Src) (key : BitVec 16) (n : Fin 32) (s : State),
    s.takes src SEQ_CTRL (keyed key (3 + n.val * 2 ^ SEQ_CTRL_SLOT.lo)) = true → s.accepts 10 = true → s.cmdSlot n.val = true →
    s.f SEQ_STATUS_STATE = 1 ∨ s.f SEQ_STATUS_STATE = 3 ∨ s.f SEQ_STATUS_STATE = 4 → completes (.seqSlotOn src key n) s fun t =>
    t.eng.seq.slotOn = s.eng.seq.slotOn ++ [n.val] ∧ sameBut [] [] s t) ∧
  (∀ (src : Src) (key : BitVec 16) (n : Fin 32) (s : State),
    s.takes src SEQ_CTRL (keyed key (3 + n.val * 2 ^ SEQ_CTRL_SLOT.lo)) = true → s.accepts 10 = true → s.cmdSlot n.val = true →
    s.f SEQ_STATUS_STATE = 0 ∨ s.f SEQ_STATUS_STATE = 2 → completes (.seqSlotOn src key n) s fun t =>
    t.b (SEQ_SLOT_STAT_OVR_OFF n.val) = false ∧ t.slotState n.val ≠ 6 ∧ t.slotState n.val ≠ 7) ∧
  (∀ (src : Src) (key : BitVec 16) (n : Fin 32) (s : State),
    s.takes src SEQ_CTRL (keyed key (4 + n.val * 2 ^ SEQ_CTRL_SLOT.lo)) = true → s.accepts 11 = true → s.cmdSlot n.val = true →
    s.f SEQ_STATUS_STATE = 2 → n.val ∉ s.eng.seq.dnSet → completes (.seqSlotOff src key n) s fun t =>
    t.b (SEQ_SLOT_STAT_OVR_OFF n.val) = true ∧ (s.slotOn n.val = true → n.val ∈ t.eng.seq.side) ∧ t.slotState n.val ≠ 1) ∧
  (∀ (src : Src) (key : BitVec 16) (s : State), s.takes src SEQ_CTRL (keyed key 5) = true → s.accepts 11 = true →
    completes (.seqClear src key) s fun t => t.b SEQ_FIRST_VALID = false ∧
    t.f SEQ_STATUS_STATE = (if s.f SEQ_STATUS_STATE = 5 then 0 else s.f SEQ_STATUS_STATE) ∧ t.f SEQ_RETRY_COUNT = 0 ∧
    ∀ n : Fin 19, t.slotState n.val ≠ 6)

/-- Slots start, come up, fail, stop, go down and stick: For every state that meets the stated conditions: a waiting slot starts
when its dependencies are up and is HELD otherwise (R138); a starting slot with power-good is UP; one that is late is recorded,
counted and, for the VSYS source slot, switched off for a retry (R134, R139, R143); a slot that may stop goes to STOPPING, then OFF,
or FAULTED for a fault, or STUCK when late (R141, R142, R146); MIN_OFF ends in a retry counted (R143). Completing here, by
constructor: seqSlotStart, seqSlotUp, seqUpTimeout, seqSlotStop, seqSlotDown, seqSlotStuck, seqStuckClear, seqMinOffElapsed,
vsysSlotRetry. -/
def Obligations.sequencerEvents : Prop :=
  (∀ (n : Fin 19) (s : State), s.slotState n.val = 1 → s.depsUp n.val = true → completes (.seqSlotStart n) s fun t =>
    (t.slotState n.val = 2 ∨ t.slotState n.val = 3) ∧
    t.f (SEQ_SLOT_CNT_STARTS n.val) = satInc (SEQ_SLOT_CNT_STARTS n.val).wd (s.f (SEQ_SLOT_CNT_STARTS n.val)) ∧
    t.b (SEQ_SLOT_STAT_DIS_ON n.val) = false) ∧
  (∀ (n : Fin 19) (s : State), s.slotState n.val = 1 → s.depsUp n.val = false → s.f SEQ_STATUS_STATE ≠ 1 →
    completes (.seqSlotStart n) s fun t => t.slotState n.val = 6 ∧ t.b (SEQ_MAP_HELD_MAP.bit n.val) = true ∧
    t.b SEQ_EVT_RAW_HELD = true) ∧
  (∀ (n : Fin 19) (s : State), s.slotState n.val = 2 → s.slotPg n.val = true → completes (.seqSlotUp n) s fun t =>
    t.slotState n.val = 3 ∧ t.b (SEQ_MAP_UP_MAP.bit n.val) = true) ∧
  (∀ (n : Fin 19) (s : State), s.slotState n.val = 2 → n.val ∉ s.eng.seq.dnSet → n.val ∉ s.eng.seq.side →
    completes (.seqUpTimeout n) s fun t =>
    t.f (SEQ_SLOT_CNT_UP_FAILS n.val) = satInc (SEQ_SLOT_CNT_UP_FAILS n.val).wd (s.f (SEQ_SLOT_CNT_UP_FAILS n.val)) ∧
    t.b SEQ_FIRST_VALID = true ∧ (s.b SEQ_FIRST_VALID = false → t.f SEQ_FIRST_SLOT = n.val ∧ t.f SEQ_FIRST_KIND = 0) ∧
    (n.val = s.vsysSlot → t.slotState n.val = 0 ∧ t.eng.seq.vsysRetry = true) ∧ (3 ≤ n.val → n.val ≠ s.vsysSlot →
    t.f SEQ_STATUS_STATE = 3 ∧ n.val ∈ t.eng.seq.dnSet)) ∧
  (∀ (n : Fin 19) (s : State), s.slotOn n.val = true → s.mayStop n.val = true → n.val ≤ 10 ∨ s.isDown n.val 0 = false →
    completes (.seqSlotStop n) s fun t => t.slotState n.val = 4 ∧ t.b (SEQ_MAP_UP_MAP.bit n.val) = false ∧
    t.b (SEQ_SLOT_STAT_DIS_ON n.val) = (decide (n.val ≤ 10) && s.b (SEQ_SLOT_CFG_DIS_EN n.val))) ∧
  (∀ (n : Fin 19) (uv : Nat) (s : State), s.slotState n.val = 4 → s.isDown n.val uv = true → s.f SEQ_STATUS_STATE = 2 →
    completes (.seqSlotDown n uv) s fun t => t.slotState n.val = (if s.stuck n.val then 5 else if s.faulted n.val then 7 else 0) ∧
    n.val ∉ t.eng.seq.side ∧ n.val ∉ t.eng.seq.dnSet) ∧
  (∀ (n : Fin 19) (s : State), s.slotState n.val = 4 → s.f SEQ_STATUS_STATE = 2 → completes (.seqSlotStuck n) s fun t =>
    t.slotState n.val = 5 ∧ t.b (SEQ_MAP_STUCK_MAP.bit n.val) = true ∧
    t.f (SEQ_SLOT_CNT_STUCKS n.val) = satInc (SEQ_SLOT_CNT_STUCKS n.val).wd (s.f (SEQ_SLOT_CNT_STUCKS n.val)) ∧
    t.b SEQ_EVT_RAW_STUCK = true) ∧
  (∀ (n : Fin 19) (uv : Nat) (s : State), s.stuck n.val = true → s.isDown n.val uv = true →
    completes (.seqStuckClear n uv) s fun t => t.stuck n.val = false ∧
    t.slotState n.val = (if s.slotState n.val = 5 then (if s.faulted n.val then 7 else 0) else s.slotState n.val)) ∧
  (∀ (s : State), s.f SEQ_STATUS_STATE = 4 → s.eng.seq.retry = true → s.seqCheck = true → s.eng.seq.goLatched = false →
    s.eng.seq.addNext = [] → completes .seqMinOffElapsed s fun t =>
    t.f SEQ_RETRY_COUNT = satInc SEQ_RETRY_COUNT.wd (s.f SEQ_RETRY_COUNT) ∧
    t.f SEQ_CNT_RETRIES = satInc SEQ_CNT_RETRIES.wd (s.f SEQ_CNT_RETRIES) ∧ t.b SEQ_EVT_RAW_RETRY = true ∧
    (t.f SEQ_STATUS_STATE = 1 ∨ t.f SEQ_STATUS_STATE = 2)) ∧
  (∀ (s : State), s.eng.seq.vsysRetry = true → s.isWrk = true → 7 ≤ s.vsysSlot → s.vsysSlot ≤ 10 → s.slotState s.vsysSlot = 0 →
    completes .vsysSlotRetry s fun t => t.slotState s.vsysSlot = 2 ∧ t.eng.seq.vsysRetry = false ∧
    t.f (SEQ_SLOT_CNT_STARTS s.vsysSlot) = satInc (SEQ_SLOT_CNT_STARTS s.vsysSlot).wd (s.f (SEQ_SLOT_CNT_STARTS s.vsysSlot)))

/-- Rails and phases: setpoints, power-good, limits, load steps and lost phases: For every state that meets the stated conditions:
PHC_RAIL_VSET is stored as the nearer limit, and with the rail off nothing else changes (R163, R165); a ramp ends in REG with DONE;
power-good follows VMEAS and the window (R164); the limit, the load-step responses and the loss of a phase leave what R166, R168,
R169, R171 and R172 say; REENABLE returns a lost phase (R173). Completing here, by constructor: phcRailVsetWrite, railRampDone,
railPowerGood, railPgLoss, cycleLimitTrip, phaseIlimPersist, undershootDetect, undershootEnd, overshootDetect, overshootEnd,
ustHoldoffEnd, contArmWindowEnd, phaseLoss, phcReenable. -/
def Obligations.phaseControllerCommands : Prop :=
  (∀ (src : Src) (r : Fin 4) (w : Word) (s : State), s.takes src (PHC_RAIL_VSET r.val) w = true →
    completes (.phcRailVsetWrite src r w) s fun t =>
    t.f (PHC_RAIL_VSET_VSET r.val) = clamp 120 16000 ((PHC_RAIL_VSET_VSET r.val).of w) ∧ (s.railOn r.val = false →
    sameBut [PHC_RAIL_VSET r.val] [] s t)) ∧
  (∀ (r : Fin 4) (s : State), s.ramping (10 + r.val) = true → s.railOn r.val = true → s.eng.pwr.rails.length = 4 →
    completes (.railRampDone r) s fun t => t.f (PHC_RAIL_STATUS_STATE r.val) = 2 ∧
    t.f (PHC_RAIL_VNOW_V r.val) = s.f (PHC_RAIL_VSET_VSET r.val) ∧ t.b (PHC_EVT_RAW_DONE.bit r.val) = true ∧
    t.ramping (10 + r.val) = false ∧ (t.rail r.val).done = true) ∧
  (∀ (r : Fin 4) (fb k : Nat) (s : State), (s.rail r.val).done = true → s.railOn r.val = true → s.active r.val ≠ [] →
    s.f (PHC_RAIL_PG_FILT r.val) ≤ (s.rail r.val).good + k → ((s.rail r.val).volt (fb % 4096)) < 2 ^ (PHC_RAIL_VMEAS_V r.val).wd →
    (if ((s.rail r.val).volt (fb % 4096)) ≤ s.f (PHC_RAIL_VSET_VSET r.val) then s.f (PHC_RAIL_VSET_VSET r.val) - ((s.rail
      r.val).volt (fb % 4096)) else ((s.rail r.val).volt (fb % 4096)) - s.f (PHC_RAIL_VSET_VSET r.val)) * 100 ≤ s.f
      (PHC_RAIL_VSET_VSET r.val) * s.f (PHC_RAIL_PG_WIN r.val) → completes (.railPowerGood r fb k) s fun t =>
    t.f (PHC_RAIL_VMEAS_V r.val) = ((s.rail r.val).volt (fb % 4096)) ∧ t.b (PHC_RAIL_STATUS_PG r.val) = true ∧
    t.b (PHC_PG_PG.bit r.val) = true ∧ sameBut [PHC_RAIL_VMEAS r.val, PHC_RAIL_STATUS r.val, PHC_PG] [pgSUP] s t) ∧
  (∀ (r : Fin 4) (fb : Nat) (s : State), ((s.rail r.val).volt (fb % 4096)) < 2 ^ (PHC_RAIL_VMEAS_V r.val).wd →
    s.f (PHC_RAIL_VSET_VSET r.val) * s.f (PHC_RAIL_PG_WIN r.val) < (if ((s.rail r.val).volt (fb % 4096)) ≤ s.f (PHC_RAIL_VSET_VSET
      r.val) then s.f (PHC_RAIL_VSET_VSET r.val) - ((s.rail r.val).volt (fb % 4096)) else ((s.rail r.val).volt (fb % 4096)) - s.f
      (PHC_RAIL_VSET_VSET r.val)) * 100 → s.b (PHC_RAIL_STATUS_PG r.val) = true → completes (.railPgLoss r fb) s fun t =>
    t.f (PHC_RAIL_VMEAS_V r.val) = ((s.rail r.val).volt (fb % 4096)) ∧ t.b (PHC_RAIL_STATUS_PG r.val) = false ∧
    t.b (PHC_PG_PG.bit r.val) = false ∧ (s.slotState (7 + r.val) = 3 → t.b (PHC_EVT_RAW_PG_LOSS.bit r.val) = true)) ∧
  (∀ (n : Fin 8) (uv tm : Nat) (s : State), s.pulseOn n.val tm = true → 500 * (s.ph n.val).cl < uv →
    (s.rail (s.f (PHC_PH_STATUS_RAIL n.val))).blank ≤ tm → (s.ph n.val).limited = false →
    completes (.cycleLimitTrip n uv tm) s fun t => t.b (PHC_PH_STATUS_LIMITING n.val) = true ∧
    t.f (PHC_PH_CNT_LIMITED n.val) = satInc (PHC_PH_CNT_LIMITED n.val).wd (s.f (PHC_PH_CNT_LIMITED n.val)) ∧
    sameBut [PHC_PH_STATUS n.val, PHC_PH_CNT n.val] [] s t) ∧
  (∀ (n : Fin 8) (uv tm : Nat) (s : State), s.pulseOn n.val tm = true → 500 * (s.ph n.val).cl < uv →
    (s.rail (s.f (PHC_PH_STATUS_RAIL n.val))).blank ≤ tm → (s.ph n.val).limited = true →
    completes (.cycleLimitTrip n uv tm) s fun t => t.b (PHC_PH_STATUS_LIMITING n.val) = true ∧
    sameBut [PHC_PH_STATUS n.val] [] s t) ∧
  (∀ (n : Fin 8) (k : Nat) (s : State), s.phState n.val = 2 → 64 ≤ k → completes (.phaseIlimPersist n k) s fun t =>
    t.b (PHC_EVT_RAW_ILIM.bit n.val) = true ∧ t.b PHC_FIRST_VALID = true ∧ (s.b PHC_FIRST_VALID = false → t.f PHC_FIRST_KIND = 0 ∧
    t.f PHC_FIRST_INST = n.val) ∧ sameBut ([PHC_EVT_RAW, PHC_FIRST] ++ dropRegs ++ wakeRegs) [pgMODE] s t) ∧
  (∀ (r : Fin 4) (fb : Nat) (s : State), s.f (PHC_RAIL_STATUS_STATE r.val) = 2 → s.active r.val ≠ [] →
    s.ustF r.val (PHC_RAIL_UST_UST_EN 0) = 1 → s.ustHold r.val ≤ (s.rail r.val).since → s.under r.val fb = true →
    completes (.undershootDetect r fb) s fun t => t.f (PHC_RAIL_STATUS_STATE r.val) = 3 ∧
    t.f (PHC_RAIL_CNT_UST r.val) = satInc (PHC_RAIL_CNT_UST r.val).wd (s.f (PHC_RAIL_CNT_UST r.val)) ∧
    t.b (PHC_EVT_RAW_UST.bit r.val) = true ∧
    sameBut ([PHC_EVT_RAW, PHC_RAIL_STATUS r.val, PHC_RAIL_CNT r.val] ++ wakeRegs) [pgMODE] s t) ∧
  (∀ (r : Fin 4) (fb tm : Nat) (trips : BitVec 8) (d : Nat) (n : Nat) (s : State), s.f (PHC_RAIL_STATUS_STATE r.val) = 3 →
    s.recovered r.val fb = true ∨ s.ustF r.val (PHC_RAIL_UST_MAXON 0) ≤ tm ∨ (s.active r.val).all (bitOf trips.toNat) = true →
    s.eng.pwr.rails.length = 4 → n ∈ s.active r.val → completes (.undershootEnd r fb tm trips d) s fun t =>
    t.f (PHC_RAIL_STATUS_STATE r.val) = 2 ∧ (t.rail r.val).since = 0 ∧
    t.f (PHC_PH_DUTY_D n) = min d (2 ^ (PHC_PH_DUTY_D n).wd - 1)) ∧
  (∀ (r : Fin 4) (fb : Nat) (s : State), s.f (PHC_RAIL_STATUS_STATE r.val) = 2 → s.active r.val ≠ [] →
    s.ustF r.val (PHC_RAIL_UST_OST_EN 0) = 1 → s.above r.val fb = true → completes (.overshootDetect r fb) s fun t =>
    t.f (PHC_RAIL_STATUS_STATE r.val) = 4 ∧ sameBut [PHC_RAIL_STATUS r.val, PHC_RAIL_CNT r.val] [] s t) ∧
  (∀ (r : Fin 4) (fb d : Nat) (n : Nat) (s : State), s.f (PHC_RAIL_STATUS_STATE r.val) = 4 → s.fallenBack r.val fb = true →
    s.eng.pwr.rails.length = 4 → n ∈ s.active r.val → completes (.overshootEnd r fb d) s fun t =>
    t.f (PHC_RAIL_STATUS_STATE r.val) = 2 ∧ (t.rail r.val).since = 0 ∧
    t.f (PHC_PH_DUTY_D n) = min d (2 ^ (PHC_PH_DUTY_D n).wd - 1)) ∧
  (∀ (r : Fin 4) (k : Nat) (s : State), s.eng.pwr.rails.length = 4 → completes (.ustHoldoffEnd r k) s fun t =>
    (t.rail r.val).since = min 8 ((s.rail r.val).since + k) ∧ sameBut [] [] s t) ∧
  (∀ (s : State), s.ustArmed 0 = false → completes .contArmWindowEnd s fun t => t.eng.pwr.armAt = none ∧ sameBut [] [] s t) ∧
  (∀ (s : State), s.ustArmed 0 = true → completes .contArmWindowEnd s fun t => t.eng.pwr.armAt = s.eng.pwr.armAt ∧
    sameBut [] [] s t) ∧
  (∀ (r : Fin 4) (cs : List (Nat × Nat × Nat)) (k : Nat) (s : State), s.f (PHC_RAIL_STATUS_STATE r.val) ≠ 2 →
    completes (.phaseLoss r cs k) s fun t => sameBut [] [] s t) ∧
  (∀ (r : Fin 4) (cs : List (Nat × Nat × Nat)) (k : Nat) (n : Nat) (s : State), s.f (PHC_RAIL_STATUS_STATE r.val) = 2 →
    (s.rail r.val).susp < k →
    s.worstPhase r.val cs ((s.active r.val).filter fun m => 64 ≤ (s.health r.val cs (k - (s.rail r.val).susp) m).2) = some n →
    completes (.phaseLoss r cs k) s fun t => t.phState n = 4 ∧ t.b (PHC_PH_DIS_SENSE.bit n) = true ∧
    t.b (PHC_EVT_RAW_PH_LOSS.bit n) = true ∧ t.b PHC_FIRST_VALID = true) ∧
  (∀ (r : Fin 4) (cs : List (Nat × Nat × Nat)) (k : Nat) (n : Nat) (s : State), s.f (PHC_RAIL_STATUS_STATE r.val) = 2 →
    (s.rail r.val).susp < k →
    s.worstPhase r.val cs ((s.active r.val).filter fun m => 64 ≤ (s.health r.val cs (k - (s.rail r.val).susp) m).2) = none →
    s.worstPhase r.val cs ((s.active r.val).filter fun m => 64 ≤ (s.health r.val cs (k - (s.rail r.val).susp) m).1) = some n →
    completes (.phaseLoss r cs k) s fun t => t.phState n = 3 ∧ t.b (PHC_PH_DIS_OPEN.bit n) = true ∧
    t.b (PHC_EVT_RAW_PH_LOSS.bit n) = true ∧ t.b PHC_FIRST_VALID = true) ∧
  (∀ (src : Src) (key : BitVec 16) (n : Fin 8) (s : State),
    s.takes src PHC_CMD (keyed key (1 + n.val * 2 ^ PHC_CMD_PHASE.lo)) = true → s.accepts 10 = true →
    s.phState n.val = 3 ∨ s.phState n.val = 4 → ∀ r : Fin 4, s.railOn r.val = false ∨ bitOf (s.rail r.val).phases n.val = false →
    completes (.phcReenable src key n) s fun t => t.phState n.val = 1 ∧ t.b (PHC_PH_DIS_OPEN.bit n.val) = false ∧
    t.b (PHC_PH_DIS_SENSE.bit n.val) = false ∧ t.outcome = .ok) ∧
  (∀ (src : Src) (key : BitVec 16) (n : Fin 8) (r : Fin 4) (s : State),
    s.takes src PHC_CMD (keyed key (1 + n.val * 2 ^ PHC_CMD_PHASE.lo)) = true → s.accepts 10 = true →
    s.phState n.val = 3 ∨ s.phState n.val = 4 → s.railOn r.val = true → bitOf (s.rail r.val).phases n.val = true →
    ∀ q : Fin 4, q ≠ r → bitOf (s.rail q.val).phases n.val = false → completes (.phcReenable src key n) s fun t =>
    t.phState n.val = 2 ∧ t.f (PHC_PH_STATUS_RAIL n.val) = r.val ∧ t.b (PHC_PH_DIS_OPEN.bit n.val) = false ∧
    t.b (PHC_PH_DIS_SENSE.bit n.val) = false ∧ t.outcome = .ok)

/-- Feeds, ORing, precharge and the e-fuse: For every state that meets the stated conditions: a feed that comes within its limits
and stays there becomes valid and drives its gate (R181, R182); one outside them does not stay valid; the ORing gate goes off on
reverse current and back on while valid; the precharge, its end, its time-out and the e-fuse trips leave the states and counts of
R183 to R185; a FET finding marks its FET (R186); the start logic comes up reset (R200). Completing here, by constructor:
feedInLimits, feedValid, feedInvalid, oringReverse, oringRedrive, startLogicPowerUp, prechargeDone, pcGateOffDelay,
prechargeTimeout, prechargeCoolEnd, efuseTimedTrip, efuseFastTrip, efuseCoolEnd, efuseTripCountReset, fetCheckFinding. -/
def Obligations.feedsAndFuse : Prop :=
  (∀ (n : Fin 2) (v : Nat) (s : State), s.f FEED_QUAL_UV ≤ v → v ≤ s.f FEED_QUAL_OV → completes (.feedInLimits n v) s fun t =>
    t.feedV n.val = v ∧ t.inLimits n.val = true ∧ sameBut (wakeRegs ++ dropRegs) [pgMODE, pgFEED, pgPATH] s t) ∧
  (∀ (n : Fin 2) (s : State), s.inLimits n.val = true → s.b (validOf n.val) = false → s.qualOk (s.feedV n.val) = true →
    completes (.feedValid n) s fun t => t.b (validOf n.val) = true ∧ t.b (gateOf n.val) = true ∧
    t.b (FEED_EVT_RAW_VALID_CHG.bit n.val) = true ∧ sameBut (wakeRegs ++ dropRegs) [pgMODE, pgFEED, pgPATH] s t) ∧
  (∀ (n : Fin 2) (v : Nat) (s : State), v < s.f FEED_QUAL_UV ∨ s.f FEED_QUAL_OV < v → s.b (validOf n.val) = true →
    completes (.feedInvalid n v) s fun t => t.feedV n.val = v ∧ t.inLimits n.val = false ∧ t.b (validOf n.val) = false ∧
    t.b (gateOf n.val) = false ∧ t.b (FEED_EVT_RAW_VALID_CHG.bit n.val) = true ∧ (s.path = 1 → t.anyValid = false →
    t.b FEED_STATUS_PG = false ∧ (t.path = 2 ∨ t.path = 0))) ∧
  (∀ (n : Fin 2) (s : State), s.b (gateOf n.val) = true → completes (.oringReverse n) s fun t => t.b (gateOf n.val) = false ∧
    t.b (FEED_EVT_RAW_REVERSE.bit n.val) = true ∧ t.b (validOf n.val) = s.b (validOf n.val) ∧
    sameBut ([FEED_STATUS, FEED_EVT_RAW] ++ wakeRegs) [pgMODE] s t) ∧
  (∀ (n : Fin 2) (s : State), s.b (validOf n.val) = true → completes (.oringRedrive n) s fun t => t.b (gateOf n.val) = true ∧
    t.b (validOf n.val) = true ∧ sameBut [FEED_STATUS] [] s t) ∧
  (∀ (s : State), completes .startLogicPowerUp s fun t => t.path = 0 ∧ t.ef = 0 ∧ t.chg = 0 ∧ t.anyValid = false ∧
    t.reg FEED_CNT = 0 ∧ t.eng.feed.trips = 0 ∧ t.reg CHG_PACK = regReset CHG_PACK) ∧
  (∀ (vpb : Nat) (s : State), s.ef = 1 → 95 * s.orBus ≤ 100 * (20 * vpb) → completes (.prechargeDone vpb) s fun t => t.ef = 2 ∧
    t.eng.feed.vpb = vpb ∧ t.path = s.path ∧ sameBut [FEED_STATUS] [] s t) ∧
  (∀ (s : State), s.ef = 2 ∨ s.ef = 3 → s.busUp = true → s.i FEED_IEF_I < 10 * (s.f FEED_EF_ILIM : Int) → s.eng.feed.pcGate = true →
    completes .pcGateOffDelay s fun t => t.b FEED_STATUS_PG = true ∧ t.eng.feed.pcGate = false ∧ t.ef = 2 ∧
    t.path = (if s.path = 5 then 1 else s.path) ∧ (s.path = 5 → t.b (PATH_EVT_RAW_EVENTS.bit 2) = true)) ∧
  (∀ (s : State), s.ef = 1 → s.path = 5 → completes .prechargeTimeout s fun t => t.b FEED_EVT_RAW_PC_FAIL = true ∧
    t.f FEED_CNT_PC_FAILS = satInc FEED_CNT_PC_FAILS.wd (s.f FEED_CNT_PC_FAILS) ∧ t.eng.feed.pcCool = true ∧
    t.f FEED_CNT_TRIPS = satInc FEED_CNT_TRIPS.wd (s.f FEED_CNT_TRIPS) ∧ t.b FEED_EVT_RAW_EF_TRIP = true ∧
    t.eng.feed.trips = s.eng.feed.trips + 1 ∧ t.ef = (if s.f FEED_EF_RETRY + 1 ≤ s.eng.feed.trips + 1 then 5 else 4) ∧
    t.b FEED_FIRST_VALID = true) ∧
  (∀ (s : State), completes .prechargeCoolEnd s fun t => t.eng.feed.pcCool = false ∧ t.eng.feed.trips = s.eng.feed.trips) ∧
  (∀ (i : BitVec 16) (tm : Nat) (s : State), s.ef = 2 ∨ s.ef = 3 → s.path = 1 → 10 * (s.f FEED_EF_ILIM : Int) ≤ signed 16 i.toNat →
    s.f FEED_EF_TMO ≤ tm → completes (.efuseTimedTrip i tm) s fun t => t.f FEED_IEF_I = i.toNat ∧ t.b FEED_STATUS_PG = false ∧
    (t.path = 2 ∨ t.path = 0) ∧ t.f FEED_CNT_TRIPS = satInc FEED_CNT_TRIPS.wd (s.f FEED_CNT_TRIPS) ∧
    t.b FEED_EVT_RAW_EF_TRIP = true ∧ t.eng.feed.trips = s.eng.feed.trips + 1 ∧
    t.ef = (if s.f FEED_EF_RETRY + 1 ≤ s.eng.feed.trips + 1 then 5 else 4) ∧ t.b FEED_FIRST_VALID = true) ∧
  (∀ (i : BitVec 16) (s : State), s.ef = 2 ∨ s.ef = 3 → s.path = 1 → 20 * (s.f FEED_EF_ILIM : Int) ≤ signed 16 i.toNat →
    completes (.efuseFastTrip i) s fun t => t.f FEED_IEF_I = i.toNat ∧ t.b FEED_STATUS_PG = false ∧ (t.path = 2 ∨ t.path = 0) ∧
    t.f FEED_CNT_TRIPS = satInc FEED_CNT_TRIPS.wd (s.f FEED_CNT_TRIPS) ∧ t.b FEED_EVT_RAW_EF_TRIP = true ∧
    t.eng.feed.trips = s.eng.feed.trips + 1 ∧ t.ef = (if s.f FEED_EF_RETRY + 1 ≤ s.eng.feed.trips + 1 then 5 else 4) ∧
    t.b FEED_FIRST_VALID = true) ∧
  (∀ (s : State), s.ef = 4 → completes .efuseCoolEnd s fun t => (t.ef = 0 ∨ t.ef = 1) ∧ (s.anyValid = false → t.ef = 0)) ∧
  (∀ (s : State), s.ef = 2 → completes .efuseTripCountReset s fun t => t.eng.feed.trips = 0 ∧ sameBut [] [] s t) ∧
  (∀ (k : Fin 6) (s : State), k.val < 4 → s.fetJudged k.val = true → completes (.fetCheckFinding k) s fun t =>
    t.b (FEED_FET_MARKS.bit k.val) = true ∧ t.b FEED_EVT_RAW_FET_FAULT = true ∧ t.b FEED_FIRST_VALID = true ∧
    (s.b FEED_FIRST_VALID = false → t.f FEED_FIRST_KIND = 3 + k.val) ∧ (k.val = 2 → t.ef = 5) ∧ t.chg = 9 ∧
    t.f CHG_STATUS_FAULT = 4) ∧
  (∀ (k : Fin 6) (s : State), 4 ≤ k.val → s.fetJudged k.val = true → completes (.fetCheckFinding k) s fun t =>
    t.b (PATH_STATUS_SHORTS.bit (k.val - 4)) = true ∧ t.b (PATH_EVT_RAW_EVENTS.bit 8) = true ∧ t.chg = 9 ∧ t.f CHG_STATUS_FAULT = 4)

/-- The power path and the commands of the FEED and PATH pages: For every state that meets the stated conditions, each command being
taken and of a class that the mode accepts: handover ends in REQUAL or BATTERY (R189); pack presence, pack low, supplement and the
bounce count follow R189 to R194; EF_ON and EF_OFF move the e-fuse, EF_OFF as no bounce (R183, R190); FET_CLEAR clears its page's
marks (R186); CLEAR_LOCKOUT empties the window (R190); KEEPALIVE restarts the host-contact timer, whose end lowers the charge limits
(R199). Completing here, by constructor: handoverComplete, packLow, packPresent, packAbsent, supplementStart, supplementEnd,
feedEfOn, feedEfOff, feedFetClear, pathFetClear, clearLockout, keepalive, hostContactTimeout, bounceWindowExpiry. -/
def Obligations.pathAndFeedCommands : Prop :=
  (∀ (s : State), s.path = 2 → s.b PATH_STATUS_PACK_PRESENT = true → completes .handoverComplete s fun t =>
    (t.path = 3 ∨ t.path = 4 ∨ t.path = 5) ∧ (s.anyIn = false → t.path = 3) ∧ t.b (PATH_EVT_RAW_EVENTS.bit 1) = true) ∧
  (∀ (s : State), s.path = 2 → s.b PATH_STATUS_PACK_PRESENT = false → s.anyValid = false → completes .handoverComplete s fun t =>
    t.path = 0 ∧ t.b (PATH_EVT_RAW_EVENTS.bit 1) = true) ∧
  (∀ (mv : Nat) (s : State), s.path = 3 ∨ s.path = 4 ∨ s.b PATH_STATUS_LOCKED = true →
    mv < s.f CHG_PACK_CELLS * 10 * s.f CHG_THR_VLOW → completes (.packLow mv) s fun t => t.eng.feed.pack = mv ∧
    t.b PATH_STATUS_PACK_LOW = true ∧ t.b (PATH_EVT_RAW_EVENTS.bit 4) = true ∧
    sameBut ([PATH_STATUS, PATH_EVT_RAW] ++ dropRegs ++ wakeRegs) [pgMODE] s t) ∧
  (∀ (mv : Nat) (s : State), s.f CHG_PACK_CELLS ≠ 0 → s.b PATH_STATUS_PACK_PRESENT = false → s.f CHG_PACK_CELLS * 1000 ≤ mv →
    completes (.packPresent mv) s fun t => t.eng.feed.pack = mv ∧ t.b PATH_STATUS_PACK_PRESENT = true ∧
    t.b (PATH_EVT_RAW_EVENTS.bit 0) = true ∧ (s.path = 0 → s.anyValid = false → t.path = 3)) ∧
  (∀ (mv : Nat) (s : State), s.b PATH_STATUS_PACK_PRESENT = true → mv < s.f CHG_PACK_CELLS * 500 →
    completes (.packAbsent mv) s fun t => t.eng.feed.pack = mv ∧ t.b PATH_STATUS_PACK_PRESENT = false ∧
    t.b (PATH_EVT_RAW_EVENTS.bit 0) = true ∧ (s.path = 3 → s.anyValid = false → t.path = 0) ∧ (s.chg ≠ 9 → t.chg = 0)) ∧
  (∀ (s : State), s.path = 1 → completes .supplementStart s fun t => t.b PATH_STATUS_SUPPLEMENT = true ∧ t.path = 1 ∧
    t.chg = (if 2 ≤ s.chg ∧ s.chg ≤ 5 then 7 else s.chg)) ∧
  (∀ (s : State), completes .supplementEnd s fun t => t.b PATH_STATUS_SUPPLEMENT = false ∧ sameBut [PATH_STATUS] [] s t) ∧
  (∀ (src : Src) (key : BitVec 16) (s : State), s.takes src FEED_CMD (keyed key 1) = true → s.accepts 12 = true →
    s.ef = 5 ∨ s.ef = 6 → completes (.feedEfOn src key) s fun t => (t.ef = 0 ∨ t.ef = 1) ∧ (s.anyValid = false → t.ef = 0) ∧
    t.outcome = .ok) ∧
  (∀ (src : Src) (key : BitVec 16) (s : State), s.takes src FEED_CMD (keyed key 2) = true → s.accepts 12 = true →
    completes (.feedEfOff src key) s fun t => t.ef = (if s.ef = 5 then 5 else 6) ∧ t.eng.feed.pcGate = false ∧
    t.f PATH_BOUNCE_LOSSES = s.f PATH_BOUNCE_LOSSES ∧ (s.path = 1 → (t.path = 2 ∨ t.path = 0) ∧ t.b FEED_STATUS_PG = false)) ∧
  (∀ (src : Src) (key : BitVec 16) (s : State), s.takes src FEED_CMD (keyed key 3) = true → s.accepts 12 = true → s.chg ≠ 9 →
    completes (.feedFetClear src key) s fun t => t.f FEED_FET_MARKS = 0 ∧ t.eng.feed.clrFeed = true ∧ sameBut [FEED_FET] [] s t) ∧
  (∀ (src : Src) (key : BitVec 16) (s : State), s.takes src PATH_CMD (keyed key 6) = true → s.accepts 12 = true → s.chg ≠ 9 →
    completes (.pathFetClear src key) s fun t => t.f PATH_STATUS_SHORTS = 0 ∧ t.eng.feed.clrPath = true ∧ t.chg = s.chg) ∧
  (∀ (src : Src) (key : BitVec 16) (s : State), s.takes src PATH_CMD (keyed key 4) = true → s.accepts 12 = true →
    completes (.clearLockout src key) s fun t => t.b PATH_STATUS_LOCKED = false ∧ t.f PATH_BOUNCE_WINDOW = 0 ∧
    (s.b PATH_STATUS_LOCKED = true → t.anyValid = false)) ∧
  (∀ (src : Src) (key : BitVec 16) (s : State), s.takes src PATH_CMD (keyed key 5) = true → s.accepts 12 = true →
    completes (.keepalive src key) s fun t => t.eng.feed.contactAt = s.now ∧ t.b PATH_STATUS_HOST_LOST = false ∧
    t.b (CHG_STATUS_LIMITS.bit 3) = false ∧ sameBut [PATH_STATUS, CHG_STATUS] [] s t) ∧
  (∀ (sec : Nat) (s : State), s.released = true ∨ s.eng.feed.alive = true → s.f CHG_FALLBACK_HCT ≠ 0 → s.f CHG_FALLBACK_HCT ≤ sec →
    s.b PATH_STATUS_HOST_LOST = false → completes (.hostContactTimeout sec) s fun t => t.b PATH_STATUS_HOST_LOST = true ∧
    t.b (CHG_STATUS_LIMITS.bit 3) = true ∧ t.b (PATH_EVT_RAW_EVENTS.bit 7) = true ∧
    sameBut ([PATH_STATUS, CHG_STATUS, PATH_EVT_RAW] ++ wakeRegs) [pgMODE] s t) ∧
  (∀ (s : State), completes .bounceWindowExpiry s fun t => t.f PATH_BOUNCE_WINDOW = s.f PATH_BOUNCE_WINDOW - 1 ∧
    sameBut [PATH_BOUNCE] [] s t)

/-- The backup charger: For every state that meets the stated conditions: the charger's phases move as the table of R196 says (IDLE
0, DETECT 1, PRECOND 2, CC 3, CV 4, TOPOFF 5, DONE 6, SUSPEND 7, STOPPED 8, FAULT 9), with the faults, counts and events it names; a
write of CHG_PACK loads the defaults of its chemistry (R195). Completing here, by constructor: chgStart, chgStop, chgClear,
chgPackWrite, chgEligible, chgDetectDone, chgPrecondDone, chgCvEntry, chgTerminate, chgTopoffDone, chgRecharge, chgSafetyTimer,
chgOvervolt, chgSuspend, chgResume. -/
def Obligations.backupCharger : Prop :=
  (∀ (src : Src) (key : BitVec 16) (s : State), s.takes src PATH_CMD (keyed key 1) = true → s.accepts 12 = true → s.chg = 8 →
    completes (.chgStart src key) s fun t => t.chg = 0 ∧ sameBut ([CHG_STATUS] ++ wakeRegs) [pgMODE] s t) ∧
  (∀ (src : Src) (key : BitVec 16) (s : State), s.takes src PATH_CMD (keyed key 1) = true → s.accepts 12 = true → s.chg = 0 →
    s.chgEligible = true → completes (.chgStart src key) s fun t => t.chg = 1 ∧ sameBut ([CHG_STATUS] ++ wakeRegs) [pgMODE] s t) ∧
  (∀ (src : Src) (key : BitVec 16) (s : State), s.takes src PATH_CMD (keyed key 1) = true → s.accepts 12 = true → s.chg = 0 →
    s.chgEligible = false → completes (.chgStart src key) s fun t => t.chg = 0 ∧ t.eng.feed.startReq = true ∧ sameBut [] [] s t) ∧
  (∀ (src : Src) (key : BitVec 16) (s : State), s.takes src PATH_CMD (keyed key 2) = true → s.accepts 12 = true → s.chg ≠ 9 →
    completes (.chgStop src key) s fun t => t.chg = 8 ∧ t.eng.feed.startReq = false ∧
    sameBut ([CHG_STATUS] ++ wakeRegs) [pgMODE] s t) ∧
  (∀ (src : Src) (key : BitVec 16) (s : State), s.takes src PATH_CMD (keyed key 3) = true → s.accepts 12 = true → s.chg = 9 →
    s.f CHG_STATUS_FAULT ≠ 4 → completes (.chgClear src key) s fun t => t.chg = 0 ∧ t.f CHG_STATUS_FAULT = 0 ∧
    t.f CHG_ELAPSED_T8 = 0 ∧ sameBut ([CHG_STATUS, CHG_ELAPSED] ++ wakeRegs) [pgMODE] s t) ∧
  (∀ (src : Src) (w : Word) (s : State), s.takes src CHG_PACK w = true → CHG_PACK_CHEM.of w < 3 →
    completes (.chgPackWrite src w) s fun t => t.f CHG_PACK_CHEM = CHG_PACK_CHEM.of w ∧
    t.f CHG_PACK_CELLS = min (CHG_PACK_CELLS.of w) 4 ∧ t.f CHG_PACK_AUTO = CHG_PACK_AUTO.of w ∧
    t.f CHG_VREG_VREG = (chemRow (CHG_PACK_CHEM.of w)).1 ∧ t.f CHG_THR_VPRE = (chemRow (CHG_PACK_CHEM.of w)).2.2.2.1 ∧
    t.f CHG_THR_VRECH = (chemRow (CHG_PACK_CHEM.of w)).2.2.2.2.1 ∧ (1 ≤ s.chg → s.chg ≤ 5 → t.chg = 0)) ∧
  (∀ (vpb : Nat) (s : State), s.chg = 0 → s.f CHG_PACK_CELLS ≠ 0 → s.b PATH_STATUS_PACK_PRESENT = true → s.path = 1 →
    s.b PATH_STATUS_SUPPLEMENT = false → s.b PATH_STATUS_LOCKED = false → s.f CHG_PACK_CELLS * s.vreg + 2000 ≤ 20 * vpb →
    s.b CHG_PACK_AUTO = true ∨ s.eng.feed.startReq = true → completes (.chgEligible vpb) s fun t => t.chg = 1 ∧
    t.eng.feed.vpb = vpb ∧ t.eng.feed.startReq = false ∧ sameBut ([CHG_STATUS] ++ wakeRegs) [pgMODE] s t) ∧
  (∀ (mv : Nat) (s : State), s.chg = 1 → completes (.chgDetectDone mv) s fun t => t.eng.feed.pack = mv ∧
    t.chg = (if mv < s.f CHG_PACK_CELLS * 10 * s.f CHG_THR_VPRE then 2 else if mv < s.f CHG_PACK_CELLS * 10 * s.f CHG_THR_VRECH
      then 3 else 6) ∧ (t.chg ≠ 6 → t.f CHG_ELAPSED_T8 = 0)) ∧
  (∀ (mv : Nat) (s : State), s.chg = 2 → s.f CHG_PACK_CELLS * 10 * s.f CHG_THR_VPRE ≤ mv → completes (.chgPrecondDone mv) s fun t =>
    t.chg = 3 ∧ t.f CHG_ELAPSED_T8 = 0 ∧ sameBut ([PATH_STATUS, CHG_STATUS, CHG_ELAPSED] ++ wakeRegs) [pgMODE] s t) ∧
  (∀ (mv : Nat) (s : State), s.chg = 3 → s.f CHG_PACK_CELLS * s.vreg ≤ mv → completes (.chgCvEntry mv) s fun t => t.chg = 4 ∧
    t.eng.feed.pack = mv ∧ sameBut ([CHG_STATUS, PATH_STATUS] ++ wakeRegs) [pgMODE] s t) ∧
  (∀ (ma : Nat) (s : State), s.chg = 4 → ma ≤ 10 * s.f CHG_ICHG_ITERM → completes (.chgTerminate ma) s fun t =>
    t.chg = (if s.f CHG_TIMER_TOPOFF = 0 then 6 else 5) ∧ (s.f CHG_TIMER_TOPOFF = 0 → t.b (PATH_EVT_RAW_EVENTS.bit 6) = true ∧
    t.f CHG_CNT_CYCLES = satInc CHG_CNT_CYCLES.wd (s.f CHG_CNT_CYCLES))) ∧
  (∀ (s : State), s.chg = 5 → completes .chgTopoffDone s fun t => t.chg = 6 ∧ t.b (PATH_EVT_RAW_EVENTS.bit 6) = true ∧
    t.f CHG_CNT_CYCLES = satInc CHG_CNT_CYCLES.wd (s.f CHG_CNT_CYCLES)) ∧
  (∀ (mv : Nat) (s : State), s.chg = 6 → s.chgEligible = true → mv < s.f CHG_PACK_CELLS * 10 * s.f CHG_THR_VRECH →
    completes (.chgRecharge mv) s fun t => t.chg = 3 ∧ t.f CHG_ELAPSED_T8 = 0 ∧
    t.f CHG_CNT_RECHARGES = satInc CHG_CNT_RECHARGES.wd (s.f CHG_CNT_RECHARGES)) ∧
  (∀ (t8 : Nat) (s : State), 2 ≤ s.chg → s.chg ≤ 5 →
    (if s.chg = 2 then s.f CHG_TIMER_PRE * 480 else s.f CHG_TIMER_SAFETY * 28800) ≤ t8 → t8 < 2 ^ CHG_ELAPSED_T8.wd →
    completes (.chgSafetyTimer t8) s fun t => t.chg = 9 ∧ t.f CHG_STATUS_FAULT = (if s.chg = 2 then 2 else 1) ∧
    t.b (PATH_EVT_RAW_EVENTS.bit 5) = true ∧ t.f CHG_CNT_FAULTS = satInc CHG_CNT_FAULTS.wd (s.f CHG_CNT_FAULTS)) ∧
  (∀ (mv : Nat) (s : State), s.chg ≠ 9 → s.f CHG_PACK_CELLS ≠ 0 → s.f CHG_PACK_CELLS * (s.vreg + 100) < mv →
    completes (.chgOvervolt mv) s fun t => t.eng.feed.pack = mv ∧ t.chg = 9 ∧ t.f CHG_STATUS_FAULT = 3 ∧
    t.b (PATH_EVT_RAW_EVENTS.bit 5) = true ∧ t.f CHG_CNT_FAULTS = satInc CHG_CNT_FAULTS.wd (s.f CHG_CNT_FAULTS)) ∧
  (∀ (s : State), 2 ≤ s.chg → s.chg ≤ 5 → completes .chgSuspend s fun t => t.chg = 7 ∧ t.eng.feed.phaseLeft = s.chg ∧
    sameBut ([CHG_STATUS] ++ wakeRegs) [pgMODE] s t) ∧
  (∀ (s : State), s.chg = 7 → s.chgHeld = false → s.eng.feed.phaseLeft < 16 → completes .chgResume s fun t =>
    t.chg = s.eng.feed.phaseLeft ∧ sameBut ([CHG_STATUS] ++ wakeRegs) [pgMODE] s t)

/-- The contactor commands and the contactor sequence: For every state that meets the stated conditions, each command being taken
and of a class that the mode accepts: CLOSE from OPEN with no mark pulls in the negative main and enters NEG, and otherwise changes
no coil; OPEN drops FDG and enters OPENING from NEG to CLOSED; the clear commands clear their mark alone; and each step of the close
and open sequences leaves the state, the coils, the counts and the events that R210, R211 and R213 give. Completing here, by
constructor: contClose, contOpen, ftClear, weldClear, loopClear, contactorSensedChange, contNegSensed, contPullTimeout,
contPrechargeReached, contPcTimeout, contPosTime, contReleaseCheck, contSagFault, contOpenDelayEnd, contNegDelayEnd, contCheckEntry,
weldEvaluation. -/
def Obligations.contactorCommands : Prop :=
  (∀ (src : Src) (key : BitVec 16) (s : State), s.takes src CONT_CMD (keyed key 1) = true → s.accepts 1 = true → s.cont = 0 →
    s.released = true → s.f CONT_STATUS_WELD = 0 → s.b CONT_STATUS_FT_LATCH = false → s.b CONT_STATUS_LOOP_TRIP = false →
    s.b CONT_STATUS_LOOP_OK = true ∨ s.b CONT_LOOP_LOOP_EN = false → completes (.contClose src key) s fun t => t.cont = 1 ∧
    t.b (CONT_STATUS_CMD.bit 1) = true ∧ t.f (CONT_COIL_STATE 1) = 1 ∧ t.b (CONT_STATUS_CMD.bit 0) = s.b (CONT_STATUS_CMD.bit 0) ∧
    t.outcome = .ok ∧ sameBut ([CONT_STATUS, CONT_COIL 1] ++ wakeRegs) [pgMODE] s t) ∧
  (∀ (src : Src) (key : BitVec 16) (s : State), s.takes src CONT_CMD (keyed key 1) = true → s.accepts 1 = true → s.cont = 0 →
    s.f CONT_STATUS_WELD ≠ 0 → completes (.contClose src key) s fun t => t.cont = 0 ∧ t.f CONT_STATUS_CMD = s.f CONT_STATUS_CMD ∧
    t.b (CONT_EVT_RAW_EVENTS.bit 2) = true ∧ sameBut ([CONT_EVT_RAW] ++ wakeRegs) [pgMODE] s t) ∧
  (∀ (src : Src) (key : BitVec 16) (s : State), s.takes src CONT_CMD (keyed key 2) = true → s.accepts 2 = true → s.closing = true →
    completes (.contOpen src key) s fun t => t.cont = 6 ∧ t.b CONT_STATUS_FD_ON = false ∧
    t.f CONT_STATUS_CMD = s.f CONT_STATUS_CMD ∧ sameBut ([CONT_STATUS] ++ wakeRegs) [pgMODE] s t) ∧
  (∀ (src : Src) (key : BitVec 16) (s : State), s.takes src CONT_CMD (keyed key 3) = true → s.accepts 2 = true →
    completes (.ftClear src key) s fun t => t.b CONT_STATUS_FT_LATCH = false ∧ t.cont = s.cont ∧
    t.f CONT_STATUS_WELD = s.f CONT_STATUS_WELD ∧ sameBut [CONT_STATUS] [] s t) ∧
  (∀ (src : Src) (key : BitVec 16) (s : State), s.takes src CONT_CMD (keyed key 4) = true → s.accepts 2 = true →
    completes (.weldClear src key) s fun t => t.f CONT_STATUS_WELD = 0 ∧ t.cont = s.cont ∧
    t.b CONT_STATUS_FT_LATCH = s.b CONT_STATUS_FT_LATCH ∧ sameBut [CONT_STATUS] [] s t) ∧
  (∀ (src : Src) (key : BitVec 16) (s : State), s.takes src CONT_CMD (keyed key 5) = true → s.accepts 2 = true →
    completes (.loopClear src key) s fun t => t.b CONT_STATUS_LOOP_TRIP = false ∧ t.cont = s.cont ∧
    t.b CONT_STATUS_FT_LATCH = s.b CONT_STATUS_FT_LATCH ∧ sameBut [CONT_STATUS] [] s t) ∧
  (∀ (p0 p1 p2 : Nat) (s : State), p0 < 1024 → p1 < 1024 → p2 < 1024 → completes (.contactorSensedChange p0 p1 p2) s fun t =>
    t.f (CONT_VS_PM 0) = p0 ∧ t.f (CONT_VS_PM 1) = p1 ∧ t.f (CONT_VS_PM 2) = p2 ∧
    t.b (CONT_STATUS_SENSED.bit 0) = decide (s.onPm ≤ p0) ∧ t.b (CONT_STATUS_SENSED.bit 1) = decide (s.onPm ≤ p1) ∧
    t.b (CONT_STATUS_SENSED.bit 2) = decide (s.onPm ≤ p2) ∧ t.cont = s.cont ∧
    sameBut ([CONT_STATUS, CONT_VS 0, CONT_VS 1, CONT_VS 2] ++ wakeRegs) [pgMODE] s t) ∧
  (∀ (p0 p1 p2 : Nat) (s : State), s.cont = 1 → s.onPm ≤ p1 → p0 < s.offPm → p0 < 1024 → p1 < 1024 → p2 < 1024 →
    completes (.contNegSensed p0 p1 p2) s fun t => t.f (CONT_VS_PM 0) = p0 ∧ t.f (CONT_VS_PM 1) = p1 ∧ t.f (CONT_VS_PM 2) = p2 ∧
    t.cont = 2 ∧ t.b (CONT_STATUS_CMD.bit 2) = true ∧ t.f (CONT_COIL_STATE 2) = 1 ∧
    t.b CONT_STATUS_FD_ON = (!s.b CONT_STATUS_FT_LATCH || s.b CONT_STATUS_FD_ON)) ∧
  (∀ (p0 p1 p2 : Nat) (s : State), s.cont = 1 → s.onPm ≤ p1 → s.offPm ≤ p0 → p0 < 1024 → p1 < 1024 → p2 < 1024 →
    completes (.contNegSensed p0 p1 p2) s fun t => t.f (CONT_VS_PM 0) = p0 ∧ t.f (CONT_VS_PM 1) = p1 ∧ t.f (CONT_VS_PM 2) = p2 ∧
    t.cont = 6 ∧ t.b (CONT_STATUS_WELD.bit 0) = true ∧ t.b (CONT_EVT_RAW_EVENTS.bit 7) = true) ∧
  (∀ (s : State), s.cont = 1 → completes .contPullTimeout s fun t => t.cont = 6 ∧ t.b CONT_STATUS_FD_ON = false ∧
    t.b (CONT_EVT_RAW_EVENTS.bit 8) = true ∧ t.b CONT_FIRST_VALID = true ∧ (s.b CONT_FIRST_VALID = false → t.f CONT_FIRST_KIND = 3 ∧
    t.f CONT_FIRST_INST = 1)) ∧
  (∀ (p0 p1 p2 : Nat) (s : State), s.cont = 2 → s.f CONT_PC_PC_PCT * 10 ≤ p2 → p0 < 1024 → p1 < 1024 → p2 < 1024 →
    completes (.contPrechargeReached p0 p1 p2) s fun t => t.f (CONT_VS_PM 0) = p0 ∧ t.f (CONT_VS_PM 1) = p1 ∧
    t.f (CONT_VS_PM 2) = p2 ∧ t.cont = 3 ∧ t.b (CONT_STATUS_CMD.bit 0) = true ∧ t.f (CONT_COIL_STATE 0) = 1 ∧
    t.f (CONT_OPS_CLOSES 2) = satInc (CONT_OPS_CLOSES 2).wd (s.f (CONT_OPS_CLOSES 2))) ∧
  (∀ (s : State), s.cont = 2 → completes .contPcTimeout s fun t => t.cont = 6 ∧ t.b CONT_STATUS_FD_ON = false ∧
    t.b (CONT_EVT_RAW_EVENTS.bit 3) = true ∧ (s.b CONT_FIRST_VALID = false → t.f CONT_FIRST_KIND = 5)) ∧
  (∀ (s : State), s.cont = 3 → completes .contPosTime s fun t => t.cont = 4 ∧ t.b (CONT_STATUS_CMD.bit 2) = false ∧
    t.f (CONT_COIL_STATE 2) = (if s.f (CONT_COIL_STATE 2) = 3 then 3 else 0) ∧
    sameBut ([CONT_STATUS, CONT_COIL 2] ++ wakeRegs) [pgMODE] s t) ∧
  (∀ (p0 p1 p2 : Nat) (s : State), s.cont = 4 → s.onPm ≤ p0 → p0 < 1024 → p1 < 1024 → p2 < 1024 →
    completes (.contReleaseCheck p0 p1 p2) s fun t => t.cont = 5 ∧
    t.f (CONT_OPS_CLOSES 0) = satInc (CONT_OPS_CLOSES 0).wd (s.f (CONT_OPS_CLOSES 0)) ∧
    t.f (CONT_OPS_CLOSES 1) = satInc (CONT_OPS_CLOSES 1).wd (s.f (CONT_OPS_CLOSES 1)) ∧ t.b (CONT_EVT_RAW_EVENTS.bit 0) = true) ∧
  (∀ (p0 p1 p2 : Nat) (s : State), s.cont = 4 → p0 < s.onPm → p0 < 1024 → p1 < 1024 → p2 < 1024 →
    completes (.contReleaseCheck p0 p1 p2) s fun t => t.cont = 6 ∧ t.b CONT_STATUS_FD_ON = false ∧
    t.b (CONT_EVT_RAW_EVENTS.bit 8) = true ∧ t.b CONT_FIRST_VALID = true) ∧
  (∀ (p0 p1 p2 : Nat) (s : State), s.cont = 5 → p0 < s.onPm ∨ p1 < s.onPm → p0 < 1024 → p1 < 1024 → p2 < 1024 →
    completes (.contSagFault p0 p1 p2) s fun t => t.cont = 6 ∧ t.b CONT_STATUS_FD_ON = false ∧
    t.b (CONT_EVT_RAW_EVENTS.bit 8) = true ∧ t.b CONT_FIRST_VALID = true ∧ (s.b CONT_FIRST_VALID = false →
    t.f CONT_FIRST_INST = (if p0 < s.onPm then 0 else 1))) ∧
  (∀ (s : State), s.cont = 6 → completes .contOpenDelayEnd s fun t => t.cont = 6 ∧ t.b (CONT_STATUS_CMD.bit 0) = false ∧
    t.b (CONT_STATUS_CMD.bit 2) = false ∧ t.b (CONT_STATUS_CMD.bit 1) = s.b (CONT_STATUS_CMD.bit 1)) ∧
  (∀ (s : State), s.cont = 6 → s.b (CONT_STATUS_CMD.bit 0) = false → s.b (CONT_STATUS_CMD.bit 2) = false →
    completes .contNegDelayEnd s fun t => t.cont = 6 ∧ t.f CONT_STATUS_CMD = 0) ∧
  (∀ (s : State), s.cont = 6 → s.f CONT_STATUS_CMD = 0 → completes .contCheckEntry s fun t => t.cont = 7 ∧
    sameBut ([CONT_STATUS] ++ wakeRegs) [pgMODE] s t) ∧
  (∀ (p0 p1 p2 : Nat) (s : State), s.cont = 7 → p0 < 1024 → p1 < 1024 → p2 < 1024 → completes (.weldEvaluation p0 p1 p2) s fun t =>
    t.f (CONT_VS_PM 0) = p0 ∧ t.f (CONT_VS_PM 1) = p1 ∧ t.f (CONT_VS_PM 2) = p2 ∧ t.cont = 0 ∧
    t.b (CONT_STATUS_WELD.bit 0) = (s.b (CONT_STATUS_WELD.bit 0) || decide (s.offPm ≤ p0)) ∧
    t.b (CONT_STATUS_WELD.bit 1) = (s.b (CONT_STATUS_WELD.bit 1) || decide (s.offPm ≤ p1)) ∧ t.b (CONT_EVT_RAW_EVENTS.bit 1) = true)

/-- Coils, fast disconnect and fault loop: For every state that meets the stated conditions: a pulled-in coil economises; a coil
fault switches the coil off, marks it and opens (R208); a fast trip of a manager in ATTEND or above with FDG high drops FDG,
latches, records the epoch and the kind and opens (R212); the loop input's loss with the loop in use trips a manager, and a worker
passes it on (R214, R215). Completing here, by constructor: coilHoldStart, coilOpenFault, coilShortFault, fastDisconnectTrip,
ftBlankingEnd, floopInputLost, floopInputOk, floopResume. -/
def Obligations.coilsDisconnectAndLoop : Prop :=
  (∀ (n : Fin 3) (s : State), s.f (CONT_COIL_STATE n.val) = 1 → completes (.coilHoldStart n) s fun t =>
    t.f (CONT_COIL_STATE n.val) = 2 ∧ sameBut [CONT_COIL n.val] [] s t) ∧
  (∀ (n : Fin 3) (s : State), s.b (CONT_STATUS_CMD.bit n.val) = true → completes (.coilOpenFault n) s fun t =>
    t.b (CONT_STATUS_CMD.bit n.val) = false ∧ t.f (CONT_COIL_STATE n.val) = 3 ∧ t.cont = (if s.closing then 6 else s.cont) ∧
    t.b (CONT_EVT_RAW_EVENTS.bit 9) = true ∧ (s.b CONT_FIRST_VALID = false → t.f CONT_FIRST_KIND = 4 ∧
    t.f CONT_FIRST_INST = n.val)) ∧
  (∀ (n : Fin 3) (s : State), s.b (CONT_STATUS_CMD.bit n.val) = true → completes (.coilShortFault n) s fun t =>
    t.b (CONT_STATUS_CMD.bit n.val) = false ∧ t.f (CONT_COIL_STATE n.val) = 3 ∧ t.cont = (if s.closing then 6 else s.cont) ∧
    t.b (CONT_EVT_RAW_EVENTS.bit 9) = true ∧ (s.b CONT_FIRST_VALID = false → t.f CONT_FIRST_KIND = 4 ∧
    t.f CONT_FIRST_INST = n.val)) ∧
  (∀ (mag : Nat) (s : State), s.isMgr = true → 3 ≤ s.mode → s.b CONT_STATUS_FD_ON = true → s.f CONT_FT_HARD_THR < mag →
    completes (.fastDisconnectTrip mag) s fun t => t.b CONT_STATUS_FD_ON = false ∧ t.b CONT_STATUS_FT_LATCH = true ∧
    t.f CONT_TRIP_HI_KIND = 1 ∧ t.f CONT_TRIP_LO_EPOCH = s.epoch % 2 ^ 32 ∧
    t.f CONT_CNT_FT_TRIPS = satInc CONT_CNT_FT_TRIPS.wd (s.f CONT_CNT_FT_TRIPS) ∧ t.cont = (if s.closing then 6 else s.cont) ∧
    t.b (CONT_EVT_RAW_EVENTS.bit 4) = true) ∧
  (∀ (mag : Nat) (s : State), s.f CONT_FT_HARD_THR ≥ mag → s.eng.cont.blankFd = true →
    completes (.fastDisconnectTrip mag) s fun t => sameBut [] [] s t) ∧
  (∀ (pos : Bool) (s : State), completes (.ftBlankingEnd pos) s fun t => (if pos then t.eng.cont.blankPos = false ∧
    t.eng.cont.blankFd = s.eng.cont.blankFd else t.eng.cont.blankFd = false ∧ t.eng.cont.blankPos = s.eng.cont.blankPos) ∧
    sameBut [] [] s t) ∧
  (∀ (s : State), s.isMgr = true → s.b CONT_STATUS_LOOP_OK = true → s.loopSourcing = true → s.closing = true →
    completes .floopInputLost s fun t => t.b CONT_STATUS_LOOP_OK = false ∧ t.b CONT_STATUS_LOOP_TRIP = true ∧
    t.b CONT_STATUS_FD_ON = false ∧ t.cont = 6 ∧ t.f CONT_TRIP_HI_KIND = 2 ∧
    t.f CONT_CNT_LOOP_TRIPS = satInc CONT_CNT_LOOP_TRIPS.wd (s.f CONT_CNT_LOOP_TRIPS) ∧ t.b (CONT_EVT_RAW_EVENTS.bit 6) = true) ∧
  (∀ (s : State), s.isMgr = false → completes .floopInputLost s fun t => t.eng.cont.loopIn = false ∧ t.eng.cont.loopOut = false ∧
    sameBut [] [] s t) ∧
  (∀ (s : State), completes .floopInputOk s fun t =>
    (if s.isMgr then t.b CONT_STATUS_LOOP_OK = true else t.eng.cont.loopIn = true) ∧ t.cont = s.cont ∧
    sameBut [CONT_STATUS] [] s t) ∧
  (∀ (s : State), s.isWrk = true → s.released = true → s.eng.cont.loopIn = true → s.mode ≠ 6 → completes .floopResume s fun t =>
    t.eng.cont.loopOut = true ∧ sameBut [] [] s t)

/-- The sampling front end: reference, trims, open-wire and path tests: For every state that meets the stated conditions: REF_RDY
comes with its event (R226); a worker's OW_START waits for the shuttle and a manager's ends at once with its result and event (R233,
R234); PATH_START starts in RUN, SERVICE and FACTORY and elsewhere ends refused; ABORT ends a running diagnostic with result 3 and
event 10; the phases of the open-wire test follow one another; AFE_CFG and AFE_CAL_U store what R221 and R231 say. Completing here,
by constructor: refReady, owStart, pathStart, diagAbort, owAutoTimer, owShuttleFree, owBusyTimeout, owPhaseEnd, owBleedResume,
pathTestChannel, afeCalUWrite, afeCfgWrite. -/
def Obligations.frontEndDiagnostics : Prop :=
  (∀ (s : State), s.b AFE_STATUS_REF_RDY = false → s.refOn = true → s.eng.boot.fresh = true ∨ 3 ≤ s.f RST_BOOT_STEP →
    completes .refReady s fun t => t.b AFE_STATUS_REF_RDY = true ∧ t.eng.afe.vref = true ∧ t.b (AFE_EVT_RAW_EVENTS.bit 0) = true ∧
    sameBut ([AFE_STATUS, AFE_DIAG_STATUS, AFE_EVT_RAW] ++ wakeRegs) [pgMODE] s t) ∧
  (∀ (s : State), s.refOn = true → s.eng.boot.fresh = false → s.f RST_BOOT_STEP < 3 → completes .refReady s fun t =>
    t.eng.afe.vref = true ∧ sameBut [] [] s t) ∧
  (∀ (src : Src) (key : BitVec 16) (s : State), s.takes src AFE_DIAG_CMD (keyed key 1) = true → s.isMgr = false →
    s.f AFE_STATUS_DIAG = 0 → completes (.owStart src key) s fun t => t.f AFE_STATUS_DIAG = 1 ∧ t.outcome = .ok) ∧
  (∀ (src : Src) (key : BitVec 16) (s : State), s.takes src AFE_DIAG_CMD (keyed key 1) = true → s.isMgr = true →
    s.f AFE_STATUS_DIAG = 0 → completes (.owStart src key) s fun t => t.f AFE_STATUS_DIAG = 0 ∧ t.f AFE_DIAG_STATUS_LAST_OW = 5 ∧
    t.b (AFE_EVT_RAW_EVENTS.bit 3) = true ∧ sameBut ([AFE_STATUS, AFE_DIAG_STATUS, AFE_EVT_RAW] ++ wakeRegs) [pgMODE] s t) ∧
  (∀ (src : Src) (key : BitVec 16) (s : State), s.takes src AFE_DIAG_CMD (keyed key 2) = true → s.f AFE_STATUS_DIAG = 0 →
    s.mode = 4 ∨ s.mode = 5 ∨ s.mode = 7 → completes (.pathStart src key) s fun t => t.f AFE_STATUS_DIAG = 8 ∧
    t.f AFE_PATH_RES_FAIL = 0 ∧ t.f AFE_DIAG_STATUS_CHAN = s.pathChans.headD 24 ∧
    sameBut [AFE_STATUS, AFE_DIAG_STATUS, AFE_PATH_RES] [] s t) ∧
  (∀ (src : Src) (key : BitVec 16) (s : State), s.takes src AFE_DIAG_CMD (keyed key 2) = true → s.f AFE_STATUS_DIAG = 0 →
    s.mode = 3 ∨ s.mode = 6 → completes (.pathStart src key) s fun t => t.f AFE_STATUS_DIAG = 0 ∧
    t.f AFE_DIAG_STATUS_LAST_PATH = 5 ∧ t.b (AFE_EVT_RAW_EVENTS.bit 5) = true ∧
    sameBut ([AFE_STATUS, AFE_DIAG_STATUS, AFE_EVT_RAW] ++ wakeRegs) [pgMODE] s t) ∧
  (∀ (src : Src) (key : BitVec 16) (s : State), s.takes src AFE_DIAG_CMD (keyed key 3) = true → s.f AFE_STATUS_DIAG ≠ 0 →
    completes (.diagAbort src key) s fun t => t.f AFE_STATUS_DIAG = 0 ∧
    (if s.f AFE_STATUS_DIAG = 8 then t.f AFE_DIAG_STATUS_LAST_PATH = 3 else t.f AFE_DIAG_STATUS_LAST_OW = 3 ∧
    t.eng.afe.owHold = false) ∧ t.b (AFE_EVT_RAW_EVENTS.bit 10) = true ∧
    sameBut ([AFE_STATUS, AFE_DIAG_STATUS, AFE_EVT_RAW] ++ wakeRegs) [pgMODE, pgBAL] s t) ∧
  (∀ (s : State), s.f AFE_DIAG_CFG_AUTO_PER ≠ 0 → s.f AFE_STATUS_DIAG = 0 → s.isMgr = false → completes .owAutoTimer s fun t =>
    t.f AFE_STATUS_DIAG = 1) ∧
  (∀ (s : State), s.f AFE_STATUS_DIAG = 1 → s.f BAL_SH_STATUS_STATE = 0 ∨ s.f BAL_SH_STATUS_STATE = 7 →
    completes .owShuttleFree s fun t => t.f AFE_STATUS_DIAG = 2 ∧ t.eng.afe.owHold = true ∧ t.eng.afe.phase = s.epoch ∧
    t.f BAL_BLEED_ON_MASK = 0 ∧ t.b (balFlag 3) = true ∧ sameBut [AFE_STATUS] [pgBAL] s t) ∧
  (∀ (s : State), s.f AFE_STATUS_DIAG = 1 → completes .owBusyTimeout s fun t => t.f AFE_STATUS_DIAG = 0 ∧
    t.f AFE_DIAG_STATUS_LAST_OW = 4 ∧ t.b (AFE_EVT_RAW_EVENTS.bit 3) = true ∧
    sameBut ([AFE_STATUS, AFE_DIAG_STATUS, AFE_EVT_RAW] ++ wakeRegs) [pgMODE] s t) ∧
  (∀ (s : State), 2 ≤ s.f AFE_STATUS_DIAG → s.f AFE_STATUS_DIAG ≤ 6 → completes .owPhaseEnd s fun t =>
    t.f AFE_STATUS_DIAG = s.f AFE_STATUS_DIAG + 1 ∧ t.eng.afe.phase = s.epoch ∧ t.eng.afe.sums = [] ∧ sameBut [AFE_STATUS] [] s t) ∧
  (∀ (s : State), s.f AFE_STATUS_DIAG = 7 → completes .owPhaseEnd s fun t => t.f AFE_STATUS_DIAG = 0 ∧
    t.f AFE_CNT_OW_RUNS = satInc AFE_CNT_OW_RUNS.wd (s.f AFE_CNT_OW_RUNS) ∧
    t.f AFE_DIAG_STATUS_LAST_OW = (if t.f AFE_OW_RES_OPEN = 0 then 1 else 2) ∧ t.b (AFE_EVT_RAW_EVENTS.bit 3) = true) ∧
  (∀ (s : State), s.f AFE_STATUS_DIAG = 0 → completes .owBleedResume s fun t => t.eng.afe.owHold = false ∧ t.b (balFlag 3) = false ∧
    sameBut [] [pgBAL] s t) ∧
  (∀ (zero scale : Int) (s : State), s.f AFE_STATUS_DIAG = 8 → s.f AFE_DIAG_STATUS_CHAN < 28 →
    completes (.pathTestChannel zero scale) s fun t =>
    t.b (AFE_PATH_RES_FAIL.bit (s.f AFE_DIAG_STATUS_CHAN)) = (s.b (AFE_PATH_RES_FAIL.bit (s.f AFE_DIAG_STATUS_CHAN)) || !(pathOk
      (s.b AFE_AUXCFG_AUX2_SE) (s.f AFE_DIAG_STATUS_CHAN) false zero && pathOk (s.b AFE_AUXCFG_AUX2_SE) (s.f AFE_DIAG_STATUS_CHAN)
      true scale)) ∧ t.f AFE_STATUS_DIAG = 8 ∧ s.f AFE_DIAG_STATUS_CHAN < t.f AFE_DIAG_STATUS_CHAN) ∧
  (∀ (src : Src) (ch : Fin 32) (w : Word) (s : State), s.takes src (AFE_CAL_U ch.val) w = true → s.accepts 6 = true →
    completes (.afeCalUWrite src ch w) s fun t => t.reg (AFE_CAL_U ch.val) = w ∧ sameBut [AFE_CAL_U ch.val] [] s t) ∧
  (∀ (src : Src) (w : Word) (s : State), s.takes src AFE_CFG w = true → s.accepts 6 = true →
    completes (.afeCfgWrite src w) s fun t => t.f AFE_CFG_SUM_TOL = max 1 (AFE_CFG_SUM_TOL.of w) ∧
    t.f AFE_CFG_SUM_EN = AFE_CFG_SUM_EN.of w ∧
    t.f AFE_CFG_NCELL = (if s.isMgr then s.f AFE_CFG_NCELL else if AFE_CFG_NCELL.of w = 0 then 0 else clamp 8 24 (AFE_CFG_NCELL.of
      w)) ∧ sameBut [AFE_CFG, AFE_STATUS] [] s t)

/-- Frames, requests, trips and bursts: For every state that meets the stated conditions: a tick of a scheduled frame is struck,
once (R246); a frame boundary grants at most the head of the queue and escalates what has aged (R251, R252); a frame struck first is
published first and counted (R247, R261); a trip marks the frames it overlaps VOID and asks for a rerun of each (R250); GO places a
request in a free entry, or drops it (R254); a request that is ready completes with its value, epoch and event; a full burst
delivers its samples (R253). Completing here, by constructor: frameStrike, conversionWindowEnd, framePublish, tripRequest,
directResultReady, scanReqGo, scanRequestComplete, burstDone. -/
def Obligations.conversionAndScheduling : Prop :=
  (∀ (s : State), s.eng.epoch.running = true → s.b AFE_STATUS_REF_RDY = true → s.mode = 3 → s.fullRate = false →
    s.epoch % s.f MODE_ATT_PER_PER = 0 → s.eng.scan.lastTick = none → s.eng.scan.trips = [] → s.eng.scan.burst = 0 →
    s.eng.scan.skipK = 1 → s.eng.scan.skipNext = none → s.eng.scan.rerun = false → s.fineNext < 2 ^ AFE_STROBE_FINE.wd →
    completes .frameStrike s fun t =>
    t.eng.scan.flight = s.eng.scan.flight ++ [⟨s.epoch, s.strikeFlags, s.fineNext, s.period.getD 1⟩] ∧
    t.eng.scan.lastTick = some s.epoch ∧ t.f AFE_STROBE_FINE = s.fineNext ∧ sameBut [AFE_STROBE] [] s t) ∧
  (∀ (s : State), s.eng.epoch.running = true → s.eng.scan.skipNext = none → s.eng.scan.lastTick = some s.epoch →
    s.eng.scan.burst = 0 → completes .frameStrike s fun t => t.eng.scan.flight = s.eng.scan.flight ∧ sameBut [] [] s t) ∧
  (∀ (k o c ch : Nat) (s : State), s.grantBarred = false → s.eng.scan.reqs = [⟨k, o, c, 0, ch, 1, 0, false, none, none⟩] → c = 1 →
    completes .conversionWindowEnd s fun t => t.eng.scan.reqs = [⟨k, o, c, 0, ch, 1, 0, true, none, none⟩] ∧ sameBut [] [] s t) ∧
  (∀ (raw : List Int) (poison : BitVec 32) (x : Flight) (rest : List Flight) (s : State), s.eng.scan.flight = x :: rest →
    raw.length = 32 → completes (.framePublish raw poison) s fun t => t.eng.scan.flight = rest ∧
    t.f SCAN_CNT_FRAMES_COUNT = (s.f SCAN_CNT_FRAMES_COUNT + 1) % 2 ^ SCAN_CNT_FRAMES_COUNT.wd) ∧
  (∀ (ch : Fin 32) (ps : Nat) (codes : List Int) (fine per : Nat) (s : State), ps < 1000000 →
    s.eng.scan.flight = [⟨s.epoch, 0, fine, per⟩] → s.eng.scan.trips = [] → s.eng.scan.reqs = [] →
    overlaps (strikePs s.epoch fine) (s.epoch * 1000000 + ps + 62500, s.epoch * 1000000 + ps + 312500) = true →
    completes (.tripRequest ch ps codes) s fun t => t.b ADC_STATUS_TRIP = true ∧ t.eng.scan.flight = [⟨s.epoch, 0x200, fine, per⟩] ∧
    t.eng.scan.rerun = true ∧ t.eng.scan.tripRun = s.eng.scan.tripRun + 1 ∧ sameBut [ADC_STATUS] [] s t) ∧
  (∀ (trip : Bool) (code : Int) (poison : Bool) (s : State), trip = true →
    completes (.directResultReady trip code poison) s fun t => t.b ADC_STATUS_TRIP = decide (1 < s.eng.scan.tripRun) ∧
    t.eng.scan.tripRun = s.eng.scan.tripRun - 1 ∧ t.eng.scan.reqs = s.eng.scan.reqs ∧ sameBut [ADC_STATUS] [] s t) ∧
  (∀ (trip : Bool) (code : Int) (poison : Bool) (k o c ch n g : Nat) (e : Option Nat) (s : State), trip = false →
    s.eng.scan.reqs = [⟨k, o, c, 1, ch, n, g, true, e, none⟩] → completes (.directResultReady trip code poison) s fun t =>
    t.eng.scan.reqs = [⟨k, o, c, 1, ch, n, g, true, e, some (unsigned 16 code, poison)⟩] ∧ sameBut [] [] s t) ∧
  (∀ (src : Src) (key : BitVec 16) (fw : Option (Bool × Word)) (s : State), fw = none →
    s.takes src SCAN_REQ (keyed key (2 ^ SCAN_REQ_GO.lo)) = true → s.f SCAN_REQ_CFG_KIND < 2 → s.eng.scan.reqs = [] →
    completes (.scanReqGo src key fw) s fun t => t.b SCAN_REQ_LAST_VALID = true ∧ t.f SCAN_REQ_LAST_ENTRY = 4 ∧
    t.eng.scan.reqs = [⟨4, 3, s.f SCAN_REQ_CFG_CLASS, s.f SCAN_REQ_CFG_KIND, s.f SCAN_REQ_CFG_CH, reqCount (s.f SCAN_REQ_CFG_KIND)
      (s.f SCAN_REQ_CFG_COUNT), 0, false, none, none⟩] ∧ t.b (SCAN_RES_VALID 4) = false ∧ t.f SCAN_STATUS_QDEPTH = 1) ∧
  (∀ (src : Src) (key : BitVec 16) (fw : Option (Bool × Word)) (s : State), fw = none →
    s.takes src SCAN_REQ (keyed key (2 ^ SCAN_REQ_GO.lo)) = true → s.f SCAN_REQ_CFG_KIND < 2 → ∀ k : Fin 16, 4 ≤ k.val →
    s.eng.scan.reqs.any (fun r => r.entry == k.val) = true → completes (.scanReqGo src key fw) s fun t =>
    t.eng.scan.reqs = s.eng.scan.reqs ∧ t.b (SCAN_EVT_RAW_EVENTS.bit 3) = true ∧
    t.f SCAN_CNT_DROP_QFULL = satInc SCAN_CNT_DROP_QFULL.wd (s.f SCAN_CNT_DROP_QFULL) ∧
    sameBut ([SCAN_EVT_RAW, SCAN_CNT_DROP] ++ wakeRegs) [pgMODE] s t) ∧
  (∀ (src : Src) (key : BitVec 16) (fw : Option (Bool × Word)) (woad : Bool) (w : Word) (s : State), fw = some (woad, w) →
    SCAN_REQ_CFG_KIND.of w < 2 → s.eng.scan.reqs = [] → completes (.scanReqGo src key fw) s fun t =>
    t.eng.scan.reqs = [⟨0, b2n woad, if woad then clamp 1 3 (SCAN_REQ_CFG_CLASS.of w) else 1, SCAN_REQ_CFG_KIND.of w, min 31
      (SCAN_REQ_CFG_CH.of w), reqCount (SCAN_REQ_CFG_KIND.of w) (SCAN_REQ_CFG_COUNT.of w), 0, false, none, none⟩] ∧
    t.b (SCAN_RES_VALID 0) = false ∧ t.f SCAN_STATUS_QDEPTH = 1) ∧
  (∀ (entry : Nat) (o c kind ch n g e v : Nat) (p : Bool) (s : State),
    s.eng.scan.reqs = [⟨entry, o, c, kind, ch, n, g, true, some e, some (v, p)⟩] → entry < 16 →
    completes (.scanRequestComplete entry) s fun t => t.eng.scan.reqs = [] ∧ t.b (SCAN_RES_VALID entry) = true ∧
    t.f (SCAN_RES_VALUE entry) = v % 2 ^ (SCAN_RES_VALUE entry).wd ∧ t.b (SCAN_RES_POISON entry) = p ∧
    t.f (SCAN_RES_EP_EPOCH entry) = e % 2 ^ (SCAN_RES_EP_EPOCH entry).wd ∧ t.f SCAN_STATUS_QDEPTH = 0 ∧
    t.b (SCAN_EVT_RAW_EVENTS.bit 2) = true) ∧
  (∀ (codes : List Int) (k o c ch n g e : Nat) (s : State), s.eng.scan.reqs = [⟨k, o, c, 2, ch, n, g, true, some e, none⟩] →
    codes.length = n → n < 4096 → completes (.burstDone codes) s fun t =>
    t.eng.scan.reqs = [⟨k, o, c, 2, ch, n, g, true, some e, some (n, false)⟩] ∧ t.eng.scan.burst = 0 ∧
    t.b ADC_STATUS_BURST = false ∧ t.f ADC_BURST_LEN = n ∧ t.b (ADC_EVT_RAW_EVENTS.bit 1) = true)

/-- The balancing commands and the registers they own: For every state in which the command is taken and its class accepted: START
and STOP clear and set STOPPED, STOP with every bleed switch off (R279); UNLOCK returns a locked shuttle with no node on to IDLE
(R277); LEASE refreshes the host lease in MANUAL; a selection, a bleed mask and a reference written by a host outside MANUAL, or by
a core in MANUAL, are rejected with cause 1 and event 1 and change no output (R273, R278, R282), and else are taken. Completing
here, by constructor: balStart, balStop, balUnlock, balLease, balSelWrite, balBleedWrite, balShIWrite. -/
def Obligations.balancingCommands : Prop :=
  (∀ (src : Src) (key : BitVec 16) (s : State), s.takes src BAL_CMD (keyed key 1) = true → s.accepts 3 = true →
    completes (.balStart src key) s fun t => t.b (balFlag 7) = false ∧ t.sh = s.sh ∧ sameBut [] [pgBAL] s t) ∧
  (∀ (src : Src) (key : BitVec 16) (s : State), s.takes src BAL_CMD (keyed key 2) = true → completes (.balStop src key) s fun t =>
    t.b (balFlag 7) = true ∧ (s.f BAL_SH_STATUS_OWNER ≠ 2 → t.f BAL_BLEED_ON_MASK = 0) ∧ (s.sh ≠ 7 → t.f BAL_SEL_CELL = 31) ∧
    sameBut [] [pgBAL] s t) ∧
  (∀ (src : Src) (key : BitVec 16) (s : State), s.takes src BAL_CMD (keyed key 3) = true → s.accepts 3 = true → s.sh = 7 →
    s.f BAL_NODE_RB_MAP = 0 → completes (.balUnlock src key) s fun t => t.sh = 0 ∧ sameBut [] [pgBAL] s t) ∧
  (∀ (src : Src) (key : BitVec 16) (s : State), s.takes src BAL_CMD (keyed key 4) = true → s.f BAL_POLICY_MODE = 2 →
    completes (.balLease src key) s fun t => t.eng.bal.leaseAt = s.now ∧ sameBut [] [] s t) ∧
  (∀ (src : Src) (key : BitVec 16) (cell : Fin 32) (s : State),
    s.takes src BAL_SEL (keyed key (cell.val * 2 ^ BAL_SEL_CELL.lo)) = true → s.accepts 3 = true →
    s.selCause (src == .core) cell.val = 0 → s.balPermitted = true → s.sh = 0 → cell.val < 24 →
    completes (.balSelWrite src key cell) s fun t => t.f BAL_SEL_CELL = cell.val ∧ t.sh = 2 ∧ t.f BAL_SH_STATUS_OWNER = 1 ∧
    sameBut [] [pgBAL] s t) ∧
  (∀ (src : Src) (key : BitVec 16) (cell : Fin 32) (s : State),
    s.takes src BAL_SEL (keyed key (cell.val * 2 ^ BAL_SEL_CELL.lo)) = true → s.accepts 3 = true →
    s.selCause (src == .core) cell.val ≠ 0 → completes (.balSelWrite src key cell) s fun t =>
    t.f BAL_SH_STATUS_REJ = s.selCause (src == .core) cell.val ∧ t.b (BAL_EVT_RAW_EVENTS.bit 1) = true ∧
    t.f BAL_SEL_CELL = s.f BAL_SEL_CELL ∧ t.sh = s.sh ∧ sameBut ([BAL_SH_STATUS, BAL_EVT_RAW] ++ wakeRegs) [pgMODE] s t) ∧
  (∀ (src : Src) (w : Word) (s : State), s.takes src BAL_BLEED w = true → s.accepts 3 = true → s.balForeign (src == .core) = false →
    popcount (BAL_BLEED_MASK.of w) ≤ s.f BAL_PASS_CFG_MAX_ON → BAL_BLEED_MASK.of w < 2 ^ s.cells →
    completes (.balBleedWrite src w) s fun t => t.f BAL_BLEED_MASK = BAL_BLEED_MASK.of w ∧ (src ≠ .core → t.b (balFlag 5) = false) ∧
    sameBut [] [pgBAL] s t) ∧
  (∀ (src : Src) (w : Word) (s : State), s.takes src BAL_BLEED w = true → s.accepts 3 = true → s.balForeign (src == .core) = true →
    completes (.balBleedWrite src w) s fun t => t.f BAL_BLEED_MASK = s.f BAL_BLEED_MASK ∧ t.f BAL_SH_STATUS_REJ = 1 ∧
    t.b (BAL_EVT_RAW_EVENTS.bit 1) = true ∧ sameBut ([BAL_SH_STATUS, BAL_EVT_RAW] ++ wakeRegs) [pgMODE] s t) ∧
  (∀ (src : Src) (w : Word) (s : State), s.takes src BAL_SH_I w = true → s.accepts 3 = true → s.balForeign (src == .core) = false →
    completes (.balShIWrite src w) s fun t =>
    t.i BAL_SH_I_I = clampInt (-(s.f BAL_SH_CFG_ILIM * 10 : Int)) (s.f BAL_SH_CFG_ILIM * 10) (signed 16 (BAL_SH_I_I.of w)) ∧
    sameBut [BAL_SH_I, BAL_SH_STATUS] [] s t) ∧
  (∀ (src : Src) (w : Word) (s : State), s.takes src BAL_SH_I w = true → s.accepts 3 = true → s.balForeign (src == .core) = true →
    completes (.balShIWrite src w) s fun t => t.f BAL_SH_STATUS_REJ = 1 ∧ t.b (BAL_EVT_RAW_EVENTS.bit 1) = true ∧
    sameBut ([BAL_SH_STATUS, BAL_EVT_RAW] ++ wakeRegs) [pgMODE] s t)

/-- The shuttle's states, its protections and the leases: For every state that meets the stated conditions: the shuttle goes through
RAMP_DOWN, VERIFY_OFF, BBM, CLOSING, RAMP_UP and RUN with the commands, counts and events of R275; a node that stays on, and an
interlock, lock it with every gate off (R276, R277); a pair that fails to close, an overcurrent and an open bleed leave what R270,
R276 and R278 say; a lapsed lease takes the outputs off (R279). Completing here, by constructor: shRampDownDone, shNodesOff,
shStuckOn, shInterlock, shBbmEnd, shPairClosed, shFailToClose, shRampUpDone, shOvercurrent, bleedOpen, bleedBudgetReturn,
policyLeaseLapse, hostLeaseLapse, balPolicyTick, balSlotEnd, shuttleRelease. -/
def Obligations.shuttleSequence : Prop :=
  (∀ (s : State), s.sh = 1 → completes .shRampDownDone s fun t => t.sh = 2 ∧ t.f BAL_NODE_CMD_MAP = 0 ∧ t.f BAL_SH_STATUS_I = 0 ∧
    t.f BAL_SH_STATUS_CELL = 31 ∧ sameBut [BAL_NODE_CMD, BAL_SH_STATUS] [] s t) ∧
  (∀ (s : State), s.sh = 2 → s.f BAL_NODE_CMD_MAP = 0 → completes .shNodesOff s fun t => t.sh = 3 ∧ t.f BAL_NODE_RB_MAP = 0 ∧
    sameBut [BAL_NODE_RB, BAL_SH_STATUS] [] s t) ∧
  (∀ (rb : BitVec 25) (s : State), s.sh = 2 → completes (.shStuckOn rb) s fun t => t.sh = 7 ∧ t.f BAL_NODE_CMD_MAP = 0 ∧
    t.f BAL_SEL_CELL = 31 ∧ t.f BAL_SH_STATUS_CELL = 31 ∧ t.f BAL_SH_STATUS_OWNER = 0 ∧ t.f BAL_NODE_RB_MAP = rb.toNat ∧
    t.f BAL_CNT_LOCKS = satInc BAL_CNT_LOCKS.wd (s.f BAL_CNT_LOCKS) ∧ t.b (BAL_EVT_RAW_EVENTS.bit 3) = true ∧
    sameBut (wakeRegs ++ dropRegs) [pgMODE, pgBAL] s t) ∧
  (∀ (rb on : BitVec 25) (us : Nat) (node : Nat) (rest : List Nat) (s : State), s.badNodes rb.toNat on.toNat us = node :: rest →
    completes (.shInterlock rb on us) s fun t => t.sh = 7 ∧ t.f BAL_NODE_CMD_MAP = 0 ∧ t.f BAL_SEL_CELL = 31 ∧
    t.f BAL_SH_STATUS_CELL = 31 ∧ t.f BAL_SH_STATUS_OWNER = 0 ∧ t.f BAL_NODE_RB_MAP = rb.toNat ∧
    t.f BAL_CNT_LOCKS = satInc BAL_CNT_LOCKS.wd (s.f BAL_CNT_LOCKS) ∧ t.b (BAL_EVT_RAW_EVENTS.bit 4) = true ∧
    (s.b BAL_FIRST_VALID = false → t.f BAL_FIRST_KIND = 2 ∧ t.f BAL_FIRST_INST = node) ∧
    sameBut (wakeRegs ++ dropRegs) [pgMODE, pgBAL] s t) ∧
  (∀ (rb on : BitVec 25) (us : Nat) (s : State), s.badNodes rb.toNat on.toNat us = [] → completes (.shInterlock rb on us) s fun t =>
    t.f BAL_NODE_RB_MAP = rb.toNat ∧ t.sh = (if s.sh = 3 ∧ rb.toNat ≠ 0 then 2 else s.sh) ∧
    sameBut [BAL_NODE_RB, BAL_SH_STATUS] [] s t) ∧
  (∀ (s : State), s.sh = 3 → s.f BAL_NODE_RB_MAP = 0 → s.f BAL_SEL_CELL ≤ 23 → completes .shBbmEnd s fun t => t.sh = 4 ∧
    t.f BAL_NODE_CMD_MAP = pairMask (s.f BAL_SEL_CELL) ∧ t.eng.bal.closing = s.f BAL_SEL_CELL ∧
    sameBut [BAL_NODE_CMD, BAL_SH_STATUS] [] s t) ∧
  (∀ (s : State), s.sh = 3 → s.f BAL_NODE_RB_MAP = 0 → 24 ≤ s.f BAL_SEL_CELL → completes .shBbmEnd s fun t => t.sh = 0 ∧
    t.f BAL_SH_STATUS_OWNER = 0 ∧ t.f BAL_NODE_CMD_MAP = s.f BAL_NODE_CMD_MAP ∧ sameBut [] [pgBAL] s t) ∧
  (∀ (s : State), s.sh = 4 → s.eng.bal.closing < 32 → completes .shPairClosed s fun t => t.sh = 5 ∧
    t.f BAL_SH_STATUS_CELL = s.eng.bal.closing ∧ t.f BAL_NODE_RB_MAP = s.f BAL_NODE_CMD_MAP ∧
    t.f BAL_CNT_SELECTIONS = satInc BAL_CNT_SELECTIONS.wd (s.f BAL_CNT_SELECTIONS) ∧ (s.eng.bal.forEis = true →
    t.f BAL_SH_STATUS_OWNER = 2) ∧ t.b (BAL_EVT_RAW_EVENTS.bit 0) = true ∧ sameBut (wakeRegs ++ dropRegs) [pgMODE, pgBAL] s t) ∧
  (∀ (rb : BitVec 25) (s : State), s.sh = 4 → completes (.shFailToClose rb) s fun t => t.sh = 2 ∧ t.f BAL_NODE_CMD_MAP = 0 ∧
    t.f BAL_NODE_RB_MAP = rb.toNat ∧ t.f BAL_SEL_CELL = 31 ∧ t.b (BAL_EVT_RAW_EVENTS.bit 2) = true ∧
    sameBut (wakeRegs ++ dropRegs) [pgMODE, pgBAL] s t) ∧
  (∀ (i : BitVec 16) (s : State), s.sh = 5 → completes (.shRampUpDone i) s fun t => t.sh = 6 ∧ t.f BAL_SH_STATUS_I = i.toNat ∧
    sameBut [BAL_SH_STATUS] [] s t) ∧
  (∀ (i : BitVec 16) (us : Nat) (s : State), s.sh = 1 ∨ s.sh = 5 ∨ s.sh = 6 →
    50 * s.f BAL_SH_CFG_ILIM < 4 * (signed 16 i.toNat).natAbs → 10 ≤ us → s.f BAL_SH_STATUS_CELL ≠ 31 →
    completes (.shOvercurrent i us) s fun t => t.sh = 1 ∧ t.f BAL_SH_STATUS_I = i.toNat ∧ t.f BAL_SEL_CELL = 31 ∧
    t.b (BAL_EVT_RAW_EVENTS.bit 11) = true ∧ sameBut (wakeRegs ++ dropRegs) [pgMODE, pgBAL] s t) ∧
  (∀ (cell : Fin 24) (ma : BitVec 16) (ms : Nat) (s : State), bitOf (s.f BAL_BLEED_ON_MASK) cell.val = true →
    2 * ma.toNat < s.bleedI → 10 ≤ ms → 1600000 ≤ s.bleedDrop cell.val → completes (.bleedOpen cell ma ms) s fun t =>
    bitOf t.eng.bal.openOff cell.val = true ∧ bitOf (t.f BAL_BLEED_ON_MASK) cell.val = false ∧
    t.b (BAL_EVT_RAW_EVENTS.bit 7) = true ∧ (s.b BAL_FIRST_VALID = false → t.f BAL_FIRST_KIND = 3 ∧ t.f BAL_FIRST_INST = cell.val) ∧
    sameBut (wakeRegs ++ dropRegs) [pgMODE, pgBAL] s t) ∧
  (∀ (cell : Fin 24) (s : State), bitOf s.eng.bal.removed cell.val = true →
    s.bleedSum (withBit (s.f BAL_BLEED_ON_MASK) cell.val true) ≤ s.pmax4 → completes (.bleedBudgetReturn cell) s fun t =>
    bitOf t.eng.bal.removed cell.val = false ∧ sameBut [] [pgBAL] s t) ∧
  (∀ (ms : Nat) (s : State), s.f BAL_POLICY_MODE = 1 → s.b (balFlag 5) = false → s.leaseMs ≤ ms →
    completes (.policyLeaseLapse ms) s fun t => t.b (balFlag 5) = true ∧ (s.f BAL_SH_STATUS_OWNER ≠ 2 → t.f BAL_BLEED_ON_MASK = 0) ∧
    t.b (BAL_EVT_RAW_EVENTS.bit 9) = true ∧ sameBut wakeRegs [pgMODE, pgBAL] s t) ∧
  (∀ (ms : Nat) (s : State), s.f BAL_POLICY_MODE = 2 → s.b (balFlag 5) = false → s.leaseMs ≤ ms →
    completes (.hostLeaseLapse ms) s fun t => t.b (balFlag 5) = true ∧ (s.f BAL_SH_STATUS_OWNER ≠ 2 → t.f BAL_BLEED_ON_MASK = 0) ∧
    t.b (BAL_EVT_RAW_EVENTS.bit 9) = true ∧ sameBut wakeRegs [pgMODE, pgBAL] s t) ∧
  (∀ (s : State), s.isWrk = true → s.f BAL_POLICY_MODE = 1 → s.balPermitted = false → s.b (balFlag 7) = true →
    completes .balPolicyTick s fun t => t.eng.bal.leaseAt = s.now ∧ t.b (balFlag 5) = false ∧ sameBut [BAL_STATUS] [] s t) ∧
  (∀ (s : State), s.isWrk = true → s.f BAL_POLICY_MODE = 1 → s.mode = 3 → s.b (balFlag 7) = false → s.f BAL_POLICY_METHOD = 0 →
    s.eng.bal.slot = none → completes .balPolicyTick s fun t => t.eng.bal.leaseAt = s.now ∧ t.b (balFlag 5) = false ∧
    t.f BAL_BLEED_MASK = s.policyMask t.eng.bal.need % 2 ^ 24 ∧ t.sh = s.sh ∧ sameBut [] [pgBAL] s t) ∧
  (∀ (us : Nat) (s : State), s.eng.bal.slot.isSome = true → s.f BAL_SH_STATUS_OWNER ≠ 2 →
    s.eng.bal.slotLen ≤ us ∨ s.slotEarly = true → completes (.balSlotEnd us) s fun t => t.eng.bal.slot = none ∧
    t.f BAL_SEL_CELL = 31 ∧ t.f BAL_SH_I_I = 0 ∧ sameBut [] [pgBAL] s t) ∧
  (∀ (s : State), s.f BAL_SH_STATUS_OWNER = 2 → s.eng.bal.yielded = none → completes .shuttleRelease s fun t =>
    t.f BAL_SH_STATUS_OWNER = 1 ∧ t.f BAL_SEL_CELL = 31 ∧ t.f BAL_SH_I_I = 0 ∧ t.eng.bal.slot = none ∧ t.eng.bal.forEis = false ∧
    sameBut [] [pgBAL] s t)

/-- The impedance engine's commands, slots and spectra, and the ripple windows: For every state that meets the stated conditions:
START, STOP, ONE and TREF do what R304 and R307 say where their class is accepted; a due slot waits for the shuttle, excites once
the shuttle is the engine's and connected, measures, releases the shuttle and advances the schedule (R302 to R305), a slot without
the connection ending with cause 7; a stored spectrum is the viewed one's new content and counts (R303, R308); the ripple windows
count and flag at both roles (R299, R300). Completing here, by constructor: eisStart, eisStop, eisOne, eisTref, eisSlotDue,
eisExcitationStart, eisWindowStart, eisMeasureEnd, eisSlotRelease, eisSpectrumStored, eisViewWrite, rippleWindowEnd, rippleRx,
ripplePacketMissing, shuttleRequest. -/
def Obligations.impedanceEngine : Prop :=
  (∀ (src : Src) (key : BitVec 16) (s : State), s.takes src EIS_CMD (keyed key 1) = true → s.accepts 4 = true →
    completes (.eisStart src key) s fun t => t.eng.eis.on = true ∧ t.eng.eis.fast = 0 ∧ t.eng.eis.full = 0 ∧
    t.eisState = (if s.eisState = 0 ∧ s.mode = 5 then 6 else s.eisState) ∧ sameBut [EIS_STATUS] [] s t) ∧
  (∀ (src : Src) (key : BitVec 16) (s : State), s.takes src EIS_CMD (keyed key 2) = true → completes (.eisStop src key) s fun t =>
    t.eng.eis.on = false ∧ t.eng.eis.one = none ∧ t.eisState = (if 2 ≤ s.eisState ∧
    s.eisState ≤ 4 then 5 else if s.eisState = 1 ∨ s.eisState = 6 then 0 else s.eisState) ∧ sameBut [EIS_STATUS] [] s t) ∧
  (∀ (src : Src) (key : BitVec 16) (kind : Fin 4) (cell : Fin 32) (s : State),
    s.takes src EIS_CMD (keyed key (3 + kind.val * 2 ^ EIS_CMD_KIND.lo + cell.val * 2 ^ EIS_CMD_CELL.lo)) = true →
    s.accepts 4 = true → kind.val < 2 → cell.val < s.cells → completes (.eisOne src key kind cell) s fun t =>
    t.eng.eis.one = some (kind.val, cell.val) ∧ sameBut [EIS_STATUS] [] s t) ∧
  (∀ (src : Src) (key : BitVec 16) (cell : Fin 32) (s : State),
    s.takes src EIS_CMD (keyed key (4 + cell.val * 2 ^ EIS_CMD_CELL.lo)) = true → s.accepts 4 = true → cell.val < s.cells →
    s.latest cell.val = none → completes (.eisTref src key cell) s fun t => t.b (EIS_EVT_RAW_EVENTS.bit 6) = true ∧
    sameBut (EIS_EVT_RAW :: wakeRegs) [pgMODE] s t) ∧
  (∀ (src : Src) (key : BitVec 16) (cell : Fin 32) (x : Spectrum) (re im : Int) (s : State),
    s.takes src EIS_CMD (keyed key (4 + cell.val * 2 ^ EIS_CMD_CELL.lo)) = true → s.accepts 4 = true → cell.val < s.cells →
    s.latest cell.val = some x → x.valid (s.f EIS_TEMP_CFG_TRACK_I) = some (re, im) → later s.epoch (x.epoch + 60000000) = false →
    s.f (AUX_TEMP_STATE (s.f (EIS_TREF_TH cell.val))) = 0 → completes (.eisTref src key cell) s fun t =>
    t.b (EIS_EVT_RAW_EVENTS.bit 5) = true ∧ t.f (EIS_TREF_PHI cell.val) = unsigned 16 (clampInt (-32768) 32767 (phaseOf im re)) ∧
    t.i (EIS_TREF_T cell.val) = clampInt (-2 ^ ((EIS_TREF_T 0).wd - 1)) (2 ^ ((EIS_TREF_T 0).wd - 1) - 1) (rndDiv (s.i (AUX_TEMP_T
      (s.f (EIS_TREF_TH cell.val)))) 10) ∧ sameBut ([EIS_EVT_RAW, EIS_TREF cell.val] ++ wakeRegs) [pgMODE] s t) ∧
  (∀ (kd c : Nat) (s : State), s.isWrk = true → s.eisState = 0 → s.mode = 4 → s.eng.boot.cores.getD 1 false = true →
    s.eng.eis.one = some (kd, c) → completes .eisSlotDue s fun t => t.eisState = 1 ∧ t.f EIS_STATUS_CELL = c % 32 ∧
    t.f EIS_STATUS_KIND = kd % 2 ^ EIS_STATUS_KIND.wd ∧ t.eng.eis.slot = some { kind := kd, cell := c, sched := false } ∧
    t.eng.eis.one = none ∧ sameBut [EIS_STATUS] [] s t) ∧
  (∀ (s : State), s.eisState = 2 → completes .eisExcitationStart s fun t => t.eisState = (if s.f BAL_SH_STATUS_OWNER = 2 ∧
    s.f BAL_SH_STATUS_CELL ≤ 23 then 3 else 5) ∧ (t.eisState = 5 →
    t.eng.eis.slot = s.eng.eis.slot.map fun x => { x with fin := some 7 }) ∧ sameBut [EIS_STATUS] [] s t) ∧
  (∀ (s : State), s.eisState = 3 → completes .eisWindowStart s fun t => t.eisState = 4 ∧
    t.eng.eis.slot = s.eng.eis.slot.map (fun x => { x with e0 := s.epoch }) ∧ sameBut [EIS_STATUS] [] s t) ∧
  (∀ (cur : List Int) (x : EisSlot) (s : State), s.eisState = 4 → s.eng.eis.slot = some x →
    completes (.eisMeasureEnd cur) s fun t => t.eisState = 5 ∧
    t.eng.eis.slot.map (fun y => (y.kind, y.cell, y.sched, y.clip, y.throttled, y.tag)) = some (x.kind, x.cell, x.sched, x.clip,
      (x.throttled || s.throttled), x.e0 + x.wn * windowLen (x.kind == 1) - 1) ∧
    t.eng.eis.slot.map EisSlot.miss = some (((s.slotWindows x cur).map fun w => missOf w.1).foldl max 0) ∧
    t.eng.eis.slot.map EisSlot.fin = some (some (if 1000 < ((s.slotWindows x cur).map fun w => missOf w.1).foldl max 0 then 5 else
      0)) ∧ sameBut [EIS_STATUS] [] s t) ∧
  (∀ (x : EisSlot) (s : State), s.eisState = 5 → s.eng.eis.slot = some x → s.f BAL_SH_STATUS_OWNER = 2 → s.eng.bal.yielded = none →
    completes .eisSlotRelease s fun t => t.eng.eis.slot = none ∧ t.eng.eis.done = some x ∧ t.f EIS_STATUS_CELL = 31 ∧
    t.eisState = (if (s.eng.eis.on = true ∨ s.eng.eis.one.isSome = true) ∧ s.eisMode = false then 6 else 0) ∧
    t.f BAL_SH_STATUS_OWNER = 1 ∧ t.f BAL_SEL_CELL = 31 ∧ t.f BAL_SH_I_I = 0) ∧
  (∀ (x : EisSlot) (s : State), s.eng.eis.done = some x → x.fin = some 3 → s.f EIS_VIEW_CELL ≠ x.cell →
    completes .eisSpectrumStored s fun t => t.eng.eis.done = none ∧
    (t.spectrum x.cell x.kind).map (fun sp => (sp.fin, sp.epoch)) = some (3, x.tag) ∧
    t.f EIS_CNT_ABORTS = satInc EIS_CNT_ABORTS.wd (s.f EIS_CNT_ABORTS) ∧ t.b (EIS_EVT_RAW_EVENTS.bit 1) = true ∧
    sameBut ([EIS_CNT, EIS_EVT_RAW] ++ wakeRegs) [pgMODE] s t) ∧
  (∀ (src : Src) (w : Word) (s : State), s.takes src EIS_VIEW w = true → s.isMgr = false →
    completes (.eisViewWrite src w) s fun t => t.f EIS_VIEW_CELL = min 23 (EIS_VIEW_CELL.of w) ∧
    t.f EIS_VIEW_KIND = (if EIS_VIEW_KIND.of w < 3 then EIS_VIEW_KIND.of w else s.f EIS_VIEW_KIND) ∧
    t.b EIS_V_STATUS_VALID = (s.spectrum (t.f EIS_VIEW_CELL) (t.f EIS_VIEW_KIND)).isSome) ∧
  (∀ (s : State), s.isMgr = true → s.fullRate = true → completes .rippleWindowEnd s fun t => t.b EIS_STATUS_RIP_LIVE = true ∧
    t.f EIS_CNT_RIP_USED = satInc EIS_CNT_RIP_USED.wd (s.f EIS_CNT_RIP_USED) ∧ t.b (EIS_EVT_RAW_EVENTS.bit 7) = true) ∧
  (∀ (port : Fin 2) (p : Pkt) (s : State), s.isWrk = true → later s.epoch (bits64 (pw p 0) 16 48 + 500000) = false →
    s.hears port.val 0x30 p = true → s.f EIS_CFG_METHOD = 1 ∨ s.f EIS_CFG_METHOD = 2 → s.fullRate = true →
    s.eng.eis.ripN + 1 < s.f EIS_QUAL_RIP_AVG → completes (.rippleRx port p) s fun t => t.b EIS_STATUS_RIP_LIVE = true ∧
    t.f EIS_CNT_RIP_USED = satInc EIS_CNT_RIP_USED.wd (s.f EIS_CNT_RIP_USED) ∧ t.eng.eis.ripN = s.eng.eis.ripN + 1 ∧
    t.b (EIS_EVT_RAW_EVENTS.bit 7) = true) ∧
  (∀ (s : State), s.isWrk = true → s.f EIS_CFG_METHOD = 1 ∨ s.f EIS_CFG_METHOD = 2 → s.fullRate = true →
    completes .ripplePacketMissing s fun t => t.b EIS_STATUS_RIP_LIVE = false ∧
    t.f EIS_CNT_RIP_MISSING = satInc EIS_CNT_RIP_MISSING.wd (s.f EIS_CNT_RIP_MISSING) ∧ t.b (EIS_EVT_RAW_EVENTS.bit 4) = true ∧
    sameBut ([EIS_STATUS, EIS_CNT_RIP, EIS_EVT_RAW] ++ wakeRegs) [pgMODE] s t) ∧
  (∀ (x : EisSlot) (s : State), s.eisState = 1 → s.eisMode = true → s.eng.eis.slot = some x → s.f BAL_SH_STATUS_OWNER ≠ 2 →
    s.eng.bal.forEis = false → s.f BAL_POLICY_MODE = 2 → completes .shuttleRequest s fun t => t.eng.bal.eisAsk = some x.cell ∧
    t.eisState = 1 ∧ sameBut [] [] s t) ∧
  (∀ (x : EisSlot) (s : State), s.eisState = 1 → s.eisMode = true → s.eng.eis.slot = some x → s.f BAL_SH_STATUS_OWNER ≠ 2 →
    s.eng.bal.forEis = false → s.f BAL_POLICY_MODE ≠ 2 → s.f AFE_STATUS_DIAG ≠ 1 → s.eng.afe.owHold = false → s.sh = 0 →
    s.b (balFlag 7) = false → s.eng.bal.slot = none → x.cell < 24 → completes .shuttleRequest s fun t => t.eng.bal.forEis = true ∧
    t.f BAL_SEL_CELL = x.cell ∧ t.sh = 2 ∧ (t.eisState = 2 ∨ t.eisState = 5))

/-- The estimator's updates, commands, checkpoint and rack summary: For every state that meets the stated conditions: an update
marks updates running, takes the pending restore and records its epoch (R316, R327); lost current raises its flag, event and message
once (R318); ACCEPT, RESTORE and RENEW wait for the next update or give their result (R326, R327); a checkpoint trigger is skipped
while a cell is unrestored, else starts one (R328); FORGET clears both marks (R330); a checkpoint's end is counted or reported; a
worker's summary reaches the manager, whose aggregation is flagged (R331, R332). Completing here, by constructor: estUpdate,
estCurrentLost, estAccept, estRestore, estCkpt, estForget, estRenew, checkpointDone, estSummarySend, summaryRx, rackAggregation. -/
def Obligations.stateEstimation : Prop :=
  (∀ (s : State), s.isWrk = true → s.released = true → s.eng.boot.cores.getD 1 false = true → s.b EST_CFG_EN = true → 3 ≤ s.mode →
    s.epoch % s.estU = 0 → completes .estUpdate s fun t => t.b (estFlag 0) = true ∧ t.eng.est.pend = none ∧
    t.eng.est.lastUpd = some s.epoch) ∧
  (∀ (ms : Nat) (s : State), s.isWrk = true → s.f EST_CFG_ISRC = 0 → s.b (estFlag 6) = false → 1000 ≤ ms →
    completes (.estCurrentLost ms) s fun t => t.b (estFlag 6) = true ∧ t.b (EST_EVT_RAW_EVENTS.bit 8) = true ∧
    t.b EST_FIRST_VALID = true ∧ (s.b EST_FIRST_VALID = false → t.f EST_FIRST_KIND = 1) ∧
    sameBut ([EST_STATUS, EST_EVT_RAW, EST_FIRST] ++ dropRegs ++ wakeRegs) [pgMODE] s t) ∧
  (∀ (src : Src) (key : BitVec 16) (s : State), s.takes src EST_CMD (keyed key 1) = true → s.isWrk = true → s.eng.est.pend = none →
    s.f EST_CKPT_SUGGEST = 0 → completes (.estAccept src key) s fun t => t.f EST_CKPT_RESULT = 5 ∧ t.eng.est.pend = none ∧
    sameBut [EST_CKPT] [] s t) ∧
  (∀ (src : Src) (key : BitVec 16) (a : Nat) (s : State), s.takes src EST_CMD (keyed key 1) = true → s.isWrk = true →
    s.eng.est.pend = none → s.f EST_CKPT_SUGGEST = a + 1 → completes (.estAccept src key) s fun t =>
    t.eng.est.pend = some (2, (List.range s.cells).map fun c => (c, (List.range 7).map fun k => s.ckptWord a (8 + 7 * c + k))) ∧
    t.b (estFlag 1) = true ∧ sameBut [EST_STATUS] [] s t) ∧
  (∀ (src : Src) (key : BitVec 16) (s : State), s.takes src EST_CMD (keyed key 2) = true → s.isWrk = true → s.eng.est.pend = none →
    s.rsCells = [] → s.f EST_RS_CRC_CRC = crc32 [] → completes (.estRestore src key) s fun t => t.eng.est.pend = some (1, []) ∧
    t.b (estFlag 1) = true ∧ sameBut [EST_STATUS] [] s t) ∧
  (∀ (src : Src) (key : BitVec 16) (s : State), s.takes src EST_CMD (keyed key 2) = true → s.isWrk = true → s.eng.est.pend = none →
    s.rsCells = [] → s.f EST_RS_CRC_CRC ≠ crc32 [] → completes (.estRestore src key) s fun t => t.f EST_CKPT_RESULT = 3 ∧
    t.eng.est.pend = none ∧ t.b (EST_EVT_RAW_EVENTS.bit 7) = true ∧ sameBut ([EST_CKPT, EST_EVT_RAW] ++ wakeRegs) [pgMODE] s t) ∧
  (∀ (src : Src) (key : BitVec 16) (s : State), s.takes src EST_CMD (keyed key 3) = true → s.isWrk = true → s.anyUnrestored = true →
    completes (.estCkpt src key) s fun t => t.f EST_CNT_CKPT_SKIPS = satInc EST_CNT_CKPT_SKIPS.wd (s.f EST_CNT_CKPT_SKIPS) ∧
    t.b (estFlag 2) = s.b (estFlag 2) ∧ sameBut [EST_CNT] [] s t) ∧
  (∀ (src : Src) (key : BitVec 16) (s : State), s.takes src EST_CMD (keyed key 3) = true → s.isWrk = true →
    s.anyUnrestored = false → s.b (estFlag 2) = false → s.eng.recs.cur = none → s.eng.recs.queue = [] →
    completes (.estCkpt src key) s fun t => t.eng.recs.cur = some ⟨2, s.ckptOlder, s.ckptWords⟩ ∧ t.b (estFlag 2) = true ∧
    t.f EST_CNT_CKPT_SKIPS = s.f EST_CNT_CKPT_SKIPS ∧ sameBut [EST_STATUS, REC_STATUS] [] s t) ∧
  (∀ (src : Src) (key : BitVec 16) (s : State), s.takes src EST_CMD (keyed key 4) = true → s.isWrk = true →
    completes (.estForget src key) s fun t => t.ckptWord 0 0 = 0 ∧ t.ckptWord 1 0 = 0 ∧ t.ckptSuggest = 0 ∧
    t.f EST_CKPT_A_STATE = 0 ∧ t.f EST_CKPT_B_STATE = 0 ∧ t.f EST_CKPT_SUGGEST = 0) ∧
  (∀ (src : Src) (key : BitVec 16) (s : State), s.takes src EST_CMD (keyed key 5) = true → s.isWrk = true → s.eng.est.pend = none →
    completes (.estRenew src key) s fun t => t.eng.est.pend = some (3, s.rsCells.map fun c => (c, [])) ∧ t.b (estFlag 1) = true ∧
    sameBut [EST_STATUS] [] s t) ∧
  (∀ (src : Src) (key : BitVec 16) (s : State), s.takes src EST_CMD (keyed key 5) = true → s.isWrk = true →
    s.eng.est.pend.isSome = true → completes (.estRenew src key) s fun t => t.f EST_CKPT_RESULT = 6 ∧
    t.eng.est.pend = s.eng.est.pend ∧ sameBut [EST_CKPT] [] s t) ∧
  (∀ (poison : Bool) (err : Option Nat) (j : RecJob) (s : State), s.eng.recs.cur = some j → j.kind = 2 → poison = true →
    completes (.checkpointDone poison err) s fun t => t.b (estFlag 2) = false ∧ t.b (EST_EVT_RAW_EVENTS.bit 5) = true ∧
    t.f EST_CNT_CKPTS = s.f EST_CNT_CKPTS) ∧
  (∀ (poison : Bool) (err : Option Nat) (j : RecJob) (s : State), s.eng.recs.cur = some j → j.kind = 2 → poison = false →
    err = none → completes (.checkpointDone poison err) s fun t => t.b (estFlag 2) = false ∧ t.b (EST_EVT_RAW_EVENTS.bit 4) = true ∧
    t.f EST_CNT_CKPTS = satInc EST_CNT_CKPTS.wd (s.f EST_CNT_CKPTS)) ∧
  (∀ (s : State), s.isWrk = true → s.enumerated = true → later s.epoch (s.second + 10000) = false → s.weldDown = false →
    completes .estSummarySend s fun t => t.eng.ring.ctl.length = s.eng.ring.ctl.length + 1 ∧
    (t.eng.ring.ctl.getLast?).map (fun p => (p.dst, p.src, p.kind, p.seq, p.data.length)) = some (0, s.f RING_SELF_INDEX, 0x32,
      (countOf s.eng.ring.seqOut 0 + 1) % 2 ^ 30, 3) ∧
    (t.eng.ring.ctl.getLast?).map (fun p => decide (s.tagged 0 p = p)) = some true ∧ sameBut [] [] s t) ∧
  (∀ (port : Fin 2) (p : Pkt) (s : State), s.isMgr = true → s.hears port.val 0x32 p = true → p.seq ≠ 0x3F000000 →
    completes (.summaryRx port p) s fun t =>
    t.eng.est.sums.head? = some ⟨p.src, bits64 (pw p 0) 16 48, bits64 (pw p 1) 32 32, bits64 (pw p 1) 0 32, bits64 (pw p 2) 47 17,
      bits64 (pw p 2) 42 5, bits64 (pw p 2) 25 17, bits64 (pw p 2) 20 5, bits64 (pw p 2) 0 3⟩ ∧
    countOf t.eng.ring.seqIn p.src = p.seq ∧ sameBut [] [] s t) ∧
  (∀ (s : State), s.isMgr = true → s.epoch = s.second + 20000 → s.f RING_ENUM_M = 0 → completes .rackAggregation s fun t =>
    t.f EST_RACK_STAT_NW = 0 ∧ t.f EST_RACK_MISS_MAP = 0 ∧ t.b (estFlag 7) = false ∧ t.f EST_RACK_SOC_SOC = 0 ∧
    t.b (EST_EVT_RAW_EVENTS.bit 9) = true) ∧
  (∀ (x : Summary) (s : State), s.isMgr = true → s.epoch = s.second + 20000 → s.f RING_ENUM_M = 1 → s.eng.est.sums = [x] →
    x.worker = 1 → later s.epoch (x.epoch + 3000000) = false → x.loCell < 32 → x.hiCell < 32 → x.lo < 2 ^ 17 → x.hi < 2 ^ 17 →
    x.d + x.c < 2 ^ 32 → x.d + x.c ≠ 0 → completes .rackAggregation s fun t => t.f EST_RACK_STAT_NW = 1 ∧
    t.f EST_RACK_MISS_MAP = 0 ∧ t.b (estFlag 7) = false ∧ t.f EST_RACK_Q_MAH = x.d + x.c ∧
    t.f EST_RACK_SOC_SOC = (rndDiv (x.d * 100000 : Nat) (x.d + x.c)).toNat ∧ t.f EST_RACK_MIN_WORKER = 1 ∧
    t.f EST_RACK_MIN_CELL = x.loCell ∧ t.f EST_RACK_MAX_CELL = x.hiCell ∧ t.b (EST_EVT_RAW_EVENTS.bit 9) = true) ∧
  (∀ (s : State), s.isMgr = true → s.epoch = s.second + 20000 → s.f RING_ENUM_M = 1 → s.eng.est.sums = [] →
    bitOf (s.f EST_RACK_MISS_MAP) 0 = false → s.heldBy pgEST < 4 → completes .rackAggregation s fun t => t.f EST_RACK_STAT_NW = 0 ∧
    t.f EST_RACK_MISS_MAP = 1 ∧ t.b (estFlag 7) = true ∧ t.eng.flt.held = s.eng.flt.held ++ [⟨pgEST, 1, 3, 0, false⟩] ∧
    t.b (EST_EVT_RAW_EVENTS.bit 10) = true ∧ t.b (EST_EVT_RAW_EVENTS.bit 9) = true)

/-- The ring ports, their training, loss and beacons: For every state that meets the stated conditions (port states OFF 0, BEACON 1,
SEEK 2, ALIGN 3, UP 4): a port seeks once the link PLL is locked in ATTEND or above, aligns, comes up with its delay, or returns to
SEEK (R341 to R343); a port that is lost or retrained counts it, reports it and invalidates its delay; in BEACON a port sends the
epoch, floor and flag (R344), and a sound beacon received in WATCH passes on with its floor taken (R81, R87); a break or a heal is
passed on by a worker and recorded (R357, R358). Completing here, by constructor: portSeek, portAlign, portUp, portAlignTimeout,
portDown, ringRetrain, beaconSend, beaconRx, breakRx, linkHeal, armMove, invalidBlockRx. -/
def Obligations.ringPortsAndBeacons : Prop :=
  (∀ (port : Fin 2) (training : Bool) (s : State), s.released = true → 3 ≤ s.mode → s.b CLK_STATUS_LPLL_LOCK = true →
    s.port port.val ≤ 1 → training = true ∨ s.beaconQuiet port.val = true → completes (.portSeek port training) s fun t =>
    t.port port.val = 2 ∧ sameBut [RING_P_STATUS port.val, RING_STATUS, RING_BREAK] [] s t) ∧
  (∀ (port : Fin 2) (inv : Bool) (s : State), s.port port.val = 2 → completes (.portAlign port inv) s fun t => t.port port.val = 3 ∧
    t.b (RING_P_STATUS_SIG port.val) = true ∧ t.b (RING_P_STATUS_POL_INV port.val) = (inv && s.b (RING_P_CFG_POL_AUTO port.val)) ∧
    sameBut [RING_P_STATUS port.val, RING_STATUS, RING_BREAK] [] s t) ∧
  (∀ (port : Fin 2) (rtt : List Nat) (turn : BitVec 16) (s : State), s.port port.val = 3 → rtt.length = 256 →
    linkDelay rtt turn.toNat < 2 ^ (RING_P_DLY_DLY port.val).wd → completes (.portUp port rtt turn) s fun t => t.port port.val = 4 ∧
    t.b (RING_P_DLY_VALID port.val) = true ∧ t.f (RING_P_DLY_DLY port.val) = linkDelay rtt turn.toNat ∧
    t.b (RING_EVT_RAW_EVENTS.bit 1) = true ∧
    sameBut ([RING_P_STATUS port.val, RING_P_DLY port.val, RING_EVT_RAW, RING_STATUS, RING_BREAK] ++ wakeRegs) [pgMODE] s t) ∧
  (∀ (port : Fin 2) (s : State), s.port port.val = 3 → s.eng.ring.alignAt.getD port.val 0 + 1000 ≤ s.now →
    completes (.portAlignTimeout port) s fun t => t.port port.val = 2 ∧
    sameBut [RING_P_STATUS port.val, RING_STATUS, RING_BREAK] [] s t) ∧
  (∀ (port : Fin 2) (bad : Fin 65) (ns : Nat) (s : State), s.port port.val = 4 → 16 ≤ bad.val ∨ 100 ≤ ns →
    completes (.portDown port bad ns) s fun t => t.port port.val = 2 ∧ t.b (RING_P_DLY_VALID port.val) = false ∧
    t.f (RING_P_CNT_DOWN_COUNT port.val) = satInc (RING_P_CNT_DOWN_COUNT port.val).wd (s.f (RING_P_CNT_DOWN_COUNT port.val)) ∧
    t.b (RING_EVT_RAW_EVENTS.bit 0) = true ∧ t.b RING_FIRST_VALID = true ∧ (s.b RING_FIRST_VALID = false → t.f RING_FIRST_KIND = 0 ∧
    t.f RING_FIRST_INST = port.val) ∧ t.b (RING_P_STATUS_SIG port.val) = decide (ns < 100)) ∧
  (∀ (src : Src) (key : BitVec 16) (port : Fin 2) (s : State),
    s.takes src RING_CMD (keyed key (2 + port.val * 2 ^ RING_CMD_PORT.lo)) = true → s.port port.val = 4 →
    completes (.ringRetrain src key port) s fun t => t.port port.val = 2 ∧ t.b (RING_P_DLY_VALID port.val) = false ∧
    t.f (RING_P_CNT_DOWN_COUNT port.val) = satInc (RING_P_CNT_DOWN_COUNT port.val).wd (s.f (RING_P_CNT_DOWN_COUNT port.val)) ∧
    t.b (RING_EVT_RAW_EVENTS.bit 0) = true ∧ t.b RING_FIRST_VALID = true ∧ (s.b RING_FIRST_VALID = false → t.f RING_FIRST_KIND = 0 ∧
    t.f RING_FIRST_INST = port.val)) ∧
  (∀ (port : Fin 2) (type : Fin 2) (s : State), s.port port.val = 1 → s.isMgr = true → completes (.beaconSend port type) s fun t =>
    t.eng.ring.tx = [.beacon port.val (beaconBits type.val (s.f MODE_FLOOR_RACK) s.coFlag s.epoch)] ∧ sameBut [] [] s t) ∧
  (∀ (port : Fin 2) (bits : BitVec 56) (s : State), s.isWrk = true → s.mode = 2 → s.port port.val = 1 → s.port (1 - port.val) = 1 →
    crc16 (bits.toNat / 65536) 40 = bits.toNat % 65536 → bits64 bits.toNat 52 4 = 0 → bits64 bits.toNat 49 3 < 3 →
    completes (.beaconRx port bits) s fun t => t.eng.ring.tx = [.beacon (1 - port.val) bits.toNat] ∧
    t.f MODE_FLOOR_RACK = bits64 bits.toNat 49 3 ∧ t.b MODE_FLOOR_RX_STALE = false ∧ t.eng.mode.rackOpen = bitOf bits.toNat 48 ∧
    sameBut wakeRegs [pgMODE] s t) ∧
  (∀ (port : Fin 2) (link : Fin 64) (heal : Bool) (s : State), s.isWrk = true → s.port port.val = 4 → s.port (1 - port.val) = 4 →
    heal = false → s.eng.ring.brk.contains link.val = false → completes (.breakRx port link heal) s fun t =>
    t.eng.ring.tx = [.block (1 - port.val) 0x66 (breakBlock link.val false)] ∧ t.eng.ring.brk = s.eng.ring.brk ++ [link.val] ∧
    t.b RING_BREAK_VALID = true ∧ t.b (RING_EVT_RAW_EVENTS.bit 2) = true) ∧
  (∀ (port : Fin 2) (link : Fin 64) (heal : Bool) (s : State), s.isWrk = true → s.port port.val = 4 → s.port (1 - port.val) = 4 →
    heal = true → s.eng.ring.brk.contains link.val = true → completes (.breakRx port link heal) s fun t =>
    t.eng.ring.tx = [.block (1 - port.val) 0x66 (breakBlock link.val true)] ∧
    t.eng.ring.brk = s.eng.ring.brk.filter (· != link.val) ∧ t.b (RING_EVT_RAW_EVENTS.bit 3) = true) ∧
  (∀ (port : Fin 2) (k : Nat) (s : State), s.port port.val = 4 → s.linkAt port.val = some k → s.isWrk = true →
    s.port (1 - port.val) = 4 → s.eng.ring.upAt.getD port.val 0 + 100000 ≤ s.now → s.eng.ring.brk.contains k = true →
    completes (.linkHeal port) s fun t => t.eng.ring.tx = [.block (1 - port.val) 0x66 (breakBlock k true)] ∧
    t.eng.ring.brk = s.eng.ring.brk.filter (· != k) ∧ t.b (RING_EVT_RAW_EVENTS.bit 3) = true) ∧
  (∀ (s : State), s.isWrk = true → s.enumerated = true → s.eng.ring.armDue = true →
    brokenA s.eng.ring.brk (s.f RING_SELF_POS) = true → brokenB s.eng.ring.brk (s.f RING_SELF_POS) = false → s.f RING_SELF_ARM = 0 →
    completes .armMove s fun t => t.f RING_SELF_ARM = 1 ∧ t.eng.ring.cut = s.eng.ring.cut ∧ t.eng.ring.armDue = false ∧
    sameBut [RING_SELF, RING_STATUS, RING_BREAK] [] s t) ∧
  (∀ (port : Fin 2) (hdr : Fin 4) (w : BitVec 64) (s : State), hdr ≠ 1 → hdr ≠ 2 → completes (.invalidBlockRx port hdr w) s fun t =>
    t.f (RING_P_CNT_BLK_COUNT port.val) = satInc (RING_P_CNT_BLK_COUNT port.val).wd (s.f (RING_P_CNT_BLK_COUNT port.val)) ∧
    t.port port.val = s.port port.val ∧ sameBut [(RING_P_CNT_BLK_COUNT port.val).reg] [] s t) ∧
  (∀ (port : Fin 2) (hdr : Fin 4) (w : BitVec 64) (s : State), hdr = 2 → w.toNat % 256 ∉ [0x1E, 0x2D, 0x33, 0x4B, 0x66, 0x78] →
    w.toNat % 256 < 0xC1 ∨ 0xE0 < w.toNat % 256 → s.eng.ring.inPkt.getD port.val 0 = 0 →
    completes (.invalidBlockRx port hdr w) s fun t =>
    t.f (RING_P_CNT_BLK_COUNT port.val) = satInc (RING_P_CNT_BLK_COUNT port.val).wd (s.f (RING_P_CNT_BLK_COUNT port.val)) ∧
    t.eng.ring.inPkt.getD port.val 0 = 0 ∧ sameBut [(RING_P_CNT_BLK_COUNT port.val).reg] [] s t) ∧
  (∀ (port : Fin 2) (hdr : Fin 4) (w : BitVec 64) (s : State), hdr = 2 → w.toNat % 256 = 0x66 ∨ w.toNat % 256 = 0x78 →
    s.eng.ring.inPkt.length = 2 → s.eng.ring.inPkt.getD port.val 0 ≠ 0 → completes (.invalidBlockRx port hdr w) s fun t =>
    t.f (RING_P_CNT_BLK_COUNT port.val) = satInc (RING_P_CNT_BLK_COUNT port.val).wd (s.f (RING_P_CNT_BLK_COUNT port.val)) ∧
    t.eng.ring.inPkt.getD port.val 0 = 0 ∧ sameBut [(RING_P_CNT_BLK_COUNT port.val).reg] [] s t) ∧
  (∀ (port : Fin 2) (hdr : Fin 4) (w : BitVec 64) (s : State), hdr = 2 → w.toNat % 256 = 0x1E ∨ w.toNat % 256 = 0x33 →
    completes (.invalidBlockRx port hdr w) s fun t => t.eng.ring.inPkt = s.eng.ring.inPkt ∧ sameBut [] [] s t)

/-- Enumeration, arms and session keys: For every state that meets the stated conditions: RING_ENUM starts an enumeration on every
port that is up and forgets keys and breaks, or ends it with result 2 (R345); a worker counts itself and passes ENUM on, or turns it
round where its other port is down; ENUM_SET gives index, position and arm; the end of key setup gives result 1 or 4 and rebuilds
the arms (R345, R355); ARMS takes effect at its epoch; the key packets move the setup from step to step, three tries in all (R563,
R564). Completing here, by constructor: ringEnum, autoEnumStart, enumBlockRx, enumBlockReturn, enumSetRx, enumDone, armsRx,
armsApply, keyOfferRx, keyReplyRx, keyGroupRx, keyConfirmRx, keyStepTimeout. -/
def Obligations.ringEnumerationAndKeys : Prop :=
  (∀ (src : Src) (key : BitVec 16) (s : State), s.takes src RING_CMD (keyed key 1) = true → s.accepts 8 = true → s.isMgr = true →
    s.port 0 = 4 → s.port 1 = 4 → completes (.ringEnum src key) s fun t => t.eng.ring.enumOut = 2 ∧ t.eng.ring.keys = [] ∧
    t.eng.ring.brk = [] ∧ t.f RING_ENUM_RESULT = 0 ∧ t.f RING_ENUM_M = 0 ∧ t.f RING_STATUS_STATE = 4 ∧
    t.eng.ring.tx = [.block 0 0x78 (enumBlock 0 false 0), .block 1 0x78 (enumBlock 0 false 1)]) ∧
  (∀ (src : Src) (key : BitVec 16) (s : State), s.takes src RING_CMD (keyed key 1) = true → s.accepts 8 = true → s.isMgr = true →
    s.port 0 ≠ 4 → s.port 1 ≠ 4 → completes (.ringEnum src key) s fun t => t.f RING_ENUM_RESULT = 2 ∧
    t.b (RING_EVT_RAW_EVENTS.bit 5) = true ∧ t.eng.ring.tx = []) ∧
  (∀ (s : State), s.isMgr = true → s.eng.ring.autoDue = true → s.eng.ring.upAt.getD 0 0 + 100000 ≤ s.now →
    s.b RING_CFG_AUTO_ENUM = true → s.accepts 8 = true → s.port 0 = 4 → s.port 1 ≠ 4 → s.weldDown = false →
    completes .autoEnumStart s fun t => t.eng.ring.enumOut = 1 ∧ t.eng.ring.keys = [] ∧ t.f RING_ENUM_RESULT = 0 ∧
    t.eng.ring.tx = [.block 0 0x78 (enumBlock 0 false 0)]) ∧
  (∀ (port : Fin 2) (count : Fin 64) (fin : Bool) (origin : Fin 2) (s : State), s.isWrk = true → s.port port.val = 4 → fin = false →
    completes (.enumBlockRx port count fin origin) s fun t => t.f RING_SELF_INDEX = 0 ∧ t.eng.ring.enumCount = count.val + 1 ∧
    t.eng.ring.enumPort = port.val ∧ t.eng.ring.keys = [] ∧
    t.eng.ring.tx = [if s.portUp (1 - port.val) then .block (1 - port.val) 0x78 (enumBlock (count.val + 1) false origin.val) else
      .block port.val 0x78 (enumBlock (count.val + 1) true origin.val)]) ∧
  (∀ (port : Fin 2) (count : Fin 64) (fin : Bool) (origin : Fin 2) (s : State), s.isMgr = true → s.port port.val = 4 →
    s.eng.ring.enumOut = 2 → s.f RING_ENUM_M = 0 → fin = true ∨ port = origin →
    completes (.enumBlockReturn port count fin origin) s fun t => t.eng.ring.enumOut = 1 ∧ t.eng.ring.chain = true ∧ (origin = 0 →
    t.eng.ring.enumA = count.val) ∧ (origin = 1 → t.eng.ring.enumB = count.val) ∧ t.f RING_ENUM_M = 0 ∧ sameBut [] [] s t) ∧
  (∀ (port : Fin 2) (count : Fin 64) (fin : Bool) (origin : Fin 2) (s : State), s.isMgr = true → s.port port.val = 4 →
    s.eng.ring.enumOut ≠ 0 → s.f RING_ENUM_M = 0 → fin = false → port ≠ origin → 32 < count.val →
    completes (.enumBlockReturn port count fin origin) s fun t => t.eng.ring.enumOut = 0 ∧ t.f RING_ENUM_RESULT = 3 ∧
    t.b (RING_EVT_RAW_EVENTS.bit 5) = true) ∧
  (∀ (port : Fin 2) (p : Pkt) (s : State), s.isWrk = true → s.port port.val = 4 → p.kind = 0x01 → p.dst = 0x3E →
    s.setMine (pw p 0) (pw p 2) = true → pw p 0 < 64 → pw p 1 < 2 → completes (.enumSetRx port p) s fun t =>
    t.f RING_SELF_INDEX = pw p 0 ∧ t.f RING_SELF_POS = pw p 0 ∧ t.f RING_SELF_ARM = pw p 1 ∧ t.eng.ring.lastArm = pw p 1 ∧
    t.eng.ring.cut = false ∧ sameBut [RING_SELF, RING_STATUS, RING_BREAK] [] s t) ∧
  (∀ (port : Fin 2) (p : Pkt) (s : State), s.isWrk = true → s.port port.val = 4 → p.kind = 0x01 → p.dst = 0x3E →
    s.port (1 - port.val) = 4 → s.setMine (pw p 0) (pw p 2) = false → completes (.enumSetRx port p) s fun t =>
    t.eng.ring.tx = [.pkt (1 - port.val) p] ∧ sameBut [] [] s t) ∧
  (∀ (s : State), s.isMgr = true → s.eng.ring.enumOut ≠ 0 → s.f RING_ENUM_M ≠ 0 → completes .enumDone s fun t =>
    t.eng.ring.enumOut = 0 ∧ t.f RING_ENUM_RESULT = (if s.workers.all fun w => s.eng.ring.keys.contains w then 1 else 4) ∧
    t.b (RING_EVT_RAW_EVENTS.bit 4) = true ∧ t.b (RING_EVT_RAW_EVENTS.bit 6) = true) ∧
  (∀ (port : Fin 2) (p : Pkt) (s : State), s.hears port.val 0x05 p = true → s.isWrk = true → completes (.armsRx port p) s fun t =>
    t.eng.ring.arms = some (bits64 (pw p 0) 16 48, b2n (bitOf (pw p 1) (s.f RING_SELF_INDEX - 1)),
    (if bitOf (pw p 1) (s.f RING_SELF_INDEX - 1) then bits64 (pw p 0) 10 2 else bits64 (pw p 0) 12 2),
    bitOf (pw p 2) (s.f RING_SELF_INDEX - 1)) ∧ t.f RING_SELF_ARM = s.f RING_SELF_ARM ∧ sameBut [] [] s t) ∧
  (∀ (e arm dec : Nat) (lost : Bool) (s : State), s.eng.ring.arms = some (e, arm, dec, lost) → later e s.epoch = false → arm < 2 →
    dec < 4 → completes .armsApply s fun t => t.eng.ring.arms = none ∧ t.eng.ring.cut = lost ∧ t.f RING_SELF_ARM = arm ∧
    t.f RING_SELF_DEC = dec ∧ (arm ≠ s.eng.ring.lastArm → t.b EPOCH_STATUS_PATH_VALID = false) ∧
    t.b (RING_EVT_RAW_EVENTS.bit 6) = true) ∧
  (∀ (port : Fin 2) (p : Pkt) (uid : BitVec 64) (s : State), s.isWrk = true → s.f RING_SELF_INDEX ≠ 0 →
    p.dst = s.f RING_SELF_INDEX → s.port port.val = 4 → s.b SEC_RNG_OK = true → s.helloOk p (Sha.lowBytes 8 uid.toNat) = true →
    p.kind = 0x02 → bits64 (pw p 0) 56 8 = 1 → completes (.keyOfferRx port p uid) s fun t =>
    (t.eng.sec.setups.map (fun x => (x.w, x.await, x.tries, x.gen, x.t)) = [(0, 3, 1, bits64 (pw p 0) 48 8, s.now)] ∧
    t.eng.sec.setups.all (fun x => decide (sessionKey x.d x.gen p (Sha.lowBytes 8 uid.toNat) s.uidBytes = some x.ks)) = true ∧
    (s.weldDown = false → t.eng.ring.tx.length = 1) ∧ t.eng.ring.keys = s.eng.ring.keys ∧
    sameBut [] [] s t) ∨ (t.f SEC_RING_LAST_W = s.f RING_SELF_INDEX ∧ t.b (SEC_EVT_RAW_EVENTS.bit 2) = true)) ∧
  (∀ (port : Fin 2) (p : Pkt) (uid : BitVec 64) (s : State), s.isWrk = true → s.port port.val = 4 → s.f RING_SELF_INDEX ≠ 0 →
    p.dst = s.f RING_SELF_INDEX → s.helloOk p (Sha.lowBytes 8 uid.toNat) = false → p.kind = 0x02 → bits64 (pw p 0) 56 8 = 1 →
    completes (.keyOfferRx port p uid) s fun t => t.f SEC_RING_FAILS = satInc SEC_RING_FAILS.wd (s.f SEC_RING_FAILS) ∧
    t.f SEC_RING_LAST_W = s.f RING_SELF_INDEX ∧ t.b (SEC_EVT_RAW_EVENTS.bit 2) = true ∧ t.f RING_SELF_INDEX = 0) ∧
  (∀ (port : Fin 2) (p : Pkt) (uid : BitVec 64) (x : KeySetup) (ks : Nat) (s : State), s.isMgr = true → s.port port.val = 4 →
    p.dst = 0 → s.portTo p.src < 2 → s.port (s.portTo p.src) = 4 → s.eng.sec.setups = [x] → x.w = p.src → x.await = 2 →
    x.gen = bits64 (pw p 0) 48 8 → s.helloOk p (Sha.lowBytes 8 uid.toNat) = true →
    sessionKey x.d x.gen p s.uidBytes (Sha.lowBytes 8 uid.toNat) = some ks → s.eng.rack.readmit = none → s.weldDown = false →
    p.kind = 0x02 → bits64 (pw p 0) 56 8 = 2 → completes (.keyReplyRx port p uid) s fun t =>
    t.eng.sec.setups = [{ x with await := 4, ks := ks, t := s.now }] ∧
    t.eng.ring.tx = [.pkt (s.portTo p.src) ⟨p.src, s.f RING_SELF_INDEX, 0x02, 0, keyWord 3 x.gen :: groupBlocks ks x.gen
      s.eng.ring.group, 0⟩] ∧ t.eng.ring.keys = s.eng.ring.keys ∧ sameBut [] [pgROSTER] s t) ∧
  (∀ (port : Fin 2) (p : Pkt) (x : KeySetup) (s : State), s.isWrk = true → s.port port.val = 4 → s.f RING_SELF_INDEX ≠ 0 →
    p.dst = s.f RING_SELF_INDEX → s.eng.sec.setups = [x] → x.await = 3 → x.gen = bits64 (pw p 0) 48 8 →
    pw p 3 = tagOf x.ks (blockBytes (p.data.take 3)) → p.kind = 0x02 → bits64 (pw p 0) 56 8 = 3 →
    completes (.keyGroupRx port p) s fun t => t.eng.sec.setups = [] ∧ t.eng.ring.keys.contains (s.f RING_SELF_INDEX) = true ∧
    t.f SEC_RING_GEN = x.gen ∧ t.b SEC_RING_SESSION = true ∧ countOf t.eng.ring.sess 0 = x.ks ∧
    t.eng.ring.group = Aes.decrypt x.ks (Sha.numOf (blockBytes ((p.data.drop 1).take 2))) ∧ countOf t.eng.ring.seqOut 0 = 0 ∧
    countOf t.eng.ring.seqIn 0 = 0 ∧ sameBut [SEC_RING, RING_STATUS, RING_BREAK] [] s t) ∧
  (∀ (port : Fin 2) (p : Pkt) (x : KeySetup) (s : State), s.isMgr = true → s.port port.val = 4 → p.dst = 0 →
    s.eng.sec.setups = [x] → x.w = p.src → x.await = 4 → x.gen = bits64 (pw p 0) 48 8 →
    pw p 1 = tagOf x.ks (blockBytes (p.data.take 1)) → s.eng.rack.readmit = none → p.kind = 0x02 → bits64 (pw p 0) 56 8 = 4 →
    completes (.keyConfirmRx port p) s fun t => t.eng.sec.setups = [] ∧ t.eng.ring.keys.contains p.src = true ∧
    t.b SEC_RING_SESSION = true ∧ countOf t.eng.ring.sess p.src = x.ks ∧ countOf t.eng.ring.seqOut p.src = 0 ∧
    countOf t.eng.ring.seqIn p.src = 0 ∧ (s.eng.sec.rekey.contains p.src = true →
    t.f SEC_RING_REKEYS = satInc SEC_RING_REKEYS.wd (s.f SEC_RING_REKEYS))) ∧
  (∀ (worker : Fin 33) (x : KeySetup) (s : State), s.isMgr = true → s.eng.sec.setups = [x] → x.w = worker.val →
    x.late s.now = true → x.tries < 3 → s.b SEC_RNG_OK = false → completes (.keyStepTimeout worker) s fun t =>
    t.eng.sec.setups = [⟨x.w, 2, x.tries + 1, x.gen, 0, 0, s.now⟩] ∧ t.eng.ring.keys = s.eng.ring.keys) ∧
  (∀ (worker : Fin 33) (x : KeySetup) (s : State), s.isMgr = true → s.eng.sec.setups = [x] → x.w = worker.val →
    x.late s.now = true → 3 ≤ x.tries → s.f RING_ENUM_RESULT = 0 → s.f RING_ENUM_M = 0 →
    completes (.keyStepTimeout worker) s fun t => t.eng.sec.setups = [] ∧ t.eng.ring.keys.contains worker.val = false ∧
    t.f SEC_RING_FAILS = satInc SEC_RING_FAILS.wd (s.f SEC_RING_FAILS) ∧ t.f SEC_RING_LAST_W = worker.val ∧
    t.b (SEC_EVT_RAW_EVENTS.bit 2) = true)

/-- Stream frames, rack current and digests: For every state that meets the stated conditions: a worker's transmitter sends its
control packets before its frames and drops an aged frame with its count (R349); a frame is forwarded and counted at both ports
(R348); the manager counts a frame received and judges it by its CRC, its worker and its arm (R348), counts a missing one (R350) and
compares a digest with the frames it accepted (R353); the rack current is sent as a broadcast and taken by the worker (R354).
Completing here, by constructor: streamFrameRx, frameTransmit, frameAged, frameMissing, streamFrameForward, rackIRx, digestSend,
digestRx. -/
def Obligations.streamFramesAndRackPackets : Prop :=
  (∀ (port : Fin 2) (worker : Fin 64) (e14 : BitVec 14) (flags : BitVec 10) (samples : List Nat) (crc : BitVec 32) (s : State),
    s.isMgr = true → s.port port.val = 4 → frameCrc ⟨rebuildEpoch s.epoch e14.toNat, worker.val, flags.toNat, samples⟩ ≠ crc.toNat →
    samples.length = 32 → completes (.streamFrameRx port worker e14 flags samples crc) s fun t =>
    t.f (RING_P_CNT_RX_COUNT port.val) = (s.f (RING_P_CNT_RX_COUNT port.val) + 1) % 2 ^ (RING_P_CNT_RX_COUNT port.val).wd ∧
    t.f (RING_P_CNT_CRC_COUNT port.val) = satInc (RING_P_CNT_CRC_COUNT port.val).wd (s.f (RING_P_CNT_CRC_COUNT port.val)) ∧
    t.eng.ring.rx = s.eng.ring.rx ∧ sameBut [(RING_P_CNT_RX_COUNT port.val).reg, (RING_P_CNT_CRC_COUNT port.val).reg] [] s t) ∧
  (∀ (port : Fin 2) (worker : Fin 64) (e14 : BitVec 14) (flags : BitVec 10) (samples : List Nat) (crc : BitVec 32) (s : State),
    s.isMgr = true → s.port port.val = 4 → port = 0 →
    frameCrc ⟨rebuildEpoch s.epoch e14.toNat, worker.val, flags.toNat, samples⟩ = crc.toNat → 1 ≤ worker.val → worker.val ≤ 32 →
    bitOf (s.f RING_MAP_A_MAP) (worker.val - 1) = true → samples.length = 32 →
    completes (.streamFrameRx port worker e14 flags samples crc) s fun t =>
    t.f (RING_P_CNT_RX_COUNT port.val) = (s.f (RING_P_CNT_RX_COUNT port.val) + 1) % 2 ^ (RING_P_CNT_RX_COUNT port.val).wd ∧
    t.f (RING_P_CNT_CRC_COUNT port.val) = s.f (RING_P_CNT_CRC_COUNT port.val) ∧
    t.eng.ring.rx.head? = some (worker.val, rebuildEpoch s.epoch e14.toNat, crc.toNat)) ∧
  (∀ (p : Pkt) (rest : List Pkt) (s : State), s.isWrk = true → s.portUp s.outPort = true → s.eng.ring.ctl = p :: rest →
    completes .frameTransmit s fun t => t.eng.ring.ctl = rest ∧ t.eng.ring.tx = [.pkt s.outPort p] ∧
    t.eng.ring.own = s.eng.ring.own ∧ sameBut [] [] s t) ∧
  (∀ (f : Frame) (rest : List Frame) (s : State), s.isWrk = true → s.portUp s.outPort = true → s.eng.ring.ctl = [] →
    s.eng.ring.own = f :: rest → later (f.epoch + 4096) s.epoch = true → completes .frameTransmit s fun t => t.eng.ring.own = rest ∧
    t.eng.ring.sent.head? = some (f.epoch, frameCrc f) ∧ t.eng.ring.tx = [.frame s.outPort f (frameCrc f)] ∧
    t.f (RING_P_CNT_TX_COUNT s.outPort) = (s.f (RING_P_CNT_TX_COUNT s.outPort) + 1) % 2 ^ (RING_P_CNT_TX_COUNT 0).wd ∧
    sameBut [(RING_P_CNT_TX_COUNT s.outPort).reg] [] s t) ∧
  (∀ (f : Frame) (rest : List Frame) (s : State), s.eng.ring.own = f :: rest → later (f.epoch + 4096) s.epoch = false →
    completes .frameAged s fun t => t.eng.ring.own = rest ∧ t.eng.ring.lastAged = some s.now ∧
    t.f RING_CNT_AGED_COUNT = satInc RING_CNT_AGED_COUNT.wd (s.f RING_CNT_AGED_COUNT) ∧ t.b (RING_EVT_RAW_EVENTS.bit 8) = true ∧
    sameBut ([RING_CNT_AGED, RING_EVT_RAW, RING_FIRST] ++ dropRegs ++ wakeRegs) [pgMODE] s t) ∧
  (∀ (worker : Fin 33) (e : BitVec 48) (s : State), s.isMgr = true → s.liveAt worker.val e.toNat = true →
    s.expects worker.val e.toNat = true → later (e.toNat + 4200) s.epoch = false → later (e.toNat + 8000) s.epoch = true →
    (s.eng.ring.rx.any fun x => x.1 == worker.val && x.2.1 == e.toNat) = false →
    s.eng.ring.missed.contains (worker.val, e.toNat) = false → completes (.frameMissing worker e) s fun t =>
    t.f RING_CNT_MISS_COUNT = satInc RING_CNT_MISS_COUNT.wd (s.f RING_CNT_MISS_COUNT) ∧ t.b (RING_EVT_RAW_EVENTS.bit 9) = true ∧
    sameBut ([RING_CNT_MISS, RING_EVT_RAW] ++ wakeRegs) [pgMODE] s t) ∧
  (∀ (port : Fin 2) (worker : Fin 64) (e14 : BitVec 14) (flags : BitVec 10) (samples : List Nat) (crc : BitVec 32) (s : State),
    s.isWrk = true → s.port port.val = 4 → s.port (1 - port.val) = 4 →
    completes (.streamFrameForward port worker e14 flags samples crc) s fun t =>
    t.eng.ring.tx = [.frame (1 - port.val) ⟨rebuildEpoch s.epoch e14.toNat, worker.val, flags.toNat, samples⟩ crc.toNat] ∧
    t.f (RING_P_CNT_RX_COUNT port.val) = (s.f (RING_P_CNT_RX_COUNT port.val) + 1) % 2 ^ (RING_P_CNT_RX_COUNT 0).wd ∧
    t.f (RING_P_CNT_TX_COUNT (1 - port.val)) = (s.f (RING_P_CNT_TX_COUNT (1 - port.val)) + 1) % 2 ^ (RING_P_CNT_TX_COUNT 0).wd ∧
    t.f (RING_P_CNT_CRC_COUNT port.val) = (if frameCrc ⟨rebuildEpoch s.epoch e14.toNat, worker.val, flags.toNat, samples⟩ =
      crc.toNat then s.f (RING_P_CNT_CRC_COUNT port.val) else satInc (RING_P_CNT_CRC_COUNT 0).wd (s.f (RING_P_CNT_CRC_COUNT
      port.val))) ∧
    sameBut [(RING_P_CNT_RX_COUNT port.val).reg, (RING_P_CNT_CRC_COUNT port.val).reg, (RING_P_CNT_TX_COUNT (1 - port.val)).reg] []
      s t) ∧
  (∀ (port : Fin 2) (p : Pkt) (s : State), s.isWrk = true → s.hears port.val 0x31 p = true → completes (.rackIRx port p) s fun t =>
    t.eng.est.rack = signed 32 (bits64 (pw p 1) 0 32) ∧ t.b (estFlag 6) = false ∧ sameBut [EST_STATUS] [] s t) ∧
  (∀ (s : State), s.isWrk = true → s.enumerated = true → s.epoch % 1000 = 0 → completes .digestSend s fun t =>
    t.eng.ring.ctl.length = s.eng.ring.ctl.length + 1 ∧
    (t.eng.ring.ctl.getLast?).map (fun p => (p.dst, p.src, p.kind)) = some (0, s.f RING_SELF_INDEX, 0x34) ∧ sameBut [] [] s t) ∧
  (∀ (port : Fin 2) (p : Pkt) (s : State), s.isMgr = true → s.hears port.val 0x34 p = true → p.seq ≠ 0x3F000000 →
    ((s.eng.ring.rx.filter fun x => x.1 == p.src && bits64 (pw p 0) 16 48 ≤ x.2.1 + 1000 && x.2.1 < bits64 (pw p 0) 16 48).map
      Prod.snd).length = pw p 1 →
    digestOf (s.keyWith p.src) ((s.eng.ring.rx.filter fun x => x.1 == p.src && bits64 (pw p 0) 16 48 ≤ x.2.1 + 1000 && x.2.1 <
      bits64 (pw p 0) 16 48).map Prod.snd) = pw p 2 → completes (.digestRx port p) s fun t =>
    t.f RING_CNT_DIGEST_DIG_OK = satInc RING_CNT_DIGEST_DIG_OK.wd (s.f RING_CNT_DIGEST_DIG_OK) ∧
    sameBut [RING_CNT_DIGEST_DIG_OK.reg] [] s t)

/-- Writes on the register bus, shadows and staging: For every state that meets the stated conditions: a write to an RW or RWL
register outside page MODE, other than the registers and headers named, which do more, stores what the register accepts of the word
and changes nothing else, and one to those named that blocks look at stores it too; a write-one-to-clear register loses the bits
written 1 and nothing else changes; a write that the register does not take completes with the outcome R63 gives it and leaves every
register outside page MODE and the collector's drop count as it was, an unmapped or denied one leaves all; SHADOW with SRC HOST and
REQ latches every result of its page (R55 to R57); LOCK sets LOCKED with its key and never clears it (R54); an STG write goes to the
staging copy and not to the active value, DISCARD reloads the copies, or answers LOCKED while HELD, and VIEW selects what is read
(R59, R61). Completing here, by constructor: registerWrite, shadowWrite, lockWrite, stgRegisterWrite, stageDiscard, stageView. -/
def Obligations.registerBusWrites : Prop :=
  (∀ (src : Src) (a : BitVec 18) (w : Word) (s : State), s.takes src a.toNat w = true →
    [some Acc.rw, some Acc.rwl, some Acc.rwMgr].contains ((rowAt a.toNat).map fun r => r.acc) = true →
    [0x01C, 0x028].contains (offOf a.toNat) = false → pageOf a.toNat ≠ pgMODE →
    ([CLK_LF_CFG, CLK_STEER, REG_BK_VSET 3, REG_LD_VSET 3, SV_CFG 0, PHC_RAIL_VSET 0, CHG_PACK, CHG_VREG, AFE_CFG, AFE_TMUX,
      AFE_CAL_U 0, SCAN_REQ_CFG, BAL_SH_I, BAL_BLEED, EIS_VIEW, ARC_CTRL, ISO_CTRL, GPIO_OUT, GPIO_CFG 0, ICU_SWI, ICU_T_MOD 3,
      ICU_LINE 0, WDG_CFG 0, RTC_ALARM, RTC_ALM_CFG, RTC_PWRON] : List Nat).contains (canon a.toNat) = false →
    ([RTC_TRIM, MODE_ATT_PER, MODE_CFG, MEM_CFG, THM_CFG, THM_THR, WDG_TM_CFG, FLT_CFG, BAL_PASS_CFG, FEED_QUAL, CONT_SENSE,
      ICU_GROUP, ICU_CFG] : List Nat).contains a.toNat = false → completes (.registerWrite src a w) s fun t => t.outcome = .ok ∧
    t.reg a.toNat = s.norm a.toNat (s.reg a.toNat) w ∧ sameBut [a.toNat] [] s t) ∧
  (∀ (src : Src) (a : BitVec 18) (w : Word) (s : State), s.takes src a.toNat w = true →
    [some Acc.rw, some Acc.rwl, some Acc.rwMgr].contains ((rowAt a.toNat).map fun r => r.acc) = true →
    ([RTC_TRIM, MODE_ATT_PER, MODE_CFG, MEM_CFG, THM_CFG, THM_THR, WDG_TM_CFG, FLT_CFG, BAL_PASS_CFG, FEED_QUAL, CONT_SENSE,
      ICU_GROUP, ICU_CFG] : List Nat).contains a.toNat = true → completes (.registerWrite src a w) s fun t => t.outcome = .ok ∧
    t.reg a.toNat = s.norm a.toNat (s.reg a.toNat) w) ∧
  (∀ (src : Src) (a : BitVec 18) (w : Word) (s : State), s.takes src a.toNat w = true →
    ((rowAt a.toNat).map fun r => r.acc) = some .w1c →
    ([FLT_PEND, SEQ_FIRST, SUP_FIRST, PHC_FIRST, FLT_FIRST_INFO] : List Nat).contains a.toNat = false →
    completes (.registerWrite src a w) s fun t => t.outcome = .ok ∧
    t.reg a.toNat = s.reg a.toNat &&& ~~~(w &&& BitVec.ofNat 32 (writeMask a.toNat)) ∧ sameBut [a.toNat] [] s t) ∧
  (∀ (src : Src) (a : BitVec 18) (w : Word) (o : Outc) (s : State), s.served src = true → mapped a.toNat = true →
    s.deniedTo src (s.levelNeed a.toNat w) = false → s.watchShut src a.toNat = false → s.inert a.toNat = false →
    s.writeFault src a.toNat w = some o → completes (.registerWrite src a w) s fun t => t.outcome = o ∧
    sameBut (wakeRegs ++ dropRegs) [pgMODE] s t) ∧
  (∀ (src : Src) (a : BitVec 18) (w : Word) (s : State), s.served src = true → mapped a.toNat = false →
    completes (.registerWrite src a w) s fun t => t.outcome = .addrErr ∧ sameBut [] [] s t) ∧
  (∀ (src : Src) (a : BitVec 18) (w : Word) (s : State), s.served src = true → mapped a.toNat = true →
    s.deniedTo src (s.levelNeed a.toNat w) = true → completes (.registerWrite src a w) s fun t => t.outcome = .denied ∧
    sameBut [] [] s t) ∧
  (∀ (src : Src) (page : Fin 40) (w : Word) (s : State), s.takes src (hdrShadow page.val) w = true → hasShd page.val = true →
    getBits w 0 2 = 1 → bitOf w.toNat 2 = true → s.b (shadowFrozen page.val) = false →
    completes (.shadowWrite src page w) s fun t => t.f (shadowSrc page.val) = 1 ∧
    t.f (shadowSeq page.val) = (s.f (shadowSeq page.val) + 1) % 256 ∧ (shdAddrs page.val).all (fun a => t.shd a == s.reg a) = true ∧
    keptShd (shdAddrs page.val) s t ∧ keptReg [hdrShadow page.val] [] s t) ∧
  (∀ (src : Src) (page : Fin 40) (w : Word) (s : State), s.takes src (hdrShadow page.val) w = true → hasShd page.val = true →
    getBits w 0 2 = 3 ∨ s.b (shadowFrozen page.val) = true ∨ bitOf w.toNat 2 = false →
    completes (.shadowWrite src page w) s fun t => t.f (shadowSeq page.val) = s.f (shadowSeq page.val) ∧ (getBits w 0 2 < 3 →
    t.f (shadowSrc page.val) = getBits w 0 2) ∧ (getBits w 0 2 = 3 → bitOf w.toNat 2 = false →
    t.f (shadowSrc page.val) = s.f (shadowSrc page.val)) ∧
    keptShd (if bitOf w.toNat 2 && !s.b (shadowFrozen page.val) then shdAddrs page.val else []) s t) ∧
  (∀ (src : Src) (page : Fin 40) (key : BitVec 16) (lock : Bool) (s : State),
    s.takes src (page.val * 0x1000 + 0x018) (keyed key (b2n lock)) = true → completes (.lockWrite src page key lock) s fun t =>
    t.outcome = .ok ∧ t.b ⟨page.val * 0x1000 + 0x018, 0, 1⟩ = (s.b ⟨page.val * 0x1000 + 0x018, 0, 1⟩ || lock) ∧
    sameBut [page.val * 0x1000 + 0x018] [] s t) ∧
  (∀ (src : Src) (page : Fin 40) (key : BitVec 16) (lock : Bool) (s : State), s.served src = true → s.deniedTo src 1 = false →
    s.watchShut src (page.val * 0x1000 + 0x018) = false → s.inert (page.val * 0x1000 + 0x018) = false →
    ((rowAt (page.val * 0x1000 + 0x018)).map fun r => r.acc) = some .wk → key ≠ 0x1F0C →
    completes (.lockWrite src page key lock) s fun t => t.outcome = .keyErr ∧
    t.b ⟨page.val * 0x1000 + 0x018, 0, 1⟩ = s.b ⟨page.val * 0x1000 + 0x018, 0, 1⟩ ∧ sameBut (wakeRegs ++ dropRegs) [pgMODE] s t) ∧
  (∀ (src : Src) (a : BitVec 18) (w : Word) (s : State), s.takes src a.toNat w = true →
    ((rowAt a.toNat).map fun r => r.acc) = some .stg → pageOf a.toNat ≠ pgBAL → completes (.stgRegisterWrite src a w) s fun t =>
    t.outcome = .ok ∧ t.stg a.toNat = s.norm a.toNat (s.stg a.toNat) w ∧
    t.b (stageDirty (pageOf a.toNat)) = ((pageAddrs (pageOf a.toNat) .stg).any fun b => t.reg b != t.stg b) ∧
    keptStg [a.toNat] s t ∧ keptReg [hdrStage (pageOf a.toNat)] [] s t ∧ keptShd [] s t) ∧
  (∀ (src : Src) (page : Fin 40) (view : Bool) (s : State),
    s.takes src (hdrStage page.val) (BitVec.ofNat 32 (8 + b2n view)) = true → hasStg page.val = true →
    s.b (stageHeld page.val) = false → completes (.stageDiscard src page view) s fun t => t.outcome = .ok ∧
    (pageAddrs page.val .stg).all (fun a => t.stg a == s.reg a) = true ∧ t.b (stageDirty page.val) = false ∧
    t.b (stageView page.val) = view ∧ keptStg (pageAddrs page.val .stg) s t ∧ keptReg [hdrStage page.val] [] s t) ∧
  (∀ (src : Src) (page : Fin 40) (view : Bool) (s : State), s.served src = true →
    s.deniedTo src (s.levelNeed (hdrStage page.val) (BitVec.ofNat 32 (8 + b2n view))) = false →
    s.watchShut src (hdrStage page.val) = false → s.inert (hdrStage page.val) = false → hasStg page.val = true →
    s.b (stageHeld page.val) = true → completes (.stageDiscard src page view) s fun t => t.outcome = .locked ∧ keptStg [] s t ∧
    sameBut (wakeRegs ++ dropRegs) [pgMODE] s t) ∧
  (∀ (src : Src) (page : Fin 40) (view : Bool) (s : State), s.takes src (hdrStage page.val) (BitVec.ofNat 32 (b2n view)) = true →
    hasStg page.val = true → completes (.stageView src page view) s fun t => t.outcome = .ok ∧ t.b (stageView page.val) = view ∧
    t.f (stageOutcome page.val) = s.f (stageOutcome page.val) ∧ keptStg [] s t ∧ keptReg [hdrStage page.val] [] s t)

/-- Mode requests and the settings of the selection: For every state that meets the stated conditions: an accepted MODE_REQ stores
its TARGET and answers OK, a target above the mode in force starts the ascent to the maximum of target and local floor (R83, R84);
SERVICE is refused, with the record of R89, unless the contactors are open; SAFEHOLD sends its message and sets FLT_HOLD.HOST; a
class that the mode does not accept is refused (R88, R89); a tolerance, period, MODE_CFG or idle current written is stored in its
range (R77, R82, R93, R94); and no byte, shadow, staging copy, OTP row or register outside page MODE, CLK_STATUS and MEM_STATUS
changes (of a request in SERVICE, which may start the descent with its checkpoint, this is not said). Completing here, by
constructor: modeReqPin, modeReqService, modeReqSafehold, modeReqFactory, modeReqAuto, modeLtolWrite, modeAttPerWrite,
modeDormPerWrite, modeCfgWrite, modeIdleIWrite. -/
def Obligations.modeRequests : Prop :=
  (∀ (src : Src) (tg : Fin 5) (s : State), s.takes src MODE_REQ (BitVec.ofNat 32 tg.val) = true → s.accepts 0 = true →
    completes (.modeReqPin src tg) s fun t => t.outcome = .ok ∧ t.f MODE_REQ_TARGET = tg.val ∧ t.b MODE_STATUS_PINNED = true ∧
    t.f MODE_FLOOR_LOCAL = s.floorLocal ∧ (s.mode ≠ 5 → sameBut wakeRegs [pgMODE] s t)) ∧
  (∀ (src : Src) (tg : Fin 5) (s : State), s.takes src MODE_REQ (BitVec.ofNat 32 tg.val) = true → s.accepts 0 = true →
    s.released = true → s.isMgr = true → s.inTransition = false → s.mode < max tg.val s.floorLocal → s.mode ≤ 4 →
    max tg.val s.floorLocal ≥ 3 → completes (.modeReqPin src tg) s fun t => t.mode = s.mode ∧ t.b MODE_STATUS_ASCENDING = true ∧
    t.f MODE_STATUS_ENTERING = max tg.val s.floorLocal) ∧
  (∀ (src : Src) (tg : Fin 5) (s : State), s.takes src MODE_REQ (BitVec.ofNat 32 tg.val) = true → s.accepts 0 = false →
    s.judgedMode < 8 → completes (.modeReqPin src tg) s fun t => t.outcome = .refusedState ∧
    t.f MODE_REFUSE_LAST_PAGE = pageOf MODE_REQ ∧ t.f MODE_REFUSE_LAST_WORD = offOf MODE_REQ / 4 ∧ t.f MODE_REFUSE_LAST_CLASS = 0 ∧
    t.f MODE_REFUSE_LAST_MODE = s.judgedMode ∧
    t.f MODE_REFUSE_CNT_COUNT = satInc MODE_REFUSE_CNT_COUNT.wd (s.f MODE_REFUSE_CNT_COUNT) ∧ t.b MODE_EVT_RAW_REFUSED = true ∧
    t.f MODE_REQ_TARGET = s.f MODE_REQ_TARGET ∧ sameBut wakeRegs [pgMODE] s t) ∧
  (∀ (src : Src) (s : State), s.takes src MODE_REQ 5 = true → s.accepts 0 = true → s.contOpenNow = true →
    completes (.modeReqService src) s fun t => t.outcome = .ok ∧ t.f MODE_REQ_TARGET = 5 ∧ sameBut wakeRegs [pgMODE] s t) ∧
  (∀ (src : Src) (s : State), s.takes src MODE_REQ 5 = true → s.accepts 0 = true → s.contOpenNow = true → s.released = true →
    s.inTransition = false → s.mode = 3 ∨ s.mode = 4 → completes (.modeReqService src) s fun t => t.mode = s.mode ∧
    t.b MODE_STATUS_ASCENDING = true ∧ t.f MODE_STATUS_ENTERING = 5) ∧
  (∀ (src : Src) (s : State), s.takes src MODE_REQ 5 = true → s.accepts 0 = true → s.contOpenNow = false → s.judgedMode < 8 →
    completes (.modeReqService src) s fun t => t.outcome = .refusedState ∧ t.f MODE_REFUSE_LAST_PAGE = pageOf MODE_REQ ∧
    t.f MODE_REFUSE_LAST_WORD = offOf MODE_REQ / 4 ∧ t.f MODE_REFUSE_LAST_CLASS = 0 ∧ t.f MODE_REFUSE_LAST_MODE = s.judgedMode ∧
    t.f MODE_REFUSE_CNT_COUNT = satInc MODE_REFUSE_CNT_COUNT.wd (s.f MODE_REFUSE_CNT_COUNT) ∧ t.b MODE_EVT_RAW_REFUSED = true ∧
    t.f MODE_REQ_TARGET = s.f MODE_REQ_TARGET ∧ sameBut wakeRegs [pgMODE] s t) ∧
  (∀ (src : Src) (s : State), s.takes src MODE_REQ 6 = true → s.mode ≠ 7 → s.heldBy pgMODE < 4 →
    completes (.modeReqSafehold src) s fun t => t.outcome = .ok ∧ t.f MODE_REQ_TARGET = 6 ∧ t.b (FLT_HOLD_MAP.bit 6) = true ∧
    t.eng.flt.held = s.eng.flt.held ++ [⟨pgMODE, 0, 0, 0, false⟩] ∧ t.mode = s.mode ∧ t.b MODE_STATUS_PINNED = true ∧
    sameBut [FLT_HOLD, MODE_REQ, MODE_STATUS] [] s t) ∧
  (∀ (src : Src) (s : State), s.takes src MODE_REQ 7 = true → s.accepts 0 = true → completes (.modeReqFactory src) s fun t =>
    t.outcome = .ok ∧ t.f MODE_REQ_TARGET = 7 ∧ sameBut wakeRegs [pgMODE] s t) ∧
  (∀ (src : Src) (s : State), s.takes src MODE_REQ 15 = true → s.accepts 0 = true → completes (.modeReqAuto src) s fun t =>
    t.outcome = .ok ∧ t.f MODE_REQ_TARGET = 15 ∧ t.b MODE_STATUS_PINNED = false ∧ t.b MODE_STATUS_UNMET = s.cand?.isNone ∧
    t.f MODE_LIMIT_UNMET = s.unmetMap 4 ∧ (s.mode ≠ 5 → sameBut wakeRegs [pgMODE] s t)) ∧
  (∀ (src : Src) (n : Fin 8) (w : Word) (s : State), s.takes src (MODE_LTOL n.val) w = true →
    completes (.modeLtolWrite src n w) s fun t => t.outcome = .ok ∧ t.reg (MODE_LTOL n.val) = w ∧
    (List.range 8).all (fun k => k == n.val || t.reg (MODE_LTOL k) == s.reg (MODE_LTOL k)) = true ∧
    t.reg MODE_REQ = s.reg MODE_REQ ∧ t.mode = s.mode ∧ sameBut wakeRegs [pgMODE] s t) ∧
  (∀ (src : Src) (w : Word) (s : State), s.takes src MODE_ATT_PER w = true → completes (.modeAttPerWrite src w) s fun t =>
    t.outcome = .ok ∧ t.f MODE_ATT_PER_PER = clamp 10 10000 (MODE_ATT_PER_PER.of w) ∧ t.reg MODE_REQ = s.reg MODE_REQ ∧
    t.mode = s.mode ∧ (s.eng.scan.cell = none → s.eng.scan.aux = none → sameBut wakeRegs [pgMODE] s t)) ∧
  (∀ (src : Src) (w : Word) (s : State), s.takes src MODE_DORM_PER w = true → completes (.modeDormPerWrite src w) s fun t =>
    t.outcome = .ok ∧ t.f MODE_DORM_PER_SEC = clamp 1 86400 (MODE_DORM_PER_SEC.of w) ∧ t.reg MODE_REQ = s.reg MODE_REQ ∧
    t.mode = s.mode ∧ sameBut wakeRegs [pgMODE] s t) ∧
  (∀ (src : Src) (w : Word) (s : State), s.takes src MODE_CFG w = true → completes (.modeCfgWrite src w) s fun t =>
    t.outcome = .ok ∧ t.f MODE_CFG_DWELL = MODE_CFG_DWELL.of w ∧ t.f MODE_CFG_WAKE_EN = MODE_CFG_WAKE_EN.of w ∧
    t.f MODE_CFG_HOST_WAKE = MODE_CFG_HOST_WAKE.of w ∧ t.f MODE_CFG_SHELF_EN = MODE_CFG_SHELF_EN.of w ∧
    t.reg MODE_REQ = s.reg MODE_REQ ∧ t.mode = s.mode ∧ sameBut wakeRegs [pgMODE] s t) ∧
  (∀ (src : Src) (w : Word) (s : State), s.takes src MODE_IDLE_I w = true → completes (.modeIdleIWrite src w) s fun t =>
    t.outcome = .ok ∧ t.f MODE_IDLE_I_THR = MODE_IDLE_I_THR.of w ∧ t.b MODE_FLOOR_CUR_ABOVE = s.b MODE_FLOOR_CUR_ABOVE ∧
    t.reg MODE_REQ = s.reg MODE_REQ ∧ t.mode = s.mode ∧ sameBut wakeRegs [pgMODE] s t) ∧
  (∀ (src : Src) (w : Word) (s : State), s.served src = true → s.deniedTo src (s.levelNeed MODE_IDLE_I w) = false →
    s.isMgr = false → completes (.modeIdleIWrite src w) s fun t => t.outcome = .roWrite ∧ t.reg MODE_IDLE_I = s.reg MODE_IDLE_I)

/-- Transitions, wake events and the check in DORMANT: For every state that meets the stated conditions: an ascent or a descent that
arrives puts MODE_CUR at the mode it was entering, the old mode in PREV and LAST_TRANS, and counts the transition (R85); the dwell's
end starts the descent (R84); a wake event in modes 1 to 5 sets its bit of MODE_WAKE_SRC and WAKE and holds the target at ATTEND or
above in modes 1 to 4, and one in SHELF brings the device up at step 1 with cause SHELF_EXIT (R75, R87); the check of DORMANT
ascends to ATTEND without being counted and descends again at once, or stays where a limit was crossed (R86). Completing here, by
constructor: ascentDone, dwellExpiry, descentDone, wakePinRise, stackWake, wakeHoldExpiry, dormantCheckTimer, dormantCheckDone. -/
def Obligations.modeTransitions : Prop :=
  (∀ (s : State), s.b MODE_STATUS_ASCENDING = true → s.mode = 2 ∨ s.mode = 3 ∨ s.mode = 4 → s.mode < s.f MODE_STATUS_ENTERING →
    s.eng.mode.aborted = false → s.eng.mode.check = 0 → completes .ascentDone s fun t => t.mode = s.f MODE_STATUS_ENTERING ∧
    t.f MODE_CUR_PREV = s.mode ∧ t.f MODE_TRANS_CNT_COUNT = (s.f MODE_TRANS_CNT_COUNT + 1) % 2 ^ MODE_TRANS_CNT_COUNT.wd ∧
    t.f MODE_LAST_TRANS_FROM = s.mode ∧ t.f MODE_LAST_TRANS_TO = s.f MODE_STATUS_ENTERING ∧ t.b MODE_EVT_RAW_TRANS_DONE = true) ∧
  (∀ (s : State), s.b MODE_STATUS_ASCENDING = true → s.mode = 1 → s.b CLK_STATUS_MPLL_LOCK = true → s.eng.mode.aborted = false →
    s.eng.mode.check = 1 → completes .ascentDone s fun t => t.mode = 3 ∧ t.f MODE_CUR_PREV = s.f MODE_CUR_PREV ∧
    t.f MODE_TRANS_CNT_COUNT = s.f MODE_TRANS_CNT_COUNT ∧ t.eng.mode.check = 2 ∨ t.b MODE_STATUS_ASCENDING = true) ∧
  (∀ (s : State), s.b MODE_STATUS_ASCENDING = true → s.mode = 1 → s.b CLK_STATUS_MPLL_LOCK = false →
    completes .ascentDone s fun t => t.mode = 1 ∧ t.b MODE_STATUS_ASCENDING = true ∧ sameBut [] [] s t) ∧
  (∀ (s : State), s.released = true → s.mode ≤ 4 → s.inTransition = false → s.target < s.mode → 2 ≤ s.target →
    completes .dwellExpiry s fun t => t.mode = s.mode ∧ t.b MODE_STATUS_DESCENDING = true ∧ t.b MODE_STATUS_ASCENDING = false ∧
    t.f MODE_STATUS_ENTERING = s.target ∧ sameBut [] [pgMODE, pgBAL] s t) ∧
  (∀ (s : State), s.b MODE_STATUS_DESCENDING = true → s.mode = 3 ∨ s.mode = 4 → s.f MODE_STATUS_ENTERING < s.mode →
    2 ≤ s.f MODE_STATUS_ENTERING → s.eng.mode.check = 0 → completes .descentDone s fun t => t.mode = s.f MODE_STATUS_ENTERING ∧
    t.f MODE_CUR_PREV = s.mode ∧ t.f MODE_TRANS_CNT_COUNT = (s.f MODE_TRANS_CNT_COUNT + 1) % 2 ^ MODE_TRANS_CNT_COUNT.wd ∧
    t.f MODE_LAST_TRANS_FROM = s.mode ∧ t.f MODE_LAST_TRANS_TO = s.f MODE_STATUS_ENTERING ∧ t.b MODE_EVT_RAW_TRANS_DONE = true) ∧
  (∀ (s : State), s.b MODE_STATUS_DESCENDING = true → s.f MODE_STATUS_ENTERING = 1 → s.eng.mode.check = 3 →
    completes .descentDone s fun t => t.mode = 1 ∧ t.eng.mode.check = 0 ∧ t.f MODE_TRANS_CNT_COUNT = s.f MODE_TRANS_CNT_COUNT ∧
    t.b CLK_STATUS_LPLL_LOCK = false ∧ t.eng.epoch.running = false) ∧
  (∀ (s : State), s.b MODE_CFG_WAKE_EN = true → 1 ≤ s.mode → s.mode ≤ 4 → completes .wakePinRise s fun t =>
    t.b MODE_WAKE_SRC_PIN = true ∧ t.b MODE_EVT_RAW_WAKE = true ∧ t.eng.mode.wakeHold = true ∧ (s.released = true →
    s.inTransition = false → s.mode < 3 → t.b MODE_STATUS_ASCENDING = true ∧ 3 ≤ t.f MODE_STATUS_ENTERING) ∧
    sameBut (RTC_PWRON :: wakeRegs) [pgMODE] s t) ∧
  (∀ (s : State), s.isWrk = true → s.mode = 0 → s.released = true → s.inTransition = false → completes .stackWake s fun t =>
    t.b MODE_WAKE_SRC_STACK = true ∧ t.b RST_CAUSE_SHELF_EXIT = true ∧ t.b RST_BOOT_HALTED = false ∧ t.mode = 3 ∧ t.isWrk = true) ∧
  (∀ (s : State), s.isMgr = true → s.reg (MODE_EVT_RAW + 8) = 0 → completes .wakeHoldExpiry s fun t => t.eng.mode.wakeHold = false ∧
    t.f MODE_FLOOR_LOCAL = s.floorLocal ∧ t.mode = s.mode ∧ sameBut wakeRegs [pgMODE] s t) ∧
  (∀ (s : State), s.mode = 1 → s.inTransition = false → completes .dormantCheckTimer s fun t => t.b MODE_WAKE_SRC_CHECK = true ∧
    t.b MODE_STATUS_ASCENDING = true ∧ t.f MODE_STATUS_ENTERING = 3 ∧ t.eng.mode.check = 1 ∧ t.mode = 1 ∧
    t.eng.clk.startWait = (s.eng.clk.startWait || !s.b CLK_STATUS_MPLL_LOCK) ∧ sameBut wakeRegs [pgMODE] s t) ∧
  (∀ (hit : Bool) (s : State), s.mode = 3 → s.eng.mode.check = 2 → hit = false → s.f CELL_OV_MAP_MAP = 0 → s.f CELL_UV_MAP_MAP = 0 →
    s.f AUX_T_MAP_OT = 0 → s.f AUX_T_MAP_UT = 0 → s.target ≤ 1 → s.isMgr = true → completes (.dormantCheckDone hit) s fun t =>
    t.eng.mode.check = 3 ∧ t.b MODE_STATUS_DESCENDING = true ∧ t.f MODE_STATUS_ENTERING = 1 ∧ t.mode = 3 ∧
    sameBut [] [pgMODE, pgBAL] s t) ∧
  (∀ (hit : Bool) (s : State), s.mode = 3 → s.eng.mode.check = 2 → hit = false → s.f CELL_OV_MAP_MAP = 0 → s.f CELL_UV_MAP_MAP = 0 →
    s.f AUX_T_MAP_OT = 0 → s.f AUX_T_MAP_UT = 0 → s.target ≤ 1 → s.isWrk = true → completes (.dormantCheckDone hit) s fun t =>
    t.eng.mode.check = 3 ∧ t.b MODE_STATUS_DESCENDING = true ∧ t.f MODE_STATUS_ENTERING = 1 ∧ t.mode = 3) ∧
  (∀ (hit : Bool) (s : State), s.mode = 3 → s.eng.mode.check = 2 → hit = true → s.inTransition = false →
    completes (.dormantCheckDone hit) s fun t => t.eng.mode.check = 0 ∧ t.b MODE_STATUS_DESCENDING = s.b MODE_STATUS_DESCENDING ∧
    t.mode = 3 ∧ t.f SCAN_STATUS_SCHED = t.sched ∧ sameBut (SCAN_STATUS :: wakeRegs) [pgMODE] s t)

/-- The epoch, its distribution and the alignment of workers: For every state that meets the stated conditions: the manager sends an
EPOCH block with epoch, floor and flag out of every port that is up at a multiple of 64 (R356); a worker forwards it, takes floor
and flag (R81), measures phase and strobe error, and locks after 16 blocks within 1 ns and 400 ns of phase (R368 to R370); a worker
that is LOCKED and hears no block for 1,024 µs goes to HOLDOVER, counts it and reports it; a read of EPOCH_NOW_LO returns the low
word and holds the high one (R364); the manager writes a worker its path delay (R367). Completing here, by constructor:
epochBlockSend, epochBlockRx, syncHoldoverTimeout, epochNowLoRead, pathDelayUpdate. -/
def Obligations.epochDistribution : Prop :=
  (∀ (s : State), s.isMgr = true → s.eng.epoch.running = true → s.epoch % 64 = 0 → s.port 0 = 4 → s.port 1 = 4 →
    completes .epochBlockSend s fun t => t.eng.ring.tx = [.block 0 0x33 (epochBlock s.epoch (s.f MODE_FLOOR_RACK) s.coFlag),
    .block 1 0x33 (epochBlock s.epoch (s.f MODE_FLOOR_RACK) s.coFlag)] ∧ sameBut [] [] s t) ∧
  (∀ (port : Fin 2) (floor : Fin 8) (co : Bool) (e : BitVec 48) (phi : Int) (s : State), s.isWrk = true → s.port port.val = 4 →
    s.port (1 - port.val) = 4 → port.val ≠ s.outPort ∨ s.b EPOCH_PATH_VALID = false →
    completes (.epochBlockRx port floor co e phi) s fun t =>
    t.eng.ring.tx = [.block (1 - port.val) 0x33 (epochBlock e.toNat floor.val co)] ∧ t.f MODE_FLOOR_RACK = floor.val ∧
    t.eng.mode.rackOpen = co ∧ t.b MODE_FLOOR_RX_STALE = false ∧ t.eng.epoch.count = s.eng.epoch.count ∧
    sameBut wakeRegs [pgMODE] s t) ∧
  (∀ (port : Fin 2) (floor : Fin 8) (co : Bool) (e : BitVec 48) (phi : Int) (s : State), s.isWrk = true → s.port port.val = 4 →
    port.val = s.outPort → s.b EPOCH_PATH_VALID = true → s.f EPOCH_STATUS_SYNC ≠ 2 → s.eng.epoch.near = 15 →
    (sigmaOf phi (s.f AFE_STROBE_FINE)).natAbs ≤ 1000 → phi.natAbs ≤ 400000 →
    completes (.epochBlockRx port floor co e phi) s fun t => t.f EPOCH_STATUS_SYNC = 2 ∧ t.b CLK_STATUS_TICK_LOCK = true ∧
    t.eng.epoch.lockedUp = true ∧ t.i EPOCH_ERR_SIGMA = rndDiv (sigmaOf phi (s.f AFE_STROBE_FINE)) 10 ∧
    t.eng.afe.fine = fineOf phi ∧ t.f AFE_STROBE_FINE = s.f AFE_STROBE_FINE ∧ t.eng.epoch.count = s.eng.epoch.count ∧
    t.b (EPOCH_EVT_RAW_EVENTS.bit 0) = true) ∧
  (∀ (port : Fin 2) (floor : Fin 8) (co : Bool) (e : BitVec 48) (phi : Int) (s : State), s.isWrk = true → s.port port.val = 4 →
    port.val = s.outPort → s.b EPOCH_PATH_VALID = true → s.eng.epoch.far < 4 → 400000 < phi.natAbs → phi.natAbs < 2 ^ 60 →
    completes (.epochBlockRx port floor co e phi) s fun t =>
    t.eng.epoch.count = unsigned 48 ((s.eng.epoch.count : Int) + rndDiv phi 1000000) ∧ t.eng.epoch.near = 0 ∧
    t.f EPOCH_SYNC_CNT_STEPS = satInc EPOCH_SYNC_CNT_STEPS.wd (s.f EPOCH_SYNC_CNT_STEPS) ∧
    t.b (EPOCH_EVT_RAW_EVENTS.bit 2) = true) ∧
  (∀ (s : State), s.isWrk = true → s.f EPOCH_STATUS_SYNC = 2 → s.blocksLost = true → 3 ≤ s.mode → s.heldBy pgEPOCH < 4 →
    completes .syncHoldoverTimeout s fun t => t.f EPOCH_STATUS_SYNC = 3 ∧ t.b CLK_STATUS_TICK_LOCK = false ∧
    t.b MODE_FLOOR_RX_STALE = true ∧ t.f EPOCH_SYNC_CNT_UNLOCKS = satInc EPOCH_SYNC_CNT_UNLOCKS.wd (s.f EPOCH_SYNC_CNT_UNLOCKS) ∧
    t.eng.flt.held = s.eng.flt.held ++ [⟨pgEPOCH, 0, 0, 0, false⟩] ∧ t.b (EPOCH_EVT_RAW_EVENTS.bit 1) = true ∧
    sameBut ([EPOCH_STATUS, EPOCH_EVT_RAW, EPOCH_SYNC_CNT] ++ wakeRegs) [pgMODE] s t) ∧
  (∀ (s : State), s.isWrk = true → s.f EPOCH_STATUS_SYNC = 2 → s.blocksLost = false → s.b EPOCH_PATH_VALID = false →
    s.heldBy pgEPOCH < 4 → completes .syncHoldoverTimeout s fun t => t.f EPOCH_STATUS_SYNC = 3 ∧ t.b CLK_STATUS_TICK_LOCK = false ∧
    t.b MODE_FLOOR_RX_STALE = s.b MODE_FLOOR_RX_STALE ∧ t.b (EPOCH_EVT_RAW_EVENTS.bit 1) = true ∧
    sameBut ([EPOCH_STATUS, EPOCH_EVT_RAW, EPOCH_SYNC_CNT] ++ wakeRegs) [pgMODE] s t) ∧
  (∀ (src : Src) (s : State), s.served src = true → s.watchShut src EPOCH_NOW_LO = false →
    completes (.epochNowLoRead src) s fun t => t.resp = [BitVec.ofNat 32 s.epoch] ∧
    t.f EPOCH_NOW_HI_EPOCH = s.epoch / 2 ^ 32 % 2 ^ 16 ∧ t.outcome = .ok ∧ sameBut [EPOCH_NOW_LO, EPOCH_NOW_HI] [] s t) ∧
  (∀ (w : Nat) (s : State), s.isMgr = true → s.liveWorkers = [w] → s.seqFree w = true → s.port (s.portTo w) = 4 →
    s.weldDown = false → completes .pathDelayUpdate s fun t => t.eng.epoch.tid = (s.eng.epoch.tid + 1) % 65536 ∧
    t.eng.epoch.mir.length = s.eng.epoch.mir.length + 1 ∧ t.eng.ring.tx.length = 1 ∧ sameBut [] [] s t)

/-- Read brackets and snapshots: For every state that meets the stated conditions: BRK_OPEN takes the epoch given, or chooses one,
and shows the bracket OPEN; NOT_MANAGER, BUSY and LATE are reported as R373 orders them; the latch freezes every named page with SHD
registers (R372, R374); a close or the timeout clears FROZEN with its RESULT and event (R375); a snapshot opens a bracket over its
pages (R379), is BUSY while one is open, and ends COMPLETE or PARTIAL with the header's number written and its event (R379 to R381).
Completing here, by constructor: brkOpen, brkClose, bracketLatch, bracketTimeout, snap, snapPeriod, snapGatherDone, snapDeadline. -/
def Obligations.bracketsAndSnapshots : Prop :=
  (∀ (src : Src) (key : BitVec 16) (s : State), s.takes src EPOCH_CMD (keyed key 1) = true → s.b EPOCH_BRK_EP_HI_SCOPE = false →
    s.eng.epoch.brk = 0 → s.eng.epoch.snapE = none → s.f EPOCH_BRK_EP_LO_EPOCH + 2 ^ 32 * s.f EPOCH_BRK_EP_HI_EPOCH = 0 →
    completes (.brkOpen src key) s fun t => t.eng.epoch.brk = 1 ∧ t.eng.epoch.brkE = next64 (s.epoch + 10) ∧
    t.eng.epoch.brkPages = s.f EPOCH_BRK_PG_LO_PAGES + 2 ^ 32 * s.f EPOCH_BRK_PG_HI_PAGES ∧ t.f EPOCH_BRK_STATUS_RESULT = 1 ∧
    t.b EPOCH_STATUS_BRK_OPEN = true ∧ t.f EPOCH_BRK_EP_LO_EPOCH = next64 (s.epoch + 10) % 2 ^ 32 ∧
    sameBut [EPOCH_BRK_EP_LO, EPOCH_BRK_EP_HI, EPOCH_STATUS, EPOCH_BRK_STATUS, EPOCH_BRK_MAP, EPOCH_CNT] [] s t) ∧
  (∀ (src : Src) (key : BitVec 16) (s : State), s.takes src EPOCH_CMD (keyed key 1) = true → s.b EPOCH_BRK_EP_HI_SCOPE = true →
    s.isMgr = false → completes (.brkOpen src key) s fun t => t.f EPOCH_BRK_STATUS_RESULT = 6 ∧ t.eng.epoch.brk = s.eng.epoch.brk ∧
    sameBut [EPOCH_BRK_STATUS] [] s t) ∧
  (∀ (src : Src) (key : BitVec 16) (s : State), s.takes src EPOCH_CMD (keyed key 1) = true → s.isMgr = true → s.eng.epoch.brk ≠ 0 →
    completes (.brkOpen src key) s fun t => t.f EPOCH_BRK_STATUS_RESULT = 5 ∧ t.eng.epoch.brkE = s.eng.epoch.brkE ∧
    sameBut [EPOCH_BRK_STATUS] [] s t) ∧
  (∀ (src : Src) (key : BitVec 16) (s : State), s.takes src EPOCH_CMD (keyed key 1) = true → s.b EPOCH_BRK_EP_HI_SCOPE = false →
    s.eng.epoch.brk = 0 → s.eng.epoch.snapE = none → s.f EPOCH_BRK_EP_LO_EPOCH + 2 ^ 32 * s.f EPOCH_BRK_EP_HI_EPOCH ≠ 0 →
    later (s.epoch + 10) (s.f EPOCH_BRK_EP_LO_EPOCH + 2 ^ 32 * s.f EPOCH_BRK_EP_HI_EPOCH) = true →
    completes (.brkOpen src key) s fun t => t.f EPOCH_BRK_STATUS_RESULT = 4 ∧ t.eng.epoch.brk = 0 ∧
    sameBut [EPOCH_BRK_STATUS] [] s t) ∧
  (∀ (src : Src) (key : BitVec 16) (s : State), s.takes src EPOCH_CMD (keyed key 2) = true → s.eng.epoch.brk ≠ 0 →
    s.isMgr = false ∨ s.eng.epoch.brkRack = false → completes (.brkClose src key) s fun t => t.eng.epoch.brk = 0 ∧
    t.f EPOCH_BRK_STATUS_RESULT = 2 ∧ t.b EPOCH_STATUS_BRK_OPEN = false ∧
    (s.brkTargets s.eng.epoch.brkPages).all (fun p => t.b (shadowFrozen p) == false) = true ∧
    t.b (EPOCH_EVT_RAW_EVENTS.bit 4) = true ∧ keptShd [] s t) ∧
  (∀ (s : State), s.eng.epoch.brk = 1 → later (s.eng.epoch.brkE + 2) s.epoch = false → s.eng.epoch.brkSnap = false →
    completes .bracketLatch s fun t => t.eng.epoch.brk = 2 ∧
    (s.brkTargets s.eng.epoch.brkPages).all (fun p => t.b (shadowFrozen p) && t.f (shadowSeq p) == (s.f (shadowSeq p) + 1) % 256) =
      true ∧ t.b (EPOCH_EVT_RAW_EVENTS.bit 3) = true ∧
    keptShd ((s.brkTargets s.eng.epoch.brkPages).flatMap shdAddrs ++ s.eng.epoch.older.flatMap fun x => x.2.map Prod.fst) s t ∧
    keptStg [] s t) ∧
  (∀ (s : State), s.eng.epoch.brk ≠ 0 → later (s.eng.epoch.brkE + 1000 * s.f EPOCH_BRK_EP_HI_TMO) s.epoch = false →
    s.isMgr = false ∨ s.eng.epoch.brkRack = false → completes .bracketTimeout s fun t => t.eng.epoch.brk = 0 ∧
    t.f EPOCH_BRK_STATUS_RESULT = 3 ∧ t.b EPOCH_STATUS_BRK_OPEN = false ∧
    (s.brkTargets s.eng.epoch.brkPages).all (fun p => t.b (shadowFrozen p) == false) = true ∧
    t.b (EPOCH_EVT_RAW_EVENTS.bit 5) = true ∧ keptShd [] s t) ∧
  (∀ (src : Src) (key : BitVec 16) (s : State), s.takes src EPOCH_CMD (keyed key 3) = true → s.eng.epoch.brk = 0 →
    s.eng.epoch.snapE = none → completes (.snap src key) s fun t => t.eng.epoch.snapE = some (s.autoEpoch s.isMgr) ∧
    t.eng.epoch.snapWant = s.snapMembers ∧ t.b EPOCH_STATUS_SNAP_BUSY = true ∧ t.eng.epoch.brk = 1 ∧
    t.eng.epoch.brkE = s.autoEpoch s.isMgr ∧ t.eng.epoch.brkSnap = true ∧ t.b EPOCH_STATUS_BRK_OPEN = true ∧
    t.f EPOCH_BRK_STATUS_RESULT = 1) ∧
  (∀ (src : Src) (key : BitVec 16) (s : State), s.takes src EPOCH_CMD (keyed key 3) = true →
    s.eng.epoch.brk ≠ 0 ∨ s.eng.epoch.snapE.isSome = true → completes (.snap src key) s fun t => t.f EPOCH_SNAP_STATUS_RESULT = 3 ∧
    t.eng.epoch.snapE = s.eng.epoch.snapE ∧ sameBut [EPOCH_SNAP_STATUS] [] s t) ∧
  (∀ (s : State), s.f EPOCH_SNAP_CFG_PER ≠ 0 → s.eng.epoch.running = true → s.epoch % (1000 * s.f EPOCH_SNAP_CFG_PER) = 0 →
    s.eng.epoch.snapAt ≠ some s.epoch → s.eng.epoch.brk = 0 → s.eng.epoch.snapE = none → completes .snapPeriod s fun t =>
    t.eng.epoch.snapE = some (s.autoEpoch s.isMgr) ∧ t.eng.epoch.snapWant = s.snapMembers ∧ t.b EPOCH_STATUS_SNAP_BUSY = true ∧
    t.eng.epoch.brk = 1 ∧ t.eng.epoch.brkE = s.autoEpoch s.isMgr ∧ t.eng.epoch.brkSnap = true ∧ t.b EPOCH_STATUS_BRK_OPEN = true ∧
    t.f EPOCH_BRK_STATUS_RESULT = 1) ∧
  (∀ (e : Nat) (s : State), s.eng.epoch.snapE = some e → s.eng.epoch.brk ≠ 1 → s.snapAll = true → s.eng.epoch.snapBuf < 2 →
    completes .snapGatherDone s fun t => t.eng.epoch.snapE = none ∧ t.f EPOCH_SNAP_STATUS_RESULT = 1 ∧
    t.f EPOCH_SNAP_STATUS_BUF = s.eng.epoch.snapBuf % 2 ∧ t.b EPOCH_STATUS_SNAP_BUSY = false ∧
    t.f EPOCH_SNAP_EP_LO_EPOCH = e % 2 ^ 32 ∧ t.eng.epoch.snapSeq = s.eng.epoch.snapSeq + 1 ∧
    t.word (snapBase s.eng.epoch.snapBuf) = BitVec.ofNat 32 (s.eng.epoch.snapSeq + 1) ∧ t.b (EPOCH_EVT_RAW_EVENTS.bit 6) = true ∧
    t.f EPOCH_CNT_MIR_SNAP_PARTIAL = s.f EPOCH_CNT_MIR_SNAP_PARTIAL) ∧
  (∀ (e : Nat) (s : State), s.eng.epoch.snapE = some e → s.snapAll = false → later (e + 8000) s.epoch = false →
    s.eng.epoch.snapBuf < 2 → completes .snapDeadline s fun t => t.eng.epoch.snapE = none ∧ t.f EPOCH_SNAP_STATUS_RESULT = 2 ∧
    t.f EPOCH_SNAP_STATUS_BUF = s.eng.epoch.snapBuf % 2 ∧ t.b EPOCH_STATUS_SNAP_BUSY = false ∧
    t.f EPOCH_SNAP_EP_LO_EPOCH = e % 2 ^ 32 ∧ t.eng.epoch.snapSeq = s.eng.epoch.snapSeq + 1 ∧
    t.word (snapBase s.eng.epoch.snapBuf) = BitVec.ofNat 32 (s.eng.epoch.snapSeq + 1) ∧ t.b (EPOCH_EVT_RAW_EVENTS.bit 7) = true ∧
    t.f EPOCH_CNT_MIR_SNAP_PARTIAL = satInc EPOCH_CNT_MIR_SNAP_PARTIAL.wd (s.f EPOCH_CNT_MIR_SNAP_PARTIAL))

/-- Staged commit: For every state that meets the stated conditions: PREPARE holds the named pages, takes the next identifier and
shows PREPARED, or reports an epoch too near, a commit in progress or NOT_MANAGER (R382); a worker votes and holds (R383); the vote,
the decision at E - 50 µs and its record (R384, R387); COMMIT, ABORT and the apply at the committed epoch, where every staging copy
of the held pages becomes active (R61, R385); the query, the doubt and the end of the hold (R386); the reports' deadline and
RECONCILE (R387, R388). Completing here, by constructor: cmPrepare, cmAbort, cmReconcile, prepareRx, ackRx, commitDecision,
commitRx, abortRx, commitApply, queryRx, commitQueryTimer, commitIndoubt, indoubtHoldEnd, commitReportDeadline. -/
def Obligations.stagedCommit : Prop :=
  (∀ (src : Src) (key : BitVec 16) (s : State), s.takes src EPOCH_CMD (keyed key 4) = true → s.accepts 7 = true →
    later (s.epoch + 200) (s.f EPOCH_CM_EP_LO_EPOCH + 2 ^ 32 * s.f EPOCH_CM_EP_HI_EPOCH) = false → s.eng.epoch.cm = none →
    s.eng.epoch.holds = [] → s.b EPOCH_CM_EP_HI_SCOPE = false → completes (.cmPrepare src key) s fun t => t.outcome = .ok ∧
    t.f EPOCH_CM_STATUS_RESULT = 1 ∧ t.f EPOCH_CM_EP_HI_ID = (s.f EPOCH_CM_EP_HI_ID + 1) % 256 ∧ t.f EPOCH_STATUS_CM_STATE = 1 ∧
    t.eng.epoch.cm.map (fun c => (c.e, c.rack, c.mem, c.decided)) = some (s.f EPOCH_CM_EP_LO_EPOCH + 2 ^ 32 * s.f
      EPOCH_CM_EP_HI_EPOCH, false, [], false) ∧
    (s.stgTargets (s.f EPOCH_CM_PG_LO_PAGES + 2 ^ 32 * s.f EPOCH_CM_PG_HI_PAGES)).all (fun p => t.b (stageHeld p)) = true ∧
    t.eng.epoch.holds.length = s.eng.epoch.holds.length + 1 ∧ keptStg [] s t) ∧
  (∀ (src : Src) (key : BitVec 16) (s : State), s.takes src EPOCH_CMD (keyed key 4) = true → s.accepts 7 = true →
    later (s.epoch + 200) (s.f EPOCH_CM_EP_LO_EPOCH + 2 ^ 32 * s.f EPOCH_CM_EP_HI_EPOCH) = true →
    completes (.cmPrepare src key) s fun t => t.f EPOCH_CM_STATUS_RESULT = 2 ∧ t.eng.epoch.cm = s.eng.epoch.cm ∧
    t.eng.epoch.holds = s.eng.epoch.holds ∧ sameBut [EPOCH_CM_STATUS] [] s t) ∧
  (∀ (src : Src) (key : BitVec 16) (s : State), s.takes src EPOCH_CMD (keyed key 4) = true → s.accepts 7 = true →
    later (s.epoch + 200) (s.f EPOCH_CM_EP_LO_EPOCH + 2 ^ 32 * s.f EPOCH_CM_EP_HI_EPOCH) = false →
    s.eng.epoch.cm.isSome = true ∨ s.eng.epoch.holds ≠ [] → completes (.cmPrepare src key) s fun t =>
    t.f EPOCH_CM_STATUS_RESULT = 3 ∧ t.eng.epoch.cm = s.eng.epoch.cm ∧ t.eng.epoch.holds = s.eng.epoch.holds ∧
    sameBut [EPOCH_CM_STATUS] [] s t) ∧
  (∀ (src : Src) (key : BitVec 16) (s : State), s.takes src EPOCH_CMD (keyed key 4) = true → s.accepts 7 = true →
    later (s.epoch + 200) (s.f EPOCH_CM_EP_LO_EPOCH + 2 ^ 32 * s.f EPOCH_CM_EP_HI_EPOCH) = false → s.eng.epoch.cm = none →
    s.eng.epoch.holds = [] → s.b EPOCH_CM_EP_HI_SCOPE = true → s.isMgr = false → completes (.cmPrepare src key) s fun t =>
    t.f EPOCH_CM_STATUS_RESULT = 4 ∧ t.eng.epoch.cm = s.eng.epoch.cm ∧ t.eng.epoch.holds = s.eng.epoch.holds ∧
    sameBut [EPOCH_CM_STATUS] [] s t) ∧
  (∀ (src : Src) (key : BitVec 16) (c : CmRun) (s : State), s.takes src EPOCH_CMD (keyed key 5) = true → s.eng.epoch.cm = some c →
    c.decided = false → completes (.cmAbort src key) s fun t => t.eng.epoch.cm = some { c with abort := true } ∧
    t.eng.epoch.holds = s.eng.epoch.holds ∧ sameBut [] [] s t) ∧
  (∀ (src : Src) (key : BitVec 16) (d e w : Nat) (s : State), s.takes src EPOCH_CMD (keyed key 6) = true → s.isMgr = true →
    s.eng.epoch.lastDec = some (d, e, true) →
    ((List.range 32).map (· + 1)).filter (fun w => s.f (cmOut w) == 8 || s.f (cmOut w) == 10) = [w] → s.seqFree w = true →
    s.port (s.portTo w) = 4 → s.weldDown = false → completes (.cmReconcile src key) s fun t => t.eng.ring.tx.length = 1 ∧
    (t.eng.ring.tx.all fun x => x == .pkt (s.portTo w) (s.tagged w ⟨w, s.f RING_SELF_INDEX, 0x22, (countOf s.eng.ring.seqOut w + 1)
      % 2 ^ 30, [next64 (s.epoch + 200) * 2 ^ 16 + d * 2 ^ 8 + 1], 0⟩)) = true ∧ sameBut [] [] s t) ∧
  (∀ (port : Fin 2) (p : Pkt) (s : State), s.isWrk = true → s.hears port.val 0x20 p = true →
    bitOf (pw p 2) (s.f RING_SELF_INDEX - 1) = true →
    (s.stgTargets (bits64 (pw p 1) 0 40)).all (fun q => !s.b (stageHeld q)) = true →
    later (s.epoch + 50) (bits64 (pw p 0) 16 48) = false → s.mode ≠ 2 → s.mode ≠ 6 → s.weldDown = false →
    completes (.prepareRx port p) s fun t => (s.stgTargets (bits64 (pw p 1) 0 40)).all (fun q => t.b (stageHeld q)) = true ∧
    t.f EPOCH_STATUS_CM_STATE = 1 ∧
    t.eng.epoch.holds = s.eng.epoch.holds ++ [⟨bits64 (pw p 0) 8 8, bits64 (pw p 0) 16 48, bits64 (pw p 1) 0 40, true, none, false,
      none⟩] ∧ t.eng.ring.ctl.length = s.eng.ring.ctl.length + 1 ∧
    (t.eng.ring.ctl.getLast?.map fun x => (x.dst, x.kind, x.data)) = some (0, 0x21, ackData (bits64 (pw p 0) 16 48) (bits64 (pw p
      0) 8 8) 0 0) ∧ keptStg [] s t) ∧
  (∀ (port : Fin 2) (p : Pkt) (s : State), s.isWrk = true → s.hears port.val 0x20 p = true →
    bitOf (pw p 2) (s.f RING_SELF_INDEX - 1) = true →
    (s.stgTargets (bits64 (pw p 1) 0 40)).any (fun q => s.b (stageHeld q)) = true → s.weldDown = false →
    completes (.prepareRx port p) s fun t => t.eng.ring.ctl.length = s.eng.ring.ctl.length + 1 ∧
    (t.eng.ring.ctl.getLast?.map fun x => (x.dst, x.kind, x.data)) = some (0, 0x21, ackData (bits64 (pw p 0) 16 48) (bits64 (pw p
      0) 8 8) 0 1) ∧ t.eng.epoch.holds = s.eng.epoch.holds ∧ sameBut [] [] s t) ∧
  (∀ (port : Fin 2) (p : Pkt) (s : State), s.isWrk = true → s.hears port.val 0x20 p = true →
    bitOf (pw p 2) (s.f RING_SELF_INDEX - 1) = true →
    (s.stgTargets (bits64 (pw p 1) 0 40)).all (fun q => !s.b (stageHeld q)) = true →
    later (s.epoch + 50) (bits64 (pw p 0) 16 48) = true → s.weldDown = false → completes (.prepareRx port p) s fun t =>
    t.eng.ring.ctl.length = s.eng.ring.ctl.length + 1 ∧
    (t.eng.ring.ctl.getLast?.map fun x => (x.dst, x.kind, x.data)) = some (0, 0x21, ackData (bits64 (pw p 0) 16 48) (bits64 (pw p
      0) 8 8) 0 2) ∧ sameBut [] [] s t) ∧
  (∀ (port : Fin 2) (p : Pkt) (s : State), s.isWrk = true → s.hears port.val 0x20 p = true →
    bitOf (pw p 2) (s.f RING_SELF_INDEX - 1) = true →
    (s.stgTargets (bits64 (pw p 1) 0 40)).all (fun q => !s.b (stageHeld q)) = true →
    later (s.epoch + 50) (bits64 (pw p 0) 16 48) = false → s.mode = 2 ∨ s.mode = 6 → s.weldDown = false →
    completes (.prepareRx port p) s fun t => t.eng.ring.ctl.length = s.eng.ring.ctl.length + 1 ∧
    (t.eng.ring.ctl.getLast?.map fun x => (x.dst, x.kind, x.data)) = some (0, 0x21, ackData (bits64 (pw p 0) 16 48) (bits64 (pw p
      0) 8 8) 0 3) ∧ sameBut [] [] s t) ∧
  (∀ (port : Fin 2) (p : Pkt) (c : CmRun) (s : State), s.isMgr = true → s.hears port.val 0x21 p = true → p.seq ≠ 0x3F000000 →
    1 ≤ p.src → p.src ≤ 32 → bits64 (pw p 0) 8 8 = s.f EPOCH_CM_EP_HI_ID → bits64 (pw p 0) 4 4 = 0 → s.eng.epoch.cm = some c →
    c.decided = false → c.mem.contains p.src = true → completes (.ackRx port p) s fun t =>
    t.f (cmOut p.src) = (if bits64 (pw p 0) 0 4 = 0 then 2 else 3) ∧ t.eng.epoch.cm = s.eng.epoch.cm ∧
    sameBut [(cmOut p.src).reg] [] s t) ∧
  (∀ (port : Fin 2) (p : Pkt) (s : State), s.isMgr = true → s.hears port.val 0x21 p = true → p.seq ≠ 0x3F000000 → 1 ≤ p.src →
    p.src ≤ 32 → bits64 (pw p 0) 8 8 = s.f EPOCH_CM_EP_HI_ID → bits64 (pw p 0) 4 4 = 1 → 1 ≤ bits64 (pw p 0) 0 4 →
    bits64 (pw p 0) 0 4 ≤ 4 → s.eng.epoch.cm = none → s.f (cmOut p.src) ≠ 0 → completes (.ackRx port p) s fun t =>
    t.f (cmOut p.src) = bits64 (pw p 0) 0 4 + 4 ∧ sameBut [(cmOut p.src).reg] [] s t) ∧
  (∀ (port : Fin 2) (p : Pkt) (s : State), s.isMgr = true → s.hears port.val 0x21 p = true → p.seq ≠ 0x3F000000 → 1 ≤ p.src →
    p.src ≤ 32 → bits64 (pw p 0) 8 8 = s.f EPOCH_CM_EP_HI_ID → bits64 (pw p 0) 4 4 = 1 → s.f (cmOut p.src) = 0 →
    completes (.ackRx port p) s fun t => t.f (cmOut p.src) = 0 ∧ sameBut [] [] s t) ∧
  (∀ (c : CmRun) (h : CmHold) (s : State), s.eng.epoch.cm = some c → c.decided = false → c.rack = false → c.mem = [] →
    s.eng.epoch.holds = [h] → h.id = c.id → h.rack = false → later c.e (s.epoch + 50) = false → c.abort = false →
    completes .commitDecision s fun t => t.f EPOCH_CM_STATUS_RESULT = 5 ∧ t.f EPOCH_STATUS_CM_STATE = 2 ∧
    t.f EPOCH_CNT_COMMITS = satInc EPOCH_CNT_COMMITS.wd (s.f EPOCH_CNT_COMMITS) ∧ t.eng.epoch.lastDec = some (c.id, c.e, true) ∧
    t.eng.epoch.holds = [{ h with apply := some (c.e, 1) }] ∧ t.eng.epoch.cm = some { c with decided := true } ∧
    sameBut [EPOCH_CM_STATUS, EPOCH_STATUS, EPOCH_CNT] [] s t) ∧
  (∀ (c : CmRun) (h : CmHold) (s : State), s.eng.epoch.cm = some c → c.decided = false → c.rack = false → c.mem = [] →
    s.eng.epoch.holds = [h] → h.id = c.id → h.rack = false → later c.e (s.epoch + 50) = false → c.abort = true →
    completes .commitDecision s fun t => t.f EPOCH_CM_STATUS_RESULT = 6 ∧ t.f EPOCH_STATUS_CM_STATE = 0 ∧
    t.f EPOCH_CNT_ABORTS = satInc EPOCH_CNT_ABORTS.wd (s.f EPOCH_CNT_ABORTS) ∧ t.eng.epoch.lastDec = some (c.id, c.e, false) ∧
    t.eng.epoch.holds = [] ∧ t.eng.epoch.cm = none ∧
    (s.stgTargets h.pages).all (fun p => !t.b (stageHeld p) && t.f (stageOutcome p) == 2) = true ∧ keptStg [] s t ∧
    t.b (EPOCH_EVT_RAW_EVENTS.bit 9) = true) ∧
  (∀ (port : Fin 2) (p : Pkt) (h : CmHold) (s : State), s.isWrk = true → s.hears port.val 0x22 p = true → s.eng.epoch.holds = [h] →
    h.rack = true → h.id = bits64 (pw p 0) 8 8 → bitOf (pw p 0) 0 = false → h.apply = none → later h.e s.epoch = true →
    completes (.commitRx port p) s fun t => t.eng.epoch.holds = [{ h with apply := some (h.e, 1) }] ∧
    t.f EPOCH_STATUS_CM_STATE = 2 ∧ t.eng.ring.ctl = s.eng.ring.ctl) ∧
  (∀ (port : Fin 2) (p : Pkt) (h : CmHold) (s : State), s.isWrk = true → s.hears port.val 0x22 p = true → s.eng.epoch.holds = [h] →
    h.rack = true → h.id = bits64 (pw p 0) 8 8 → bitOf (pw p 0) 0 = false → h.apply = none → later h.e s.epoch = false →
    later s.epoch (h.e + 10050) = false → completes (.commitRx port p) s fun t =>
    t.eng.epoch.holds = [{ h with apply := some (next64 (s.epoch + 2), 2) }] ∧ t.f EPOCH_STATUS_CM_STATE = 2) ∧
  (∀ (port : Fin 2) (p : Pkt) (h : CmHold) (s : State), s.isWrk = true → s.hears port.val 0x22 p = true → s.eng.epoch.holds = [h] →
    h.rack = true → h.id = bits64 (pw p 0) 8 8 → bitOf (pw p 0) 0 = true → completes (.commitRx port p) s fun t =>
    t.eng.epoch.holds = [{ h with apply := some (bits64 (pw p 0) 16 48, 5) }] ∧ t.f EPOCH_STATUS_CM_STATE = 2) ∧
  (∀ (port : Fin 2) (p : Pkt) (h : CmHold) (s : State), s.isWrk = true → s.hears port.val 0x23 p = true → s.eng.epoch.holds = [h] →
    h.rack = true → h.id = bits64 (pw p 0) 8 8 → s.weldDown = false → completes (.abortRx port p) s fun t =>
    t.eng.epoch.holds = [] ∧ t.f EPOCH_STATUS_CM_STATE = 0 ∧
    t.f EPOCH_CNT_ABORTS = satInc EPOCH_CNT_ABORTS.wd (s.f EPOCH_CNT_ABORTS) ∧
    (s.stgTargets h.pages).all (fun p => !t.b (stageHeld p) && t.f (stageOutcome p) == 2) = true ∧ keptStg [] s t ∧
    t.b (EPOCH_EVT_RAW_EVENTS.bit 9) = true ∧ t.eng.ring.ctl.length = s.eng.ring.ctl.length + 1 ∧
    (t.eng.ring.ctl.getLast?.map fun x => (x.dst, x.kind, x.data)) = some (0, 0x21, ackData (bits64 (pw p 0) 16 48) (bits64 (pw p
      0) 8 8) 1 3)) ∧
  (∀ (port : Fin 2) (p : Pkt) (s : State), s.isWrk = true → s.hears port.val 0x23 p = true → p.dst = 0x3F → s.eng.epoch.holds = [] →
    s.eng.epoch.named ≠ some (bits64 (pw p 0) 8 8) → completes (.abortRx port p) s fun t => t.eng.epoch.holds = [] ∧
    t.eng.ring.ctl = s.eng.ring.ctl ∧ sameBut [] [] s t) ∧
  (∀ (h : CmHold) (x : Nat × Nat) (s : State), s.eng.epoch.holds = [h] → h.rack = false → h.apply = some x →
    later x.1 s.epoch = false → (s.stgTargets h.pages).contains pgBAL = false → completes .commitApply s fun t =>
    t.eng.epoch.holds = [] ∧
    (s.stgTargets h.pages).all (fun p => (pageAddrs p .stg).all (fun a => t.reg a == s.stg a) && !t.b (stageHeld p) && !t.b
      (stageDirty p) && t.f (stageOutcome p) == 1 && t.f (stageCommits p) == (s.f (stageCommits p) + 1) % 256) = true ∧
    keptStg [] s t ∧ t.b (EPOCH_EVT_RAW_EVENTS.bit 8) = true) ∧
  (∀ (port : Fin 2) (p : Pkt) (e : Nat) (ok : Bool) (s : State), s.isMgr = true → s.hears port.val 0x24 p = true →
    p.seq ≠ 0x3F000000 → s.seqFree p.src = true → s.portTo p.src < 2 → s.port (s.portTo p.src) = 4 →
    s.eng.epoch.lastDec = some (bits64 (pw p 0) 8 8, e, ok) → s.weldDown = false → completes (.queryRx port p) s fun t =>
    t.eng.ring.tx = [.pkt (s.portTo p.src) (s.tagged p.src ⟨p.src, s.f RING_SELF_INDEX, if ok then 0x22 else 0x23, (countOf
      s.eng.ring.seqOut p.src + 1) % 2 ^ 30, [e * 2 ^ 16 + bits64 (pw p 0) 8 8 * 2 ^ 8], 0⟩)] ∧
    t.eng.epoch.lastDec = s.eng.epoch.lastDec ∧ sameBut [] [] s t) ∧
  (∀ (h : CmHold) (s : State), s.eng.epoch.holds = [h] → h.rack = true → h.apply = none → h.doubt = false → s.isWrk = true →
    later (h.e + 50) s.epoch = false → h.asked.all (fun t => !later (t + 1000) s.epoch) = true → s.weldDown = false →
    completes .commitQueryTimer s fun t => t.f EPOCH_STATUS_CM_STATE = 3 ∧ t.eng.ring.ctl.length = s.eng.ring.ctl.length + 1 ∧
    (t.eng.ring.ctl.getLast?.map fun x => (x.dst, x.kind, x.data)) = some (0, 0x24, [h.e * 2 ^ 16 + h.id * 2 ^ 8]) ∧
    t.eng.epoch.holds = [{ h with asked := some s.epoch }] ∧ sameBut [EPOCH_STATUS] [] s t) ∧
  (∀ (h : CmHold) (s : State), s.eng.epoch.holds = [h] → h.rack = true → h.apply = none → h.doubt = false → s.isWrk = true →
    later (h.e + 10050) s.epoch = false → s.heldBy pgEPOCH < 4 → s.weldDown = false → completes .commitIndoubt s fun t =>
    t.f EPOCH_STATUS_CM_STATE = 4 ∧ t.eng.epoch.holds = [{ h with doubt := true }] ∧
    (s.stgTargets h.pages).all (fun p => t.f (stageOutcome p) == 3) = true ∧
    t.f EPOCH_CNT_INDOUBTS = satInc EPOCH_CNT_INDOUBTS.wd (s.f EPOCH_CNT_INDOUBTS) ∧
    t.eng.flt.held = s.eng.flt.held ++ [⟨pgEPOCH, 0, 2, 0, false⟩] ∧
    (t.eng.ring.ctl.getLast?.map fun x => (x.dst, x.kind, x.data)) = some (0, 0x21, ackData h.e h.id 1 4) ∧
    t.b (EPOCH_EVT_RAW_EVENTS.bit 10) = true) ∧
  (∀ (h : CmHold) (s : State), s.eng.epoch.holds = [h] → h.doubt = true → h.apply = none →
    later (h.e + 10050 + 1000000 * s.f EPOCH_CM_CFG_HOLD) s.epoch = false → completes .indoubtHoldEnd s fun t =>
    t.eng.epoch.holds = [] ∧ t.f EPOCH_STATUS_CM_STATE = 0 ∧
    (s.stgTargets h.pages).all (fun p => !t.b (stageHeld p) && t.f (stageOutcome p) == s.f (stageOutcome p) && t.f (stageCommits p)
      == s.f (stageCommits p)) = true ∧ keptStg [] s t ∧ keptReg (EPOCH_STATUS :: (s.stgTargets h.pages).map hdrStage) [] s t) ∧
  (∀ (c : CmRun) (s : State), s.eng.epoch.cm = some c → c.rack = true → c.decided = true → later (c.e + 20000) s.epoch = false →
    c.mem.all (fun w => decide (1 ≤ w ∧ w ≤ 32)) = true → completes .commitReportDeadline s fun t => t.eng.epoch.cm = none ∧
    c.mem.all (fun w => t.f (cmOut w) == (if s.f (cmOut w) < 5 then 10 else s.f (cmOut w))) = true)

/-- Register packets between manager and workers: For every state that meets the stated conditions: a REG_RD or REG_WR that a worker
accepts is served word by word at the packet's level and answered by one REG_RSP with the words and the worst outcome (R376); the
answer ends the manager's request, and no answer within TMO counts a timeout and records worker and word (R377). Completing here, by
constructor: regRdRx, regWrRx, regRspRx, mirrorTimeout. -/
def Obligations.mirrorPackets : Prop :=
  (∀ (port : Fin 2) (p : Pkt) (ecc : List Nat) (s : State), s.isWrk = true → s.hears port.val 0x10 p = true → ecc.headD 0 = 0 →
    bits64 (pw p 0) 24 8 = 1 → bits64 (pw p 0) 32 32 = IDENT_ROLE → s.weldDown = false → completes (.regRdRx port p ecc) s fun t =>
    (t.eng.ring.ctl.getLast?.map fun x => (x.dst, x.kind, x.data)) = some (0, 0x12, [IDENT_ROLE * 2 ^ 32 + 2 ^ 24 + bits64 (pw p 0)
      0 16, (s.reg IDENT_ROLE).toNat]) ∧ t.eng.ring.ctl.length = s.eng.ring.ctl.length + 1 ∧
    (t.eng.ring.ctl.getLast?.map fun x => (x.dst, x.kind)) = some (0, 0x12) ∧ sameBut [] [] s t) ∧
  (∀ (port : Fin 2) (p : Pkt) (s : State), s.isWrk = true → s.hears port.val 0x11 p = true → bits64 (pw p 0) 24 8 = 1 →
    p.data.length = 2 → bits64 (pw p 0) 32 32 = EPOCH_PATH →
    s.deniedTo (packetSrc p) (s.levelNeed EPOCH_PATH (BitVec.ofNat 32 (pw p 1))) = false → s.weldDown = false →
    completes (.regWrRx port p) s fun t => t.f EPOCH_PATH_DLY = bits64 (pw p 1) 0 20 ∧ t.b EPOCH_PATH_VALID = bitOf (pw p 1) 31 ∧
    t.b EPOCH_STATUS_PATH_VALID = bitOf (pw p 1) 31 ∧
    (t.eng.ring.ctl.getLast?.map fun x => (x.dst, x.kind, x.data)) = some (0, 0x12, [EPOCH_PATH * 2 ^ 32 + bits64 (pw p 0) 0 16]) ∧
    t.eng.ring.ctl.length = s.eng.ring.ctl.length + 1 ∧ (t.eng.ring.ctl.getLast?.map fun x => (x.dst, x.kind)) = some (0, 0x12) ∧
    sameBut ([EPOCH_PATH, EPOCH_STATUS, EPOCH_EVT_RAW] ++ wakeRegs) [pgMODE] s t) ∧
  (∀ (port : Fin 2) (p : Pkt) (r : MirReq) (s : State), s.isMgr = true → s.hears port.val 0x12 p = true → p.seq ≠ 0x3F000000 →
    s.eng.epoch.mir = [r] → r.tid = bits64 (pw p 0) 0 16 → r.dead = false → r.worker = p.src → r.use = 0 → s.mirState = 1 →
    completes (.regRspRx port p) s fun t => t.eng.epoch.mir = [] ∧ t.mirState = 2 ∧
    t.eng.host.mirWords = (packetWords p).take (bits64 (pw p 0) 24 8) ∧ t.eng.host.mirCode = bits64 (pw p 0) 20 4 ∧
    t.b (HOST_EVT_RAW_EVENTS.bit 2) = true ∧ sameBut ([HOST_MIR_STATUS, HOST_EVT_RAW] ++ wakeRegs) [pgMODE] s t) ∧
  (∀ (port : Fin 2) (p : Pkt) (r : MirReq) (s : State), s.isMgr = true → s.hears port.val 0x12 p = true → p.seq ≠ 0x3F000000 →
    s.eng.epoch.mir = [r] → r.tid = bits64 (pw p 0) 0 16 → r.dead = false → r.worker = p.src → r.use = 4 →
    bits64 (pw p 0) 20 4 = 0 → bitOf (((packetWords p).take (bits64 (pw p 0) 24 8)).headD 0) 31 = true →
    completes (.regRspRx port p) s fun t => t.eng.epoch.links.head? = some ((r.j, r.worker),
    ((packetWords p).take (bits64 (pw p 0) 24 8)).headD 0 % 2 ^ 20)) ∧
  (∀ (tid : BitVec 16) (r : MirReq) (s : State), s.eng.epoch.mir = [r] → r.tid = tid.toNat → r.at0 + s.f EPOCH_MIR_CFG_TMO ≤ s.now →
    1 ≤ r.worker → r.worker ≤ 32 → r.use = 3 → completes (.mirrorTimeout tid) s fun t => t.eng.epoch.mir = [] ∧
    t.b EPOCH_MIR_LAST_VALID = true ∧ t.f EPOCH_MIR_LAST_WORKER = r.worker ∧
    t.f EPOCH_CNT_MIR_TIMEOUTS = satInc EPOCH_CNT_MIR_TIMEOUTS.wd (s.f EPOCH_CNT_MIR_TIMEOUTS) ∧
    t.b (EPOCH_EVT_RAW_EVENTS.bit 11) = true ∧ sameBut ([EPOCH_EVT_RAW, EPOCH_CNT_MIR, EPOCH_MIR_LAST] ++ wakeRegs) [pgMODE] s t)

/-- The roster and the rack means: For every state that meets the stated conditions: a worker sends STATUS, authenticated once
enumerated (R395); the manager takes it into the roster entry, which becomes OK (R396); a silent entry turns STALE with count, event
and message; a blind rack is flagged (R397); READMIT and ADOPT re-admit a worker that is seen again (R398); the rack means of the
millisecond that ended are published with their epoch (R399), and the rack current is broadcast (R354). Completing here, by
constructor: statusSend, statusRx, rosterStale, rosterBlind, rosterReadmit, rosterAdopt, rackResult, rackISend. -/
def Obligations.rosterAndRackMeans : Prop :=
  (∀ (s : State), s.isWrk = true → s.statusDue = true → s.enumerated = true → s.port 0 = 4 ∨ s.port 1 = 4 → s.weldDown = false →
    completes .statusSend s fun t => t.eng.ring.ctl.length = s.eng.ring.ctl.length + 1 ∧
    (t.eng.ring.ctl.getLast?.map fun x => (x.dst, x.src, x.kind, x.data)) = some (0, s.f RING_SELF_INDEX, 0x33, s.statusData) ∧
    sameBut [] [] s t) ∧
  (∀ (s : State), s.isWrk = true → s.statusDue = true → s.enumerated = false → s.port 0 = 4 ∨ s.port 1 = 4 → s.weldDown = false →
    completes .statusSend s fun t => t.eng.ring.tx = [.pkt 2 ⟨0, 0x3E, 0x33, 0, s.statusData, 0⟩] ∧
    t.eng.ring.ctl = s.eng.ring.ctl ∧ sameBut [] [] s t) ∧
  (∀ (port : Fin 2) (p : Pkt) (s : State), s.isMgr = true → s.hears port.val 0x33 p = true → p.seq ≠ 0x3F000000 → 1 ≤ p.src →
    p.src ≤ 32 → s.f RING_STATUS_STATE ≠ 1 → completes (.statusRx port p) s fun t => t.f (ROSTER_W_STAT_STATE p.src) = 1 ∧
    t.f (ROSTER_W_STAT_LAST p.src) = bits64 (pw p 0) 0 16 ∧ t.f (ROSTER_W_EP_HI_EPOCH p.src) = bits64 (pw p 0) 48 16 ∧
    t.f (ROSTER_W_INFO_P p.src) = bits64 (pw p 1) 44 20 ∧ t.f (ROSTER_W_INFO_NCELL p.src) = bits64 (pw p 1) 32 6 ∧
    t.b (ROSTER_MAP_SAFE_MAP.bit (p.src - 1)) = (bits64 (pw p 0) 13 3 == 6) ∧ sameBut wakeRegs [pgROSTER, pgMODE] s t) ∧
  (∀ (worker : Fin 33) (s : State), s.isMgr = true → s.workers.contains worker.val = true →
    s.f (ROSTER_W_STAT_STATE worker.val) ≤ 1 → s.port 0 = 4 ∨ s.port 1 = 4 → s.f RING_STATUS_STATE ≠ 1 →
    s.statusLate worker.val = true → s.heldBy pgROSTER < 4 → s.f RING_ENUM_M ≤ 32 → completes (.rosterStale worker) s fun t =>
    t.f (ROSTER_W_STAT_STATE worker.val) = 2 ∧ t.b (ROSTER_MAP_STALE_MAP.bit (worker.val - 1)) = true ∧
    t.f ROSTER_CNT_STALES = satInc ROSTER_CNT_STALES.wd (s.f ROSTER_CNT_STALES) ∧
    t.eng.flt.held = s.eng.flt.held ++ [⟨pgROSTER, worker.val, 0, 0, false⟩] ∧ t.b (ROSTER_EVT_RAW_EVENTS.bit 0) = true ∧
    sameBut wakeRegs [pgROSTER, pgMODE] s t) ∧
  (∀ (s : State), s.isMgr = true → s.f ROSTER_CFG_BLIND_T ≠ 0 → s.anyClosed = true → s.anyBad = true →
    s.b ROSTER_STATUS_BLIND = false → (s.eng.rack.blindAt.any fun x => decide (x + 1000 * s.f ROSTER_CFG_BLIND_T ≤ s.now)) = true →
    s.heldBy pgROSTER < 4 → completes .rosterBlind s fun t => t.b ROSTER_STATUS_BLIND = true ∧
    t.f ROSTER_CNT_BLINDS = satInc ROSTER_CNT_BLINDS.wd (s.f ROSTER_CNT_BLINDS) ∧
    t.eng.flt.held = s.eng.flt.held ++ [⟨pgROSTER, 0, 3, 0, false⟩] ∧ t.b (ROSTER_EVT_RAW_EVENTS.bit 5) = true ∧
    sameBut wakeRegs [pgROSTER, pgMODE] s t) ∧
  (∀ (src : Src) (key : BitVec 16) (worker : Fin 64) (s : State),
    s.takes src ROSTER_CMD (keyed key (1 + worker.val * 2 ^ ROSTER_CMD_W.lo)) = true → s.accepts 8 = true → s.isMgr = true →
    s.eng.boot.cores.getD 2 false = true → s.workers.contains worker.val = true → s.f (ROSTER_W_STAT_STATE worker.val) = 4 →
    completes (.rosterReadmit src key worker) s fun t => t.outcome = .ok ∧ t.eng.rack.readmit = some worker.val ∧
    t.eng.ring.keys.contains worker.val = false ∧ t.b ROSTER_STATUS_READMITTING = true ∧ sameBut [] [pgROSTER] s t) ∧
  (∀ (src : Src) (key : BitVec 16) (worker : Fin 64) (s : State),
    s.takes src ROSTER_CMD (keyed key (1 + worker.val * 2 ^ ROSTER_CMD_W.lo)) = true → s.accepts 8 = true → s.isMgr = true →
    s.eng.boot.cores.getD 2 false = false → s.workers.contains worker.val = true → s.f (ROSTER_W_STAT_STATE worker.val) = 4 →
    completes (.rosterReadmit src key worker) s fun t => t.outcome = .ok ∧ t.eng.rack.readmitWait = some worker.val ∧
    t.eng.rack.readmit = s.eng.rack.readmit ∧ t.eng.ring.keys = s.eng.ring.keys ∧ sameBut [] [pgROSTER] s t) ∧
  (∀ (src : Src) (key : BitVec 16) (worker : Fin 64) (x : Nat × Nat × Nat) (s : State),
    s.takes src ROSTER_CMD (keyed key (2 + worker.val * 2 ^ ROSTER_CMD_W.lo)) = true → s.accepts 8 = true → s.isMgr = true →
    s.eng.boot.cores.getD 2 false = true → s.workers.contains worker.val = true → worker.val ≤ 32 →
    4 ≤ s.f (ROSTER_W_STAT_STATE worker.val) → (s.eng.rack.seen.find? fun x => x.2.2 == worker.val) = some x →
    completes (.rosterAdopt src key worker) s fun t => t.outcome = .ok ∧ t.eng.rack.readmit = some worker.val ∧
    (t.reg (ROSTER_W_UID_LO worker.val)).toNat = x.1 % 2 ^ 32 ∧ (t.reg (ROSTER_W_UID_HI worker.val)).toNat = x.1 / 2 ^ 32 % 2 ^ 32 ∧
    sameBut [] [pgROSTER] s t) ∧
  (∀ (v i : Rat) (s : State), s.isMgr = true → later (s.eng.rack.resNext * 1000) (s.resMs * 1000) = false →
    s.msMean 0 s.resMs = (some v, some i) → (s.f (shadowSrc pgRACK)) = 0 → s.b (shadowFrozen pgRACK) = false →
    completes .rackResult s fun t =>
    t.i RACK_V_MV = clampInt (-2 ^ 31) (2 ^ 31 - 1) (rnd (v * ((375 * s.f AFE_STACK_EXT_ATTEN : Nat) : Rat) / 10000)) ∧
    t.i RACK_I_MA = clampInt (-2 ^ 31) (2 ^ 31 - 1) (rnd (s.rackMa i)) ∧
    (t.reg (hdrEpochLo pgRACK)).toNat = (s.epoch - 1200) / 1000 * 1000 % 2 ^ 32 ∧ t.shd RACK_V = t.reg RACK_V ∧
    t.b (RACK_EVT_RAW_EVENTS.bit 0) = true ∧ keptReg (wakeRegs ++ dropRegs) [pgRACK, pgMODE] s t) ∧
  (∀ (i : Rat) (s : State), s.isMgr = true → later (s.epoch / 1000 * 1000) (s.eng.rack.iNext * 1000) = true →
    s.port 0 = 4 ∨ s.port 1 = 4 → (s.msMean 0 (s.epoch / 1000 - 1)).2 = some i → s.seqFree 0x3F = true →
    completes .rackISend s fun t =>
    t.eng.ring.tx = [.pkt 2 (s.tagged 0x3F ⟨0x3F, s.f RING_SELF_INDEX, 0x31, (countOf s.eng.ring.seqOut 0x3F + 1) % 2 ^ 30,
      [(s.epoch / 1000 - 1) * 1000 * 65536, unsigned 32 (rnd (s.rackMa i))], 0⟩)] ∧ sameBut [] [] s t)

/-- Arc detection, insulation and capture: For every state that meets the stated conditions: a balance block with too few samples is
blind (R402); a qualifying run of N blocks decides an arc, with location, record, message and the action asked for (R404, R405);
CLEAR, RELEARN and ARC_CTRL (R403, R405); the insulation monitor starts, passes to its negative half and publishes the resistance
with its flags (R408, R409); the capture arms with members, slots and stride fixed, triggers, fills its post slots, settles, is held
and released or aborted (R411 to R413). Completing here, by constructor: arcBlockEval, arcCtrlWrite, arcClear, arcRelearn,
isoCtrlWrite, isoHalfEnd, capArm, capForce, capRelease, capAbort, capPostComplete, capSettleEnd. -/
def Obligations.arcIsolationAndCapture : Prop :=
  (∀ (hfe : Nat) (s : State), s.isMgr = true → s.eng.boot.cores.getD 1 false = true →
    later (s.arcBlock * 100) (s.eng.rack.blockNext * 100) = true →
    (s.arcEpochs ((s.epoch - 10 * s.f ARC_CFG_WAIT) / 100 - 1)).filterMap s.arcAt = [] → completes (.arcBlockEval hfe) s fun t =>
    t.f ARC_STATUS_COUNT = 0 ∧ t.f ARC_CNT_BLINDS = satInc ARC_CNT_BLINDS.wd (s.f ARC_CNT_BLINDS) ∧
    t.eng.rack.decided = s.eng.rack.decided ∧ t.b (ARC_EVT_RAW_EVENTS.bit 2) = true ∧
    sameBut (dropRegs ++ wakeRegs) [pgARC, pgMODE] s t) ∧
  (∀ (hfe : Nat) (got : List (Rat × List Rat × Rat)) (s : State), s.isMgr = true → s.eng.boot.cores.getD 1 false = true →
    later (s.arcBlock * 100) (s.eng.rack.blockNext * 100) = true →
    (s.arcEpochs ((s.epoch - 10 * s.f ARC_CFG_WAIT) / 100 - 1)).filterMap s.arcAt = got → got ≠ [] →
    (s.arcEpochs ((s.epoch - 10 * s.f ARC_CFG_WAIT) / 100 - 1)).length ≤ 2 * got.length → hfe < s.f ARC_HF_HF_FLOOR →
    completes (.arcBlockEval hfe) s fun t => t.f ARC_STATUS_COUNT = 0 ∧ t.f ARC_HFE_MA = hfe ∧
    t.f ARC_CNT_CANDIDATES = s.f ARC_CNT_CANDIDATES ∧ t.eng.rack.decided = s.eng.rack.decided ∧ keptReg [] [pgARC] s t) ∧
  (∀ (hfe : Nat) (got : List (Rat × List Rat × Rat)) (s : State), s.isMgr = true → s.eng.boot.cores.getD 1 false = true →
    later (s.arcBlock * 100) (s.eng.rack.blockNext * 100) = true →
    (s.arcEpochs ((s.epoch - 10 * s.f ARC_CFG_WAIT) / 100 - 1)).filterMap s.arcAt = got → got ≠ [] →
    (s.arcEpochs ((s.epoch - 10 * s.f ARC_CFG_WAIT) / 100 - 1)).length ≤ 2 * got.length →
    ((s.f ARC_CFG_VTH : Nat) : Rat) / 10 < ratAbs (ratMean (got.map fun x => x.1) - s.eng.rack.rEnd * ratMean (got.map fun x =>
      x.2.2)) → ((s.f ARC_HF_HF_RATIO : Nat) : Rat) * s.eng.rack.hfb ≤ 4 * ((hfe : Nat) : Rat) → s.f ARC_HF_HF_FLOOR ≤ hfe →
    s.eng.rack.decided = false → s.b ARC_CTRL_EN = true → s.b ARC_STATUS_LEARNED = true → s.fullRate = true → s.anyClosed = true →
    s.f ARC_CFG_N ≤ satInc ARC_STATUS_COUNT.wd (s.f ARC_STATUS_COUNT) → completes (.arcBlockEval hfe) s fun t =>
    t.eng.rack.decided = true ∧ t.b ARC_LAST_VALID = true ∧ t.b ARC_LAST_TRIP = s.b ARC_CTRL_ACT ∧
    t.f ARC_CNT_DECISIONS = satInc ARC_CNT_DECISIONS.wd (s.f ARC_CNT_DECISIONS) ∧ t.f ARC_STATUS_STATE = 5 ∧
    t.b (ARC_EVT_RAW_EVENTS.bit 0) = true ∧ t.b (ARC_EVT_RAW_EVENTS.bit 1) = true) ∧
  (∀ (src : Src) (w : Word) (s : State), s.takes src ARC_CTRL w = true → s.isMgr = true → completes (.arcCtrlWrite src w) s fun t =>
    t.outcome = .ok ∧ t.f ARC_CTRL_EN = ARC_CTRL_EN.of w ∧ t.f ARC_CTRL_ACT = ARC_CTRL_ACT.of w ∧ (s.contClosed = true →
    ARC_CTRL_EN.of w = 1 → t.f MODE_FLOOR_LOCAL = 4) ∧ sameBut ([ARC_CTRL, ARC_STATUS] ++ wakeRegs) [pgMODE] s t) ∧
  (∀ (src : Src) (key : BitVec 16) (s : State), s.takes src ARC_CMD (keyed key 1) = true → completes (.arcClear src key) s fun t =>
    t.eng.rack.decided = false ∧ t.f ARC_STATUS_COUNT = 0 ∧ t.b ARC_STATUS_LEARNED = s.b ARC_STATUS_LEARNED ∧
    sameBut [ARC_STATUS] [] s t) ∧
  (∀ (src : Src) (key : BitVec 16) (s : State), s.takes src ARC_CMD (keyed key 2) = true →
    completes (.arcRelearn src key) s fun t => t.eng.rack.rEnd = 0 ∧ t.eng.rack.rSeg = [] ∧ t.eng.rack.learnt = 0 ∧
    t.b ARC_STATUS_LEARNED = false ∧ t.reg ARC_REND = 0 ∧ (List.range 32).all (fun k => t.reg (ARC_RSEG (k + 1)) == 0) = true ∧
    t.eng.rack.decided = s.eng.rack.decided ∧
    sameBut (ARC_STATUS :: ARC_REND :: (List.range 32).map fun k => ARC_RSEG (k + 1)) [] s t) ∧
  (∀ (src : Src) (w : Word) (s : State), s.takes src ISO_CTRL w = true → s.isMgr = true → 3 ≤ s.mode →
    completes (.isoCtrlWrite src w) s fun t => t.outcome = .ok ∧ t.f ISO_CTRL_EN = ISO_CTRL_EN.of w ∧ (ISO_CTRL_EN.of w = 0 →
    t.f ISO_STATUS_STATE = 0 ∧ t.eng.rack.isoPos = none) ∧ (ISO_CTRL_EN.of w = 1 → s.f ISO_STATUS_STATE = 0 →
    t.f ISO_STATUS_STATE = 1) ∧ sameBut [ISO_CTRL, ISO_STATUS] [] s t) ∧
  (∀ (m80 m90 : Int) (limit : Bool) (s : State), s.isMgr = true → s.eng.rack.isoAt + 100000 * s.f ISO_CFG_T_HALF ≤ s.now →
    s.f ISO_STATUS_STATE = 1 → completes (.isoHalfEnd m80 m90 limit) s fun t => t.f ISO_STATUS_STATE = 2 ∧
    t.eng.rack.isoPos = some (m90, (decide ((m90 - m80).natAbs * 100 ≤ max m80.natAbs m90.natAbs) || decide ((m90 - m80).natAbs ≤
      1000)), limit) ∧ sameBut [ISO_STATUS] [] s t) ∧
  (∀ (m80 m90 : Int) (limit : Bool) (p : Int) (q l : Bool) (s : State), s.isMgr = true →
    s.eng.rack.isoAt + 100000 * s.f ISO_CFG_T_HALF ≤ s.now → s.f ISO_STATUS_STATE = 2 → s.eng.rack.isoPos = some (p, q, l) →
    q = false → completes (.isoHalfEnd m80 m90 limit) s fun t => t.f ISO_STATUS_STATE = 1 ∧ t.eng.rack.isoPos = none ∧
    t.f ISO_CNT_UNSETTLED = satInc ISO_CNT_UNSETTLED.wd (s.f ISO_CNT_UNSETTLED) ∧ t.reg ISO_R = s.reg ISO_R ∧
    t.b (ISO_EVT_RAW_EVENTS.bit 4) = true) ∧
  (∀ (m80 m90 : Int) (limit : Bool) (p : Int) (r : Rat) (s : State), s.isMgr = true →
    s.eng.rack.isoAt + 100000 * s.f ISO_CFG_T_HALF ≤ s.now → s.f ISO_STATUS_STATE = 2 → s.eng.rack.isoPos = some (p, true, false) →
    limit = false → m80 = m90 → p ≠ m90 → 0 < r → r ≤ 50000 →
    r = ((2000 * s.f ISO_NET_INJ_V * s.f ISO_CFG_R_M : Nat) : Rat) / (((p - m90).natAbs : Nat) : Rat) - ((s.f ISO_NET_R_SER : Nat)
      : Rat) → completes (.isoHalfEnd m80 m90 limit) s fun t => t.f ISO_R_KOHM = rndNat r ∧ t.b ISO_STATUS_NETWORK = false ∧
    t.f ISO_CNT_RESULTS = satInc ISO_CNT_RESULTS.wd (s.f ISO_CNT_RESULTS) ∧ t.f ISO_STATUS_STATE = 1 ∧
    (r < ((s.f ISO_THR_WARN : Nat) : Rat) → t.b ISO_STATUS_WARN = true) ∧ (((s.f ISO_THR_WARN : Nat) : Rat) * 11 / 10 ≤ r →
    t.b ISO_STATUS_WARN = false) ∧ t.b (ISO_EVT_RAW_EVENTS.bit 0) = true) ∧
  (∀ (src : Src) (key : BitVec 16) (s : State), s.takes src CAP_CMD (keyed key 1) = true → s.accepts 5 = true → s.isWrk = true →
    completes (.capArm src key) s fun t => t.outcome = .ok ∧ t.capState = 1 ∧ t.b CAP_STATUS_RACK = false ∧ t.f CAP_LAYOUT_N = 1 ∧
    t.f CAP_LAYOUT_L = 4064 ∧ t.eng.cap.members = [s.f RING_SELF_INDEX] ∧ t.eng.cap.post = min (s.f CAP_CFG_POST) 4063 ∧
    t.eng.cap.en = s.f CAP_TRIG_EN ∧ keptReg [] [pgCAP] s t) ∧
  (∀ (src : Src) (key : BitVec 16) (s : State), s.takes src CAP_CMD (keyed key 1) = true → s.accepts 5 = true → s.isMgr = true →
    s.b CAP_CFG_RACK = true → s.b CAP_CFG_MGR = true → completes (.capArm src key) s fun t => t.outcome = .ok ∧ t.capState = 1 ∧
    t.b CAP_STATUS_RACK = true ∧ t.eng.cap.members = 0 :: (s.liveWorkers.filter fun w => bitOf (s.f CAP_MEM_MAP) (w - 1)) ∧
    t.eng.cap.slots = 8192 / t.eng.cap.members.length ∧ t.eng.cap.post = min (s.f CAP_CFG_POST) (t.eng.cap.slots - 1) ∧
    keptReg [] [pgCAP] s t) ∧
  (∀ (src : Src) (key : BitVec 16) (s : State), s.takes src CAP_CMD (keyed key 1) = true → s.accepts 5 = false →
    completes (.capArm src key) s fun t => t.outcome = .refusedState ∧ t.capState = s.capState ∧ t.eng.cap = s.eng.cap ∧
    sameBut wakeRegs [pgMODE] s t) ∧
  (∀ (src : Src) (key : BitVec 16) (s : State), s.takes src CAP_CMD (keyed key 2) = true → s.capState = 1 →
    completes (.capForce src key) s fun t => t.capState = 2 ∧ t.eng.cap.trig = s.epoch / s.eng.cap.stride ∧
    t.f CAP_TRIG_EP_HI_SRC = 0x80 ∧ t.f CAP_TRIG_EP_HI_EPOCH = s.epoch / 2 ^ 32 % 2 ^ 16 ∧ t.b (CAP_EVT_RAW_EVENTS.bit 0) = true ∧
    sameBut wakeRegs [pgCAP, pgMODE] s t) ∧
  (∀ (src : Src) (key : BitVec 16) (s : State), s.takes src CAP_CMD (keyed key 2) = true → 2 ≤ s.capState →
    completes (.capForce src key) s fun t => t.capState = s.capState ∧
    t.f CAP_CNT_MISSED = satInc CAP_CNT_MISSED.wd (s.f CAP_CNT_MISSED) ∧ t.b (CAP_EVT_RAW_EVENTS.bit 2) = true ∧
    sameBut ([CAP_CNT, CAP_EVT_RAW] ++ wakeRegs) [pgMODE] s t) ∧
  (∀ (src : Src) (key : BitVec 16) (s : State), s.takes src CAP_CMD (keyed key 3) = true →
    completes (.capRelease src key) s fun t => t.capState = (if s.capState = 4 then 0 else s.capState) ∧ t.outcome = .ok ∧
    sameBut [CAP_STATUS] [] s t) ∧
  (∀ (src : Src) (key : BitVec 16) (s : State), s.takes src CAP_CMD (keyed key 4) = true → 1 ≤ s.capState → s.capState ≤ 3 →
    completes (.capAbort src key) s fun t => t.capState = 0 ∧ t.b (CAP_EVT_RAW_EVENTS.bit 3) = true ∧
    sameBut ([CAP_STATUS, CAP_EVT_RAW] ++ wakeRegs) [pgMODE] s t) ∧
  (∀ (s : State), s.capState = 2 → later ((s.eng.cap.trig + s.eng.cap.post) * s.eng.cap.stride) s.epoch = false →
    completes .capPostComplete s fun t => t.capState = 3 ∧ t.eng.cap.settleAt = s.epoch ∧ sameBut [CAP_STATUS] [] s t) ∧
  (∀ (s : State), s.capState = 3 → later (s.eng.cap.settleAt + 4200) s.epoch = false → completes .capSettleEnd s fun t =>
    t.capState = 4 ∧ t.f CAP_LAYOUT_OLDEST = (s.eng.cap.trig + s.eng.cap.post + 1) % s.eng.cap.slots % 2 ^ CAP_LAYOUT_OLDEST.wd ∧
    t.f CAP_CNT_CAPTURES = satInc CAP_CNT_CAPTURES.wd (s.f CAP_CNT_CAPTURES) ∧ t.b (CAP_EVT_RAW_EVENTS.bit 1) = true ∧
    sameBut ([CAP_STATUS, CAP_LAYOUT, CAP_CNT, CAP_EVT_RAW] ++ wakeRegs) [pgMODE] s t)

/-- Transactions at the host port: For every state in which the port answers: a READ of one word returns the register's value and
leaves only the status of the last transaction, a READ outside every window or misaligned returns zeros with ADDR_ERR and its
address (R31, R429, R431); a WRITE stores the word, a partial last word ends with PROTOCOL (R429); READ_STATUS returns HOST_LAST and
counts nothing (R430); STREAM_READ returns records and removes those read whole (R437); an unknown opcode ends with PROTOCOL (R428);
a READ in a worker's mirror starts a fetch with PENDING, a READY buffer expires (R433), a descent abandons what has not arrived
(R441); I2C transfers do the same at level OPEN under their own status (R438, R439). Completing here, by constructor: xspiRead,
xspiWrite, xspiReadStatus, xspiStreamRead, xspiBadOpcode, mirrorReadyExpiry, hostDescentWaitEnd, i2cRead, i2cWrite. -/
def Obligations.hostPortTransactions : Prop :=
  (∀ (a : BitVec 32) (n : Nat) (ecc : List Nat) (s : State), s.hostOpen = true → n = 1 → ecc.headD 0 = 0 →
    s.watchShut .xspi a.toNat = false → pageOf a.toNat ∉ [pgSVC, pgRTC, pgICU, pgSEC, pgEPOCH, pgHOST] →
    s.windowOf a.toNat = some .local → a.toNat % 4 = 0 → mapped a.toNat = true → completes (.xspiRead a n ecc) s fun t =>
    t.resp = [s.view pathXspi a.toNat] ∧ t.reg HOST_LAST = BitVec.ofNat 32 (statusWord 0 ((s.eng.host.seq + 1) % 256) 1) ∧
    t.eng.host.seq = (s.eng.host.seq + 1) % 256 ∧ sameBut [HOST_LAST] [] s t) ∧
  (∀ (a : BitVec 32) (n : Nat) (ecc : List Nat) (s : State), s.hostOpen = true → s.windowOf a.toNat = none ∨ a.toNat % 4 ≠ 0 →
    0 < n → completes (.xspiRead a n ecc) s fun t => t.resp = List.replicate n 0 ∧
    t.reg HOST_LAST = BitVec.ofNat 32 (statusWord 1 ((s.eng.host.seq + 1) % 256) n) ∧ t.eng.host.seq = (s.eng.host.seq + 1) % 256 ∧
    t.reg HOST_ERR_ADDR = BitVec.ofNat 32 (a.toNat) ∧ t.f HOST_CNT_ERRS = satInc HOST_CNT_ERRS.wd (s.f HOST_CNT_ERRS) ∧
    t.b (HOST_EVT_RAW_EVENTS.bit 0) = true ∧
    sameBut ([HOST_LAST, HOST_ERR_ADDR, HOST_CNT, HOST_EVT_RAW] ++ wakeRegs) [pgMODE] s t) ∧
  (∀ (a : BitVec 32) (n : Nat) (ecc : List Nat) (s : State), s.hostOpen = true → s.isMgr = true → a.toNat % 4 = 0 →
    0x1040000 ≤ a.toNat → a.toNat < 0x1840000 → s.liveWorkers.contains ((a.toNat - 0x1000000) / 0x40000) = true → s.mirState = 0 →
    s.seqFree ((a.toNat - 0x1000000) / 0x40000) = true → s.port (s.portTo ((a.toNat - 0x1000000) / 0x40000)) = 4 → s.mode ≠ 2 →
    s.weldDown = false → completes (.xspiRead a n ecc) s fun t => t.resp = List.replicate n 0 ∧ t.mirState = 1 ∧
    t.f HOST_MIR_STATUS_WORKER = (a.toNat - 0x1000000) / 0x40000 ∧ t.eng.host.mirAddr = a.toNat ∧ t.eng.ring.tx.length = 1 ∧
    t.eng.epoch.mir.length = s.eng.epoch.mir.length + 1 ∧ t.f HOST_CNT_ERRS = s.f HOST_CNT_ERRS ∧
    t.reg HOST_LAST = BitVec.ofNat 32 (statusWord 8 ((s.eng.host.seq + 1) % 256) n) ∧ t.eng.host.seq = (s.eng.host.seq + 1) % 256 ∧
    sameBut [HOST_LAST, HOST_MIR_STATUS] [] s t) ∧
  (∀ (a : BitVec 32) (n : Nat) (ecc : List Nat) (s : State), s.hostOpen = true → s.isMgr = true → a.toNat % 4 = 0 →
    0x1040000 ≤ a.toNat → a.toNat < 0x1840000 → s.liveWorkers.contains ((a.toNat - 0x1000000) / 0x40000) = true → s.mirState = 0 →
    s.mode = 2 → completes (.xspiRead a n ecc) s fun t => t.resp = List.replicate n 0 ∧ t.mirState = 0 ∧ t.eng.ring.tx = [] ∧
    t.eng.epoch.mir = s.eng.epoch.mir ∧ t.reg HOST_LAST = BitVec.ofNat 32 (statusWord 3 ((s.eng.host.seq + 1) % 256) n) ∧
    t.eng.host.seq = (s.eng.host.seq + 1) % 256) ∧
  (∀ (a : BitVec 32) (words : List Word) (cut : Bool) (w : Word) (s : State), words = [w] → cut = false →
    s.windowOf a.toNat = some .local → a.toNat % 4 = 0 → [pgEST, pgCONT, pgEIS].contains (pageOf a.toNat) = true →
    a.toNat ≠ EIS_VIEW → ((rowAt a.toNat).map fun r => r.acc) = some .rwl → s.takes .xspi a.toNat w = true →
    completes (.xspiWrite a words cut) s fun t => t.reg a.toNat = s.norm a.toNat (s.reg a.toNat) w ∧
    t.reg HOST_LAST = BitVec.ofNat 32 (statusWord 0 ((s.eng.host.seq + 1) % 256) 1) ∧ t.eng.host.seq = (s.eng.host.seq + 1) % 256 ∧
    sameBut [HOST_LAST, a.toNat] [] s t) ∧
  (∀ (a : BitVec 32) (words : List Word) (cut : Bool) (s : State), s.hostOpen = true → words = [] → cut = true →
    s.windowOf a.toNat = some .local → a.toNat % 4 = 0 → completes (.xspiWrite a words cut) s fun t =>
    t.reg HOST_LAST = BitVec.ofNat 32 (statusWord 10 ((s.eng.host.seq + 1) % 256) 0) ∧ t.eng.host.seq = (s.eng.host.seq + 1) % 256 ∧
    t.reg HOST_ERR_ADDR = BitVec.ofNat 32 (a.toNat) ∧ t.f HOST_CNT_ERRS = satInc HOST_CNT_ERRS.wd (s.f HOST_CNT_ERRS) ∧
    t.b (HOST_EVT_RAW_EVENTS.bit 0) = true ∧ t.b (HOST_EVT_RAW_EVENTS.bit 1) = true ∧
    sameBut ([HOST_LAST, HOST_ERR_ADDR, HOST_CNT, HOST_EVT_RAW] ++ wakeRegs) [pgMODE] s t) ∧
  (∀ (a : BitVec 32) (words : List Word) (cut : Bool) (w : Word) (s : State), s.hostOpen = true → words = [w] → cut = false →
    s.windowOf a.toNat = none → completes (.xspiWrite a words cut) s fun t =>
    t.reg HOST_LAST = BitVec.ofNat 32 (statusWord 1 ((s.eng.host.seq + 1) % 256) 1) ∧ t.eng.host.seq = (s.eng.host.seq + 1) % 256 ∧
    t.reg HOST_ERR_ADDR = BitVec.ofNat 32 (a.toNat) ∧ t.f HOST_CNT_ERRS = satInc HOST_CNT_ERRS.wd (s.f HOST_CNT_ERRS) ∧
    t.b (HOST_EVT_RAW_EVENTS.bit 0) = true ∧
    sameBut ([HOST_LAST, HOST_ERR_ADDR, HOST_CNT, HOST_EVT_RAW] ++ wakeRegs) [pgMODE] s t) ∧
  (∀ (n : Nat) (s : State), s.hostOpen = true → completes (.xspiReadStatus n) s fun t =>
    t.resp = List.replicate n (s.reg HOST_LAST) ∧ t.eng.host.seq = s.eng.host.seq ∧ sameBut [] [] s t) ∧
  (∀ (n : Nat) (s : State), s.hostOpen = true → completes (.xspiStreamRead n) s fun t =>
    t.resp = ((s.eng.host.fifo.flatMap expRecord ++ List.replicate n 0).take n).map (BitVec.ofNat 32) ∧
    t.eng.host.fifo = s.eng.host.fifo.drop (min (n / 20) s.eng.host.fifo.length) ∧
    t.f HOST_EXP_CNT_EXPORTED = (s.f HOST_EXP_CNT_EXPORTED + min (n / 20) s.eng.host.fifo.length) % 65536 ∧
    t.reg HOST_LAST = BitVec.ofNat 32 (statusWord 0 ((s.eng.host.seq + 1) % 256) n) ∧ t.eng.host.seq = (s.eng.host.seq + 1) % 256 ∧
    sameBut [HOST_LAST, HOST_EXP_CNT, HOST_EXP_STATUS] [] s t) ∧
  (∀ (s : State), s.hostOpen = true → completes .xspiBadOpcode s fun t =>
    t.reg HOST_LAST = BitVec.ofNat 32 (statusWord 10 ((s.eng.host.seq + 1) % 256) 0) ∧ t.eng.host.seq = (s.eng.host.seq + 1) % 256 ∧
    t.f HOST_CNT_ERRS = satInc HOST_CNT_ERRS.wd (s.f HOST_CNT_ERRS) ∧ t.b (HOST_EVT_RAW_EVENTS.bit 0) = true ∧
    t.b (HOST_EVT_RAW_EVENTS.bit 1) = true ∧
    sameBut ([HOST_LAST, HOST_ERR_ADDR, HOST_CNT, HOST_EVT_RAW] ++ wakeRegs) [pgMODE] s t) ∧
  (∀ (s : State), s.mirState = 2 → s.eng.host.mirAt + 10000 ≤ s.now → completes .mirrorReadyExpiry s fun t => t.mirState = 0 ∧
    t.f HOST_CNT_MIR_EXPIRED = satInc HOST_CNT_MIR_EXPIRED.wd (s.f HOST_CNT_MIR_EXPIRED) ∧
    sameBut [HOST_MIR_STATUS, HOST_CNT] [] s t) ∧
  (∀ (a : BitVec 32) (words : List Word) (w : Word) (s : State), s.b MODE_STATUS_DESCENDING = true → s.f MODE_STATUS_ENTERING ≤ 1 →
    words = [w] → s.windowOf a.toNat = some .local → a.toNat % 4 = 0 → [pgEST, pgCONT, pgEIS].contains (pageOf a.toNat) = true →
    a.toNat ≠ EIS_VIEW → ((rowAt a.toNat).map fun r => r.acc) = some .rwl → s.takes .xspi a.toNat w = true →
    completes (.hostDescentWaitEnd a words) s fun t => t.reg a.toNat = s.norm a.toNat (s.reg a.toNat) w ∧
    t.eng.host.seq = s.eng.host.seq ∧ sameBut [a.toNat] [] s t) ∧
  (∀ (dev : BitVec 7) (a : BitVec 32) (n : Nat) (ecc : List Nat) (s : State), s.served .i2c = true →
    dev.toNat = 0x3A + s.f HOST_STATUS_I2C_A0 → n = 1 → ecc.headD 0 = 0 → s.watchShut .i2c a.toNat = false →
    pageOf a.toNat ∉ [pgSVC, pgRTC, pgICU, pgSEC, pgEPOCH, pgHOST] → s.windowOf a.toNat = some .local → a.toNat % 4 = 0 →
    mapped a.toNat = true → completes (.i2cRead dev a n ecc) s fun t => t.resp = [s.view pathI2c a.toNat] ∧
    t.reg HOST_I2C_LAST = BitVec.ofNat 32 (statusWord 0 ((s.eng.host.i2cSeq + 1) % 256) 1) ∧
    t.eng.host.i2cSeq = (s.eng.host.i2cSeq + 1) % 256 ∧ t.eng.host.seq = s.eng.host.seq ∧ sameBut [HOST_I2C_LAST] [] s t) ∧
  (∀ (dev : BitVec 7) (a : BitVec 32) (n : Nat) (ecc : List Nat) (s : State), s.served .i2c = true →
    dev.toNat = 0x3A + s.f HOST_STATUS_I2C_A0 → s.windowOf a.toNat = none ∨ a.toNat % 4 ≠ 0 → 0 < n →
    completes (.i2cRead dev a n ecc) s fun t => t.resp = List.replicate n 0 ∧
    t.reg HOST_I2C_LAST = BitVec.ofNat 32 (statusWord 1 ((s.eng.host.i2cSeq + 1) % 256) n) ∧
    t.eng.host.i2cSeq = (s.eng.host.i2cSeq + 1) % 256 ∧ t.eng.host.seq = s.eng.host.seq ∧
    t.f HOST_CNT_I2C_ERRS = satInc HOST_CNT_I2C_ERRS.wd (s.f HOST_CNT_I2C_ERRS) ∧ t.b (HOST_EVT_RAW_EVENTS.bit 7) = true) ∧
  (∀ (dev : BitVec 7) (a : BitVec 32) (words : List Word) (cut : Bool) (w : Word) (s : State), s.served .i2c = true →
    dev.toNat = 0x3A + s.f HOST_STATUS_I2C_A0 → words = [w] → cut = false → s.windowOf a.toNat = some .local → a.toNat % 4 = 0 →
    [pgEST, pgCONT, pgEIS].contains (pageOf a.toNat) = true → a.toNat ≠ EIS_VIEW →
    ((rowAt a.toNat).map fun r => r.acc) = some .rwl → s.takes .i2c a.toNat w = true →
    completes (.i2cWrite dev a words cut) s fun t => t.reg a.toNat = s.norm a.toNat (s.reg a.toNat) w ∧
    t.reg HOST_I2C_LAST = BitVec.ofNat 32 (statusWord 0 ((s.eng.host.i2cSeq + 1) % 256) 1) ∧
    t.eng.host.i2cSeq = (s.eng.host.i2cSeq + 1) % 256 ∧ t.eng.host.seq = s.eng.host.seq ∧ sameBut [HOST_I2C_LAST, a.toNat] [] s t) ∧
  (∀ (dev : BitVec 7) (a : BitVec 32) (words : List Word) (cut : Bool) (s : State), dev.toNat ≠ 0x3A + s.f HOST_STATUS_I2C_A0 →
    completes (.i2cWrite dev a words cut) s fun t => t.eng.host.i2cSeq = s.eng.host.i2cSeq ∧ t.resp = s.resp ∧ sameBut [] [] s t)

/-- Stream export and the GPIO balls: For every state that meets the stated conditions: START is accepted in the modes of R88 and
sets EXP_ON, STOP clears it and FLUSH empties the FIFO (R435, R436); GPIO_OUT, SET and CLR change the bits that no slot owns and
keep the owned ones (R444, R446, R447); GPIO_CFG takes state, drive, filter and edges, an owned ball keeping state and drive; a
level that has been stable changes GPIO_IN and sets its edge event where the edge is enabled (R445, R448). Completing here, by
constructor: expStart, expStop, expFlush, gpioOutWrite, gpioOutSet, gpioOutClr, gpioCfgWrite, gpioLevelChange. -/
def Obligations.exportAndPins : Prop :=
  (∀ (src : Src) (key : BitVec 16) (s : State), s.takes src HOST_EXP_CMD (keyed key 1) = true → s.accepts 5 = true →
    completes (.expStart src key) s fun t => t.outcome = .ok ∧ t.b HOST_STATUS_EXP_ON = true ∧ t.eng.host = s.eng.host ∧
    sameBut [HOST_STATUS] [] s t) ∧
  (∀ (src : Src) (key : BitVec 16) (s : State), s.takes src HOST_EXP_CMD (keyed key 1) = true → s.accepts 5 = false →
    completes (.expStart src key) s fun t => t.outcome = .refusedState ∧ t.b HOST_STATUS_EXP_ON = s.b HOST_STATUS_EXP_ON ∧
    sameBut wakeRegs [pgMODE] s t) ∧
  (∀ (src : Src) (key : BitVec 16) (s : State), s.takes src HOST_EXP_CMD (keyed key 2) = true →
    completes (.expStop src key) s fun t => t.outcome = .ok ∧ t.b HOST_STATUS_EXP_ON = false ∧ t.eng.host = s.eng.host ∧
    sameBut [HOST_STATUS] [] s t) ∧
  (∀ (src : Src) (key : BitVec 16) (s : State), s.takes src HOST_EXP_CMD (keyed key 3) = true →
    completes (.expFlush src key) s fun t => t.outcome = .ok ∧ t.eng.host.fifo = [] ∧ t.f HOST_EXP_STATUS_LEVEL = 0 ∧
    t.b HOST_STATUS_EXP_ON = s.b HOST_STATUS_EXP_ON ∧ sameBut [HOST_EXP_STATUS] [] s t) ∧
  (∀ (src : Src) (w : Word) (s : State), s.takes src GPIO_OUT w = true → completes (.gpioOutWrite src w) s fun t =>
    t.outcome = .ok ∧
    (List.range 16).all (fun k => bitOf (t.f GPIO_OUT_VALUE) k == (if bitOf s.gpioOwner k then bitOf (s.f GPIO_OUT_VALUE) k else
      bitOf w.toNat k)) = true ∧ sameBut [GPIO_OUT] [] s t) ∧
  (∀ (src : Src) (w : Word) (s : State), s.takes src GPIO_OUT_SET w = true → completes (.gpioOutSet src w) s fun t =>
    t.outcome = .ok ∧
    (List.range 16).all (fun k => bitOf (t.f GPIO_OUT_VALUE) k == (if bitOf s.gpioOwner k then bitOf (s.f GPIO_OUT_VALUE) k else
      (bitOf (s.f GPIO_OUT_VALUE) k || bitOf w.toNat k))) = true ∧ sameBut [GPIO_OUT] [] s t) ∧
  (∀ (src : Src) (w : Word) (s : State), s.takes src GPIO_OUT_CLR w = true → completes (.gpioOutClr src w) s fun t =>
    t.outcome = .ok ∧
    (List.range 16).all (fun k => bitOf (t.f GPIO_OUT_VALUE) k == (if bitOf s.gpioOwner k then bitOf (s.f GPIO_OUT_VALUE) k else
      (bitOf (s.f GPIO_OUT_VALUE) k && !bitOf w.toNat k))) = true ∧ sameBut [GPIO_OUT] [] s t) ∧
  (∀ (src : Src) (n : Fin 16) (w : Word) (s : State), s.takes src (GPIO_CFG n.val) w = true → bitOf s.gpioOwner n.val = false →
    completes (.gpioCfgWrite src n w) s fun t => t.outcome = .ok ∧ t.f (GPIO_CFG_DEB n.val) = min 5 ((GPIO_CFG_DEB n.val).of w) ∧
    t.f (GPIO_CFG_EDGE n.val) = (GPIO_CFG_EDGE n.val).of w ∧ t.f (GPIO_CFG_OD n.val) = (GPIO_CFG_OD n.val).of w ∧
    t.f (GPIO_CFG_STATE n.val) = (GPIO_CFG_STATE n.val).of w ∧ sameBut [GPIO_CFG n.val] [] s t) ∧
  (∀ (src : Src) (n : Fin 16) (w : Word) (s : State), s.takes src (GPIO_CFG n.val) w = true → bitOf s.gpioOwner n.val = true →
    completes (.gpioCfgWrite src n w) s fun t => t.outcome = .ok ∧ t.f (GPIO_CFG_DEB n.val) = min 5 ((GPIO_CFG_DEB n.val).of w) ∧
    t.f (GPIO_CFG_EDGE n.val) = (GPIO_CFG_EDGE n.val).of w ∧ t.f (GPIO_CFG_OD n.val) = s.f (GPIO_CFG_OD n.val) ∧
    t.f (GPIO_CFG_STATE n.val) = s.f (GPIO_CFG_STATE n.val) ∧ sameBut [GPIO_CFG n.val] [] s t) ∧
  (∀ (n : Fin 16) (high : Bool) (s : State), bitOf s.balls.gpio n.val ≠ high → s.mode ≠ 0 → s.f (GPIO_CFG_EDGE n.val) = 3 →
    completes (.gpioLevelChange n high) s fun t => bitOf t.balls.gpio n.val = high ∧ t.b (GPIO_EVT_RAW_EDGE.bit n.val) = true ∧
    sameBut (GPIO_EVT_RAW :: wakeRegs) [pgMODE] s t) ∧
  (∀ (n : Fin 16) (high : Bool) (s : State), bitOf s.balls.gpio n.val ≠ high → s.f (GPIO_CFG_EDGE n.val) = 0 →
    completes (.gpioLevelChange n high) s fun t => bitOf t.balls.gpio n.val = high ∧ sameBut [] [] s t)

/-- Delivery, claim and completion of interrupts: For every state that meets the stated conditions: an asserted line with a mask is
delivered to the target that the routing chooses, pending and counted (R457), and one that fell is withdrawn (R458); CLAIM returns
the presentable line with its priority and pushes it, 0 where there is none, and sets OVERFLOW at depth 8 (R455, R456); DONE pops
the top line or sets DONE_ERR (R456); the software lines, a line's masks and priorities and the moderation gate take what is written
or has elapsed (R453, R458, R459), and routing leaves START_UP (R457). Completing here, by constructor: icuLineDeliver,
icuLineWithdraw, icuClaim, icuDone, icuSwiWrite, icuLineWrite, icuModTimeout, icuStartupRoutingEnd. -/
def Obligations.interruptController : Prop :=
  (∀ (line : Fin 256) (u : Nat) (s : State), s.lineOn line.val = true → s.lineMask line.val ≠ 0 → s.inService line.val = false →
    (s.eng.icu.pend.any fun x => x.1 == line.val) = false → s.icuTarget line.val = some u →
    completes (.icuLineDeliver line) s fun t => t.eng.icu.pend = s.eng.icu.pend ++ [(line.val, u)] ∧
    t.f (ICU_T_CNT_DELIVERED u) = satInc (ICU_T_CNT_DELIVERED u).wd (s.f (ICU_T_CNT_DELIVERED u)) ∧
    t.eng.icu.claims = s.eng.icu.claims ∧ keptReg [HOST_STATUS] [pgICU] s t ∧ keptStg [] s t ∧ keptShd [] s t) ∧
  (∀ (line : Fin 256) (u : Nat) (s : State), s.eng.icu.pend = [(line.val, u)] → s.lineOn line.val = false →
    completes (.icuLineWithdraw line) s fun t => t.eng.icu.pend = [] ∧ t.eng.icu.claims = s.eng.icu.claims ∧
    keptReg [HOST_STATUS] [pgICU] s t ∧ keptStg [] s t ∧ keptShd [] s t) ∧
  (∀ (src : Src) (tg : Fin 5) (l : Nat) (s : State), src = .core → tg.val < 3 → s.presentable tg.val = some l →
    (s.stack tg.val).length < 8 → s.eng.icu.claims.length = 5 → l < 256 → completes (.icuClaim src tg) s fun t =>
    t.resp = [BitVec.ofNat 32 (2 ^ 31 + s.linePrio l tg.val * 65536 + l)] ∧
    t.stack tg.val = (l, s.linePrio l tg.val) :: s.stack tg.val ∧ (t.eng.icu.pend.any fun x => x.1 == l) = false ∧
    t.f (ICU_T_CNT_CLAIMS tg.val) = satInc (ICU_T_CNT_CLAIMS tg.val).wd (s.f (ICU_T_CNT_CLAIMS tg.val)) ∧
    keptReg [HOST_STATUS] [pgICU] s t ∧ keptStg [] s t ∧ keptShd [] s t) ∧
  (∀ (src : Src) (tg : Fin 5) (s : State), src = .core → tg.val < 3 → s.presentable tg.val = none →
    completes (.icuClaim src tg) s fun t => t.resp = [0#32] ∧ t.eng.icu = s.eng.icu ∧ sameBut [] [] s t) ∧
  (∀ (src : Src) (tg : Fin 5) (l : Nat) (s : State), src = .core → tg.val < 3 → s.presentable tg.val = some l →
    8 ≤ (s.stack tg.val).length → completes (.icuClaim src tg) s fun t => t.resp = [0#32] ∧ t.eng.icu = s.eng.icu ∧
    t.b (ICU_EVT_RAW_EVENTS.bit 1) = true ∧ sameBut (ICU_EVT_RAW :: wakeRegs) [pgMODE] s t) ∧
  (∀ (src : Src) (tg : Fin 5) (line : BitVec 8) (q : Nat) (r : List (Nat × Nat)) (s : State),
    s.takes src (ICU_T_DONE tg.val) (line.zeroExtend 32) = true → src = .core → tg.val < 3 → s.stack tg.val = (line.toNat, q) :: r →
    s.eng.icu.claims.length = 5 → s.lineOn line.toNat = false → completes (.icuDone src tg line) s fun t => t.stack tg.val = r ∧
    t.eng.icu.pend = s.eng.icu.pend ∧ keptReg [HOST_STATUS] [pgICU] s t ∧ keptStg [] s t ∧ keptShd [] s t) ∧
  (∀ (src : Src) (tg : Fin 5) (line : BitVec 8) (s : State), s.takes src (ICU_T_DONE tg.val) (line.zeroExtend 32) = true →
    src = .core → tg.val < 3 → (s.stack tg.val).head?.all (fun x => x.1 != line.toNat) = true →
    completes (.icuDone src tg line) s fun t => t.b (ICU_EVT_RAW_EVENTS.bit 0) = true ∧ t.eng.icu = s.eng.icu ∧
    sameBut (ICU_EVT_RAW :: wakeRegs) [pgMODE] s t) ∧
  (∀ (src : Src) (w : Word) (s : State), s.takes src ICU_SWI w = true → completes (.icuSwiWrite src w) s fun t =>
    t.f ICU_SWI_SW = ICU_SWI_SW.of w ∧ t.outcome = .ok ∧ t.eng.icu.claims = s.eng.icu.claims ∧ keptReg [HOST_STATUS] [pgICU] s t ∧
    keptStg [] s t ∧ keptShd [] s t) ∧
  (∀ (src : Src) (line : Fin 256) (w : Word) (s : State), s.takes src (ICU_LINE line.val) w = true → src = .core →
    completes (.icuLineWrite src line w) s fun t => t.f (ICU_LINE_CPRIO line.val) = (ICU_LINE_CPRIO line.val).of w ∧
    t.f (ICU_LINE_CMASK line.val) = (ICU_LINE_CMASK line.val).of w ∧ t.f (ICU_LINE_HPRIO line.val) = s.f (ICU_LINE_HPRIO line.val) ∧
    t.f (ICU_LINE_HMASK line.val) = s.f (ICU_LINE_HMASK line.val) ∧ keptReg [HOST_STATUS] [pgICU] s t ∧ keptStg [] s t ∧
    keptShd [] s t) ∧
  (∀ (src : Src) (line : Fin 256) (w : Word) (s : State), s.takes src (ICU_LINE line.val) w = true → src ≠ .core →
    completes (.icuLineWrite src line w) s fun t => t.f (ICU_LINE_HPRIO line.val) = (ICU_LINE_HPRIO line.val).of w ∧
    t.f (ICU_LINE_HMASK line.val) = (ICU_LINE_HMASK line.val).of w ∧ t.f (ICU_LINE_CPRIO line.val) = s.f (ICU_LINE_CPRIO line.val) ∧
    t.f (ICU_LINE_CMASK line.val) = s.f (ICU_LINE_CMASK line.val) ∧ keptReg [HOST_STATUS] [pgICU] s t ∧ keptStg [] s t ∧
    keptShd [] s t) ∧
  (∀ (tg : Fin 5) (s : State), s.gateDue tg.val = true → s.eng.icu.gate.length = 5 → s.eng.icu.shown.getD tg.val false = false →
    completes (.icuModTimeout tg) s fun t => t.b (ICU_T_PEND_GATE tg.val) = true ∧ t.eng.icu.gate.getD tg.val false = true ∧
    t.eng.icu.pend = s.eng.icu.pend ∧ keptReg [HOST_STATUS] [pgICU] s t ∧ keptStg [] s t ∧ keptShd [] s t) ∧
  (∀ (s : State), s.startUpOver = true → completes .icuStartupRoutingEnd s fun t => t.eng.icu.startUp = false ∧ (s.mode ≠ 6 →
    s.mode ≠ 7 → s.b KEEP_STATUS_IN_CONTROL = false → t.f ICU_STATUS_ROUTE = 0) ∧ t.eng.icu.pend = s.eng.icu.pend ∧
    keptReg [HOST_STATUS] [pgICU] s t ∧ keptStg [] s t ∧ keptShd [] s t)

/-- Fault messages, their classes, SAFEHOLD and release: For every state that meets the stated conditions: the collector takes the
next held message, classifies it, raised once where its count reaches N (R466, R467), records it in LAST, the log and the counters
(R468), sets its severity pending (R471), and a SEVERE one enters SAFEHOLD, whose hold it shows, and opens the contactors (R470);
the quiet period's end and RELEASE leave SAFEHOLD for ATTEND, RELEASE reports HELD or KEEPER otherwise (R472, R473); CLEAR_REC, the
pending bits and the first record clear as R468, R471 and R472 say; an injected message is held marked INJ, in FACTORY only (R475).
Completing here, by constructor: faultMessage, quietPeriodEnd, fltRelease, fltClearRec, fltPendClear, fltFirstClear, fltInject. -/
def Obligations.faultCollector : Prop :=
  (∀ (m : Msg) (s : State), s.released = true → s.fltNext = some m → (s.fltClass m + b2n (s.fltCount m).1) ≤ 3 →
    1 ≤ (s.fltClass m + b2n (s.fltCount m).1) → s.heldBy pgREC < 4 → completes .faultMessage s fun t =>
    t.reg FLT_LAST = BitVec.ofNat 32 m.word ∧ t.reg (FLT_LOG (s.f FLT_LOG_PTR_NEXT)) = BitVec.ofNat 32 m.word ∧
    t.f FLT_LOG_PTR_NEXT = (s.f FLT_LOG_PTR_NEXT + 1) % 16 ∧ t.b FLT_FIRST_INFO_VALID = true ∧ t.eng.flt.evaluated = true ∧
    t.b (FLT_PEND_SEV.bit ((s.fltClass m + b2n (s.fltCount m).1) - 1)) = true ∧ t.mode = s.mode ∧
    t.f FLT_LAST_INFO_SEV = (s.fltClass m + b2n (s.fltCount m).1) ∧ t.b FLT_LAST_INFO_ESC = (s.fltCount m).1 ∧ (s.recWaiting < 8 →
    t.eng.flt.held = s.eng.flt.held.erase m) ∧ sameBut wakeRegs [pgFLT, pgREC, pgMODE] s t) ∧
  (∀ (m : Msg) (s : State), s.released = true → s.fltNext = some m → (s.fltClass m + b2n (s.fltCount m).1) = 4 →
    s.mode = 3 ∨ s.mode = 4 → completes .faultMessage s fun t => t.reg FLT_LAST = BitVec.ofNat 32 m.word ∧
    t.reg (FLT_LOG (s.f FLT_LOG_PTR_NEXT)) = BitVec.ofNat 32 m.word ∧ t.f FLT_LOG_PTR_NEXT = (s.f FLT_LOG_PTR_NEXT + 1) % 16 ∧
    t.b FLT_FIRST_INFO_VALID = true ∧ t.eng.flt.evaluated = true ∧
    t.b (FLT_PEND_SEV.bit ((s.fltClass m + b2n (s.fltCount m).1) - 1)) = true ∧ t.mode = 6 ∧ t.f MODE_CUR_PREV = s.mode ∧
    t.b FLT_STATUS_HOLDING = true ∧ t.f FLT_STATUS_HIGH = 4 ∧ t.f MODE_LAST_TRANS_CAUSE = 4 ∧ t.f FLT_LAST_INFO_SEV = 4) ∧
  (∀ (s : State), s.released = true → s.fltNext = none → completes .faultMessage s fun t => t.eng.flt.evaluated = true ∧
    sameBut [] [] s t) ∧
  (∀ (s : State), s.mode = 6 → s.fltMayQuiet = true → s.quietOver = true → s.fltGrave = false → completes .quietPeriodEnd s fun t =>
    t.mode = 3 ∧ t.f MODE_CUR_PREV = 6 ∧ t.b FLT_STATUS_HOLDING = false ∧
    t.f MODE_REQ_TARGET = (if s.f MODE_REQ_TARGET = 6 then 15 else s.f MODE_REQ_TARGET) ∧ t.f MODE_LAST_TRANS_CAUSE = 5 ∧
    t.b (FLT_EVT_RAW_EVENTS.bit 6) = true ∧ t.f FLT_CNT_RECOVERIES = satInc FLT_CNT_RECOVERIES.wd (s.f FLT_CNT_RECOVERIES)) ∧
  (∀ (src : Src) (key : BitVec 16) (s : State), s.takes src FLT_CMD (keyed key 1) = true → s.accepts 9 = true → s.mode = 6 →
    s.fltHold % 64 = 0 → s.fltGrave = false → completes (.fltRelease src key) s fun t => t.mode = 3 ∧ t.f MODE_CUR_PREV = 6 ∧
    t.b FLT_STATUS_HOLDING = false ∧ t.f MODE_REQ_TARGET = (if s.f MODE_REQ_TARGET = 6 then 15 else s.f MODE_REQ_TARGET) ∧
    t.f MODE_LAST_TRANS_CAUSE = 5 ∧ t.b (FLT_EVT_RAW_EVENTS.bit 6) = true ∧ t.outcome = .ok ∧ t.f FLT_STATUS_REL_RESULT = 1 ∧
    t.f FLT_CNT_RELEASES = satInc FLT_CNT_RELEASES.wd (s.f FLT_CNT_RELEASES)) ∧
  (∀ (src : Src) (key : BitVec 16) (s : State), s.takes src FLT_CMD (keyed key 1) = true → s.accepts 9 = true → s.mode = 6 →
    s.fltHold % 32 ≠ 0 → completes (.fltRelease src key) s fun t => t.f FLT_STATUS_REL_RESULT = 2 ∧ t.mode = 6 ∧
    sameBut [FLT_STATUS] [] s t) ∧
  (∀ (src : Src) (key : BitVec 16) (s : State), s.takes src FLT_CMD (keyed key 1) = true → s.accepts 9 = true → s.mode = 6 →
    s.fltHold % 64 = 32 → s.fltGrave = false → completes (.fltRelease src key) s fun t => t.f FLT_STATUS_REL_RESULT = 3 ∧
    t.mode = 6 ∧ sameBut [FLT_STATUS] [] s t) ∧
  (∀ (src : Src) (key : BitVec 16) (s : State), s.takes src FLT_CMD (keyed key 2) = true →
    completes (.fltClearRec src key) s fun t => t.f FLT_CNT_RECOVERIES = 0 ∧ t.b FLT_STATUS_AUTO_OFF = false ∧ t.mode = s.mode ∧
    sameBut [FLT_CNT, FLT_STATUS] [] s t) ∧
  (∀ (src : Src) (w : Word) (s : State), s.takes src FLT_PEND w = true → completes (.fltPendClear src w) s fun t =>
    (List.range 4).all (fun k => bitOf (t.f FLT_PEND_SEV) k == (bitOf (s.f FLT_PEND_SEV) k && (!bitOf w.toNat k || (k == 3 && s.b
      FLT_STATUS_HOLDING)))) = true ∧ sameBut [FLT_PEND, FLT_STATUS] [] s t) ∧
  (∀ (src : Src) (w : Word) (s : State), s.takes src FLT_FIRST_INFO w = true → FLT_FIRST_INFO_VALID.of w = 1 →
    completes (.fltFirstClear src w) s fun t => t.b FLT_FIRST_INFO_VALID = false ∧ t.b FLT_FIRST_INFO_OVERFLOW = false ∧
    sameBut [FLT_FIRST_INFO] [] s t) ∧
  (∀ (src : Src) (w : Word) (s : State), s.takes src FLT_INJ w = true → s.mode = 7 → s.heldBy (getBits w 24 8) < 4 →
    completes (.fltInject src w) s fun t =>
    t.eng.flt.held = s.eng.flt.held ++ [⟨getBits w 24 8, getBits w 18 6, getBits w 12 6, getBits w 0 12, true⟩] ∧ t.outcome = .ok ∧
    sameBut [] [] s t) ∧
  (∀ (src : Src) (w : Word) (s : State), s.takes src FLT_INJ w = true → s.mode ≠ 7 → completes (.fltInject src w) s fun t =>
    t.outcome = .refusedState ∧ t.eng.flt.held = s.eng.flt.held ∧ sameBut wakeRegs [pgMODE] s t)

/-- The watchdogs and the task monitor: For every state that meets the stated conditions: a service write waits for its
synchronisation, at most two at a time (R482); key A arms, key B after it within 8 ticks services inside the window, and anything
else is a violation with its evidence (R481, R483, R486); expiry, a stopped clock and a disarm do what R480, R483 and R484 say; the
host configures watchdog 3 (R485); a check-in counts, and the period's end reports what is missing or in excess and starts the
counts again (R487, R488). Completing here, by constructor: wdgServiceWrite, wdgKeyArrival, wdgArmExpiry, wdgExpiry, wdgClkStop,
wdgCfgWrite, tmCheckin, tmPeriodEnd. -/
def Obligations.watchdogsAndTaskMonitor : Prop :=
  (∀ (src : Src) (n : Fin 4) (w : Word) (s : State), s.takes src (WDG_SVC n.val) w = true → src ≠ .core ↔ n = 3 →
    (s.eng.wdg.sync.filter fun x => x.n == n.val).length < 2 → completes (.wdgServiceWrite src n w) s fun t =>
    t.eng.wdg.sync = s.eng.wdg.sync ++ [⟨n.val, w.toNat, s.now⟩] ∧ t.outcome = .ok ∧ sameBut [] [] s t) ∧
  (∀ (n : Fin 4) (t0 : Nat) (s : State), s.eng.wdg.sync = [⟨n.val, 0xA5C3, t0⟩] → 2 ≤ s.wdgSince n.val t0 → s.wdgRuns n.val = true →
    s.b WDG_STATUS_COMPAT = false → s.wdgCnt n.val < s.wdgPeriod n.val → completes (.wdgKeyArrival n) s fun t =>
    t.b (WDG_STATUS_ARMED.bit n.val) = true ∧ t.eng.wdg.sync = [] ∧ t.eng.wdg.armed = s.eng.wdg.armed.set n.val (s.wdgCnt n.val) ∧
    sameBut [WDG_STATUS] [] s t) ∧
  (∀ (n : Fin 4) (t0 : Nat) (s : State), s.eng.wdg.sync = [⟨n.val, 0x3C5A, t0⟩] → 2 ≤ s.wdgSince n.val t0 → s.wdgRuns n.val = true →
    s.b WDG_STATUS_COMPAT = false → s.wdgCnt n.val < s.wdgPeriod n.val → s.b (WDG_STATUS_ARMED.bit n.val) = true →
    s.wdgCnt n.val ≤ s.eng.wdg.armed.getD n.val 0 + 8 → s.wdgOpen n.val ≤ s.wdgCnt n.val → completes (.wdgKeyArrival n) s fun t =>
    t.b (WDG_STATUS_ARMED.bit n.val) = false ∧ t.f (WDG_CNT_COUNT n.val) = 0 ∧
    t.f (WDG_STAT_SERVICES n.val) = satInc (WDG_STAT_SERVICES n.val).wd (s.f (WDG_STAT_SERVICES n.val)) ∧
    t.f (WDG_STAT_EVENTS n.val) = s.f (WDG_STAT_EVENTS n.val) ∧ t.eng.wdg.sync = [] ∧
    sameBut [WDG_STATUS, WDG_CNT n.val, WDG_STAT n.val] [] s t) ∧
  (∀ (n : Fin 4) (t0 : Nat) (s : State), s.eng.wdg.sync = [⟨n.val, 0x3C5A, t0⟩] → 2 ≤ s.wdgSince n.val t0 → s.wdgRuns n.val = true →
    s.b WDG_STATUS_COMPAT = false → s.wdgCnt n.val < s.wdgPeriod n.val → s.b (WDG_STATUS_ARMED.bit n.val) = false →
    s.f (WDG_CFG_ACT n.val) = 0 → completes (.wdgKeyArrival n) s fun t =>
    t.reg (WDG_EVID n.val) = BitVec.ofNat 32 (2 ^ 31 + 3 * 2 ^ 28 + s.wdgCnt n.val % 2 ^ 24) ∧
    t.reg (WDG_EVID_VAL n.val) = BitVec.ofNat 32 (0) ∧ (t.reg (WDG_EVID_EP n.val)).toNat = s.epoch % 2 ^ 32 ∧
    t.f (WDG_STAT_EVENTS n.val) = satInc (WDG_STAT_EVENTS n.val).wd (s.f (WDG_STAT_EVENTS n.val)) ∧
    t.b (WDG_EVT_RAW_EVENTS.bit n.val) = true ∧ t.b (WDG_STATUS_ARMED.bit n.val) = false ∧ (s.heldBy pgWDG < 4 →
    t.eng.flt.held = s.eng.flt.held ++ [⟨pgWDG, n.val, 3, s.wdgCnt n.val % 4096, false⟩]) ∧
    sameBut ([WDG_STATUS, WDG_CNT n.val, WDG_STAT n.val, WDG_EVID n.val, WDG_EVID_EP n.val, WDG_EVID_VAL n.val, WDG_EVT_RAW] ++
      dropRegs ++ wakeRegs) [pgMODE] s t) ∧
  (∀ (n : Fin 4) (v t0 : Nat) (s : State), s.eng.wdg.sync = [⟨n.val, v, t0⟩] → 2 ≤ s.wdgSince n.val t0 → s.wdgRuns n.val = true →
    s.b WDG_STATUS_COMPAT = false → s.wdgCnt n.val < s.wdgPeriod n.val → v ≠ 0xA5C3 → v ≠ 0x3C5A → s.f (WDG_CFG_ACT n.val) = 0 →
    completes (.wdgKeyArrival n) s fun t =>
    t.reg (WDG_EVID n.val) = BitVec.ofNat 32 (2 ^ 31 + 2 * 2 ^ 28 + s.wdgCnt n.val % 2 ^ 24) ∧
    t.reg (WDG_EVID_VAL n.val) = BitVec.ofNat 32 (v) ∧ (t.reg (WDG_EVID_EP n.val)).toNat = s.epoch % 2 ^ 32 ∧
    t.f (WDG_STAT_EVENTS n.val) = satInc (WDG_STAT_EVENTS n.val).wd (s.f (WDG_STAT_EVENTS n.val)) ∧
    t.b (WDG_EVT_RAW_EVENTS.bit n.val) = true ∧ t.b (WDG_STATUS_ARMED.bit n.val) = false ∧ (s.heldBy pgWDG < 4 →
    t.eng.flt.held = s.eng.flt.held ++ [⟨pgWDG, n.val, 2, s.wdgCnt n.val % 4096, false⟩]) ∧
    sameBut ([WDG_STATUS, WDG_CNT n.val, WDG_STAT n.val, WDG_EVID n.val, WDG_EVID_EP n.val, WDG_EVID_VAL n.val, WDG_EVT_RAW] ++
      dropRegs ++ wakeRegs) [pgMODE] s t) ∧
  (∀ (n : Fin 4) (s : State), s.armOver n.val = true → completes (.wdgArmExpiry n) s fun t =>
    t.b (WDG_STATUS_ARMED.bit n.val) = false ∧ sameBut [WDG_STATUS] [] s t) ∧
  (∀ (n : Fin 4) (s : State), s.wdgOver n.val = true → s.f (WDG_CFG_ACT n.val) = 0 → completes (.wdgExpiry n) s fun t =>
    t.reg (WDG_EVID n.val) = BitVec.ofNat 32 (2 ^ 31 + 0 * 2 ^ 28 + (s.wdgPeriod n.val) % 2 ^ 24) ∧
    t.reg (WDG_EVID_VAL n.val) = BitVec.ofNat 32 (0) ∧ (t.reg (WDG_EVID_EP n.val)).toNat = s.epoch % 2 ^ 32 ∧
    t.f (WDG_STAT_EVENTS n.val) = satInc (WDG_STAT_EVENTS n.val).wd (s.f (WDG_STAT_EVENTS n.val)) ∧
    t.b (WDG_EVT_RAW_EVENTS.bit n.val) = true ∧ t.b (WDG_STATUS_ARMED.bit n.val) = false ∧ (s.heldBy pgWDG < 4 →
    t.eng.flt.held = s.eng.flt.held ++ [⟨pgWDG, n.val, 0, (s.wdgPeriod n.val) % 4096, false⟩]) ∧
    sameBut ([WDG_STATUS, WDG_CNT n.val, WDG_STAT n.val, WDG_EVID n.val, WDG_EVID_EP n.val, WDG_EVID_VAL n.val, WDG_EVT_RAW] ++
      dropRegs ++ wakeRegs) [pgMODE] s t) ∧
  (∀ (n : Fin 4) (s : State), s.wdgOver n.val = true → n.val ≠ 0 → s.f (WDG_CFG_ACT n.val) = 2 → completes (.wdgExpiry n) s fun t =>
    t.b RST_CAUSE_WDG = true ∧ t.isMgr = s.isMgr ∧ t.f RST_BOOT_STEP ≠ 8) ∧
  (∀ (n : Fin 4) (cnt : Nat) (s : State), s.wdgRuns n.val = true → cnt ≤ s.wdgCnt n.val → s.f (WDG_CFG_ACT n.val) = 0 →
    completes (.wdgClkStop n cnt) s fun t => t.reg (WDG_EVID n.val) = BitVec.ofNat 32 (2 ^ 31 + 5 * 2 ^ 28 + cnt % 2 ^ 24) ∧
    t.reg (WDG_EVID_VAL n.val) = BitVec.ofNat 32 (0) ∧ (t.reg (WDG_EVID_EP n.val)).toNat = s.epoch % 2 ^ 32 ∧
    t.f (WDG_STAT_EVENTS n.val) = satInc (WDG_STAT_EVENTS n.val).wd (s.f (WDG_STAT_EVENTS n.val)) ∧
    t.b (WDG_EVT_RAW_EVENTS.bit n.val) = true ∧ t.b (WDG_STATUS_ARMED.bit n.val) = false ∧ (s.heldBy pgWDG < 4 →
    t.eng.flt.held = s.eng.flt.held ++ [⟨pgWDG, n.val, 5, cnt % 4096, false⟩]) ∧ t.b (WDG_STATUS_CLK_SW.bit n.val) = true ∧
    sameBut ([WDG_STATUS, WDG_CNT n.val, WDG_STAT n.val, WDG_EVID n.val, WDG_EVID_EP n.val, WDG_EVID_VAL n.val, WDG_EVT_RAW] ++
      dropRegs ++ wakeRegs) [pgMODE] s t) ∧
  (∀ (src : Src) (n : Fin 4) (w : Word) (s : State), s.takes src (WDG_CFG n.val) w = true →
    completes (.wdgCfgWrite src n w) s fun t => t.b (WDG_CFG_EN n.val) = ((WDG_CFG_EN n.val).of w == 1 || s.wdgStart n.val) ∧
    t.f (WDG_CFG_PERIOD n.val) = max 64 ((WDG_CFG_PERIOD n.val).of w) ∧ t.f (WDG_CFG_CLK n.val) = (WDG_CFG_CLK n.val).of w ∧
    t.f (WDG_CFG_OPEN n.val) = (WDG_CFG_OPEN n.val).of w ∧ t.b (WDG_STATUS_CLK_SW.bit n.val) = false ∧ keptReg [] [pgWDG] s t) ∧
  (∀ (src : Src) (key : BitVec 16) (slot : Fin 16) (s : State),
    s.takes src WDG_TM_CHECKIN (keyed key (slot.val * 2 ^ WDG_TM_CHECKIN_SLOT.lo)) = true → src = .core →
    completes (.tmCheckin src key slot) s fun t => t.outcome = .ok ∧ sameBut [] [] s t) ∧
  (∀ (src : Src) (key : BitVec 16) (slot : Fin 16) (s : State),
    s.takes src WDG_TM_CHECKIN (keyed key (slot.val * 2 ^ WDG_TM_CHECKIN_SLOT.lo)) = true → src ≠ .core →
    completes (.tmCheckin src key slot) s fun t =>
    t.f (WDG_TM_SLOT_COUNT slot.val) = (if s.b (WDG_TM_SLOT_EN slot.val) then satInc (WDG_TM_SLOT_COUNT slot.val).wd (s.f
      (WDG_TM_SLOT_COUNT slot.val)) else s.f (WDG_TM_SLOT_COUNT slot.val)) ∧ t.outcome = .ok ∧
    sameBut [WDG_TM_SLOT slot.val] [] s t) ∧
  (∀ (s : State), s.tmOver = true → s.b WDG_TM_CFG_TO_WD3 = false → completes .tmPeriodEnd s fun t =>
    t.f WDG_TM_MISSING_MAP = maskOf s.tmMissing ∧ t.f WDG_TM_EXCESS_MAP = maskOf s.tmExcess ∧
    t.f WDG_TM_CNT_PERIODS = satInc WDG_TM_CNT_PERIODS.wd (s.f WDG_TM_CNT_PERIODS) ∧
    (List.range 16).all (fun k => t.f (WDG_TM_SLOT_COUNT k) == 0) = true ∧ t.b (WDG_EVT_RAW_EVENTS.bit 5) = true ∧
    (s.tmMissing ++ s.tmExcess ≠ [] → t.b (WDG_EVT_RAW_EVENTS.bit 4) = true) ∧ sameBut (dropRegs ++ wakeRegs) [pgWDG, pgMODE] s t)

/-- The keeper's takeover, restart and handback: For every state that meets the stated conditions: a lockstep mismatch records both
addresses, takes control from Madder, enters SAFEHOLD and shows RESET_HOLD, or HELD after three attempts (R489, R490, R491); the
restart counts an attempt and shows PROBATION, the handback marks it good, 600 s of control forget the attempts (R491), and RELEASE
leaves HELD (R492). Completing here, by constructor: lockstepMismatch, keeperRestart, keeperHandback, keeperAttemptsReset,
keepRelease. -/
def Obligations.keeper : Prop :=
  (∀ (pc0 pc1 : Word) (s : State), s.coreRuns 0 = true → s.mode = 3 ∨ s.mode = 4 → s.keep = 0 → s.keepTries < 3 →
    s.heldBy pgKEEP < 4 → completes (.lockstepMismatch pc0 pc1) s fun t => t.keep = 1 ∧ t.b KEEP_STATUS_IN_CONTROL = true ∧
    t.reg (KEEP_LS_PC 0) = pc0 ∧ t.reg (KEEP_LS_PC 1) = pc1 ∧ t.b KEEP_CAUSE_VALID = true ∧ t.f KEEP_CAUSE_CAUSE = 0 ∧
    t.f KEEP_CNT_TAKEOVERS = satInc KEEP_CNT_TAKEOVERS.wd (s.f KEEP_CNT_TAKEOVERS) ∧ t.mode = 6 ∧ t.f MODE_LAST_TRANS_CAUSE = 7 ∧
    t.b (KEEP_EVT_RAW_EVENTS.bit 0) = true) ∧
  (∀ (pc0 pc1 : Word) (s : State), s.coreRuns 0 = true → s.mode = 3 ∨ s.mode = 4 → s.keep = 0 → s.keepTries = 3 →
    completes (.lockstepMismatch pc0 pc1) s fun t => t.keep = 3 ∧
    t.f KEEP_CNT_HOLDS = satInc KEEP_CNT_HOLDS.wd (s.f KEEP_CNT_HOLDS) ∧ t.mode = 6 ∧ t.b (KEEP_EVT_RAW_EVENTS.bit 3) = true) ∧
  (∀ (s : State), s.keep = 1 → s.keepFor 1000 = true → s.keepTries < 3 → completes .keeperRestart s fun t => t.keep = 2 ∧
    t.keepTries = s.keepTries + 1 ∧ t.reg (KEEP_ATT s.keepTries) = BitVec.ofNat 32 (2 ^ 31 + s.epoch % 2 ^ 28) ∧
    t.f KEEP_CNT_RESTARTS = satInc KEEP_CNT_RESTARTS.wd (s.f KEEP_CNT_RESTARTS) ∧ t.b (KEEP_EVT_RAW_EVENTS.bit 1) = true ∧
    keptReg (HOST_STATUS :: wakeRegs) [pgKEEP, pgWDG, pgICU, pgMODE] s t) ∧
  (∀ (s : State), s.keep = 2 → s.keepFor (s.f KEEP_CFG_PROB * 1000) = true → 1 ≤ s.keepTries → s.heldBy pgKEEP < 4 →
    completes .keeperHandback s fun t => t.keep = 0 ∧ t.b KEEP_STATUS_IN_CONTROL = false ∧
    t.f (KEEP_ATT_RESULT (s.keepTries - 1)) = 1 ∧ t.keepTries = s.keepTries ∧
    t.eng.flt.held = s.eng.flt.held ++ [⟨pgKEEP, s.keepTries, 3, 0, false⟩] ∧ t.b (KEEP_EVT_RAW_EVENTS.bit 2) = true ∧
    keptReg (HOST_STATUS :: wakeRegs) [pgKEEP, pgWDG, pgICU, pgMODE] s t) ∧
  (∀ (s : State), s.keep = 0 → s.keepTries ≠ 0 → s.keepFor 600000000 = true → completes .keeperAttemptsReset s fun t =>
    t.keepTries = 0 ∧ (List.range 3).all (fun k => !t.b (KEEP_ATT_VALID k)) = true ∧ t.keep = 0 ∧
    sameBut [KEEP_STATUS, KEEP_ATT 0, KEEP_ATT 1, KEEP_ATT 2] [] s t) ∧
  (∀ (src : Src) (key : BitVec 16) (s : State), s.takes src KEEP_CMD (keyed key 1) = true → s.accepts 9 = true → s.keep = 3 →
    completes (.keepRelease src key) s fun t => t.keep = 1 ∧ t.keepTries = 0 ∧
    t.f KEEP_CNT_RELEASES = satInc KEEP_CNT_RELEASES.wd (s.f KEEP_CNT_RELEASES) ∧ t.b (KEEP_EVT_RAW_EVENTS.bit 4) = true ∧
    t.outcome = .ok)

/-- Temperatures, throttling and the thermal shutdown: For every state that meets the stated conditions: a warning is shown, counted
and reported at entry (R500); a level changes the throttle, the core divider and the skip factor to come, and entering from level 0
is counted and reported (R501); the skip factor applies at a multiple of 64 (R502); a sensor at fault leaves the judgements and
returns (R499); the shutdown records sensor, temperature and time and holds the device in reset, and its release starts bring-up
with cause THERM (R504, R505). Completing here, by constructor: thmWarn, thmLevelChange, skipFactorApply, thmSensorFault,
thmShutdown, thmShutdownRelease. -/
def Obligations.thermalManagement : Prop :=
  (∀ (ts : List (List Int)) (a b c d e g : Int) (s : State), s.thmSamples = true → s.eng.boot.hold = 0 → ts = [[a, b, c, d, e, g]] →
    s.f THM_CFG_EN = 63 → (List.range 6).all (fun k => !s.b (THM_T_FAULT k)) = true →
    [a, b, c, d, e, g].all (fun x => -550 ≤ x && x ≤ 1750) = true → s.eng.thm.conds = [⟨false, 3⟩, {}, {}, {}, {}] →
    10 * (s.f THM_THR_WARN : Int) ≤ max (max a b) c → s.b (THM_STATUS_WARN.bit 0) = false → s.b (THM_STATUS_WARN.bit 1) = false →
    s.f THM_STATUS_LEVEL = 0 → s.f THM_STATUS_UNMON = 0 → s.heldBy pgTHM < 4 → completes (.thmWarn ts) s fun t =>
    t.b (THM_STATUS_WARN.bit 0) = true ∧ (t.thmCond 0).on = true ∧ t.b (THM_STATUS_WARN.bit 1) = false ∧
    (List.range 6).all (fun k => t.i (THM_T_T k) == [a, b, c, d, e, g].getD k 0 && t.b (THM_T_VALID k)) = true ∧
    t.f THM_STATUS_LEVEL = s.f THM_STATUS_LEVEL ∧ t.f THM_CNT_WARNS = satInc THM_CNT_WARNS.wd (s.f THM_CNT_WARNS) ∧
    t.eng.flt.held = s.eng.flt.held ++ [⟨pgTHM, 0, 0, 0, false⟩] ∧ t.b (THM_EVT_RAW_EVENTS.bit 0) = true ∧
    sameBut (dropRegs ++ wakeRegs) [pgTHM, pgMODE] s t) ∧
  (∀ (ts : List (List Int)) (a b c d e g : Int) (s : State), s.thmSamples = true → s.eng.boot.hold = 0 → ts = [[a, b, c, d, e, g]] →
    s.f THM_CFG_EN = 63 → (List.range 6).all (fun k => !s.b (THM_T_FAULT k)) = true →
    [a, b, c, d, e, g].all (fun x => -550 ≤ x && x ≤ 1750) = true → s.eng.thm.conds = [⟨true, 3⟩, {}, {}, {}, {}] →
    max (max a b) c ≤ 10 * (s.f THM_THR_WARN : Int) - 10 * (s.f THM_CFG_HYS : Int) → s.f THM_STATUS_LEVEL = 0 →
    s.f THM_STATUS_UNMON = 0 → completes (.thmWarn ts) s fun t => t.b (THM_STATUS_WARN.bit 0) = false ∧ (t.thmCond 0).on = false ∧
    (List.range 6).all (fun k => t.i (THM_T_T k) == [a, b, c, d, e, g].getD k 0 && t.b (THM_T_VALID k)) = true ∧
    t.f THM_STATUS_LEVEL = s.f THM_STATUS_LEVEL ∧ t.f THM_CNT_WARNS = s.f THM_CNT_WARNS ∧ sameBut [] [pgTHM] s t) ∧
  (∀ (ts : List (List Int)) (a b c d e g : Int) (s : State), s.thmSamples = true → s.eng.boot.hold = 0 → ts = [[a, b, c, d, e, g]] →
    s.f THM_CFG_EN = 63 → (List.range 6).all (fun k => !s.b (THM_T_FAULT k)) = true →
    [a, b, c, d, e, g].all (fun x => -550 ≤ x && x ≤ 1750) = true → s.eng.thm.conds = [⟨false, 2⟩, {}, {}, {}, {}] →
    10 * (s.f THM_THR_WARN : Int) ≤ max (max a b) c → s.b (THM_STATUS_WARN.bit 0) = false → s.b (THM_STATUS_WARN.bit 1) = false →
    s.f THM_STATUS_LEVEL = 0 → s.f THM_STATUS_UNMON = 0 → completes (.thmWarn ts) s fun t => t.b (THM_STATUS_WARN.bit 0) = false ∧
    t.thmCond 0 = ⟨false, 3⟩ ∧
    (List.range 6).all (fun k => t.i (THM_T_T k) == [a, b, c, d, e, g].getD k 0 && t.b (THM_T_VALID k)) = true ∧
    t.f THM_STATUS_LEVEL = s.f THM_STATUS_LEVEL ∧ t.f THM_CNT_WARNS = s.f THM_CNT_WARNS ∧ sameBut [] [pgTHM] s t) ∧
  (∀ (ts : List (List Int)) (a b c d e g : Int) (s : State), s.thmSamples = true → s.eng.boot.hold = 0 → ts = [[a, b, c, d, e, g]] →
    s.f THM_CFG_EN = 63 → (List.range 6).all (fun k => !s.b (THM_T_FAULT k)) = true →
    [a, b, c, d, e, g].all (fun x => -550 ≤ x && x ≤ 1750) = true → s.eng.thm.conds = [{}, ⟨false, 3⟩, {}, {}, {}] →
    10 * (s.f THM_THR_WARN : Int) ≤ max (max d e) g → s.b (THM_STATUS_WARN.bit 1) = false → s.b (THM_STATUS_WARN.bit 0) = false →
    s.f THM_STATUS_LEVEL = 0 → s.f THM_STATUS_UNMON = 0 → s.heldBy pgTHM < 4 → completes (.thmWarn ts) s fun t =>
    t.b (THM_STATUS_WARN.bit 1) = true ∧ (t.thmCond 1).on = true ∧ t.b (THM_STATUS_WARN.bit 0) = false ∧
    (List.range 6).all (fun k => t.i (THM_T_T k) == [a, b, c, d, e, g].getD k 0 && t.b (THM_T_VALID k)) = true ∧
    t.f THM_STATUS_LEVEL = s.f THM_STATUS_LEVEL ∧ t.f THM_CNT_WARNS = satInc THM_CNT_WARNS.wd (s.f THM_CNT_WARNS) ∧
    t.eng.flt.held = s.eng.flt.held ++ [⟨pgTHM, 1, 0, 0, false⟩] ∧ t.b (THM_EVT_RAW_EVENTS.bit 1) = true ∧
    sameBut (dropRegs ++ wakeRegs) [pgTHM, pgMODE] s t) ∧
  (∀ (ts : List (List Int)) (a b c d e g : Int) (s : State), s.thmSamples = true → s.eng.boot.hold = 0 → ts = [[a, b, c, d, e, g]] →
    s.f THM_CFG_EN = 63 → (List.range 6).all (fun k => !s.b (THM_T_FAULT k)) = true →
    [a, b, c, d, e, g].all (fun x => -550 ≤ x && x ≤ 1750) = true → s.eng.thm.conds = [{}, ⟨true, 3⟩, {}, {}, {}] →
    max (max d e) g ≤ 10 * (s.f THM_THR_WARN : Int) - 10 * (s.f THM_CFG_HYS : Int) → s.f THM_STATUS_LEVEL = 0 →
    s.f THM_STATUS_UNMON = 0 → completes (.thmWarn ts) s fun t => t.b (THM_STATUS_WARN.bit 1) = false ∧ (t.thmCond 1).on = false ∧
    (List.range 6).all (fun k => t.i (THM_T_T k) == [a, b, c, d, e, g].getD k 0 && t.b (THM_T_VALID k)) = true ∧
    t.f THM_STATUS_LEVEL = s.f THM_STATUS_LEVEL ∧ t.f THM_CNT_WARNS = s.f THM_CNT_WARNS ∧ sameBut [] [pgTHM] s t) ∧
  (∀ (ts : List (List Int)) (a b c d e g : Int) (s : State), s.thmSamples = true → s.eng.boot.hold = 0 → ts = [[a, b, c, d, e, g]] →
    s.f THM_CFG_EN = 63 → (List.range 6).all (fun k => !s.b (THM_T_FAULT k)) = true →
    [a, b, c, d, e, g].all (fun x => -550 ≤ x && x ≤ 1750) = true → s.eng.thm.conds = [{}, ⟨false, 2⟩, {}, {}, {}] →
    10 * (s.f THM_THR_WARN : Int) ≤ max (max d e) g → s.b (THM_STATUS_WARN.bit 1) = false → s.b (THM_STATUS_WARN.bit 0) = false →
    s.f THM_STATUS_LEVEL = 0 → s.f THM_STATUS_UNMON = 0 → completes (.thmWarn ts) s fun t => t.b (THM_STATUS_WARN.bit 1) = false ∧
    t.thmCond 1 = ⟨false, 3⟩ ∧
    (List.range 6).all (fun k => t.i (THM_T_T k) == [a, b, c, d, e, g].getD k 0 && t.b (THM_T_VALID k)) = true ∧
    t.f THM_STATUS_LEVEL = s.f THM_STATUS_LEVEL ∧ t.f THM_CNT_WARNS = s.f THM_CNT_WARNS ∧ sameBut [] [pgTHM] s t) ∧
  (∀ (ts : List (List Int)) (a b c d e g : Int) (s : State), s.thmSamples = true → s.eng.boot.hold = 0 → ts = [[a, b, c, d, e, g]] →
    s.f THM_CFG_EN = 63 → (List.range 6).all (fun k => !s.b (THM_T_FAULT k)) = true →
    [a, b, c, d, e, g].all (fun x => -550 ≤ x && x ≤ 1750) = true → s.eng.thm.conds = [{}, {}, ⟨false, 3⟩, {}, {}] →
    10 * (s.f THM_THR_THR : Int) ≤ max (max (max a b) c) (max (max d e) g) → s.f THM_STATUS_LEVEL = 0 → s.f THM_STATUS_UNMON = 0 →
    s.heldBy pgTHM < 4 → completes (.thmLevelChange ts) s fun t => t.f THM_STATUS_LEVEL = 1 ∧ t.f CLK_STATUS_CORE_DIV = 1 ∧
    t.eng.scan.skipNext = some (s.skipOf 1) ∧
    (List.range 6).all (fun k => t.i (THM_T_T k) == [a, b, c, d, e, g].getD k 0 && t.b (THM_T_VALID k)) = true ∧
    (t.thmCond 2).on = true ∧ t.f THM_CNT_THROTTLES = satInc THM_CNT_THROTTLES.wd (s.f THM_CNT_THROTTLES) ∧
    t.eng.flt.held = s.eng.flt.held ++ [⟨pgTHM, 1, 1, 0, false⟩] ∧ t.b (THM_EVT_RAW_EVENTS.bit 2) = true) ∧
  (∀ (ts : List (List Int)) (a b c d e g : Int) (s : State), s.thmSamples = true → s.eng.boot.hold = 0 → ts = [[a, b, c, d, e, g]] →
    s.f THM_CFG_EN = 63 → (List.range 6).all (fun k => !s.b (THM_T_FAULT k)) = true →
    [a, b, c, d, e, g].all (fun x => -550 ≤ x && x ≤ 1750) = true → s.eng.thm.conds = [{}, {}, ⟨true, 0⟩, ⟨false, 3⟩, {}] →
    10 * ((s.f THM_THR_THR : Int) + s.f THM_CFG_STEP2) ≤ max (max (max a b) c) (max (max d e) g) → s.f THM_STATUS_LEVEL = 1 →
    s.f THM_STATUS_UNMON = 0 → completes (.thmLevelChange ts) s fun t => t.f THM_STATUS_LEVEL = 2 ∧ t.f CLK_STATUS_CORE_DIV = 2 ∧
    t.eng.scan.skipNext = some (s.skipOf 2) ∧
    (List.range 6).all (fun k => t.i (THM_T_T k) == [a, b, c, d, e, g].getD k 0 && t.b (THM_T_VALID k)) = true ∧
    (t.thmCond 3).on = true ∧ t.f THM_CNT_THROTTLES = s.f THM_CNT_THROTTLES) ∧
  (∀ (ts : List (List Int)) (a b c d e g : Int) (s : State), s.thmSamples = true → s.eng.boot.hold = 0 → ts = [[a, b, c, d, e, g]] →
    s.f THM_CFG_EN = 63 → (List.range 6).all (fun k => !s.b (THM_T_FAULT k)) = true →
    [a, b, c, d, e, g].all (fun x => -550 ≤ x && x ≤ 1750) = true → s.eng.thm.conds = [{}, {}, ⟨true, 3⟩, {}, {}] →
    max (max (max a b) c) (max (max d e) g) ≤ 10 * (s.f THM_THR_THR : Int) - 10 * (s.f THM_CFG_HYS : Int) →
    s.f THM_STATUS_LEVEL = 1 → s.f THM_STATUS_UNMON = 0 → completes (.thmLevelChange ts) s fun t => t.f THM_STATUS_LEVEL = 0 ∧
    t.f CLK_STATUS_CORE_DIV = 0 ∧ t.eng.scan.skipNext = some (s.skipOf 0) ∧
    (List.range 6).all (fun k => t.i (THM_T_T k) == [a, b, c, d, e, g].getD k 0 && t.b (THM_T_VALID k)) = true ∧
    (t.thmCond 2).on = false ∧ t.f THM_CNT_THROTTLES = s.f THM_CNT_THROTTLES ∧ t.b (THM_EVT_RAW_EVENTS.bit 3) = true) ∧
  (∀ (k : Nat) (s : State), s.eng.scan.skipNext = some k → s.epoch % 64 = 0 → completes .skipFactorApply s fun t =>
    t.eng.scan.skipK = k ∧ t.eng.scan.skipNext = none ∧ t.b SCAN_STATUS_SKIPPING = decide (1 < k) ∧ sameBut [SCAN_STATUS] [] s t) ∧
  (∀ (ts : List (List Int)) (k : Nat) (a b c d e g : Int) (s : State), s.thmSamples = true → s.eng.boot.hold = 0 →
    ts = [[a, b, c, d, e, g]] → s.f THM_CFG_EN = 63 → s.eng.thm.conds = [{}, {}, {}, {}, {}] → s.f THM_STATUS_LEVEL = 0 →
    s.f THM_STATUS_UNMON = 0 → k < 6 → s.eng.thm.odd = (List.range 6).map (fun j => if j = k then 9 else 0) →
    (List.range 6).all (fun j => !s.b (THM_T_FAULT j)) = true →
    (List.range 6).all (fun j => decide (-550 ≤ [a, b, c, d, e, g].getD j 0 ∧
    [a, b, c, d, e, g].getD j 0 ≤ 1750) == decide (j ≠ k)) = true → s.b (THM_STATUS_WARN.bit 0) = false →
    s.b (THM_STATUS_WARN.bit 1) = false → s.heldBy pgTHM < 4 → completes (.thmSensorFault ts) s fun t =>
    t.b (THM_T_FAULT k) = true ∧ t.b (THM_T_VALID k) = false ∧ t.b (THM_STATUS_VALID.bit k) = false ∧
    t.f THM_CNT_SENSOR_FAULTS = satInc THM_CNT_SENSOR_FAULTS.wd (s.f THM_CNT_SENSOR_FAULTS) ∧
    t.eng.flt.held = s.eng.flt.held ++ [⟨pgTHM, k, 3, 0, false⟩] ∧ t.b (THM_EVT_RAW_EVENTS.bit 4) = true ∧
    sameBut (dropRegs ++ wakeRegs) [pgTHM, pgMODE] s t) ∧
  (∀ (ts : List (List Int)) (k : Nat) (a b c d e g : Int) (s : State), s.thmSamples = true → s.eng.boot.hold = 0 →
    ts = [[a, b, c, d, e, g]] → s.f THM_CFG_EN = 63 → s.eng.thm.conds = [{}, {}, {}, {}, {}] → s.f THM_STATUS_LEVEL = 0 →
    s.f THM_STATUS_UNMON = 0 → k < 6 → s.eng.thm.odd = (List.range 6).map (fun j => if j = k then 9 else 0) →
    (List.range 6).all (fun j => s.b (THM_T_FAULT j) == decide (j = k)) = true →
    [a, b, c, d, e, g].all (fun x => -550 ≤ x && x ≤ 1750) = true → completes (.thmSensorFault ts) s fun t =>
    (List.range 6).all (fun k => t.i (THM_T_T k) == [a, b, c, d, e, g].getD k 0 && t.b (THM_T_VALID k)) = true ∧
    (List.range 6).all (fun j => !t.b (THM_T_FAULT j) && t.b (THM_STATUS_VALID.bit j)) = true ∧
    t.f THM_CNT_SENSOR_FAULTS = s.f THM_CNT_SENSOR_FAULTS ∧ sameBut [] [pgTHM] s t) ∧
  (∀ (ts : List (List Int)) (x : Int) (a b c d e g : Int) (s : State), s.thmSamples = true → s.eng.boot.hold = 0 →
    ts = [[a, b, c, d, e, g]] → s.f THM_CFG_EN = 63 → (List.range 6).all (fun k => !s.b (THM_T_FAULT k)) = true →
    [a, b, c, d, e, g].all (fun x => -550 ≤ x && x ≤ 1750) = true → s.released = true →
    s.eng.thm.conds = [{}, {}, {}, {}, ⟨false, 1⟩] → [a, b, c, d, e, g] = [x, x, x, x, x, x] → 10 * (s.f THM_THR_SHUT : Int) ≤ x →
    completes (.thmShutdown ts) s fun t => t.eng.boot.hold = 2 ∧
    t.f THM_SHUT_COUNT = satInc THM_SHUT_COUNT.wd (s.f THM_SHUT_COUNT) ∧ t.f THM_SHUT_SENSOR = 0 ∧ t.i THM_SHUT_T = x ∧
    t.reg THM_SHUT_RTC = s.reg RTC_SEC ∧ (t.reg THM_SHUT_EP_LO).toNat = s.epoch % 2 ^ 32 ∧
    t.eng.boot.cores = [false, false, false] ∧ t.cont = 0) ∧
  (∀ (ts : List (List Int)) (a b c d e g : Int) (n : Nat) (s : State), ts = [[a, b, c, d, e, g]] → s.f THM_CFG_EN = 63 →
    (List.range 6).all (fun k => !s.b (THM_T_FAULT k)) = true → [a, b, c, d, e, g].all (fun x => -550 ≤ x && x ≤ 1750) = true →
    s.eng.boot.hold = 2 → max (max (max a b) c) (max (max d e) g) ≤ 10 * (s.f THM_THR_SHUT : Int) - 10 * (s.f THM_CFG_HYS : Int) →
    s.eng.thm.cool = some n → n + 100000 ≤ s.now → completes (.thmShutdownRelease ts) s fun t => t.eng.boot.hold = 0 ∧
    t.b RST_CAUSE_THERM = true ∧ t.f RST_CNT_SYS_CNT = satInc RST_CNT_SYS_CNT.wd (s.f RST_CNT_SYS_CNT)) ∧
  (∀ (ts : List (List Int)) (a b c d e g : Int) (n : Nat) (s : State), ts = [[a, b, c, d, e, g]] → s.f THM_CFG_EN = 63 →
    (List.range 6).all (fun k => !s.b (THM_T_FAULT k)) = true → [a, b, c, d, e, g].all (fun x => -550 ≤ x && x ≤ 1750) = true →
    s.eng.boot.hold = 2 → max (max (max a b) c) (max (max d e) g) ≤ 10 * (s.f THM_THR_SHUT : Int) - 10 * (s.f THM_CFG_HYS : Int) →
    s.eng.thm.cool = some n → s.now < n + 100000 → completes (.thmShutdownRelease ts) s fun t => t.eng.boot.hold = 2 ∧
    t.eng.thm.cool = some n ∧ sameBut [] [pgTHM] s t) ∧
  (∀ (ts : List (List Int)) (a b c d e g : Int) (s : State), ts = [[a, b, c, d, e, g]] → s.f THM_CFG_EN = 63 →
    (List.range 6).all (fun k => !s.b (THM_T_FAULT k)) = true → [a, b, c, d, e, g].all (fun x => -550 ≤ x && x ≤ 1750) = true →
    s.eng.boot.hold = 2 → 10 * (s.f THM_THR_SHUT : Int) - 10 * (s.f THM_CFG_HYS : Int) < max (max (max a b) c) (max (max d e) g) →
    completes (.thmShutdownRelease ts) s fun t => t.eng.boot.hold = 2 ∧ t.eng.thm.cool = none ∧ sameBut [] [pgTHM] s t)

/-- The calendar, its alarm and PWRON: For every state that meets the stated conditions: a second advances SEC and shows its date
and time, records the epoch and, at the alarm, disables it, counts it and wakes the device (R365, R510, R513, R514); a periodic wake
counts and wakes (R515); a read of the time group freezes the path's copy, a read of RTC_TIME releases it (R511); SET loads SEC
(R512); an alarm not ahead sets ALARM_PAST (R514); PWRON follows its mode (R516). Completing here, by constructor: rtcSecond,
rtcPeriodicWake, rtcCalibrate, rtcTimeRead, rtcFreezeEnd, rtcSet, pwronClr, rtcAlarmWrite, rtcPwronWrite, pwronPulseEnd. -/
def Obligations.calendarAndPowerOn : Prop :=
  (∀ (s : State), 32768 ≤ s.rtcCount → s.b RTC_ALM_CFG_EN = false → 1 ≤ s.mode → s.f RTC_SEC_SEC + 1 < 2 ^ 32 →
    completes .rtcSecond s fun t => t.f RTC_SEC_SEC = (s.f RTC_SEC_SEC + 1) % 2 ^ 32 ∧
    t.reg RTC_DATE = BitVec.ofNat 32 (rtcDate ((s.f RTC_SEC_SEC + 1) % 2 ^ 32)) ∧
    t.reg RTC_TIME = BitVec.ofNat 32 (rtcTime ((s.f RTC_SEC_SEC + 1) % 2 ^ 32)) ∧
    t.f EPOCH_RTC_SEC = (s.f RTC_SEC_SEC + 1) % 2 ^ 32 ∧ t.f EPOCH_RTC_EP_LO_EPOCH = s.epoch % 2 ^ 32 ∧ t.eng.rtc.subAt = s.now ∧
    t.b (RTC_EVT_RAW_EVENTS.bit 2) = true ∧ t.f RTC_CNT_ALARMS = s.f RTC_CNT_ALARMS ∧
    sameBut wakeRegs [pgRTC, pgEPOCH, pgMODE] s t) ∧
  (∀ (s : State), 32768 ≤ s.rtcCount → s.b RTC_ALM_CFG_EN = true → 1 ≤ s.mode → s.mode ≤ 4 → s.f RTC_SEC_SEC + 1 < 2 ^ 32 →
    s.f RTC_ALARM_SEC = s.f RTC_SEC_SEC + 1 → completes .rtcSecond s fun t => t.f RTC_SEC_SEC = (s.f RTC_SEC_SEC + 1) % 2 ^ 32 ∧
    t.reg RTC_DATE = BitVec.ofNat 32 (rtcDate ((s.f RTC_SEC_SEC + 1) % 2 ^ 32)) ∧
    t.reg RTC_TIME = BitVec.ofNat 32 (rtcTime ((s.f RTC_SEC_SEC + 1) % 2 ^ 32)) ∧
    t.f EPOCH_RTC_SEC = (s.f RTC_SEC_SEC + 1) % 2 ^ 32 ∧ t.f EPOCH_RTC_EP_LO_EPOCH = s.epoch % 2 ^ 32 ∧ t.eng.rtc.subAt = s.now ∧
    t.b (RTC_EVT_RAW_EVENTS.bit 2) = true ∧ t.b RTC_ALM_CFG_EN = false ∧
    t.f RTC_CNT_ALARMS = satInc RTC_CNT_ALARMS.wd (s.f RTC_CNT_ALARMS) ∧ t.b MODE_WAKE_SRC_RTC = true ∧ t.eng.mode.wakeHold = true ∧
    t.b (RTC_EVT_RAW_EVENTS.bit 0) = true) ∧
  (∀ (s : State), s.rtcCount < 32768 → 1 ≤ s.mode → completes .rtcSecond s fun t => sameBut [] [] s t ∧
    t.f RTC_SEC_SEC = s.f RTC_SEC_SEC) ∧
  (∀ (s : State), s.perDue = true → 1 ≤ s.mode → s.mode ≤ 4 → completes .rtcPeriodicWake s fun t =>
    t.f RTC_CNT_PERIODIC = satInc RTC_CNT_PERIODIC.wd (s.f RTC_CNT_PERIODIC) ∧ t.b MODE_WAKE_SRC_RTC = true ∧
    t.eng.mode.wakeHold = true ∧ t.b (RTC_EVT_RAW_EVENTS.bit 1) = true ∧ sameBut wakeRegs [pgRTC, pgMODE] s t) ∧
  (∀ (s : State), s.calDue = true → completes .rtcCalibrate s fun t => t.b RTC_STATUS_CAL = true ∧ sameBut [RTC_STATUS] [] s t) ∧
  (∀ (src : Src) (r : Fin 4) (s : State), s.served src = true → s.watchShut src (RTC_SUB + 4 * r.val) = false → r.val ≠ 3 →
    completes (.rtcTimeRead src r) s fun t => t.resp = [s.rtcValue (pathOf src) (RTC_SUB + 4 * r.val)] ∧
    (t.eng.rtc.frozen.any fun x => x.path == pathOf src) = true ∧ ((s.eng.rtc.frozen.any fun x => x.path == pathOf src) = true →
    t.eng.rtc.frozen = s.eng.rtc.frozen) ∧ sameBut [] [] s t) ∧
  (∀ (src : Src) (r : Fin 4) (s : State), s.served src = true → s.watchShut src (RTC_SUB + 4 * r.val) = false → r.val = 3 →
    completes (.rtcTimeRead src r) s fun t => (t.eng.rtc.frozen.any fun x => x.path == pathOf src) = false ∧ t.resp.length = 1 ∧
    sameBut [] [] s t) ∧
  (∀ (src : Src) (u v n : Nat) (s : State), s.eng.rtc.frozen = [⟨pathOf src, u, v, n⟩] → n + 1000000 ≤ s.now →
    completes (.rtcFreezeEnd src) s fun t => t.eng.rtc.frozen = [] ∧ sameBut [] [] s t) ∧
  (∀ (src : Src) (u v n : Nat) (s : State), s.eng.rtc.frozen = [⟨pathOf src, u, v, n⟩] → s.now < n + 1000000 →
    completes (.rtcFreezeEnd src) s fun t => t.eng.rtc.frozen = s.eng.rtc.frozen ∧ sameBut [] [] s t) ∧
  (∀ (src : Src) (key : BitVec 16) (s : State), s.takes src RTC_CMD (keyed key 1) = true → s.b RTC_ALM_CFG_EN = false →
    completes (.rtcSet src key) s fun t => t.outcome = .ok ∧ t.f RTC_SEC_SEC = (s.f RTC_SET_SEC_SEC) ∧
    t.reg RTC_DATE = BitVec.ofNat 32 (rtcDate ((s.f RTC_SET_SEC_SEC))) ∧
    t.reg RTC_TIME = BitVec.ofNat 32 (rtcTime ((s.f RTC_SET_SEC_SEC))) ∧ t.f EPOCH_RTC_SEC = (s.f RTC_SET_SEC_SEC) ∧
    t.f EPOCH_RTC_EP_LO_EPOCH = s.epoch % 2 ^ 32 ∧ t.eng.rtc.subAt = s.now ∧ t.b (RTC_EVT_RAW_EVENTS.bit 2) = true ∧
    t.b RTC_STATUS_TIME_SET = true ∧ t.f RTC_CNT_SETS = satInc RTC_CNT_SETS.wd (s.f RTC_CNT_SETS) ∧
    sameBut wakeRegs [pgRTC, pgEPOCH, pgMODE] s t) ∧
  (∀ (src : Src) (key : BitVec 16) (s : State), s.takes src RTC_CMD (keyed key 2) = true → completes (.pwronClr src key) s fun t =>
    t.eng.rtc.latched = false ∧ t.b RTC_STATUS_PWRON = (s.f RTC_PWRON_MODE == 3 || s.eng.rtc.pulse) ∧ sameBut [RTC_STATUS] [] s t) ∧
  (∀ (src : Src) (cfg : Bool) (w : Word) (s : State), s.takes src (if cfg then RTC_ALM_CFG else RTC_ALARM) w = true → cfg = false →
    completes (.rtcAlarmWrite src cfg w) s fun t => t.f RTC_ALARM_SEC = w.toNat ∧ (s.b RTC_ALM_CFG_EN = true →
    w.toNat ≤ s.f RTC_SEC_SEC → t.b (RTC_EVT_RAW_EVENTS.bit 3) = true) ∧
    sameBut ([RTC_ALARM, RTC_EVT_RAW] ++ wakeRegs) [pgMODE] s t) ∧
  (∀ (src : Src) (cfg : Bool) (w : Word) (s : State), s.takes src (if cfg then RTC_ALM_CFG else RTC_ALARM) w = true → cfg = true →
    completes (.rtcAlarmWrite src cfg w) s fun t => t.f RTC_ALM_CFG_EN = RTC_ALM_CFG_EN.of w ∧ (RTC_ALM_CFG_EN.of w = 1 →
    s.f RTC_ALARM_SEC ≤ s.f RTC_SEC_SEC → t.b (RTC_EVT_RAW_EVENTS.bit 3) = true) ∧
    sameBut ([RTC_ALM_CFG, RTC_EVT_RAW] ++ wakeRegs) [pgMODE] s t) ∧
  (∀ (src : Src) (w : Word) (s : State), s.takes src RTC_PWRON w = true → completes (.rtcPwronWrite src w) s fun t =>
    t.f RTC_PWRON_MODE = RTC_PWRON_MODE.of w ∧ t.f RTC_PWRON_WIDTH = clamp 1 65535 (RTC_PWRON_WIDTH.of w) ∧
    t.eng.rtc.pulse = s.eng.rtc.pulse ∧
    t.b RTC_STATUS_PWRON = (RTC_PWRON_MODE.of w == 3 || s.eng.rtc.pulse || (RTC_PWRON_MODE.of w == 2 && s.b RTC_STATUS_PWRON)) ∧
    sameBut [RTC_PWRON, RTC_STATUS] [] s t) ∧
  (∀ (s : State), s.pulseOver = true → completes .pwronPulseEnd s fun t => t.eng.rtc.pulse = false ∧
    t.b RTC_STATUS_PWRON = (s.f RTC_PWRON_MODE == 3 || (s.f RTC_PWRON_MODE == 2 && s.eng.rtc.latched)) ∧
    sameBut [RTC_STATUS] [] s t)

/-- Memory integrity and the record store: For every state that meets the stated conditions: CE_HIGH follows the corrections that
stand within the window and is reported once (R523); a core that consumes poison counts it, records the offset and sends its message
(R524); a record that is whole is committed to its slot with pointers and count (R527, R528, R530), a poisoned source commits
nothing (R531); CLR_EVT and CLR_THERM empty their rings (R532). Completing here, by constructor: ceWindowExpiry, poisonConsumed,
recRecordDone, recClrEvt, recClrTherm. -/
def Obligations.memoryAndRecords : Prop :=
  (∀ (s : State), completes .ceWindowExpiry s fun t =>
    (List.range 16).all (fun b => t.b (MEM_STATUS_CE_HIGH.bit b) == decide (s.f MEM_CFG_CE_THR ≤ s.ceCount b)) = true ∧
    (s.eng.recs.ces = [] → 0 < s.f MEM_CFG_CE_THR → sameBut [MEM_STATUS] [] s t)) ∧
  (∀ (off : BitVec 22) (s : State), s.heldBy pgMEM < 3 → completes (.poisonConsumed off) s fun t =>
    t.f MEM_CNT_CORE_EXC = satInc MEM_CNT_CORE_EXC.wd (s.f MEM_CNT_CORE_EXC) ∧
    t.f MEM_CNT_UE = satInc MEM_CNT_UE.wd (s.f MEM_CNT_UE) ∧ t.b MEM_UE_LAST_VALID = true ∧ t.f MEM_UE_LAST_OFFSET = off.toNat ∧
    t.eng.flt.held.getLast? = some ⟨pgMEM, bankOf off.toNat, 2, off.toNat / 64 % 4096, false⟩ ∧
    t.b (MEM_EVT_RAW_EVENTS.bit 2) = true ∧ t.b (MEM_EVT_RAW_EVENTS.bit 3) = true ∧ sameBut wakeRegs [pgMEM, pgMODE] s t) ∧
  (∀ (poison : Bool) (err : Option Nat) (j : RecJob) (s : State), s.eng.recs.cur = some j → s.eng.recs.queue = [] → j.kind = 3 →
    j.words.length = 7 → poison = false → err = none → completes (.recRecordDone poison err) s fun t => t.eng.recs.cur = none ∧
    t.f REC_CNT_WRITES = satInc REC_CNT_WRITES.wd (s.f REC_CNT_WRITES) ∧ t.f REC_EVT_PTR_NEXT = (s.f REC_EVT_PTR_NEXT + 1) % 256 ∧
    t.eng.recs.evtSeq = (s.eng.recs.evtSeq + 1) % 2 ^ 24 ∧
    t.word (recBase + 0xC000 + 32 * s.f REC_EVT_PTR_NEXT) = BitVec.ofNat 32 (0xE1 * 2 ^ 24 + s.eng.recs.evtSeq) ∧
    t.b (REC_EVT_RAW_EVENTS.bit 0) = true ∧ keptReg wakeRegs [pgREC, pgMODE] s t) ∧
  (∀ (poison : Bool) (err : Option Nat) (j : RecJob) (s : State), s.eng.recs.cur = some j → s.eng.recs.queue = [] → j.kind ≠ 2 →
    poison = true → completes (.recRecordDone poison err) s fun t => t.eng.recs.cur = none ∧
    t.f REC_CNT_WRITES = s.f REC_CNT_WRITES ∧ t.reg REC_EVT_PTR = s.reg REC_EVT_PTR ∧ t.reg REC_THM_PTR = s.reg REC_THM_PTR ∧
    keptMem s t ∧ t.b (REC_EVT_RAW_EVENTS.bit 4) = true) ∧
  (∀ (src : Src) (key : BitVec 16) (s : State), s.takes src REC_CMD (keyed key 1) = true → completes (.recClrEvt src key) s fun t =>
    t.outcome = .ok ∧ t.f REC_EVT_PTR_NEXT = 0 ∧ t.f REC_EVT_PTR_SEQ = 0 ∧ t.eng.recs.evtSeq = 1 ∧
    (List.range 256).all (fun k => t.word (recBase + 0xC000 + 32 * k) == 0) = true ∧ keptReg [REC_EVT_PTR] [] s t) ∧
  (∀ (src : Src) (key : BitVec 16) (s : State), s.takes src REC_CMD (keyed key 2) = true →
    completes (.recClrTherm src key) s fun t => t.outcome = .ok ∧ t.f REC_THM_PTR_NEXT = 0 ∧ t.f REC_THM_PTR_SEQ = 0 ∧
    t.eng.recs.thmSeq = 1 ∧ (List.range 128).all (fun k => t.word (recBase + 0xE000 + 32 * k) == 0) = true ∧
    keptReg [REC_THM_PTR] [] s t)

/-- OTP commands and burns: For every state that meets the stated conditions: READ at the NORMAL reference returns the row through
its redirection and answers OK, and PROTECTED rows return 0 with result 7; PROG, REPAIR and FINALISE start their burns with BUSY, or
end with the result R542 gives for a busy, sealed, unsupplied or exhausted array; a burn attempt that verifies sets its bits and
ends the command, one that does not is retried eight times and then fails (R539, R542, R543). Completing here, by constructor:
otpRead, otpProg, otpRepair, otpFinalise, otpBurnAttemptDone. -/
def Obligations.oneTimeProgrammableMemory : Prop :=
  (∀ (src : Src) (key : BitVec 16) (margin : Fin 4) (s : State),
    s.takes src OTP_CMD (keyed key (1 + margin.val * 2 ^ OTP_CMD_MARGIN.lo)) = true → margin.val = 0 → s.b OTP_STATUS_BUSY = false →
    isProtected (s.f OTP_ADDR_ROW) = false → completes (.otpRead src key margin) s fun t =>
    t.reg OTP_RDATA = BitVec.ofNat 32 (s.otpRead (s.f OTP_ADDR_ROW)) ∧ t.f OTP_RESULT_CODE = 1 ∧ t.f OTP_RESULT_RETRIES = 0 ∧
    t.b (OTP_EVT_RAW_EVENTS.bit 0) = true ∧ keptOtp [] s t ∧ keptReg wakeRegs [pgOTP, pgMODE] s t ∧ keptMem s t) ∧
  (∀ (src : Src) (key : BitVec 16) (margin : Fin 4) (s : State),
    s.takes src OTP_CMD (keyed key (1 + margin.val * 2 ^ OTP_CMD_MARGIN.lo)) = true → margin.val ≠ 3 → s.b OTP_STATUS_BUSY = false →
    isProtected (s.f OTP_ADDR_ROW) = true → completes (.otpRead src key margin) s fun t => t.reg OTP_RDATA = 0 ∧
    t.f OTP_RESULT_CODE = 7 ∧ t.f OTP_RESULT_RETRIES = 0 ∧ t.b (OTP_EVT_RAW_EVENTS.bit 0) = true ∧
    t.b (OTP_EVT_RAW_EVENTS.bit 1) = true ∧ keptOtp [] s t ∧ keptReg wakeRegs [pgOTP, pgMODE] s t ∧ keptMem s t) ∧
  (∀ (src : Src) (key : BitVec 16) (margin : Fin 4) (s : State),
    s.takes src OTP_CMD (keyed key (1 + margin.val * 2 ^ OTP_CMD_MARGIN.lo)) = true → margin.val ≠ 3 → s.b OTP_STATUS_BUSY = true →
    completes (.otpRead src key margin) s fun t => t.reg OTP_RDATA = s.reg OTP_RDATA ∧ t.f OTP_RESULT_CODE = 6 ∧
    t.f OTP_RESULT_RETRIES = 0 ∧ t.b (OTP_EVT_RAW_EVENTS.bit 0) = true ∧ t.b (OTP_EVT_RAW_EVENTS.bit 1) = true ∧ keptOtp [] s t ∧
    keptReg wakeRegs [pgOTP, pgMODE] s t ∧ keptMem s t) ∧
  (∀ (src : Src) (key : BitVec 16) (margin : Fin 4) (s : State),
    s.takes src OTP_CMD (keyed key (2 + margin.val * 2 ^ OTP_CMD_MARGIN.lo)) = true → margin.val ≠ 3 → s.accepts 6 = true →
    s.b OTP_STATUS_BUSY = false → s.f OTP_ADDR_ROW ≤ 0x3FF →
    isSealed (s.f OTP_ADDR_ROW) = false ∨ (regionOfRow (s.f OTP_ADDR_ROW)).all (fun r => s.regionState r == 0) = true →
    s.lowSupply = false → completes (.otpProg src key margin) s fun t => t.outcome = .ok ∧ t.b OTP_STATUS_BUSY = true ∧
    t.eng.otp.job.map (fun j => (j.op, j.rows)) = some (2, [(s.rowAtHand (s.f OTP_ADDR_ROW), s.f OTP_WDATA_DATA)]) ∧
    keptOtp [] s t ∧ keptReg wakeRegs [pgOTP, pgMODE] s t ∧ keptMem s t) ∧
  (∀ (src : Src) (key : BitVec 16) (margin : Fin 4) (s : State),
    s.takes src OTP_CMD (keyed key (2 + margin.val * 2 ^ OTP_CMD_MARGIN.lo)) = true → margin.val ≠ 3 → s.accepts 6 = true →
    s.b OTP_STATUS_BUSY = false → 0x3FF < s.f OTP_ADDR_ROW → completes (.otpProg src key margin) s fun t =>
    t.f OTP_RESULT_CODE = 3 ∧ t.f OTP_RESULT_RETRIES = 0 ∧ t.b (OTP_EVT_RAW_EVENTS.bit 0) = true ∧
    t.b (OTP_EVT_RAW_EVENTS.bit 1) = true ∧ t.b OTP_STATUS_BUSY = false ∧ keptOtp [] s t ∧ keptReg wakeRegs [pgOTP, pgMODE] s t ∧
    keptMem s t) ∧
  (∀ (src : Src) (key : BitVec 16) (margin : Fin 4) (s : State),
    s.takes src OTP_CMD (keyed key (2 + margin.val * 2 ^ OTP_CMD_MARGIN.lo)) = true → margin.val ≠ 3 → s.accepts 6 = true →
    s.b OTP_STATUS_BUSY = false → s.f OTP_ADDR_ROW ≤ 0x3FF → isSealed (s.f OTP_ADDR_ROW) = false → s.lowSupply = true →
    completes (.otpProg src key margin) s fun t => t.f OTP_RESULT_CODE = 5 ∧ t.f OTP_RESULT_RETRIES = 0 ∧
    t.b (OTP_EVT_RAW_EVENTS.bit 0) = true ∧ t.b (OTP_EVT_RAW_EVENTS.bit 1) = true ∧ t.b OTP_STATUS_BUSY = false ∧ keptOtp [] s t ∧
    keptReg wakeRegs [pgOTP, pgMODE] s t ∧ keptMem s t) ∧
  (∀ (src : Src) (key : BitVec 16) (margin : Fin 4) (s : State),
    s.takes src OTP_CMD (keyed key (2 + margin.val * 2 ^ OTP_CMD_MARGIN.lo)) = true → margin.val ≠ 3 → s.accepts 6 = false →
    completes (.otpProg src key margin) s fun t => t.outcome = .refusedState ∧ t.eng.otp = s.eng.otp ∧
    sameBut wakeRegs [pgMODE] s t) ∧
  (∀ (src : Src) (key : BitVec 16) (margin : Fin 4) (e : Nat) (s : State),
    s.takes src OTP_CMD (keyed key (3 + margin.val * 2 ^ OTP_CMD_MARGIN.lo)) = true → margin.val ≠ 3 → s.accepts 6 = true →
    s.b OTP_STATUS_BUSY = false → s.f OTP_ADDR_ROW ≤ 0x3FF →
    isSealed (s.f OTP_ADDR_ROW) = false ∨ s.f OTP_WDATA_DATA = s.otpRead (s.f OTP_ADDR_ROW) → s.lowSupply = false →
    s.freeSpare = some e → completes (.otpRepair src key margin) s fun t => t.b OTP_STATUS_BUSY = true ∧
    t.eng.otp.job.map (fun j => (j.op, j.rows, j.row, j.region)) = some (3, [(0x400 + e, s.f OTP_WDATA_DATA)], s.f OTP_ADDR_ROW, e)
      ∧ keptOtp [] s t ∧ keptReg wakeRegs [pgOTP, pgMODE] s t ∧ keptMem s t) ∧
  (∀ (src : Src) (key : BitVec 16) (margin : Fin 4) (s : State),
    s.takes src OTP_CMD (keyed key (3 + margin.val * 2 ^ OTP_CMD_MARGIN.lo)) = true → margin.val ≠ 3 → s.accepts 6 = true →
    s.b OTP_STATUS_BUSY = false → s.f OTP_ADDR_ROW ≤ 0x3FF → isSealed (s.f OTP_ADDR_ROW) = false → s.lowSupply = false →
    s.freeSpare = none → completes (.otpRepair src key margin) s fun t => t.f OTP_RESULT_CODE = 4 ∧ t.f OTP_RESULT_RETRIES = 0 ∧
    t.b (OTP_EVT_RAW_EVENTS.bit 0) = true ∧ t.b (OTP_EVT_RAW_EVENTS.bit 1) = true ∧ t.b OTP_STATUS_BUSY = false ∧ keptOtp [] s t ∧
    keptReg wakeRegs [pgOTP, pgMODE] s t ∧ keptMem s t) ∧
  (∀ (src : Src) (key : BitVec 16) (margin : Fin 4) (region : Fin 8) (s : State),
    s.takes src OTP_CMD (keyed key (4 + margin.val * 2 ^ OTP_CMD_MARGIN.lo + region.val * 2 ^ OTP_CMD_REGION.lo)) = true →
    margin.val ≠ 3 → s.accepts 6 = true → s.b OTP_STATUS_BUSY = false → s.regionState region.val = 0 → s.lowSupply = false →
    completes (.otpFinalise src key margin region) s fun t => t.b OTP_STATUS_BUSY = true ∧
    t.eng.otp.job.map (fun j => (j.op, j.region, j.rows.map Prod.fst, j.rows.map Prod.snd)) = some (4, region.val, (List.range
      8).map (fun j => s.rowAtHand (digestRow region.val j)), s.digestWords region.val) ∧ keptOtp [] s t ∧
    keptReg wakeRegs [pgOTP, pgMODE] s t ∧ keptMem s t) ∧
  (∀ (src : Src) (key : BitVec 16) (margin : Fin 4) (region : Fin 8) (s : State),
    s.takes src OTP_CMD (keyed key (4 + margin.val * 2 ^ OTP_CMD_MARGIN.lo + region.val * 2 ^ OTP_CMD_REGION.lo)) = true →
    margin.val ≠ 3 → s.accepts 6 = true → s.b OTP_STATUS_BUSY = false → s.regionState region.val ≠ 0 →
    completes (.otpFinalise src key margin region) s fun t => t.f OTP_RESULT_CODE = 3 ∧ t.f OTP_RESULT_RETRIES = 0 ∧
    t.b (OTP_EVT_RAW_EVENTS.bit 0) = true ∧ t.b (OTP_EVT_RAW_EVENTS.bit 1) = true ∧ t.b OTP_STATUS_BUSY = false ∧ keptOtp [] s t ∧
    keptReg wakeRegs [pgOTP, pgMODE] s t ∧ keptMem s t) ∧
  (∀ (fail : Word) (j : OtpJob) (q data : Nat) (s : State), s.eng.otp.job = some j → j.op = 2 → j.rows = [(q, data)] →
    data < 2 ^ 32 → BitVec.ofNat 32 data &&& fail = 0 → j.retries ≤ 8 → j.most ≤ 8 → completes (.otpBurnAttemptDone fail) s fun t =>
    t.otpRow q = s.otpRow q ||| BitVec.ofNat 32 data ∧ t.f OTP_RESULT_CODE = 1 ∧ t.f OTP_RESULT_RETRIES = max j.most j.retries ∧
    t.b OTP_STATUS_BUSY = false ∧ t.eng.otp.job = none ∧ t.f OTP_CNT_PROGS = satInc OTP_CNT_PROGS.wd (s.f OTP_CNT_PROGS) ∧
    t.b (OTP_EVT_RAW_EVENTS.bit 0) = true ∧ keptOtp [q] s t ∧ keptReg wakeRegs [pgOTP, pgMODE] s t) ∧
  (∀ (fail : Word) (j : OtpJob) (q data : Nat) (s : State), s.eng.otp.job = some j → j.rows = [(q, data)] → data < 2 ^ 32 →
    BitVec.ofNat 32 data &&& fail ≠ 0 → j.retries < 8 → completes (.otpBurnAttemptDone fail) s fun t =>
    t.eng.otp.job = some { j with retries := j.retries + 1 } ∧ covers (t.otpRow q) (s.otpRow q) = true ∧
    t.reg OTP_RESULT = s.reg OTP_RESULT ∧ keptOtp [q] s t ∧ keptReg [] [] s t) ∧
  (∀ (fail : Word) (j : OtpJob) (q data : Nat) (s : State), s.eng.otp.job = some j → j.op = 2 → j.rows = [(q, data)] →
    data < 2 ^ 32 → BitVec.ofNat 32 data &&& fail ≠ 0 → j.retries = 8 → s.heldBy pgOTP < 4 →
    completes (.otpBurnAttemptDone fail) s fun t => t.eng.otp.job = none ∧ t.f OTP_RESULT_CODE = 2 ∧ t.f OTP_RESULT_RETRIES = 8 ∧
    t.b OTP_STATUS_BUSY = false ∧ t.f OTP_CNT_VERIFY_FAILS = satInc OTP_CNT_VERIFY_FAILS.wd (s.f OTP_CNT_VERIFY_FAILS) ∧
    t.eng.flt.held = s.eng.flt.held ++ [⟨pgOTP, j.row % 64, 1, j.row, false⟩] ∧ t.b (OTP_EVT_RAW_EVENTS.bit 1) = true ∧
    keptOtp [q] s t)

/-- The lifecycle, key renewal and entropy: For every state that meets the stated conditions: LC_ADVANCE and LC_DECOM start the burn
of the next marker where level and regions allow, and answer NOT_READY otherwise (R551); REKEY repeats the key setup under the next
generation (R564); a health failure or a restart blocks the generator, counts and reports, and the start-up test's end sets it going
or fails it (R565). Completing here, by constructor: lcAdvance, lcDecom, rekey, rngRestart, rngHealthFail, rngStartupTestDone. -/
def Obligations.lifecycleAndEntropy : Prop :=
  (∀ (src : Src) (key : BitVec 16) (l : Nat) (rs : List Nat) (s : State), s.takes src SEC_CMD (keyed key (1)) = true →
    s.accepts 6 = true → lcNeeds s.lc = some (l, rs) → l ≤ s.sessionOf src → (rs.all fun r => s.regionState r == 1) = true →
    s.b OTP_STATUS_BUSY = false → s.lowSupply = false → completes (.lcAdvance src key) s fun t => t.outcome = .ok ∧
    t.b OTP_STATUS_BUSY = true ∧
    t.eng.otp.job.map (fun j => (j.op, j.region, j.rows)) = some (5, s.lc + 1, [(s.rowAtHand (0x110 + s.lc), 2 ^ 32 - 1)]) ∧
    t.lc = s.lc ∧ keptOtp [] s t ∧ keptReg [] [pgSEC, pgOTP] s t ∧ keptMem s t) ∧
  (∀ (src : Src) (key : BitVec 16) (l : Nat) (rs : List Nat) (s : State), s.takes src SEC_CMD (keyed key (1)) = true →
    s.accepts 6 = true → lcNeeds s.lc = some (l, rs) → s.sessionOf src < l ∨ (rs.all fun r => s.regionState r == 1) = false →
    completes (.lcAdvance src key) s fun t => t.f SEC_STATUS_LC_RESULT = 2 ∧ t.eng.otp = s.eng.otp ∧ t.lc = s.lc ∧
    sameBut [SEC_STATUS] [] s t) ∧
  (∀ (src : Src) (key : BitVec 16) (s : State), s.takes src SEC_CMD (keyed key (2)) = true → s.accepts 6 = true → s.lc ≠ 4 →
    2 ≤ s.sessionOf src → s.b OTP_STATUS_BUSY = false → s.lowSupply = false → completes (.lcDecom src key) s fun t =>
    t.outcome = .ok ∧ t.b OTP_STATUS_BUSY = true ∧
    t.eng.otp.job.map (fun j => (j.op, j.region, j.rows)) = some (5, 4, [(s.rowAtHand 0x113, 2 ^ 32 - 1)]) ∧ keptOtp [] s t ∧
    keptReg [] [pgSEC, pgOTP] s t ∧ keptMem s t) ∧
  (∀ (src : Src) (key : BitVec 16) (s : State), s.takes src SEC_CMD (keyed key (2)) = true → s.accepts 6 = true →
    s.lc = 4 ∨ s.sessionOf src < 2 → completes (.lcDecom src key) s fun t => t.f SEC_STATUS_LC_RESULT = 2 ∧ t.eng.otp = s.eng.otp ∧
    sameBut [SEC_STATUS] [] s t) ∧
  (∀ (src : Src) (key : BitVec 16) (worker : Fin 64) (s : State),
    s.takes src SEC_CMD (keyed key (3 + worker.val * 2 ^ SEC_CMD_W.lo)) = true → s.accepts 8 = true → s.isMgr = true →
    worker.val ≠ 0 → s.eng.ring.keys.contains worker.val = true → completes (.rekey src key worker) s fun t => t.outcome = .ok ∧
    t.f SEC_RING_GEN = (s.f SEC_RING_GEN + 1) % 2 ^ SEC_RING_GEN.wd ∧ t.eng.sec.rekey.contains worker.val = true ∧
    (t.eng.sec.setups.any fun x => x.w == worker.val && x.await == 2 && x.tries == 1 && x.gen == (s.f SEC_RING_GEN + 1) % 2 ^
      SEC_RING_GEN.wd && x.t == s.now) = true ∧ t.eng.ring.keys = s.eng.ring.keys ∧ sameBut [SEC_RING] [] s t) ∧
  (∀ (src : Src) (key : BitVec 16) (s : State), s.takes src SEC_CMD (keyed key (4)) = true →
    completes (.rngRestart src key) s fun t => t.outcome = .ok ∧ t.b SEC_RNG_OK = false ∧ t.b SEC_STATUS_RNG_OK = false ∧
    t.b SEC_RNG_STARTUP_DONE = false ∧ sameBut [SEC_RNG, SEC_STATUS] [] s t) ∧
  (∀ (apt : Bool) (s : State), s.heldBy pgSEC < 4 → completes (.rngHealthFail apt) s fun t => t.b SEC_RNG_OK = false ∧
    t.b SEC_STATUS_RNG_OK = false ∧ t.f SEC_CNT_RNG_FAILS = satInc SEC_CNT_RNG_FAILS.wd (s.f SEC_CNT_RNG_FAILS) ∧
    t.eng.flt.held = s.eng.flt.held ++ [⟨pgSEC, 0, 0, 0, false⟩] ∧ t.b (SEC_EVT_RAW_EVENTS.bit 1) = true ∧
    sameBut ([SEC_RNG, SEC_STATUS, SEC_CNT, SEC_EVT_RAW] ++ wakeRegs) [pgMODE] s t ∧ (apt = true →
    t.f SEC_RNG_APT_FAILS = satInc SEC_RNG_APT_FAILS.wd (s.f SEC_RNG_APT_FAILS)) ∧ (apt = false →
    t.f SEC_RNG_RCT_FAILS = satInc SEC_RNG_RCT_FAILS.wd (s.f SEC_RNG_RCT_FAILS))) ∧
  (∀ (ok : Bool) (s : State), s.b SEC_RNG_STARTUP_DONE = false → ok = true → completes (.rngStartupTestDone ok) s fun t =>
    t.b SEC_RNG_STARTUP_DONE = true ∧ t.b SEC_RNG_OK = true ∧ t.b SEC_STATUS_RNG_OK = true ∧ sameBut [SEC_RNG, SEC_STATUS] [] s t) ∧
  (∀ (ok : Bool) (s : State), s.b SEC_RNG_STARTUP_DONE = false → ok = false → s.heldBy pgSEC < 4 →
    completes (.rngStartupTestDone ok) s fun t => t.b SEC_RNG_STARTUP_DONE = true ∧ t.b SEC_RNG_OK = false ∧
    t.b SEC_STATUS_RNG_OK = false ∧ t.f SEC_CNT_RNG_FAILS = satInc SEC_CNT_RNG_FAILS.wd (s.f SEC_CNT_RNG_FAILS) ∧
    t.eng.flt.held = s.eng.flt.held ++ [⟨pgSEC, 0, 0, 0, false⟩] ∧ t.b (SEC_EVT_RAW_EVENTS.bit 1) = true ∧
    sameBut ([SEC_RNG, SEC_STATUS, SEC_CNT, SEC_EVT_RAW] ++ wakeRegs) [pgMODE] s t)

/-- Sessions, lockout and the debug ports: For every state that meets the stated conditions: CHALLENGE draws a nonce for a level
that the lifecycle offers and whose key stands, and reports lockout, NOT_OFFERED or NO_ENTROPY otherwise (R555, R557); RESPOND
consumes the nonce and raises the level where the response is the expected one, or counts a failure (R555, R557); PASSWORD does so
by its digest (R556); the failure that reaches LOCK_N starts the lockout of 900 s (R557); DROP and the lapse return to the base
level (R558); DEBUG_OPEN and DEBUG_CLOSE move the ports in FIELD (R560). Completing here, by constructor: svcChallenge, svcRespond,
svcPassword, svcDrop, svcDebugOpen, svcDebugClose, nonceExpiry, lockoutEnd, sessionLapse. -/
def Obligations.sessionsAndPorts : Prop :=
  (∀ (src : Src) (key : BitVec 16) (level : Fin 4) (s : State),
    s.takes src SVC_CMD (keyed key (1 + level.val * 2 ^ SVC_CMD_LEVEL.lo)) = true → s.lockedOut = false →
    lcOffers s.lc level.val = true → s.keyUsable (keyRow level.val) = true → s.b SEC_RNG_OK = true →
    completes (.svcChallenge src key level) s fun t => t.outcome = .ok ∧ t.f SVC_STATUS_RESULT = 1 ∧ t.b SVC_STATUS_CHAL = true ∧
    t.f SVC_STATUS_CHAL_LEVEL = level.val ∧ t.eng.sec.nonce = true ∧ t.level = s.level ∧ t.free = s.free + 4 ∧
    (List.range 4).all (fun k => t.reg (SVC_NONCE k) == BitVec.ofNat 32 (Config.freeNat (s.free + k))) = true ∧
    sameBut (SVC_STATUS :: (List.range 4).map SVC_NONCE) [] s t) ∧
  (∀ (src : Src) (key : BitVec 16) (level : Fin 4) (s : State),
    s.takes src SVC_CMD (keyed key (1 + level.val * 2 ^ SVC_CMD_LEVEL.lo)) = true → s.lockedOut = true →
    completes (.svcChallenge src key level) s fun t => t.f SVC_STATUS_RESULT = 5 ∧ t.eng.sec.nonce = s.eng.sec.nonce ∧
    t.free = s.free ∧ sameBut [SVC_STATUS] [] s t) ∧
  (∀ (src : Src) (key : BitVec 16) (level : Fin 4) (s : State),
    s.takes src SVC_CMD (keyed key (1 + level.val * 2 ^ SVC_CMD_LEVEL.lo)) = true → s.lockedOut = false →
    lcOffers s.lc level.val = false ∨ s.keyUsable (keyRow level.val) = false → completes (.svcChallenge src key level) s fun t =>
    t.f SVC_STATUS_RESULT = 4 ∧ t.eng.sec.nonce = s.eng.sec.nonce ∧ sameBut [SVC_STATUS] [] s t) ∧
  (∀ (src : Src) (key : BitVec 16) (level : Fin 4) (s : State),
    s.takes src SVC_CMD (keyed key (1 + level.val * 2 ^ SVC_CMD_LEVEL.lo)) = true → s.lockedOut = false →
    lcOffers s.lc level.val = true → s.keyUsable (keyRow level.val) = true → s.b SEC_RNG_OK = false →
    completes (.svcChallenge src key level) s fun t => t.f SVC_STATUS_RESULT = 6 ∧ t.eng.sec.nonce = s.eng.sec.nonce ∧
    sameBut [SVC_STATUS] [] s t) ∧
  (∀ (src : Src) (key : BitVec 16) (s : State), s.takes src SVC_CMD (keyed key (2)) = true → s.eng.sec.nonce = true →
    completes (.svcRespond src key) s fun t => t.f SVC_STATUS_RESULT = (if s.respBytes 8 == s.svcMac then 1 else 2) ∧
    t.f SVC_CNT_AUTH_OK = (if s.respBytes 8 == s.svcMac then satInc SVC_CNT_AUTH_OK.wd (s.f SVC_CNT_AUTH_OK) else s.f
      SVC_CNT_AUTH_OK) ∧
    t.f SVC_CNT_AUTH_FAIL = (if s.respBytes 8 == s.svcMac then s.f SVC_CNT_AUTH_FAIL else satInc SVC_CNT_AUTH_FAIL.wd (s.f
      SVC_CNT_AUTH_FAIL)) ∧ t.level = (if s.respBytes 8 == s.svcMac then s.f SVC_STATUS_CHAL_LEVEL else s.level) ∧
    t.f SVC_FAIL_COUNT = (if s.respBytes 8 == s.svcMac then 0 else satInc SVC_FAIL_COUNT.wd (s.f SVC_FAIL_COUNT)) ∧
    ((s.respBytes 8 == s.svcMac) = false → satInc SVC_FAIL_COUNT.wd (s.f SVC_FAIL_COUNT) = s.lockN → t.f SVC_FAIL_LOCK_REM = 900 ∧
    t.b (SVC_EVT_RAW_EVENTS.bit 2) = true) ∧ ((s.respBytes 8 == s.svcMac) = false →
    satInc SVC_FAIL_COUNT.wd (s.f SVC_FAIL_COUNT) ≠ s.lockN → t.f SVC_FAIL_LOCK_REM = s.f SVC_FAIL_LOCK_REM) ∧
    t.eng.sec.nonce = false ∧ t.b SVC_STATUS_CHAL = false ∧ keptOtp [] s t) ∧
  (∀ (src : Src) (key : BitVec 16) (s : State), s.takes src SVC_CMD (keyed key (2)) = true → s.eng.sec.nonce = false →
    completes (.svcRespond src key) s fun t => t.f SVC_STATUS_RESULT = 3 ∧ sameBut [SVC_STATUS] [] s t) ∧
  (∀ (src : Src) (key : BitVec 16) (level : Fin 4) (s : State),
    s.takes src SVC_CMD (keyed key (3 + level.val * 2 ^ SVC_CMD_LEVEL.lo)) = true → s.lockedOut = false →
    s.b SEC_POLICY_PW_DIS = false → level.val = 1 ∨ level.val = 2 → s.keyUsable (pwRow level.val) = true →
    completes (.svcPassword src key level) s fun t =>
    t.f SVC_STATUS_RESULT = (if Sha.sha256 (s.respBytes 4 ++ s.uidBytes) == s.rowBytes (pwRow level.val) then 1 else 2) ∧
    t.f SVC_CNT_AUTH_OK = (if Sha.sha256 (s.respBytes 4 ++ s.uidBytes) == s.rowBytes (pwRow level.val) then satInc
      SVC_CNT_AUTH_OK.wd (s.f SVC_CNT_AUTH_OK) else s.f SVC_CNT_AUTH_OK) ∧
    t.f SVC_CNT_AUTH_FAIL = (if Sha.sha256 (s.respBytes 4 ++ s.uidBytes) == s.rowBytes (pwRow level.val) then s.f SVC_CNT_AUTH_FAIL
      else satInc SVC_CNT_AUTH_FAIL.wd (s.f SVC_CNT_AUTH_FAIL)) ∧
    t.level = (if Sha.sha256 (s.respBytes 4 ++ s.uidBytes) == s.rowBytes (pwRow level.val) then level.val else s.level) ∧
    t.f SVC_FAIL_COUNT = (if Sha.sha256 (s.respBytes 4 ++ s.uidBytes) == s.rowBytes (pwRow level.val) then 0 else satInc
      SVC_FAIL_COUNT.wd (s.f SVC_FAIL_COUNT)) ∧
    ((Sha.sha256 (s.respBytes 4 ++ s.uidBytes) == s.rowBytes (pwRow level.val)) = false →
    satInc SVC_FAIL_COUNT.wd (s.f SVC_FAIL_COUNT) = s.lockN → t.f SVC_FAIL_LOCK_REM = 900 ∧ t.b (SVC_EVT_RAW_EVENTS.bit 2) = true) ∧
    ((Sha.sha256 (s.respBytes 4 ++ s.uidBytes) == s.rowBytes (pwRow level.val)) = false →
    satInc SVC_FAIL_COUNT.wd (s.f SVC_FAIL_COUNT) ≠ s.lockN → t.f SVC_FAIL_LOCK_REM = s.f SVC_FAIL_LOCK_REM) ∧
    t.eng.sec.nonce = s.eng.sec.nonce ∧ keptOtp [] s t) ∧
  (∀ (src : Src) (key : BitVec 16) (level : Fin 4) (s : State),
    s.takes src SVC_CMD (keyed key (3 + level.val * 2 ^ SVC_CMD_LEVEL.lo)) = true → s.lockedOut = false →
    s.b SEC_POLICY_PW_DIS = true → completes (.svcPassword src key level) s fun t => t.f SVC_STATUS_RESULT = 4 ∧
    sameBut [SVC_STATUS] [] s t) ∧
  (∀ (src : Src) (key : BitVec 16) (s : State), s.takes src SVC_CMD (keyed key (4)) = true → s.lc = 2 →
    completes (.svcDrop src key) s fun t => t.outcome = .ok ∧ t.level = 0 ∧ t.b SVC_DEBUG_SAP_OPEN = false ∧
    t.b SVC_DEBUG_TAP_FULL = false) ∧
  (∀ (src : Src) (key : BitVec 16) (s : State), s.takes src SVC_CMD (keyed key (4)) = true → s.lc = 1 →
    completes (.svcDrop src key) s fun t => t.outcome = .ok ∧ t.level = 2 ∧ t.b SVC_DEBUG_SAP_OPEN = true ∧
    t.b SVC_DEBUG_TAP_FULL = true ∧ sameBut [SVC_SESSION, SVC_DEBUG] [] s t) ∧
  (∀ (src : Src) (key : BitVec 16) (s : State), s.takes src SVC_CMD (keyed key (5)) = true → s.lc = 2 → 2 ≤ s.sessionOf src →
    s.b SEC_POLICY_DEBUG_FIELD = true → s.heldBy pgSVC < 4 → completes (.svcDebugOpen src key) s fun t => t.outcome = .ok ∧
    t.b SVC_DEBUG_SAP_OPEN = true ∧ t.b SVC_DEBUG_TAP_FULL = true ∧ t.eng.flt.held = s.eng.flt.held ++ [⟨pgSVC, 0, 2, 0, false⟩] ∧
    t.b (SVC_EVT_RAW_EVENTS.bit 4) = true ∧ sameBut ([SVC_DEBUG, SVC_EVT_RAW] ++ wakeRegs) [pgMODE] s t) ∧
  (∀ (src : Src) (key : BitVec 16) (s : State), s.takes src SVC_CMD (keyed key (5)) = true → s.lc = 2 →
    s.sessionOf src < 2 ∨ s.b SEC_POLICY_DEBUG_FIELD = false → completes (.svcDebugOpen src key) s fun t => t.outcome = .denied ∧
    sameBut [] [] s t) ∧
  (∀ (src : Src) (key : BitVec 16) (s : State), s.takes src SVC_CMD (keyed key (6)) = true → s.lc = 2 →
    completes (.svcDebugClose src key) s fun t => t.outcome = .ok ∧ t.b SVC_DEBUG_SAP_OPEN = false ∧
    t.b SVC_DEBUG_TAP_FULL = false ∧ sameBut [SVC_DEBUG] [] s t) ∧
  (∀ (s : State), s.nonceOld = true → completes .nonceExpiry s fun t => t.eng.sec.nonce = false ∧ t.b SVC_STATUS_CHAL = false ∧
    t.level = s.level ∧ sameBut [SVC_STATUS] [] s t) ∧
  (∀ (s : State), s.eng.sec.nonce = true → s.now < s.eng.sec.nonceAt + 60000000 → completes .nonceExpiry s fun t =>
    t.eng.sec.nonce = true ∧ sameBut [] [] s t) ∧
  (∀ (s : State), s.lockOver = true → completes .lockoutEnd s fun t => t.f SVC_FAIL_LOCK_REM = 0 ∧ t.f SVC_FAIL_COUNT = 0 ∧
    t.lockedOut = false ∧ sameBut [SVC_FAIL] [] s t) ∧
  (∀ (s : State), s.lockedOut = true → completes .lockoutEnd s fun t => t.lockedOut = true ∧ sameBut [] [] s t) ∧
  (∀ (s : State), s.lapseDue = true → s.lc = 2 → completes .sessionLapse s fun t => t.level = 0 ∧ t.b SVC_DEBUG_SAP_OPEN = false ∧
    t.b SVC_DEBUG_TAP_FULL = false ∧ t.b (SVC_EVT_RAW_EVENTS.bit 3) = true ∧ (s.f MODE_REQ_TARGET = 5 → t.f MODE_REQ_TARGET = 15)) ∧
  (∀ (s : State), s.lapseDue = false → completes .sessionLapse s fun t => t.level = s.level ∧ sameBut [] [] s t)

/-- A step runs the command at the front of the queue: For every state whose queue begins with a command c, a step is exec of c on
the state whose queue is the rest. -/
def Obligations.commandAtTheFront : Prop :=
  ∀ (c : Instr) (rest : List Instr) (s : State), s.pending = c :: rest → step s = exec c { s with pending := rest }

/-- With no command waiting a microsecond passes: For every state with an empty queue, a step answers a next state in which model
time is one microsecond on, the epoch has advanced by 1 modulo 2^48 where it runs and not where it does not, no OTP row, no byte and
no staging copy has changed, and the queue is still empty. That an idle step is one microsecond is the model's choice (log entry 6).
-/
def Obligations.emptyQueueIdles : Prop :=
  ∀ s : State, s.pending = [] → ∃ t, step s = Host.Outcome.next t ∧ t.now = s.now + 1 ∧
    t.epoch = (if s.eng.epoch.running then (s.epoch + 1) % 2 ^ 48 else s.epoch) ∧ t.otp = s.otp ∧ t.mem = s.mem ∧
    t.staged = s.staged ∧ t.pending = []

/-- Every command answers a next state, and the commands of the register bus, modes, epochs, commits and the rack complete with
their effect: For every command and every state exec answers a next state, never a fault or a refusal, with the queue and the model
time as they were; so a step takes exactly the front command from the queue. Each command of the register bus, of the operating
modes, of epochs, brackets, snapshots, staged commits and mirrors, and of the roster, the rack means, arc detection, isolation and
capture answers a next state with the effect named, in every state and with all operands that meet the conditions of its clause.
Completing here, by constructor: registerWrite, shadowWrite, lockWrite, stgRegisterWrite, stageDiscard, stageView, modeReqPin,
modeReqService, modeReqSafehold, modeReqFactory, modeReqAuto, modeLtolWrite, modeAttPerWrite, modeDormPerWrite, modeCfgWrite,
modeIdleIWrite, ascentDone, dwellExpiry, descentDone, wakePinRise, stackWake, wakeHoldExpiry, dormantCheckTimer, dormantCheckDone,
epochBlockSend, epochBlockRx, syncHoldoverTimeout, epochNowLoRead, pathDelayUpdate, brkOpen, brkClose, bracketLatch, bracketTimeout,
snap, snapPeriod, snapGatherDone, snapDeadline, cmPrepare, cmAbort, cmReconcile, prepareRx, ackRx, commitDecision, commitRx,
abortRx, commitApply, queryRx, commitQueryTimer, commitIndoubt, indoubtHoldEnd, commitReportDeadline, regRdRx, regWrRx, regRspRx,
mirrorTimeout, statusSend, statusRx, rosterStale, rosterBlind, rosterReadmit, rosterAdopt, rackResult, rackISend, arcBlockEval,
arcCtrlWrite, arcClear, arcRelearn, isoCtrlWrite, isoHalfEnd, capArm, capForce, capRelease, capAbort, capPostComplete, capSettleEnd.
-/
def Obligations.everyCommandCompletes : Prop :=
  (∀ (c : Instr) (s : State), completes c s fun t => t.pending = s.pending ∧ t.now = s.now) ∧
  (∀ s t : State, step s = Host.Outcome.next t → t.pending = s.pending.tail) ∧
  (∀ (src : Src) (a : BitVec 18) (w : Word) (s : State), s.takes src a.toNat w = true →
    [some Acc.rw, some Acc.rwl, some Acc.rwMgr].contains ((rowAt a.toNat).map fun r => r.acc) = true →
    [0x01C, 0x028].contains (offOf a.toNat) = false → pageOf a.toNat ≠ pgMODE →
    ([CLK_LF_CFG, CLK_STEER, REG_BK_VSET 3, REG_LD_VSET 3, SV_CFG 0, PHC_RAIL_VSET 0, CHG_PACK, CHG_VREG, AFE_CFG, AFE_TMUX,
      AFE_CAL_U 0, SCAN_REQ_CFG, BAL_SH_I, BAL_BLEED, EIS_VIEW, ARC_CTRL, ISO_CTRL, GPIO_OUT, GPIO_CFG 0, ICU_SWI, ICU_T_MOD 3,
      ICU_LINE 0, WDG_CFG 0, RTC_ALARM, RTC_ALM_CFG, RTC_PWRON] : List Nat).contains (canon a.toNat) = false →
    ([RTC_TRIM, MODE_ATT_PER, MODE_CFG, MEM_CFG, THM_CFG, THM_THR, WDG_TM_CFG, FLT_CFG, BAL_PASS_CFG, FEED_QUAL, CONT_SENSE,
      ICU_GROUP, ICU_CFG] : List Nat).contains a.toNat = false → ∃ t, exec (.registerWrite src a w) s = Host.Outcome.next t ∧
    t.outcome = .ok ∧ t.reg a.toNat = s.norm a.toNat (s.reg a.toNat) w ∧ sameBut [a.toNat] [] s t) ∧
  (∀ (src : Src) (page : Fin 40) (w : Word) (s : State), s.takes src (hdrShadow page.val) w = true → hasShd page.val = true →
    getBits w 0 2 = 1 → bitOf w.toNat 2 = true → s.b (shadowFrozen page.val) = false →
    ∃ t, exec (.shadowWrite src page w) s = Host.Outcome.next t ∧ t.f (shadowSrc page.val) = 1 ∧
    t.f (shadowSeq page.val) = (s.f (shadowSeq page.val) + 1) % 256 ∧ (shdAddrs page.val).all (fun a => t.shd a == s.reg a) = true ∧
    keptShd (shdAddrs page.val) s t ∧ keptReg [hdrShadow page.val] [] s t) ∧
  (∀ (src : Src) (page : Fin 40) (key : BitVec 16) (lock : Bool) (s : State),
    s.takes src (page.val * 0x1000 + 0x018) (keyed key (b2n lock)) = true →
    ∃ t, exec (.lockWrite src page key lock) s = Host.Outcome.next t ∧ t.outcome = .ok ∧
    t.b ⟨page.val * 0x1000 + 0x018, 0, 1⟩ = (s.b ⟨page.val * 0x1000 + 0x018, 0, 1⟩ || lock) ∧
    sameBut [page.val * 0x1000 + 0x018] [] s t) ∧
  (∀ (src : Src) (a : BitVec 18) (w : Word) (s : State), s.takes src a.toNat w = true →
    ((rowAt a.toNat).map fun r => r.acc) = some .stg → pageOf a.toNat ≠ pgBAL →
    ∃ t, exec (.stgRegisterWrite src a w) s = Host.Outcome.next t ∧ t.stg a.toNat = s.norm a.toNat (s.stg a.toNat) w) ∧
  (∀ (src : Src) (page : Fin 40) (view : Bool) (s : State),
    s.takes src (hdrStage page.val) (BitVec.ofNat 32 (8 + b2n view)) = true → hasStg page.val = true →
    s.b (stageHeld page.val) = false → ∃ t, exec (.stageDiscard src page view) s = Host.Outcome.next t ∧
    (pageAddrs page.val .stg).all (fun a => t.stg a == s.reg a) = true) ∧
  (∀ (src : Src) (page : Fin 40) (view : Bool) (s : State), s.takes src (hdrStage page.val) (BitVec.ofNat 32 (b2n view)) = true →
    hasStg page.val = true → ∃ t, exec (.stageView src page view) s = Host.Outcome.next t ∧ t.outcome = .ok ∧
    t.b (stageView page.val) = view ∧ t.f (stageOutcome page.val) = s.f (stageOutcome page.val) ∧ keptStg [] s t ∧
    keptReg [hdrStage page.val] [] s t) ∧
  (∀ (src : Src) (tg : Fin 5) (s : State), s.takes src MODE_REQ (BitVec.ofNat 32 tg.val) = true → s.accepts 0 = true →
    ∃ t, exec (.modeReqPin src tg) s = Host.Outcome.next t ∧ t.outcome = .ok ∧ t.f MODE_REQ_TARGET = tg.val ∧
    t.b MODE_STATUS_PINNED = true ∧ t.f MODE_FLOOR_LOCAL = s.floorLocal ∧ (s.mode ≠ 5 → sameBut wakeRegs [pgMODE] s t)) ∧
  (∀ (src : Src) (s : State), s.takes src MODE_REQ 5 = true → s.accepts 0 = true → s.contOpenNow = true →
    ∃ t, exec (.modeReqService src) s = Host.Outcome.next t ∧ t.outcome = .ok ∧ t.f MODE_REQ_TARGET = 5 ∧
    sameBut wakeRegs [pgMODE] s t) ∧
  (∀ (src : Src) (s : State), s.takes src MODE_REQ 6 = true → s.mode ≠ 7 → s.heldBy pgMODE < 4 →
    ∃ t, exec (.modeReqSafehold src) s = Host.Outcome.next t ∧ t.f MODE_REQ_TARGET = 6) ∧
  (∀ (src : Src) (s : State), s.takes src MODE_REQ 7 = true → s.accepts 0 = true →
    ∃ t, exec (.modeReqFactory src) s = Host.Outcome.next t ∧ t.outcome = .ok ∧ t.f MODE_REQ_TARGET = 7 ∧
    sameBut wakeRegs [pgMODE] s t) ∧
  (∀ (src : Src) (s : State), s.takes src MODE_REQ 15 = true → s.accepts 0 = true →
    ∃ t, exec (.modeReqAuto src) s = Host.Outcome.next t ∧ t.outcome = .ok ∧ t.f MODE_REQ_TARGET = 15 ∧
    t.b MODE_STATUS_PINNED = false ∧ t.b MODE_STATUS_UNMET = s.cand?.isNone ∧ t.f MODE_LIMIT_UNMET = s.unmetMap 4 ∧ (s.mode ≠ 5 →
    sameBut wakeRegs [pgMODE] s t)) ∧
  (∀ (src : Src) (n : Fin 8) (w : Word) (s : State), s.takes src (MODE_LTOL n.val) w = true →
    ∃ t, exec (.modeLtolWrite src n w) s = Host.Outcome.next t ∧ t.outcome = .ok ∧ t.reg (MODE_LTOL n.val) = w ∧
    (List.range 8).all (fun k => k == n.val || t.reg (MODE_LTOL k) == s.reg (MODE_LTOL k)) = true ∧
    t.reg MODE_REQ = s.reg MODE_REQ ∧ t.mode = s.mode ∧ sameBut wakeRegs [pgMODE] s t) ∧
  (∀ (src : Src) (w : Word) (s : State), s.takes src MODE_ATT_PER w = true →
    ∃ t, exec (.modeAttPerWrite src w) s = Host.Outcome.next t ∧ t.outcome = .ok ∧
    t.f MODE_ATT_PER_PER = clamp 10 10000 (MODE_ATT_PER_PER.of w) ∧ t.reg MODE_REQ = s.reg MODE_REQ ∧ t.mode = s.mode ∧
    (s.eng.scan.cell = none → s.eng.scan.aux = none → sameBut wakeRegs [pgMODE] s t)) ∧
  (∀ (src : Src) (w : Word) (s : State), s.takes src MODE_DORM_PER w = true →
    ∃ t, exec (.modeDormPerWrite src w) s = Host.Outcome.next t ∧ t.outcome = .ok ∧
    t.f MODE_DORM_PER_SEC = clamp 1 86400 (MODE_DORM_PER_SEC.of w) ∧ t.reg MODE_REQ = s.reg MODE_REQ ∧ t.mode = s.mode ∧
    sameBut wakeRegs [pgMODE] s t) ∧
  (∀ (src : Src) (w : Word) (s : State), s.takes src MODE_CFG w = true → ∃ t, exec (.modeCfgWrite src w) s = Host.Outcome.next t ∧
    t.f MODE_CFG_DWELL = MODE_CFG_DWELL.of w) ∧
  (∀ (src : Src) (w : Word) (s : State), s.takes src MODE_IDLE_I w = true →
    ∃ t, exec (.modeIdleIWrite src w) s = Host.Outcome.next t ∧ t.outcome = .ok ∧ t.f MODE_IDLE_I_THR = MODE_IDLE_I_THR.of w ∧
    t.b MODE_FLOOR_CUR_ABOVE = s.b MODE_FLOOR_CUR_ABOVE ∧ t.reg MODE_REQ = s.reg MODE_REQ ∧ t.mode = s.mode ∧
    sameBut wakeRegs [pgMODE] s t) ∧
  (∀ (s : State), s.b MODE_STATUS_ASCENDING = true → s.mode = 2 ∨ s.mode = 3 ∨ s.mode = 4 → s.mode < s.f MODE_STATUS_ENTERING →
    s.eng.mode.aborted = false → s.eng.mode.check = 0 → ∃ t, exec .ascentDone s = Host.Outcome.next t ∧
    t.mode = s.f MODE_STATUS_ENTERING) ∧
  (∀ (s : State), s.released = true → s.mode ≤ 4 → s.inTransition = false → s.target < s.mode → 2 ≤ s.target →
    ∃ t, exec .dwellExpiry s = Host.Outcome.next t ∧ t.mode = s.mode ∧ t.b MODE_STATUS_DESCENDING = true ∧
    t.b MODE_STATUS_ASCENDING = false ∧ t.f MODE_STATUS_ENTERING = s.target ∧ sameBut [] [pgMODE, pgBAL] s t) ∧
  (∀ (s : State), s.b MODE_STATUS_DESCENDING = true → s.mode = 3 ∨ s.mode = 4 → s.f MODE_STATUS_ENTERING < s.mode →
    2 ≤ s.f MODE_STATUS_ENTERING → s.eng.mode.check = 0 → ∃ t, exec .descentDone s = Host.Outcome.next t ∧
    t.mode = s.f MODE_STATUS_ENTERING) ∧
  (∀ (s : State), s.b MODE_CFG_WAKE_EN = true → 1 ≤ s.mode → s.mode ≤ 4 → ∃ t, exec .wakePinRise s = Host.Outcome.next t ∧
    t.b MODE_WAKE_SRC_PIN = true) ∧
  (∀ (s : State), s.isWrk = true → s.mode = 0 → s.released = true → s.inTransition = false →
    ∃ t, exec .stackWake s = Host.Outcome.next t ∧ t.b MODE_WAKE_SRC_STACK = true ∧ t.b RST_CAUSE_SHELF_EXIT = true ∧
    t.b RST_BOOT_HALTED = false ∧ t.mode = 3 ∧ t.isWrk = true) ∧
  (∀ (s : State), s.isMgr = true → s.reg (MODE_EVT_RAW + 8) = 0 → ∃ t, exec .wakeHoldExpiry s = Host.Outcome.next t ∧
    t.eng.mode.wakeHold = false ∧ t.f MODE_FLOOR_LOCAL = s.floorLocal ∧ t.mode = s.mode ∧ sameBut wakeRegs [pgMODE] s t) ∧
  (∀ (s : State), s.mode = 1 → s.inTransition = false → ∃ t, exec .dormantCheckTimer s = Host.Outcome.next t ∧
    t.b MODE_WAKE_SRC_CHECK = true) ∧
  (∀ (hit : Bool) (s : State), s.mode = 3 → s.eng.mode.check = 2 → hit = false → s.f CELL_OV_MAP_MAP = 0 → s.f CELL_UV_MAP_MAP = 0 →
    s.f AUX_T_MAP_OT = 0 → s.f AUX_T_MAP_UT = 0 → s.target ≤ 1 → s.isMgr = true →
    ∃ t, exec (.dormantCheckDone hit) s = Host.Outcome.next t ∧ t.eng.mode.check = 3 ∧ t.b MODE_STATUS_DESCENDING = true ∧
    t.f MODE_STATUS_ENTERING = 1 ∧ t.mode = 3 ∧ sameBut [] [pgMODE, pgBAL] s t) ∧
  (∀ (s : State), s.isMgr = true → s.eng.epoch.running = true → s.epoch % 64 = 0 → s.port 0 = 4 → s.port 1 = 4 →
    ∃ t, exec .epochBlockSend s = Host.Outcome.next t ∧
    t.eng.ring.tx = [.block 0 0x33 (epochBlock s.epoch (s.f MODE_FLOOR_RACK) s.coFlag),
    .block 1 0x33 (epochBlock s.epoch (s.f MODE_FLOOR_RACK) s.coFlag)] ∧ sameBut [] [] s t) ∧
  (∀ (port : Fin 2) (floor : Fin 8) (co : Bool) (e : BitVec 48) (phi : Int) (s : State), s.isWrk = true → s.port port.val = 4 →
    port.val = s.outPort → s.b EPOCH_PATH_VALID = true → s.f EPOCH_STATUS_SYNC ≠ 2 → s.eng.epoch.near = 15 →
    (sigmaOf phi (s.f AFE_STROBE_FINE)).natAbs ≤ 1000 → phi.natAbs ≤ 400000 →
    ∃ t, exec (.epochBlockRx port floor co e phi) s = Host.Outcome.next t ∧ t.f EPOCH_STATUS_SYNC = 2) ∧
  (∀ (s : State), s.isWrk = true → s.f EPOCH_STATUS_SYNC = 2 → s.blocksLost = true → 3 ≤ s.mode → s.heldBy pgEPOCH < 4 →
    ∃ t, exec .syncHoldoverTimeout s = Host.Outcome.next t ∧ t.f EPOCH_STATUS_SYNC = 3) ∧
  (∀ (src : Src) (s : State), s.served src = true → s.watchShut src EPOCH_NOW_LO = false →
    ∃ t, exec (.epochNowLoRead src) s = Host.Outcome.next t ∧ t.resp = [BitVec.ofNat 32 s.epoch] ∧
    t.f EPOCH_NOW_HI_EPOCH = s.epoch / 2 ^ 32 % 2 ^ 16 ∧ t.outcome = .ok ∧ sameBut [EPOCH_NOW_LO, EPOCH_NOW_HI] [] s t) ∧
  (∀ (w : Nat) (s : State), s.isMgr = true → s.liveWorkers = [w] → s.seqFree w = true → s.port (s.portTo w) = 4 →
    s.weldDown = false → ∃ t, exec .pathDelayUpdate s = Host.Outcome.next t ∧ t.eng.epoch.tid = (s.eng.epoch.tid + 1) % 65536 ∧
    t.eng.epoch.mir.length = s.eng.epoch.mir.length + 1 ∧ t.eng.ring.tx.length = 1 ∧ sameBut [] [] s t) ∧
  (∀ (src : Src) (key : BitVec 16) (s : State), s.takes src EPOCH_CMD (keyed key 1) = true → s.b EPOCH_BRK_EP_HI_SCOPE = false →
    s.eng.epoch.brk = 0 → s.eng.epoch.snapE = none → s.f EPOCH_BRK_EP_LO_EPOCH + 2 ^ 32 * s.f EPOCH_BRK_EP_HI_EPOCH = 0 →
    ∃ t, exec (.brkOpen src key) s = Host.Outcome.next t ∧ t.eng.epoch.brk = 1) ∧
  (∀ (src : Src) (key : BitVec 16) (s : State), s.takes src EPOCH_CMD (keyed key 2) = true → s.eng.epoch.brk ≠ 0 →
    s.isMgr = false ∨ s.eng.epoch.brkRack = false → ∃ t, exec (.brkClose src key) s = Host.Outcome.next t ∧ t.eng.epoch.brk = 0) ∧
  (∀ (s : State), s.eng.epoch.brk = 1 → later (s.eng.epoch.brkE + 2) s.epoch = false → s.eng.epoch.brkSnap = false →
    ∃ t, exec .bracketLatch s = Host.Outcome.next t ∧ t.eng.epoch.brk = 2) ∧
  (∀ (s : State), s.eng.epoch.brk ≠ 0 → later (s.eng.epoch.brkE + 1000 * s.f EPOCH_BRK_EP_HI_TMO) s.epoch = false →
    s.isMgr = false ∨ s.eng.epoch.brkRack = false → ∃ t, exec .bracketTimeout s = Host.Outcome.next t ∧ t.eng.epoch.brk = 0) ∧
  (∀ (src : Src) (key : BitVec 16) (s : State), s.takes src EPOCH_CMD (keyed key 3) = true → s.eng.epoch.brk = 0 →
    s.eng.epoch.snapE = none → ∃ t, exec (.snap src key) s = Host.Outcome.next t ∧ t.eng.epoch.snapE = some (s.autoEpoch s.isMgr)) ∧
  (∀ (s : State), s.f EPOCH_SNAP_CFG_PER ≠ 0 → s.eng.epoch.running = true → s.epoch % (1000 * s.f EPOCH_SNAP_CFG_PER) = 0 →
    s.eng.epoch.snapAt ≠ some s.epoch → s.eng.epoch.brk = 0 → s.eng.epoch.snapE = none →
    ∃ t, exec .snapPeriod s = Host.Outcome.next t ∧ t.eng.epoch.snapE = some (s.autoEpoch s.isMgr)) ∧
  (∀ (e : Nat) (s : State), s.eng.epoch.snapE = some e → s.eng.epoch.brk ≠ 1 → s.snapAll = true → s.eng.epoch.snapBuf < 2 →
    ∃ t, exec .snapGatherDone s = Host.Outcome.next t ∧ t.eng.epoch.snapE = none) ∧
  (∀ (e : Nat) (s : State), s.eng.epoch.snapE = some e → s.snapAll = false → later (e + 8000) s.epoch = false →
    s.eng.epoch.snapBuf < 2 → ∃ t, exec .snapDeadline s = Host.Outcome.next t ∧ t.eng.epoch.snapE = none) ∧
  (∀ (src : Src) (key : BitVec 16) (s : State), s.takes src EPOCH_CMD (keyed key 4) = true → s.accepts 7 = true →
    later (s.epoch + 200) (s.f EPOCH_CM_EP_LO_EPOCH + 2 ^ 32 * s.f EPOCH_CM_EP_HI_EPOCH) = false → s.eng.epoch.cm = none →
    s.eng.epoch.holds = [] → s.b EPOCH_CM_EP_HI_SCOPE = false → ∃ t, exec (.cmPrepare src key) s = Host.Outcome.next t ∧
    t.f EPOCH_CM_STATUS_RESULT = 1) ∧
  (∀ (src : Src) (key : BitVec 16) (c : CmRun) (s : State), s.takes src EPOCH_CMD (keyed key 5) = true → s.eng.epoch.cm = some c →
    c.decided = false → ∃ t, exec (.cmAbort src key) s = Host.Outcome.next t ∧ t.eng.epoch.cm = some { c with abort := true } ∧
    t.eng.epoch.holds = s.eng.epoch.holds ∧ sameBut [] [] s t) ∧
  (∀ (src : Src) (key : BitVec 16) (d e w : Nat) (s : State), s.takes src EPOCH_CMD (keyed key 6) = true → s.isMgr = true →
    s.eng.epoch.lastDec = some (d, e, true) →
    ((List.range 32).map (· + 1)).filter (fun w => s.f (cmOut w) == 8 || s.f (cmOut w) == 10) = [w] → s.seqFree w = true →
    s.port (s.portTo w) = 4 → s.weldDown = false → ∃ t, exec (.cmReconcile src key) s = Host.Outcome.next t ∧
    t.eng.ring.tx.length = 1) ∧
  (∀ (port : Fin 2) (p : Pkt) (s : State), s.isWrk = true → s.hears port.val 0x20 p = true →
    bitOf (pw p 2) (s.f RING_SELF_INDEX - 1) = true →
    (s.stgTargets (bits64 (pw p 1) 0 40)).all (fun q => !s.b (stageHeld q)) = true →
    later (s.epoch + 50) (bits64 (pw p 0) 16 48) = false → s.mode ≠ 2 → s.mode ≠ 6 → s.weldDown = false →
    ∃ t, exec (.prepareRx port p) s = Host.Outcome.next t ∧
    (s.stgTargets (bits64 (pw p 1) 0 40)).all (fun q => t.b (stageHeld q)) = true) ∧
  (∀ (port : Fin 2) (p : Pkt) (c : CmRun) (s : State), s.isMgr = true → s.hears port.val 0x21 p = true → p.seq ≠ 0x3F000000 →
    1 ≤ p.src → p.src ≤ 32 → bits64 (pw p 0) 8 8 = s.f EPOCH_CM_EP_HI_ID → bits64 (pw p 0) 4 4 = 0 → s.eng.epoch.cm = some c →
    c.decided = false → c.mem.contains p.src = true → ∃ t, exec (.ackRx port p) s = Host.Outcome.next t ∧
    t.f (cmOut p.src) = (if bits64 (pw p 0) 0 4 = 0 then 2 else 3) ∧ t.eng.epoch.cm = s.eng.epoch.cm ∧
    sameBut [(cmOut p.src).reg] [] s t) ∧
  (∀ (c : CmRun) (h : CmHold) (s : State), s.eng.epoch.cm = some c → c.decided = false → c.rack = false → c.mem = [] →
    s.eng.epoch.holds = [h] → h.id = c.id → h.rack = false → later c.e (s.epoch + 50) = false → c.abort = false →
    ∃ t, exec .commitDecision s = Host.Outcome.next t ∧ t.f EPOCH_CM_STATUS_RESULT = 5) ∧
  (∀ (port : Fin 2) (p : Pkt) (h : CmHold) (s : State), s.isWrk = true → s.hears port.val 0x22 p = true → s.eng.epoch.holds = [h] →
    h.rack = true → h.id = bits64 (pw p 0) 8 8 → bitOf (pw p 0) 0 = false → h.apply = none → later h.e s.epoch = true →
    ∃ t, exec (.commitRx port p) s = Host.Outcome.next t ∧ t.eng.epoch.holds = [{ h with apply := some (h.e, 1) }] ∧
    t.f EPOCH_STATUS_CM_STATE = 2 ∧ t.eng.ring.ctl = s.eng.ring.ctl) ∧
  (∀ (port : Fin 2) (p : Pkt) (h : CmHold) (s : State), s.isWrk = true → s.hears port.val 0x23 p = true → s.eng.epoch.holds = [h] →
    h.rack = true → h.id = bits64 (pw p 0) 8 8 → s.weldDown = false → ∃ t, exec (.abortRx port p) s = Host.Outcome.next t ∧
    t.eng.epoch.holds = []) ∧
  (∀ (h : CmHold) (x : Nat × Nat) (s : State), s.eng.epoch.holds = [h] → h.rack = false → h.apply = some x →
    later x.1 s.epoch = false → (s.stgTargets h.pages).contains pgBAL = false → ∃ t, exec .commitApply s = Host.Outcome.next t ∧
    t.eng.epoch.holds = []) ∧
  (∀ (port : Fin 2) (p : Pkt) (e : Nat) (ok : Bool) (s : State), s.isMgr = true → s.hears port.val 0x24 p = true →
    p.seq ≠ 0x3F000000 → s.seqFree p.src = true → s.portTo p.src < 2 → s.port (s.portTo p.src) = 4 →
    s.eng.epoch.lastDec = some (bits64 (pw p 0) 8 8, e, ok) → s.weldDown = false →
    ∃ t, exec (.queryRx port p) s = Host.Outcome.next t ∧
    t.eng.ring.tx = [.pkt (s.portTo p.src) (s.tagged p.src ⟨p.src, s.f RING_SELF_INDEX, if ok then 0x22 else 0x23, (countOf
      s.eng.ring.seqOut p.src + 1) % 2 ^ 30, [e * 2 ^ 16 + bits64 (pw p 0) 8 8 * 2 ^ 8], 0⟩)]) ∧
  (∀ (h : CmHold) (s : State), s.eng.epoch.holds = [h] → h.rack = true → h.apply = none → h.doubt = false → s.isWrk = true →
    later (h.e + 50) s.epoch = false → h.asked.all (fun t => !later (t + 1000) s.epoch) = true → s.weldDown = false →
    ∃ t, exec .commitQueryTimer s = Host.Outcome.next t ∧ t.f EPOCH_STATUS_CM_STATE = 3) ∧
  (∀ (h : CmHold) (s : State), s.eng.epoch.holds = [h] → h.rack = true → h.apply = none → h.doubt = false → s.isWrk = true →
    later (h.e + 10050) s.epoch = false → s.heldBy pgEPOCH < 4 → s.weldDown = false →
    ∃ t, exec .commitIndoubt s = Host.Outcome.next t ∧ t.f EPOCH_STATUS_CM_STATE = 4) ∧
  (∀ (h : CmHold) (s : State), s.eng.epoch.holds = [h] → h.doubt = true → h.apply = none →
    later (h.e + 10050 + 1000000 * s.f EPOCH_CM_CFG_HOLD) s.epoch = false → ∃ t, exec .indoubtHoldEnd s = Host.Outcome.next t ∧
    t.eng.epoch.holds = []) ∧
  (∀ (c : CmRun) (s : State), s.eng.epoch.cm = some c → c.rack = true → c.decided = true → later (c.e + 20000) s.epoch = false →
    c.mem.all (fun w => decide (1 ≤ w ∧ w ≤ 32)) = true → ∃ t, exec .commitReportDeadline s = Host.Outcome.next t ∧
    t.eng.epoch.cm = none ∧ c.mem.all (fun w => t.f (cmOut w) == (if s.f (cmOut w) < 5 then 10 else s.f (cmOut w))) = true) ∧
  (∀ (port : Fin 2) (p : Pkt) (ecc : List Nat) (s : State), s.isWrk = true → s.hears port.val 0x10 p = true → ecc.headD 0 = 0 →
    bits64 (pw p 0) 24 8 = 1 → bits64 (pw p 0) 32 32 = IDENT_ROLE → s.weldDown = false →
    ∃ t, exec (.regRdRx port p ecc) s = Host.Outcome.next t ∧
    (t.eng.ring.ctl.getLast?.map fun x => (x.dst, x.kind, x.data)) = some (0, 0x12, [IDENT_ROLE * 2 ^ 32 + 2 ^ 24 + bits64 (pw p 0)
      0 16, (s.reg IDENT_ROLE).toNat])) ∧
  (∀ (port : Fin 2) (p : Pkt) (s : State), s.isWrk = true → s.hears port.val 0x11 p = true → bits64 (pw p 0) 24 8 = 1 →
    p.data.length = 2 → bits64 (pw p 0) 32 32 = EPOCH_PATH →
    s.deniedTo (packetSrc p) (s.levelNeed EPOCH_PATH (BitVec.ofNat 32 (pw p 1))) = false → s.weldDown = false →
    ∃ t, exec (.regWrRx port p) s = Host.Outcome.next t ∧ t.f EPOCH_PATH_DLY = bits64 (pw p 1) 0 20) ∧
  (∀ (port : Fin 2) (p : Pkt) (r : MirReq) (s : State), s.isMgr = true → s.hears port.val 0x12 p = true → p.seq ≠ 0x3F000000 →
    s.eng.epoch.mir = [r] → r.tid = bits64 (pw p 0) 0 16 → r.dead = false → r.worker = p.src → r.use = 0 → s.mirState = 1 →
    ∃ t, exec (.regRspRx port p) s = Host.Outcome.next t ∧ t.eng.epoch.mir = []) ∧
  (∀ (tid : BitVec 16) (r : MirReq) (s : State), s.eng.epoch.mir = [r] → r.tid = tid.toNat → r.at0 + s.f EPOCH_MIR_CFG_TMO ≤ s.now →
    1 ≤ r.worker → r.worker ≤ 32 → r.use = 3 → ∃ t, exec (.mirrorTimeout tid) s = Host.Outcome.next t ∧ t.eng.epoch.mir = []) ∧
  (∀ (s : State), s.isWrk = true → s.statusDue = true → s.enumerated = true → s.port 0 = 4 ∨ s.port 1 = 4 → s.weldDown = false →
    ∃ t, exec .statusSend s = Host.Outcome.next t ∧ t.eng.ring.ctl.length = s.eng.ring.ctl.length + 1 ∧
    (t.eng.ring.ctl.getLast?.map fun x => (x.dst, x.src, x.kind, x.data)) = some (0, s.f RING_SELF_INDEX, 0x33, s.statusData) ∧
    sameBut [] [] s t) ∧
  (∀ (port : Fin 2) (p : Pkt) (s : State), s.isMgr = true → s.hears port.val 0x33 p = true → p.seq ≠ 0x3F000000 → 1 ≤ p.src →
    p.src ≤ 32 → s.f RING_STATUS_STATE ≠ 1 → ∃ t, exec (.statusRx port p) s = Host.Outcome.next t ∧
    t.f (ROSTER_W_STAT_STATE p.src) = 1) ∧
  (∀ (worker : Fin 33) (s : State), s.isMgr = true → s.workers.contains worker.val = true →
    s.f (ROSTER_W_STAT_STATE worker.val) ≤ 1 → s.port 0 = 4 ∨ s.port 1 = 4 → s.f RING_STATUS_STATE ≠ 1 →
    s.statusLate worker.val = true → s.heldBy pgROSTER < 4 → s.f RING_ENUM_M ≤ 32 →
    ∃ t, exec (.rosterStale worker) s = Host.Outcome.next t ∧ t.f (ROSTER_W_STAT_STATE worker.val) = 2) ∧
  (∀ (s : State), s.isMgr = true → s.f ROSTER_CFG_BLIND_T ≠ 0 → s.anyClosed = true → s.anyBad = true →
    s.b ROSTER_STATUS_BLIND = false → (s.eng.rack.blindAt.any fun x => decide (x + 1000 * s.f ROSTER_CFG_BLIND_T ≤ s.now)) = true →
    s.heldBy pgROSTER < 4 → ∃ t, exec .rosterBlind s = Host.Outcome.next t ∧ t.b ROSTER_STATUS_BLIND = true) ∧
  (∀ (src : Src) (key : BitVec 16) (worker : Fin 64) (s : State),
    s.takes src ROSTER_CMD (keyed key (1 + worker.val * 2 ^ ROSTER_CMD_W.lo)) = true → s.accepts 8 = true → s.isMgr = true →
    s.eng.boot.cores.getD 2 false = true → s.workers.contains worker.val = true → s.f (ROSTER_W_STAT_STATE worker.val) = 4 →
    ∃ t, exec (.rosterReadmit src key worker) s = Host.Outcome.next t ∧ t.outcome = .ok ∧ t.eng.rack.readmit = some worker.val ∧
    t.eng.ring.keys.contains worker.val = false ∧ t.b ROSTER_STATUS_READMITTING = true ∧ sameBut [] [pgROSTER] s t) ∧
  (∀ (src : Src) (key : BitVec 16) (worker : Fin 64) (x : Nat × Nat × Nat) (s : State),
    s.takes src ROSTER_CMD (keyed key (2 + worker.val * 2 ^ ROSTER_CMD_W.lo)) = true → s.accepts 8 = true → s.isMgr = true →
    s.eng.boot.cores.getD 2 false = true → s.workers.contains worker.val = true → worker.val ≤ 32 →
    4 ≤ s.f (ROSTER_W_STAT_STATE worker.val) → (s.eng.rack.seen.find? fun x => x.2.2 == worker.val) = some x →
    ∃ t, exec (.rosterAdopt src key worker) s = Host.Outcome.next t ∧ t.outcome = .ok ∧ t.eng.rack.readmit = some worker.val ∧
    (t.reg (ROSTER_W_UID_LO worker.val)).toNat = x.1 % 2 ^ 32 ∧ (t.reg (ROSTER_W_UID_HI worker.val)).toNat = x.1 / 2 ^ 32 % 2 ^ 32 ∧
    sameBut [] [pgROSTER] s t) ∧
  (∀ (v i : Rat) (s : State), s.isMgr = true → later (s.eng.rack.resNext * 1000) (s.resMs * 1000) = false →
    s.msMean 0 s.resMs = (some v, some i) → (s.f (shadowSrc pgRACK)) = 0 → s.b (shadowFrozen pgRACK) = false →
    ∃ t, exec .rackResult s = Host.Outcome.next t ∧
    t.i RACK_V_MV = clampInt (-2 ^ 31) (2 ^ 31 - 1) (rnd (v * ((375 * s.f AFE_STACK_EXT_ATTEN : Nat) : Rat) / 10000))) ∧
  (∀ (i : Rat) (s : State), s.isMgr = true → later (s.epoch / 1000 * 1000) (s.eng.rack.iNext * 1000) = true →
    s.port 0 = 4 ∨ s.port 1 = 4 → (s.msMean 0 (s.epoch / 1000 - 1)).2 = some i → s.seqFree 0x3F = true →
    ∃ t, exec .rackISend s = Host.Outcome.next t ∧
    t.eng.ring.tx = [.pkt 2 (s.tagged 0x3F ⟨0x3F, s.f RING_SELF_INDEX, 0x31, (countOf s.eng.ring.seqOut 0x3F + 1) % 2 ^ 30,
      [(s.epoch / 1000 - 1) * 1000 * 65536, unsigned 32 (rnd (s.rackMa i))], 0⟩)] ∧ sameBut [] [] s t) ∧
  (∀ (hfe : Nat) (s : State), s.isMgr = true → s.eng.boot.cores.getD 1 false = true →
    later (s.arcBlock * 100) (s.eng.rack.blockNext * 100) = true →
    (s.arcEpochs ((s.epoch - 10 * s.f ARC_CFG_WAIT) / 100 - 1)).filterMap s.arcAt = [] →
    ∃ t, exec (.arcBlockEval hfe) s = Host.Outcome.next t ∧ t.f ARC_STATUS_COUNT = 0 ∧
    t.f ARC_CNT_BLINDS = satInc ARC_CNT_BLINDS.wd (s.f ARC_CNT_BLINDS) ∧ t.eng.rack.decided = s.eng.rack.decided ∧
    t.b (ARC_EVT_RAW_EVENTS.bit 2) = true ∧ sameBut (dropRegs ++ wakeRegs) [pgARC, pgMODE] s t) ∧
  (∀ (src : Src) (w : Word) (s : State), s.takes src ARC_CTRL w = true → s.isMgr = true →
    ∃ t, exec (.arcCtrlWrite src w) s = Host.Outcome.next t ∧ t.outcome = .ok ∧ t.f ARC_CTRL_EN = ARC_CTRL_EN.of w ∧
    t.f ARC_CTRL_ACT = ARC_CTRL_ACT.of w ∧ (s.contClosed = true → ARC_CTRL_EN.of w = 1 → t.f MODE_FLOOR_LOCAL = 4) ∧
    sameBut ([ARC_CTRL, ARC_STATUS] ++ wakeRegs) [pgMODE] s t) ∧
  (∀ (src : Src) (key : BitVec 16) (s : State), s.takes src ARC_CMD (keyed key 1) = true →
    ∃ t, exec (.arcClear src key) s = Host.Outcome.next t ∧ t.eng.rack.decided = false ∧ t.f ARC_STATUS_COUNT = 0 ∧
    t.b ARC_STATUS_LEARNED = s.b ARC_STATUS_LEARNED ∧ sameBut [ARC_STATUS] [] s t) ∧
  (∀ (src : Src) (key : BitVec 16) (s : State), s.takes src ARC_CMD (keyed key 2) = true →
    ∃ t, exec (.arcRelearn src key) s = Host.Outcome.next t ∧ t.eng.rack.rEnd = 0) ∧
  (∀ (src : Src) (w : Word) (s : State), s.takes src ISO_CTRL w = true → s.isMgr = true → 3 ≤ s.mode →
    ∃ t, exec (.isoCtrlWrite src w) s = Host.Outcome.next t ∧ t.f ISO_CTRL_EN = ISO_CTRL_EN.of w) ∧
  (∀ (m80 m90 : Int) (limit : Bool) (s : State), s.isMgr = true → s.eng.rack.isoAt + 100000 * s.f ISO_CFG_T_HALF ≤ s.now →
    s.f ISO_STATUS_STATE = 1 → ∃ t, exec (.isoHalfEnd m80 m90 limit) s = Host.Outcome.next t ∧ t.f ISO_STATUS_STATE = 2 ∧
    t.eng.rack.isoPos = some (m90, (decide ((m90 - m80).natAbs * 100 ≤ max m80.natAbs m90.natAbs) || decide ((m90 - m80).natAbs ≤
      1000)), limit) ∧ sameBut [ISO_STATUS] [] s t) ∧
  (∀ (src : Src) (key : BitVec 16) (s : State), s.takes src CAP_CMD (keyed key 1) = true → s.accepts 5 = true → s.isWrk = true →
    ∃ t, exec (.capArm src key) s = Host.Outcome.next t ∧ t.capState = 1) ∧
  (∀ (src : Src) (key : BitVec 16) (s : State), s.takes src CAP_CMD (keyed key 2) = true → s.capState = 1 →
    ∃ t, exec (.capForce src key) s = Host.Outcome.next t ∧ t.capState = 2 ∧ t.eng.cap.trig = s.epoch / s.eng.cap.stride ∧
    t.f CAP_TRIG_EP_HI_SRC = 0x80 ∧ t.f CAP_TRIG_EP_HI_EPOCH = s.epoch / 2 ^ 32 % 2 ^ 16 ∧ t.b (CAP_EVT_RAW_EVENTS.bit 0) = true ∧
    sameBut wakeRegs [pgCAP, pgMODE] s t) ∧
  (∀ (src : Src) (key : BitVec 16) (s : State), s.takes src CAP_CMD (keyed key 3) = true →
    ∃ t, exec (.capRelease src key) s = Host.Outcome.next t ∧ t.capState = (if s.capState = 4 then 0 else s.capState) ∧
    t.outcome = .ok ∧ sameBut [CAP_STATUS] [] s t) ∧
  (∀ (src : Src) (key : BitVec 16) (s : State), s.takes src CAP_CMD (keyed key 4) = true → 1 ≤ s.capState → s.capState ≤ 3 →
    ∃ t, exec (.capAbort src key) s = Host.Outcome.next t ∧ t.capState = 0 ∧ t.b (CAP_EVT_RAW_EVENTS.bit 3) = true ∧
    sameBut ([CAP_STATUS, CAP_EVT_RAW] ++ wakeRegs) [pgMODE] s t) ∧
  (∀ (s : State), s.capState = 2 → later ((s.eng.cap.trig + s.eng.cap.post) * s.eng.cap.stride) s.epoch = false →
    ∃ t, exec .capPostComplete s = Host.Outcome.next t ∧ t.capState = 3 ∧ t.eng.cap.settleAt = s.epoch ∧
    sameBut [CAP_STATUS] [] s t) ∧
  (∀ (s : State), s.capState = 3 → later (s.eng.cap.settleAt + 4200) s.epoch = false →
    ∃ t, exec .capSettleEnd s = Host.Outcome.next t ∧ t.capState = 4)

/-- Every step keeps every table in its canonical form: For every state whose registers, shadow copies, staging copies, window bytes
and OTP rows are listed in canonical form (keys strictly rising, no entry equal to what an unlisted key reads as), whichever command
waits, a step that answers a next state leaves them all so; equal contents stay equal data. -/
def Obligations.tablesStayCanonical : Prop :=
  ∀ s t : State, s.tablesOk = true → step s = Host.Outcome.next t → t.tablesOk = true

/-- The tables after reset: The state after reset has every table in canonical form, and an empty queue; every register but
RST_CAUSE and RST_BOOT reads what its map gives for reset, or the model's choice where the map gives no value (log entry 8); the
shadow and staging copies read the same values, and the epoch is 0. -/
def Obligations.tablesAfterReset : Prop :=
  (State.reset.tablesOk = true) ∧
  (State.reset.pending = []) ∧
  (∀ a : Nat, a ≠ RST_CAUSE → a ≠ RST_BOOT → State.reset.reg a = regReset a) ∧
  (∀ a : Nat, State.reset.shd a = regReset a ∧ State.reset.stg a = regReset a) ∧
  (State.reset.epoch = 0)

/-- Register values after reset: After reset the registers named read the values that the register maps give: RST_CAUSE shows the
AON power-on, bring-up is at step 1, and one or more registers of each page of the map have their non-zero reset values. -/
def Obligations.registersAfterReset : Prop :=
  ∀ x ∈ ([(RST_CAUSE, 0xC000000C), (RST_BOOT, 1), (CLK_STATUS, 1), (CLK_ROOT_CFG, 0xA0), (MODE_STATUS, 3), (MODE_CUR, 0x33),
    (MODE_REQ, 0xF), (MODE_CFG, 0x03E800C0), (MODE_ATT_PER, 0x3E8), ((REG_BK_VSET 2), 0x294), ((REG_LD_VSET 0), 0x0B4),
    (SEQ_CFG, 0x0064001F), (SEQ_RETRY, 2), ((PHC_RAIL_VSET 3), 0x960), (FEED_QUAL, 0x0BB801C2), (PATH_CFG, 3), (CHG_VREG, 0x1068),
    (CONT_CFG, 0x0A051432), (AFE_TMUX, 0x03E80000), (SCAN_REQ_CFG, 0x90000001), (CELL_LIM, 0x109A07D0), ((AUX_TEMP 2), 0xC0000000),
    (BAL_SEL, 0x1F), (EIS_STATUS, 0x001F0000), (EST_STATUS, 8), (RING_CFG, 0x5A000001), (EPOCH_CM_CFG, 0xA),
    (ROSTER_CFG, 0x13883201), (RACK_LIM_V, 0x3A980000), (ARC_CFG, 0x32040514), (ISO_THR, 0x02EE0096), (HOST_CFG, 0x8028),
    (ICU_STATUS, 0x58), (FLT_CFG, 0x00320383), ((WDG_CFG 3), 0x8000), (KEEP_CFG, 0x3E8), (THM_CFG, 0x10050A3F), (RTC_STATUS, 4),
    (RTC_DATE, 0x7D010806), (MEM_CFG, 0x00100E10), (REC_CFG, 3), (SVC_FAIL, 0)] : List (Nat × Word)), State.reset.reg x.1 = x.2

/-- No step takes an OTP bit back: For every state, whichever command waits, every OTP bit that is 1 before a step is 1 after it:
burns only gain bits, and no reset, no command and no idle step takes one back. -/
def Obligations.otpBitsNeverReturn : Prop :=
  ∀ s t : State, step s = Host.Outcome.next t → ∀ r : Nat, covers (t.otpRow r) (s.otpRow r) = true

/-- Pages absent in the present role: For every state, in the worker role on pages CONT, ARC, ISO, ROSTER and RACK, and in the
manager role on CELL and BAL: a host read of any register of the page, TYPE among them, returns 0, and a write that the address,
level and mode checks let through changes nothing but the outcome, which is OK. Completing here, by constructor: xspiRead,
registerWrite. -/
def Obligations.absentPages : Prop :=
  (∀ (a : BitVec 32) (n : Nat) (ecc : List Nat) (s : State), s.hostOpen = true → n = 1 → s.watchShut .xspi a.toNat = false →
    s.windowOf a.toNat = some .local → a.toNat % 4 = 0 → mapped a.toNat = true → (s.isWrk = true ∧
    pageOf a.toNat ∈ [pgCONT, pgARC, pgISO, pgROSTER, pgRACK]) ∨ (s.isMgr = true ∧ pageOf a.toNat ∈ [pgCELL, pgBAL]) →
    completes (.xspiRead a n ecc) s fun t => t.resp = [0] ∧ keptReg [HOST_LAST] [] s t ∧ keptMem s t) ∧
  (∀ (src : Src) (a : BitVec 18) (w : Word) (s : State), s.served src = true → mapped a.toNat = true →
    s.deniedTo src (s.levelNeed a.toNat w) = false → s.watchShut src a.toNat = false → (s.isWrk = true ∧
    pageOf a.toNat ∈ [pgCONT, pgARC, pgISO, pgROSTER, pgRACK]) ∨ (s.isMgr = true ∧ pageOf a.toNat ∈ [pgCELL, pgBAL]) →
    completes (.registerWrite src a w) s fun t => t = { s.linksQuiet with outcome := .ok })

/-- Reading the epoch as a pair: For every state: a read of EPOCH_NOW_LO returns the low bits of the count and captures bits [47:32]
of the same count; a read of EPOCH_NOW_HI by either host port returns what was captured last, whatever the count has become, and
leaves it. Completing here, by constructor: epochNowLoRead, xspiRead, i2cRead. -/
def Obligations.epochReadPair : Prop :=
  (∀ (src : Src) (s : State), s.served src = true → s.watchShut src EPOCH_NOW_LO = false →
    completes (.epochNowLoRead src) s fun t => t.resp = [BitVec.ofNat 32 s.epoch] ∧
    t.f EPOCH_NOW_HI_EPOCH = s.epoch / 2 ^ 32 % 2 ^ 16 ∧ t.epoch = s.epoch) ∧
  (∀ (a : BitVec 32) (n : Nat) (ecc : List Nat) (s : State), s.hostOpen = true → n = 1 → a.toNat = EPOCH_NOW_HI →
    s.watchShut .xspi EPOCH_NOW_HI = false → completes (.xspiRead a n ecc) s fun t =>
    t.resp.map (fun w => getBits w 0 16) = [s.f EPOCH_NOW_HI_EPOCH] ∧ t.f EPOCH_NOW_HI_EPOCH = s.f EPOCH_NOW_HI_EPOCH) ∧
  (∀ (dev : BitVec 7) (a : BitVec 32) (n : Nat) (ecc : List Nat) (s : State), s.served .i2c = true →
    dev.toNat = 0x3A + s.f HOST_STATUS_I2C_A0 → n = 1 → a.toNat = EPOCH_NOW_HI → s.watchShut .i2c EPOCH_NOW_HI = false →
    completes (.i2cRead dev a n ecc) s fun t => t.resp.map (fun w => getBits w 0 16) = [s.f EPOCH_NOW_HI_EPOCH] ∧
    t.f EPOCH_NOW_HI_EPOCH = s.f EPOCH_NOW_HI_EPOCH)

/-- The calendar's epoch: For every state in which the epoch unit is powered, in either role: at a second boundary, by counting or
by SET, the local epoch goes into EPOCH_RTC_EP_LO and EPOCH_RTC_EP_HI and the second count into EPOCH_RTC. Completing here, by
constructor: rtcSecond, rtcSet. -/
def Obligations.calendarEpochPair : Prop :=
  (∀ (s : State), 32768 ≤ s.rtcCount → 1 ≤ s.mode → completes .rtcSecond s fun t => t.f EPOCH_RTC_EP_LO_EPOCH = s.epoch % 2 ^ 32 ∧
    t.f EPOCH_RTC_EP_HI_EPOCH = s.epoch / 2 ^ 32 % 2 ^ 16 ∧ t.f EPOCH_RTC_SEC = t.f RTC_SEC_SEC ∧
    t.f RTC_SEC_SEC = (s.f RTC_SEC_SEC + 1) % 2 ^ 32) ∧
  (∀ (src : Src) (key : BitVec 16) (s : State), s.takes src RTC_CMD (keyed key 1) = true → 1 ≤ s.mode →
    completes (.rtcSet src key) s fun t => t.f EPOCH_RTC_EP_LO_EPOCH = s.epoch % 2 ^ 32 ∧
    t.f EPOCH_RTC_EP_HI_EPOCH = s.epoch / 2 ^ 32 % 2 ^ 16 ∧ t.f EPOCH_RTC_SEC = t.f RTC_SEC_SEC ∧
    t.f RTC_SEC_SEC = s.f RTC_SET_SEC_SEC)

/-- The software lines: For every state and n from 0 to 4, line 251 + n is asserted exactly while bit n of ICU_SWI is 1. -/
def Obligations.softwareLines : Prop :=
  ∀ (s : State) (n : Nat), n < 5 → (s.lineOn (251 + n) = true ↔ getBits (s.reg ICU_SWI) n 1 = 1)

/-- Watchdog evidence: For every state in which watchdog n runs, whatever its action, each expiry and each violation (early, wrong
key, order, overrun, stopped tick, task monitor) overwrites its evidence with VALID, the kind and the count at the event, the epoch,
and the value written for BAD_KEY and OVERRUN or 0 otherwise, and counts it. Completing here, by constructor: wdgExpiry,
wdgKeyArrival, wdgServiceWrite, wdgClkStop, tmPeriodEnd. -/
def Obligations.watchdogEvidence : Prop :=
  (∀ (n : Fin 4) (s : State), s.wdgOver n.val = true → completes (.wdgExpiry n) s fun t =>
    t.reg (WDG_EVID n.val) = BitVec.ofNat 32 (2 ^ 31 + 0 * 2 ^ 28 + (s.wdgPeriod n.val) % 2 ^ 24) ∧
    (t.reg (WDG_EVID_EP n.val)).toNat = s.epoch % 2 ^ 32 ∧ t.reg (WDG_EVID_VAL n.val) = BitVec.ofNat 32 (0) ∧
    t.f (WDG_STAT_EVENTS n.val) = satInc (WDG_STAT_EVENTS n.val).wd (s.f (WDG_STAT_EVENTS n.val))) ∧
  (∀ (n : Fin 4) (v t0 : Nat) (s : State), s.eng.wdg.sync = [⟨n.val, v, t0⟩] → 2 ≤ s.wdgSince n.val t0 → s.wdgRuns n.val = true →
    s.wdgOver n.val = true → completes (.wdgKeyArrival n) s fun t =>
    t.reg (WDG_EVID n.val) = BitVec.ofNat 32 (2 ^ 31 + 0 * 2 ^ 28 + (s.wdgPeriod n.val) % 2 ^ 24) ∧
    (t.reg (WDG_EVID_EP n.val)).toNat = s.epoch % 2 ^ 32 ∧ t.reg (WDG_EVID_VAL n.val) = BitVec.ofNat 32 (0) ∧
    t.f (WDG_STAT_EVENTS n.val) = satInc (WDG_STAT_EVENTS n.val).wd (s.f (WDG_STAT_EVENTS n.val))) ∧
  (∀ (n : Fin 4) (t0 : Nat) (s : State), s.eng.wdg.sync = [⟨n.val, 0x3C5A, t0⟩] → 2 ≤ s.wdgSince n.val t0 → s.wdgRuns n.val = true →
    s.wdgOver n.val = false → s.b WDG_STATUS_COMPAT = false → s.b (WDG_STATUS_ARMED.bit n.val) = true →
    s.wdgCnt n.val ≤ s.eng.wdg.armed.getD n.val 0 + 8 → s.wdgCnt n.val < s.wdgOpen n.val → completes (.wdgKeyArrival n) s fun t =>
    t.reg (WDG_EVID n.val) = BitVec.ofNat 32 (2 ^ 31 + 1 * 2 ^ 28 + (s.wdgCnt n.val) % 2 ^ 24) ∧
    (t.reg (WDG_EVID_EP n.val)).toNat = s.epoch % 2 ^ 32 ∧ t.reg (WDG_EVID_VAL n.val) = BitVec.ofNat 32 (0) ∧
    t.f (WDG_STAT_EVENTS n.val) = satInc (WDG_STAT_EVENTS n.val).wd (s.f (WDG_STAT_EVENTS n.val))) ∧
  (∀ (n : Fin 4) (t0 : Nat) (s : State), s.eng.wdg.sync = [⟨n.val, 0x6B1D, t0⟩] → 2 ≤ s.wdgSince n.val t0 → s.wdgRuns n.val = true →
    s.wdgOver n.val = false → s.b WDG_STATUS_COMPAT = true → s.wdgCnt n.val < s.wdgOpen n.val →
    completes (.wdgKeyArrival n) s fun t =>
    t.reg (WDG_EVID n.val) = BitVec.ofNat 32 (2 ^ 31 + 1 * 2 ^ 28 + (s.wdgCnt n.val) % 2 ^ 24) ∧
    (t.reg (WDG_EVID_EP n.val)).toNat = s.epoch % 2 ^ 32 ∧ t.reg (WDG_EVID_VAL n.val) = BitVec.ofNat 32 (0) ∧
    t.f (WDG_STAT_EVENTS n.val) = satInc (WDG_STAT_EVENTS n.val).wd (s.f (WDG_STAT_EVENTS n.val))) ∧
  (∀ (n : Fin 4) (v t0 : Nat) (s : State), s.eng.wdg.sync = [⟨n.val, v, t0⟩] → 2 ≤ s.wdgSince n.val t0 → s.wdgRuns n.val = true →
    s.wdgOver n.val = false → s.b WDG_STATUS_COMPAT = false → v ≠ 0xA5C3 ∧ v ≠ 0x3C5A → s.b WDG_STATUS_COMPAT = true → v ≠ 0x6B1D →
    completes (.wdgKeyArrival n) s fun t =>
    t.reg (WDG_EVID n.val) = BitVec.ofNat 32 (2 ^ 31 + 2 * 2 ^ 28 + (s.wdgCnt n.val) % 2 ^ 24) ∧
    (t.reg (WDG_EVID_EP n.val)).toNat = s.epoch % 2 ^ 32 ∧ t.reg (WDG_EVID_VAL n.val) = BitVec.ofNat 32 (v) ∧
    t.f (WDG_STAT_EVENTS n.val) = satInc (WDG_STAT_EVENTS n.val).wd (s.f (WDG_STAT_EVENTS n.val))) ∧
  (∀ (n : Fin 4) (t0 : Nat) (s : State), s.eng.wdg.sync = [⟨n.val, 0x3C5A, t0⟩] → 2 ≤ s.wdgSince n.val t0 → s.wdgRuns n.val = true →
    s.wdgOver n.val = false → s.b WDG_STATUS_COMPAT = false →
    s.b (WDG_STATUS_ARMED.bit n.val) = false ∨ s.eng.wdg.armed.getD n.val 0 + 8 < s.wdgCnt n.val →
    completes (.wdgKeyArrival n) s fun t =>
    t.reg (WDG_EVID n.val) = BitVec.ofNat 32 (2 ^ 31 + 3 * 2 ^ 28 + (s.wdgCnt n.val) % 2 ^ 24) ∧
    (t.reg (WDG_EVID_EP n.val)).toNat = s.epoch % 2 ^ 32 ∧ t.reg (WDG_EVID_VAL n.val) = BitVec.ofNat 32 (0) ∧
    t.f (WDG_STAT_EVENTS n.val) = satInc (WDG_STAT_EVENTS n.val).wd (s.f (WDG_STAT_EVENTS n.val))) ∧
  (∀ (src : Src) (n : Fin 4) (w : Word) (s : State), s.takes src (WDG_SVC n.val) w = true → src ≠ .core ↔ n = 3 →
    2 ≤ (s.eng.wdg.sync.filter fun x => x.n == n.val).length → s.wdgRuns n.val = true →
    completes (.wdgServiceWrite src n w) s fun t =>
    t.reg (WDG_EVID n.val) = BitVec.ofNat 32 (2 ^ 31 + 4 * 2 ^ 28 + (s.wdgCnt n.val) % 2 ^ 24) ∧
    (t.reg (WDG_EVID_EP n.val)).toNat = s.epoch % 2 ^ 32 ∧ t.reg (WDG_EVID_VAL n.val) = BitVec.ofNat 32 (w.toNat) ∧
    t.f (WDG_STAT_EVENTS n.val) = satInc (WDG_STAT_EVENTS n.val).wd (s.f (WDG_STAT_EVENTS n.val))) ∧
  (∀ (n : Fin 4) (cnt : Nat) (s : State), s.wdgRuns n.val = true → cnt ≤ s.wdgCnt n.val → completes (.wdgClkStop n cnt) s fun t =>
    t.reg (WDG_EVID n.val) = BitVec.ofNat 32 (2 ^ 31 + 5 * 2 ^ 28 + cnt % 2 ^ 24) ∧
    (t.reg (WDG_EVID_EP n.val)).toNat = s.epoch % 2 ^ 32 ∧ t.reg (WDG_EVID_VAL n.val) = BitVec.ofNat 32 (0) ∧
    t.f (WDG_STAT_EVENTS n.val) = satInc (WDG_STAT_EVENTS n.val).wd (s.f (WDG_STAT_EVENTS n.val))) ∧
  (∀ (s : State), s.tmOver = true → s.b WDG_TM_CFG_TO_WD3 = true → s.tmMissing ≠ [] → completes .tmPeriodEnd s fun t =>
    t.f (WDG_EVID_KIND 3) = 6 ∧ t.b (WDG_EVID_VALID 3) = true ∧ (t.reg (WDG_EVID_EP 3)).toNat = s.epoch % 2 ^ 32 ∧
    t.reg (WDG_EVID_VAL 3) = 0 ∧ t.f (WDG_STAT_EVENTS 3) = satInc (WDG_STAT_EVENTS 3).wd (s.f (WDG_STAT_EVENTS 3)))

/-- Clearing the record store's rings: For every state: CLR_EVT and CLR_THERM, from a port whose session is SERVICE or higher and
from the cores, write 0 to word 0 of every slot of their ring and return NEXT to 0 and the sequence number of the next record to 1;
from any lower session they complete DENIED and change nothing else; and they are of no class of R88. Completing here, by
constructor: recClrEvt, recClrTherm. -/
def Obligations.recordStoreClears : Prop :=
  (∀ (src : Src) (key : BitVec 16) (s : State), s.takes src REC_CMD (keyed key 1) = true → completes (.recClrEvt src key) s fun t =>
    t.outcome = .ok ∧ t.f REC_EVT_PTR_NEXT = 0 ∧ t.eng.recs.evtSeq = 1 ∧ (∀ k : Nat, k < 256 →
    t.word (recBase + 0xC000 + 32 * k) = 0)) ∧
  (∀ (src : Src) (key : BitVec 16) (s : State), s.takes src REC_CMD (keyed key 2) = true →
    completes (.recClrTherm src key) s fun t => t.outcome = .ok ∧ t.f REC_THM_PTR_NEXT = 0 ∧ t.eng.recs.thmSeq = 1 ∧
    (∀ k : Nat, k < 128 → t.word (recBase + 0xE000 + 32 * k) = 0)) ∧
  (∀ (src : Src) (key : BitVec 16) (s : State), s.served src = true → s.deniedTo src 2 = true →
    completes (.recClrEvt src key) s fun t => t = { s.linksQuiet with outcome := .denied }) ∧
  (∀ (src : Src) (key : BitVec 16) (s : State), s.served src = true → s.deniedTo src 2 = true →
    completes (.recClrTherm src key) s fun t => t = { s.linksQuiet with outcome := .denied }) ∧
  (∀ w : Word, cmdClass REC_CMD w = none)
end

