-- ==== Sys2Proof/Laws/Sparse.lean ====
section
/-!
SUPPORT. Sparse tables: what a key reads after a store, and that every operation keeps the canonical form.
-/
namespace Sys2Proof.Machine

variable {V : Type} [DecidableEq V]

theorem look_drop_self {W : Type} (d : Nat → W) (a : Nat) (m : List (Nat × W)) : look d (drop a m) a = d a := by
  induction m with
  | nil => rfl
  | cons x m ih =>
    obtain ⟨k, v⟩ := x
    by_cases h : k = a <;> simp [drop, look, h, ih]

theorem look_drop_ne {W : Type} (d : Nat → W) {a b : Nat} (h : a ≠ b) (m : List (Nat × W)) : look d (drop a m) b = look d m b := by
  induction m with
  | nil => rfl
  | cons x m ih =>
    obtain ⟨k, v⟩ := x
    by_cases hk : k = a
    · subst hk
      simp [drop, look, h, ih]
    · simp [drop, look, hk, ih]

theorem look_insert {W : Type} (d : Nat → W) (a b : Nat) (v : W) (m : List (Nat × W)) (hm : a = b → ∀ x ∈ m, x.1 ≠ a) :
    look d (insert a v m) b = if a = b then v else look d m b := by
  induction m with
  | nil => by_cases h : a = b <;> simp [insert, look, h]
  | cons x m ih =>
    obtain ⟨k, w⟩ := x
    by_cases hk : a < k
    · simp only [insert, hk, if_true, look]
    · by_cases h : a = b
      · have hne := hm h (k, w) (by simp)
        have := ih fun e y hy => hm e y (by simp [hy])
        subst h
        simp only [insert, hk, if_false, look, if_true] at *
        simp [this, hne]
      · have := ih fun e => absurd e h
        simp only [insert, hk, if_false, look, this, h]

theorem drop_ne {W : Type} (a : Nat) (m : List (Nat × W)) : ∀ x ∈ drop a m, x.1 ≠ a := by
  induction m with
  | nil => simp [drop]
  | cons x m ih =>
    obtain ⟨k, v⟩ := x
    by_cases h : k = a
    · simpa [drop, h] using ih
    · intro y hy
      simp only [drop, h, if_false, List.mem_cons] at hy
      rcases hy with rfl | hy
      · exact h
      · exact ih y hy

/-- Reading the key just stored. -/
@[simp] theorem look_store_same (d : Nat → V) (a : Nat) (v : V) (m : List (Nat × V)) : look d (store d a v m) a = v := by
  unfold store
  split
  · rename_i h
    rw [look_drop_self, h]
  · rw [look_insert _ _ _ _ _ fun _ => drop_ne a m]
    simp

/-- Every other key reads as before. -/
theorem look_store_ne (d : Nat → V) {a b : Nat} (h : a ≠ b) (v : V) (m : List (Nat × V)) : look d (store d a v m) b = look d m b := by
  unfold store
  split
  · exact look_drop_ne d h m
  · rw [look_insert _ _ _ _ _ fun _ => drop_ne a m, if_neg h, look_drop_ne d h]

/-- One lemma for both. -/
theorem look_store (d : Nat → V) (a b : Nat) (v : V) (m : List (Nat × V)) :
    look d (store d a v m) b = if a = b then v else look d m b := by
  by_cases h : a = b
  · subst h; simp
  · rw [look_store_ne d h, if_neg h]

/-- Entries that `keep` leaves read as before. -/
theorem look_keep_true {W : Type} (d : Nat → W) (p : Nat → Bool) {a : Nat} (h : p a = true) (m : List (Nat × W)) :
    look d (keep p m) a = look d m a := by
  induction m with
  | nil => rfl
  | cons x m ih =>
    obtain ⟨k, v⟩ := x
    by_cases hk : p k = true
    · simp [keep, look, hk, ih]
    · have : k ≠ a := fun e => hk (e ▸ h)
      simp [keep, look, hk, ih, this]

/-- What `keep` removes reads as unlisted. -/
theorem look_keep_false {W : Type} (d : Nat → W) (p : Nat → Bool) {a : Nat} (h : p a = false) (m : List (Nat × W)) :
    look d (keep p m) a = d a := by
  induction m with
  | nil => rfl
  | cons x m ih =>
    obtain ⟨k, v⟩ := x
    by_cases hk : p k = true
    · have : k ≠ a := fun e => by simp [e, h] at hk
      simp [keep, look, hk, ih, this]
    · simp [keep, hk, ih]

/-! ### The canonical form -/

theorem risingFrom_weaken {W : Type} {lo lo' : Nat} (h : lo ≤ lo') {m : List (Nat × W)} (hm : risingFrom (some lo') m = true) :
    risingFrom (some lo) m = true := by
  cases m with
  | nil => rfl
  | cons x m =>
    obtain ⟨k, v⟩ := x
    simp only [risingFrom, Bool.and_eq_true, decide_eq_true_eq] at hm ⊢
    exact ⟨by omega, hm.2⟩

theorem risingFrom_none {W : Type} {lo : Nat} {m : List (Nat × W)} (hm : risingFrom (some lo) m = true) :
    risingFrom none m = true := by
  cases m with
  | nil => rfl
  | cons x m =>
    obtain ⟨k, v⟩ := x
    simp only [risingFrom, Bool.and_eq_true, decide_eq_true_eq] at hm ⊢
    exact hm.2

theorem risingFrom_drop {W : Type} (a : Nat) (o : Option Nat) (m : List (Nat × W)) (h : risingFrom o m = true) :
    risingFrom o (drop a m) = true := by
  induction m generalizing o with
  | nil => exact h
  | cons x m ih =>
    obtain ⟨k, v⟩ := x
    cases o with
    | none =>
      simp only [risingFrom] at h
      by_cases hk : k = a
      · simp only [drop, hk, if_true]
        exact risingFrom_none (lo := a) (ih _ (hk ▸ h))
      · simp only [drop, hk, if_false, risingFrom]
        exact ih _ h
    | some lo =>
      simp only [risingFrom, Bool.and_eq_true, decide_eq_true_eq] at h
      by_cases hk : k = a
      · simp only [drop, hk, if_true]
        exact risingFrom_weaken (lo' := a) (by omega) (ih _ (hk ▸ h.2))
      · simp only [drop, hk, if_false, risingFrom, Bool.and_eq_true, decide_eq_true_eq]
        exact ⟨h.1, ih _ h.2⟩

theorem risingFrom_insert {W : Type} (a : Nat) (v : W) (lo : Option Nat) (m : List (Nat × W))
    (h : risingFrom lo m = true) (hlo : ∀ l, lo = some l → l < a) (hne : ∀ x ∈ m, x.1 ≠ a) :
    risingFrom lo (insert a v m) = true := by
  induction m generalizing lo with
  | nil =>
    cases lo with
    | none => rfl
    | some l => simp [insert, risingFrom, hlo l rfl]
  | cons x m ih =>
    obtain ⟨k, w⟩ := x
    have hk : k ≠ a := hne (k, w) (by simp)
    have hr : risingFrom (some k) m = true := by
      cases lo with
      | none => simpa [risingFrom] using h
      | some l =>
        simp only [risingFrom, Bool.and_eq_true, decide_eq_true_eq] at h
        exact h.2
    by_cases hlt : a < k
    · cases lo with
      | none => simp [insert, risingFrom, hlt, hr]
      | some l => simp [insert, risingFrom, hlt, hr, hlo l rfl]
    · have := ih (some k) hr (by intro l e; cases e; omega) fun y hy => hne y (by simp [hy])
      cases lo with
      | none => simpa [insert, risingFrom, hlt] using this
      | some l =>
        simp only [risingFrom, Bool.and_eq_true, decide_eq_true_eq] at h
        simp [insert, risingFrom, hlt, this, h.1]

theorem noDefault_drop (d : Nat → V) (a : Nat) (m : List (Nat × V)) (h : noDefault d m = true) : noDefault d (drop a m) = true := by
  induction m with
  | nil => rfl
  | cons x m ih =>
    obtain ⟨k, v⟩ := x
    simp only [noDefault, Bool.and_eq_true] at h
    by_cases hk : k = a
    · simpa [drop, hk] using ih h.2
    · simp only [drop, hk, if_false, noDefault, Bool.and_eq_true]
      exact ⟨h.1, ih h.2⟩

theorem noDefault_insert (d : Nat → V) (a : Nat) (v : V) (hv : v ≠ d a) (m : List (Nat × V)) (h : noDefault d m = true) :
    noDefault d (insert a v m) = true := by
  induction m with
  | nil => simp [insert, noDefault, hv]
  | cons x m ih =>
    obtain ⟨k, w⟩ := x
    simp only [noDefault, Bool.and_eq_true] at h
    by_cases hk : a < k
    · simp only [insert, hk, if_true, noDefault, Bool.and_eq_true, decide_eq_true_eq]
      exact ⟨hv, by simpa using h.1, h.2⟩
    · simp only [insert, hk, if_false, noDefault, Bool.and_eq_true]
      exact ⟨h.1, ih h.2⟩

/-- A store keeps the canonical form. -/
theorem store_canonical (d : Nat → V) (a : Nat) (v : V) (m : List (Nat × V)) (h : canonical d m = true) :
    canonical d (store d a v m) = true := by
  simp only [canonical, Bool.and_eq_true] at h ⊢
  unfold store
  split
  · exact ⟨risingFrom_drop a none m h.1, noDefault_drop d a m h.2⟩
  · rename_i hv
    exact ⟨risingFrom_insert a v none _ (risingFrom_drop a none m h.1) (by simp) (drop_ne a m),
      noDefault_insert d a v hv _ (noDefault_drop d a m h.2)⟩

theorem risingFrom_keep {W : Type} (p : Nat → Bool) (lo : Option Nat) (m : List (Nat × W)) (h : risingFrom lo m = true) :
    risingFrom lo (keep p m) = true := by
  induction m generalizing lo with
  | nil => exact h
  | cons x m ih =>
    obtain ⟨k, v⟩ := x
    by_cases hk : p k = true
    · cases lo with
      | none =>
        simp only [risingFrom, keep, hk, if_true] at h ⊢
        exact ih _ h
      | some l =>
        simp only [risingFrom, keep, hk, if_true, Bool.and_eq_true, decide_eq_true_eq] at h ⊢
        exact ⟨h.1, ih _ h.2⟩
    · have hk' : p k = false := by simpa using hk
      cases lo with
      | none =>
        simp only [risingFrom, keep, hk'] at h ⊢
        exact risingFrom_none (ih (some k) h)
      | some l =>
        simp only [risingFrom, keep, hk', Bool.and_eq_true, decide_eq_true_eq] at h ⊢
        exact risingFrom_weaken (by omega) (ih (some k) h.2)

/-- Removing entries keeps the canonical form. -/
theorem keep_canonical (d : Nat → V) (p : Nat → Bool) (m : List (Nat × V)) (h : canonical d m = true) :
    canonical d (keep p m) = true := by
  simp only [canonical, Bool.and_eq_true] at h ⊢
  refine ⟨risingFrom_keep p none m h.1, ?_⟩
  have h2 := h.2
  clear h
  induction m with
  | nil => rfl
  | cons x m ih =>
    obtain ⟨k, v⟩ := x
    simp only [noDefault, Bool.and_eq_true] at h2
    by_cases hk : p k = true
    · simp only [keep, hk, if_true, noDefault, Bool.and_eq_true]
      exact ⟨h2.1, ih h2.2⟩
    · simpa [keep, hk] using ih h2.2

end Sys2Proof.Machine
end

