-- ==== Sys2Proof/Laws/State.lean ====
section
/-!
SUPPORT. One lemma per field of the state per primitive update: what it becomes, or that it stays.
-/
namespace Sys2Proof.Machine

section reg
variable (s : State) (a : Nat) (v : Word)
@[simp] theorem Act.reg_regs : ((Act.reg a v).apply s).regs = store regReset a v s.regs := rfl
@[simp] theorem Act.reg_shadow : ((Act.reg a v).apply s).shadow = s.shadow := rfl
@[simp] theorem Act.reg_staged : ((Act.reg a v).apply s).staged = s.staged := rfl
@[simp] theorem Act.reg_mem : ((Act.reg a v).apply s).mem = s.mem := rfl
@[simp] theorem Act.reg_marks : ((Act.reg a v).apply s).marks = s.marks := rfl
@[simp] theorem Act.reg_otp : ((Act.reg a v).apply s).otp = s.otp := rfl
@[simp] theorem Act.reg_eng : ((Act.reg a v).apply s).eng = s.eng := rfl
@[simp] theorem Act.reg_balls : ((Act.reg a v).apply s).balls = s.balls := rfl
@[simp] theorem Act.reg_now : ((Act.reg a v).apply s).now = s.now := rfl
@[simp] theorem Act.reg_free : ((Act.reg a v).apply s).free = s.free := rfl
@[simp] theorem Act.reg_outcome : ((Act.reg a v).apply s).outcome = s.outcome := rfl
@[simp] theorem Act.reg_resp : ((Act.reg a v).apply s).resp = s.resp := rfl
@[simp] theorem Act.reg_pending : ((Act.reg a v).apply s).pending = s.pending := rfl
end reg

section shd
variable (s : State) (a : Nat) (v : Word)
@[simp] theorem Act.shd_regs : ((Act.shd a v).apply s).regs = s.regs := rfl
@[simp] theorem Act.shd_shadow : ((Act.shd a v).apply s).shadow = store regReset a v s.shadow := rfl
@[simp] theorem Act.shd_staged : ((Act.shd a v).apply s).staged = s.staged := rfl
@[simp] theorem Act.shd_mem : ((Act.shd a v).apply s).mem = s.mem := rfl
@[simp] theorem Act.shd_marks : ((Act.shd a v).apply s).marks = s.marks := rfl
@[simp] theorem Act.shd_otp : ((Act.shd a v).apply s).otp = s.otp := rfl
@[simp] theorem Act.shd_eng : ((Act.shd a v).apply s).eng = s.eng := rfl
@[simp] theorem Act.shd_balls : ((Act.shd a v).apply s).balls = s.balls := rfl
@[simp] theorem Act.shd_now : ((Act.shd a v).apply s).now = s.now := rfl
@[simp] theorem Act.shd_free : ((Act.shd a v).apply s).free = s.free := rfl
@[simp] theorem Act.shd_outcome : ((Act.shd a v).apply s).outcome = s.outcome := rfl
@[simp] theorem Act.shd_resp : ((Act.shd a v).apply s).resp = s.resp := rfl
@[simp] theorem Act.shd_pending : ((Act.shd a v).apply s).pending = s.pending := rfl
end shd

section stg
variable (s : State) (a : Nat) (v : Word)
@[simp] theorem Act.stg_regs : ((Act.stg a v).apply s).regs = s.regs := rfl
@[simp] theorem Act.stg_shadow : ((Act.stg a v).apply s).shadow = s.shadow := rfl
@[simp] theorem Act.stg_staged : ((Act.stg a v).apply s).staged = store regReset a v s.staged := rfl
@[simp] theorem Act.stg_mem : ((Act.stg a v).apply s).mem = s.mem := rfl
@[simp] theorem Act.stg_marks : ((Act.stg a v).apply s).marks = s.marks := rfl
@[simp] theorem Act.stg_otp : ((Act.stg a v).apply s).otp = s.otp := rfl
@[simp] theorem Act.stg_eng : ((Act.stg a v).apply s).eng = s.eng := rfl
@[simp] theorem Act.stg_balls : ((Act.stg a v).apply s).balls = s.balls := rfl
@[simp] theorem Act.stg_now : ((Act.stg a v).apply s).now = s.now := rfl
@[simp] theorem Act.stg_free : ((Act.stg a v).apply s).free = s.free := rfl
@[simp] theorem Act.stg_outcome : ((Act.stg a v).apply s).outcome = s.outcome := rfl
@[simp] theorem Act.stg_resp : ((Act.stg a v).apply s).resp = s.resp := rfl
@[simp] theorem Act.stg_pending : ((Act.stg a v).apply s).pending = s.pending := rfl
end stg

section byte
variable (s : State) (a : Nat) (b : Byte)
@[simp] theorem Act.byte_regs : ((Act.byte a b).apply s).regs = s.regs := rfl
@[simp] theorem Act.byte_shadow : ((Act.byte a b).apply s).shadow = s.shadow := rfl
@[simp] theorem Act.byte_staged : ((Act.byte a b).apply s).staged = s.staged := rfl
@[simp] theorem Act.byte_mem : ((Act.byte a b).apply s).mem = store memDefault a b s.mem := rfl
@[simp] theorem Act.byte_marks : ((Act.byte a b).apply s).marks = store noMark (a / 4 * 4) 0 s.marks := rfl
@[simp] theorem Act.byte_otp : ((Act.byte a b).apply s).otp = s.otp := rfl
@[simp] theorem Act.byte_eng : ((Act.byte a b).apply s).eng = s.eng := rfl
@[simp] theorem Act.byte_balls : ((Act.byte a b).apply s).balls = s.balls := rfl
@[simp] theorem Act.byte_now : ((Act.byte a b).apply s).now = s.now := rfl
@[simp] theorem Act.byte_free : ((Act.byte a b).apply s).free = s.free := rfl
@[simp] theorem Act.byte_outcome : ((Act.byte a b).apply s).outcome = s.outcome := rfl
@[simp] theorem Act.byte_resp : ((Act.byte a b).apply s).resp = s.resp := rfl
@[simp] theorem Act.byte_pending : ((Act.byte a b).apply s).pending = s.pending := rfl
end byte

section mark
variable (s : State) (a : Nat) (f : Nat)
@[simp] theorem Act.mark_regs : ((Act.mark a f).apply s).regs = s.regs := rfl
@[simp] theorem Act.mark_shadow : ((Act.mark a f).apply s).shadow = s.shadow := rfl
@[simp] theorem Act.mark_staged : ((Act.mark a f).apply s).staged = s.staged := rfl
@[simp] theorem Act.mark_mem : ((Act.mark a f).apply s).mem = s.mem := rfl
@[simp] theorem Act.mark_marks : ((Act.mark a f).apply s).marks = store noMark a f s.marks := rfl
@[simp] theorem Act.mark_otp : ((Act.mark a f).apply s).otp = s.otp := rfl
@[simp] theorem Act.mark_eng : ((Act.mark a f).apply s).eng = s.eng := rfl
@[simp] theorem Act.mark_balls : ((Act.mark a f).apply s).balls = s.balls := rfl
@[simp] theorem Act.mark_now : ((Act.mark a f).apply s).now = s.now := rfl
@[simp] theorem Act.mark_free : ((Act.mark a f).apply s).free = s.free := rfl
@[simp] theorem Act.mark_outcome : ((Act.mark a f).apply s).outcome = s.outcome := rfl
@[simp] theorem Act.mark_resp : ((Act.mark a f).apply s).resp = s.resp := rfl
@[simp] theorem Act.mark_pending : ((Act.mark a f).apply s).pending = s.pending := rfl
end mark

section burn
variable (s : State) (r : Nat) (w : Word)
@[simp] theorem Act.burn_regs : ((Act.burn r w).apply s).regs = s.regs := rfl
@[simp] theorem Act.burn_shadow : ((Act.burn r w).apply s).shadow = s.shadow := rfl
@[simp] theorem Act.burn_staged : ((Act.burn r w).apply s).staged = s.staged := rfl
@[simp] theorem Act.burn_mem : ((Act.burn r w).apply s).mem = s.mem := rfl
@[simp] theorem Act.burn_marks : ((Act.burn r w).apply s).marks = s.marks := rfl
@[simp] theorem Act.burn_otp : ((Act.burn r w).apply s).otp = store otpDefault r (look otpDefault s.otp r ||| w) s.otp := rfl
@[simp] theorem Act.burn_eng : ((Act.burn r w).apply s).eng = s.eng := rfl
@[simp] theorem Act.burn_balls : ((Act.burn r w).apply s).balls = s.balls := rfl
@[simp] theorem Act.burn_now : ((Act.burn r w).apply s).now = s.now := rfl
@[simp] theorem Act.burn_free : ((Act.burn r w).apply s).free = s.free := rfl
@[simp] theorem Act.burn_outcome : ((Act.burn r w).apply s).outcome = s.outcome := rfl
@[simp] theorem Act.burn_resp : ((Act.burn r w).apply s).resp = s.resp := rfl
@[simp] theorem Act.burn_pending : ((Act.burn r w).apply s).pending = s.pending := rfl
end burn

section eng
variable (s : State) (f : Engines → Engines)
@[simp] theorem Act.eng_regs : ((Act.eng f).apply s).regs = s.regs := rfl
@[simp] theorem Act.eng_shadow : ((Act.eng f).apply s).shadow = s.shadow := rfl
@[simp] theorem Act.eng_staged : ((Act.eng f).apply s).staged = s.staged := rfl
@[simp] theorem Act.eng_mem : ((Act.eng f).apply s).mem = s.mem := rfl
@[simp] theorem Act.eng_marks : ((Act.eng f).apply s).marks = s.marks := rfl
@[simp] theorem Act.eng_otp : ((Act.eng f).apply s).otp = s.otp := rfl
@[simp] theorem Act.eng_eng : ((Act.eng f).apply s).eng = f s.eng := rfl
@[simp] theorem Act.eng_balls : ((Act.eng f).apply s).balls = s.balls := rfl
@[simp] theorem Act.eng_now : ((Act.eng f).apply s).now = s.now := rfl
@[simp] theorem Act.eng_free : ((Act.eng f).apply s).free = s.free := rfl
@[simp] theorem Act.eng_outcome : ((Act.eng f).apply s).outcome = s.outcome := rfl
@[simp] theorem Act.eng_resp : ((Act.eng f).apply s).resp = s.resp := rfl
@[simp] theorem Act.eng_pending : ((Act.eng f).apply s).pending = s.pending := rfl
end eng

section balls
variable (s : State) (f : Balls → Balls)
@[simp] theorem Act.balls_regs : ((Act.balls f).apply s).regs = s.regs := rfl
@[simp] theorem Act.balls_shadow : ((Act.balls f).apply s).shadow = s.shadow := rfl
@[simp] theorem Act.balls_staged : ((Act.balls f).apply s).staged = s.staged := rfl
@[simp] theorem Act.balls_mem : ((Act.balls f).apply s).mem = s.mem := rfl
@[simp] theorem Act.balls_marks : ((Act.balls f).apply s).marks = s.marks := rfl
@[simp] theorem Act.balls_otp : ((Act.balls f).apply s).otp = s.otp := rfl
@[simp] theorem Act.balls_eng : ((Act.balls f).apply s).eng = s.eng := rfl
@[simp] theorem Act.balls_balls : ((Act.balls f).apply s).balls = f s.balls := rfl
@[simp] theorem Act.balls_now : ((Act.balls f).apply s).now = s.now := rfl
@[simp] theorem Act.balls_free : ((Act.balls f).apply s).free = s.free := rfl
@[simp] theorem Act.balls_outcome : ((Act.balls f).apply s).outcome = s.outcome := rfl
@[simp] theorem Act.balls_resp : ((Act.balls f).apply s).resp = s.resp := rfl
@[simp] theorem Act.balls_pending : ((Act.balls f).apply s).pending = s.pending := rfl
end balls

section draw
variable (s : State)
@[simp] theorem Act.draw_regs : ((Act.draw).apply s).regs = s.regs := rfl
@[simp] theorem Act.draw_shadow : ((Act.draw).apply s).shadow = s.shadow := rfl
@[simp] theorem Act.draw_staged : ((Act.draw).apply s).staged = s.staged := rfl
@[simp] theorem Act.draw_mem : ((Act.draw).apply s).mem = s.mem := rfl
@[simp] theorem Act.draw_marks : ((Act.draw).apply s).marks = s.marks := rfl
@[simp] theorem Act.draw_otp : ((Act.draw).apply s).otp = s.otp := rfl
@[simp] theorem Act.draw_eng : ((Act.draw).apply s).eng = s.eng := rfl
@[simp] theorem Act.draw_balls : ((Act.draw).apply s).balls = s.balls := rfl
@[simp] theorem Act.draw_now : ((Act.draw).apply s).now = s.now := rfl
@[simp] theorem Act.draw_free : ((Act.draw).apply s).free = s.free + 1 := rfl
@[simp] theorem Act.draw_outcome : ((Act.draw).apply s).outcome = s.outcome := rfl
@[simp] theorem Act.draw_resp : ((Act.draw).apply s).resp = s.resp := rfl
@[simp] theorem Act.draw_pending : ((Act.draw).apply s).pending = s.pending := rfl
end draw

section outc
variable (s : State) (o : Outc)
@[simp] theorem Act.outc_regs : ((Act.outc o).apply s).regs = s.regs := rfl
@[simp] theorem Act.outc_shadow : ((Act.outc o).apply s).shadow = s.shadow := rfl
@[simp] theorem Act.outc_staged : ((Act.outc o).apply s).staged = s.staged := rfl
@[simp] theorem Act.outc_mem : ((Act.outc o).apply s).mem = s.mem := rfl
@[simp] theorem Act.outc_marks : ((Act.outc o).apply s).marks = s.marks := rfl
@[simp] theorem Act.outc_otp : ((Act.outc o).apply s).otp = s.otp := rfl
@[simp] theorem Act.outc_eng : ((Act.outc o).apply s).eng = s.eng := rfl
@[simp] theorem Act.outc_balls : ((Act.outc o).apply s).balls = s.balls := rfl
@[simp] theorem Act.outc_now : ((Act.outc o).apply s).now = s.now := rfl
@[simp] theorem Act.outc_free : ((Act.outc o).apply s).free = s.free := rfl
@[simp] theorem Act.outc_outcome : ((Act.outc o).apply s).outcome = o := rfl
@[simp] theorem Act.outc_resp : ((Act.outc o).apply s).resp = s.resp := rfl
@[simp] theorem Act.outc_pending : ((Act.outc o).apply s).pending = s.pending := rfl
end outc

section resp
variable (s : State) (l : List Word)
@[simp] theorem Act.resp_regs : ((Act.resp l).apply s).regs = s.regs := rfl
@[simp] theorem Act.resp_shadow : ((Act.resp l).apply s).shadow = s.shadow := rfl
@[simp] theorem Act.resp_staged : ((Act.resp l).apply s).staged = s.staged := rfl
@[simp] theorem Act.resp_mem : ((Act.resp l).apply s).mem = s.mem := rfl
@[simp] theorem Act.resp_marks : ((Act.resp l).apply s).marks = s.marks := rfl
@[simp] theorem Act.resp_otp : ((Act.resp l).apply s).otp = s.otp := rfl
@[simp] theorem Act.resp_eng : ((Act.resp l).apply s).eng = s.eng := rfl
@[simp] theorem Act.resp_balls : ((Act.resp l).apply s).balls = s.balls := rfl
@[simp] theorem Act.resp_now : ((Act.resp l).apply s).now = s.now := rfl
@[simp] theorem Act.resp_free : ((Act.resp l).apply s).free = s.free := rfl
@[simp] theorem Act.resp_outcome : ((Act.resp l).apply s).outcome = s.outcome := rfl
@[simp] theorem Act.resp_resp : ((Act.resp l).apply s).resp = l := rfl
@[simp] theorem Act.resp_pending : ((Act.resp l).apply s).pending = s.pending := rfl
end resp

section resetRegs
variable (s : State) (p : Nat → Bool)
@[simp] theorem Act.resetRegs_regs : ((Act.resetRegs p).apply s).regs = keep p s.regs := rfl
@[simp] theorem Act.resetRegs_shadow : ((Act.resetRegs p).apply s).shadow = keep p s.shadow := rfl
@[simp] theorem Act.resetRegs_staged : ((Act.resetRegs p).apply s).staged = keep p s.staged := rfl
@[simp] theorem Act.resetRegs_mem : ((Act.resetRegs p).apply s).mem = s.mem := rfl
@[simp] theorem Act.resetRegs_marks : ((Act.resetRegs p).apply s).marks = s.marks := rfl
@[simp] theorem Act.resetRegs_otp : ((Act.resetRegs p).apply s).otp = s.otp := rfl
@[simp] theorem Act.resetRegs_eng : ((Act.resetRegs p).apply s).eng = s.eng := rfl
@[simp] theorem Act.resetRegs_balls : ((Act.resetRegs p).apply s).balls = s.balls := rfl
@[simp] theorem Act.resetRegs_now : ((Act.resetRegs p).apply s).now = s.now := rfl
@[simp] theorem Act.resetRegs_free : ((Act.resetRegs p).apply s).free = s.free := rfl
@[simp] theorem Act.resetRegs_outcome : ((Act.resetRegs p).apply s).outcome = s.outcome := rfl
@[simp] theorem Act.resetRegs_resp : ((Act.resetRegs p).apply s).resp = s.resp := rfl
@[simp] theorem Act.resetRegs_pending : ((Act.resetRegs p).apply s).pending = s.pending := rfl
end resetRegs

section clearMem
variable (s : State) (p : Nat → Bool)
@[simp] theorem Act.clearMem_regs : ((Act.clearMem p).apply s).regs = s.regs := rfl
@[simp] theorem Act.clearMem_shadow : ((Act.clearMem p).apply s).shadow = s.shadow := rfl
@[simp] theorem Act.clearMem_staged : ((Act.clearMem p).apply s).staged = s.staged := rfl
@[simp] theorem Act.clearMem_mem : ((Act.clearMem p).apply s).mem = keep p s.mem := rfl
@[simp] theorem Act.clearMem_marks : ((Act.clearMem p).apply s).marks = keep p s.marks := rfl
@[simp] theorem Act.clearMem_otp : ((Act.clearMem p).apply s).otp = s.otp := rfl
@[simp] theorem Act.clearMem_eng : ((Act.clearMem p).apply s).eng = s.eng := rfl
@[simp] theorem Act.clearMem_balls : ((Act.clearMem p).apply s).balls = s.balls := rfl
@[simp] theorem Act.clearMem_now : ((Act.clearMem p).apply s).now = s.now := rfl
@[simp] theorem Act.clearMem_free : ((Act.clearMem p).apply s).free = s.free := rfl
@[simp] theorem Act.clearMem_outcome : ((Act.clearMem p).apply s).outcome = s.outcome := rfl
@[simp] theorem Act.clearMem_resp : ((Act.clearMem p).apply s).resp = s.resp := rfl
@[simp] theorem Act.clearMem_pending : ((Act.clearMem p).apply s).pending = s.pending := rfl
end clearMem

section quiet
variable (s : State)
@[simp] theorem State.linksQuiet_regs : s.linksQuiet.regs = s.regs := rfl
@[simp] theorem State.linksQuiet_shadow : s.linksQuiet.shadow = s.shadow := rfl
@[simp] theorem State.linksQuiet_staged : s.linksQuiet.staged = s.staged := rfl
@[simp] theorem State.linksQuiet_mem : s.linksQuiet.mem = s.mem := rfl
@[simp] theorem State.linksQuiet_otp : s.linksQuiet.otp = s.otp := rfl
@[simp] theorem State.linksQuiet_balls : s.linksQuiet.balls = s.balls := rfl
@[simp] theorem State.linksQuiet_now : s.linksQuiet.now = s.now := rfl
@[simp] theorem State.linksQuiet_free : s.linksQuiet.free = s.free := rfl
@[simp] theorem State.linksQuiet_outcome : s.linksQuiet.outcome = s.outcome := rfl
@[simp] theorem State.linksQuiet_resp : s.linksQuiet.resp = s.resp := rfl
@[simp] theorem State.linksQuiet_pending : s.linksQuiet.pending = s.pending := rfl
@[simp] theorem State.linksQuiet_reg (a : Nat) : s.linksQuiet.reg a = s.reg a := rfl
@[simp] theorem State.linksQuiet_f (x : Fld) : s.linksQuiet.f x = s.f x := rfl
@[simp] theorem State.linksQuiet_b (x : Fld) : s.linksQuiet.b x = s.b x := rfl
end quiet

end Sys2Proof.Machine
end

