-- ==== Sys2Proof/Laws/Prog.lean ====
section
/-!
SUPPORT. Programs: how each form runs, and what no program can do.
-/
namespace Sys2Proof.Machine

@[simp] theorem run_skip (s : State) : Prog.skip.run s = s := rfl
@[simp] theorem run_act (a : Act) (s : State) : (Prog.act a).run s = a.apply s := rfl
@[simp] theorem run_seq (p q : Prog) (s : State) : (Prog.seq p q).run s = q.run (p.run s) := rfl
@[simp] theorem run_dyn (f : State → Prog) (s : State) : (Prog.dyn f).run s = (f s).run s := rfl
@[simp] theorem run_blk_nil (s : State) : (blk []).run s = s := rfl
@[simp] theorem run_blk_cons (p : Prog) (l : List Prog) (s : State) : (blk (p :: l)).run s = (blk l).run (p.run s) := rfl
@[simp] theorem run_whenB (c : Bool) (p : Prog) (s : State) : (whenB c p).run s = if c then p.run s else s := by
  cases c <;> rfl
@[simp] theorem run_whenS (c : State → Bool) (p : Prog) (s : State) : (whenS c p).run s = if c s then p.run s else s := by
  unfold whenS
  by_cases h : c s <;> simp [h]
@[simp] theorem run_ifS (c : State → Bool) (p q : Prog) (s : State) : (ifS c p q).run s = if c s then p.run s else q.run s := by
  unfold ifS
  by_cases h : c s <;> simp [h]
@[simp] theorem run_ite (c : Prop) [Decidable c] (p q : Prog) (s : State) : (if c then p else q).run s = if c then p.run s else q.run s := by
  by_cases h : c <;> simp [h]
theorem run_whenS_pos {c : State → Bool} {s : State} (h : c s = true) (p : Prog) : (whenS c p).run s = p.run s := by simp [h]
theorem run_whenS_neg {c : State → Bool} {s : State} (h : c s = false) (p : Prog) : (whenS c p).run s = s := by simp [h]
@[simp] theorem run_forEach_nil {α : Type} (f : α → Prog) (s : State) : (forEach [] f).run s = s := rfl
@[simp] theorem run_forEach_cons {α : Type} (x : α) (l : List α) (f : α → Prog) (s : State) :
    (forEach (x :: l) f).run s = (forEach l f).run ((f x).run s) := rfl
@[simp] theorem run_set (x : Fld) (v : Nat) (s : State) :
    (set x v).run s = (Act.reg x.reg (putBits (s.reg x.reg) x.lo x.wd v)).apply s := rfl
@[simp] theorem run_setReg (a v : Nat) (s : State) : (setReg a v).run s = (Act.reg a (BitVec.ofNat 32 v)).apply s := rfl
@[simp] theorem run_eng (g : Engines → Engines) (s : State) : (eng g).run s = (Act.eng g).apply s := rfl
@[simp] theorem run_setOutc (o : Outc) (s : State) : (setOutc o).run s = (Act.outc o).apply s := rfl
@[simp] theorem run_withFree (k : Nat → Prog) (s : State) :
    (withFree k).run s = (k (Config.freeNat s.free)).run (Act.draw.apply s) := rfl
theorem done_eq (p : Prog) (s : State) : done p s = .next (p.run s.linksQuiet) := rfl

/-- A property that every primitive change keeps is kept by every program. -/
theorem Prog.run_keeps (P : State → Prop) (h : ∀ (a : Act) (s : State), P s → P (a.apply s)) (p : Prog) (s : State) (hs : P s) : P (p.run s) := by
  induction p generalizing s with
  | skip => exact hs
  | act a => exact h a s hs
  | seq p q ihp ihq => exact ihq _ (ihp _ hs)
  | dyn f ih => exact ih s s hs

/-- No program touches the queue. -/
@[simp] theorem Prog.run_pending (p : Prog) (s : State) : (p.run s).pending = s.pending :=
  Prog.run_keeps (fun t => t.pending = s.pending) (fun a t ht => by cases a <;> exact ht) p s rfl

/-- No program makes time pass. -/
@[simp] theorem Prog.run_now (p : Prog) (s : State) : (p.run s).now = s.now :=
  Prog.run_keeps (fun t => t.now = s.now) (fun a t ht => by cases a <;> exact ht) p s rfl

/-! ### Registers and fields -/

/-- A register after a register write. -/
theorem reg_apply_reg (a b : Nat) (v : Word) (s : State) : ((Act.reg a v).apply s).reg b = if a = b then v else s.reg b := by
  simp [State.reg, look_store]

@[simp] theorem reg_apply_reg_same (a : Nat) (v : Word) (s : State) : ((Act.reg a v).apply s).reg a = v := by
  simp [reg_apply_reg]

theorem reg_apply_reg_ne {a b : Nat} (h : a ≠ b) (v : Word) (s : State) : ((Act.reg a v).apply s).reg b = s.reg b := by
  simp [reg_apply_reg, h]

@[simp] theorem reg_apply_eng (f : Engines → Engines) (s : State) (a : Nat) : ((Act.eng f).apply s).reg a = s.reg a := rfl
@[simp] theorem reg_apply_outc (o : Outc) (s : State) (a : Nat) : ((Act.outc o).apply s).reg a = s.reg a := rfl
@[simp] theorem reg_apply_draw (s : State) (a : Nat) : (Act.draw.apply s).reg a = s.reg a := rfl
@[simp] theorem reg_apply_shd (b : Nat) (v : Word) (s : State) (a : Nat) : ((Act.shd b v).apply s).reg a = s.reg a := rfl
@[simp] theorem reg_apply_stg (b : Nat) (v : Word) (s : State) (a : Nat) : ((Act.stg b v).apply s).reg a = s.reg a := rfl
@[simp] theorem f_apply_eng (f : Engines → Engines) (s : State) (x : Fld) : ((Act.eng f).apply s).f x = s.f x := rfl
@[simp] theorem f_apply_outc (o : Outc) (s : State) (x : Fld) : ((Act.outc o).apply s).f x = s.f x := rfl
@[simp] theorem f_apply_draw (s : State) (x : Fld) : (Act.draw.apply s).f x = s.f x := rfl

theorem getBits_toNat_lt (w : Word) (lo wd : Nat) : getBits w lo wd < 2 ^ wd := Nat.mod_lt _ (Nat.two_pow_pos wd)

/-- The number whose bits `[lo + wd - 1 : lo]` are replaced. -/
theorem putBits_toNat (w : Word) (lo wd v : Nat) (h : lo + wd ≤ 32) :
    (putBits w lo wd v).toNat = w.toNat - getBits w lo wd * 2 ^ lo + v % 2 ^ wd * 2 ^ lo := by
  have hw : w.toNat < 2 ^ 32 := w.isLt
  have hd : getBits w lo wd * 2 ^ lo ≤ w.toNat := by
    unfold getBits
    calc w.toNat / 2 ^ lo % 2 ^ wd * 2 ^ lo ≤ w.toNat / 2 ^ lo * 2 ^ lo := Nat.mul_le_mul_right _ (Nat.mod_le _ _)
      _ ≤ w.toNat := Nat.div_mul_le_self _ _
  have hlt : w.toNat - getBits w lo wd * 2 ^ lo + v % 2 ^ wd * 2 ^ lo < 2 ^ 32 := by
    have hv : v % 2 ^ wd < 2 ^ wd := Nat.mod_lt _ (Nat.two_pow_pos wd)
    have e1 : w.toNat = w.toNat / 2 ^ (lo + wd) * 2 ^ (lo + wd) + getBits w lo wd * 2 ^ lo + w.toNat % 2 ^ lo := by
      have a1 := Nat.div_add_mod w.toNat (2 ^ lo)
      have a2 := Nat.div_add_mod (w.toNat / 2 ^ lo) (2 ^ wd)
      have a3 : w.toNat / 2 ^ (lo + wd) = w.toNat / 2 ^ lo / 2 ^ wd := by rw [Nat.pow_add, Nat.div_div_eq_div_mul]
      have a4 : w.toNat / 2 ^ lo % 2 ^ wd = getBits w lo wd := rfl
      rw [a3, Nat.pow_add]
      rw [a4] at a2
      generalize w.toNat / 2 ^ lo / 2 ^ wd = q at *
      generalize getBits w lo wd = g at *
      generalize w.toNat % 2 ^ lo = r at *
      rw [← a2] at a1
      rw [← a1]
      simp [Nat.mul_add, Nat.mul_comm, Nat.mul_left_comm]
    have hq : w.toNat / 2 ^ (lo + wd) < 2 ^ (32 - (lo + wd)) := by
      apply Nat.div_lt_of_lt_mul
      rw [← Nat.pow_add]
      simpa [show lo + wd + (32 - (lo + wd)) = 32 by omega] using hw
    have hr : w.toNat % 2 ^ lo < 2 ^ lo := Nat.mod_lt _ (Nat.two_pow_pos lo)
    have e32 : (2 : Nat) ^ 32 = 2 ^ (32 - (lo + wd)) * 2 ^ (lo + wd) := by
      rw [← Nat.pow_add]; congr 1; omega
    have ewd : (2 : Nat) ^ (lo + wd) = 2 ^ wd * 2 ^ lo := by rw [Nat.pow_add, Nat.mul_comm]
    have b1 : (w.toNat / 2 ^ (lo + wd) + 1) * 2 ^ (lo + wd) ≤ 2 ^ 32 := by
      rw [e32]; exact Nat.mul_le_mul_right _ hq
    have b2 : (v % 2 ^ wd + 1) * 2 ^ lo ≤ 2 ^ wd * 2 ^ lo := Nat.mul_le_mul_right _ hv
    rw [Nat.add_mul, Nat.one_mul] at b1 b2
    omega
  unfold putBits
  rw [BitVec.toNat_ofNat, Nat.mod_eq_of_lt hlt]

/-- A word is what lies above the bits, the bits, and what lies below. -/
theorem word_split (n lo wd : Nat) :
    n = n / 2 ^ (lo + wd) * 2 ^ (lo + wd) + n / 2 ^ lo % 2 ^ wd * 2 ^ lo + n % 2 ^ lo := by
  have a1 := Nat.div_add_mod n (2 ^ lo)
  have a2 := Nat.div_add_mod (n / 2 ^ lo) (2 ^ wd)
  have a3 : n / 2 ^ (lo + wd) = n / 2 ^ lo / 2 ^ wd := by rw [Nat.pow_add, Nat.div_div_eq_div_mul]
  rw [a3, Nat.pow_add]
  generalize n / 2 ^ lo % 2 ^ wd = g at *
  generalize n / 2 ^ lo / 2 ^ wd = q at *
  generalize n % 2 ^ lo = r at *
  rw [← a2] at a1
  conv => lhs; rw [← a1]
  simp [Nat.mul_add, Nat.mul_comm, Nat.mul_left_comm]

/-- Bits of `a * 2 ^ hi + b * 2 ^ lo + c` at `lo`, where they do not overlap. -/
theorem bits_of_parts (a b c lo wd : Nat) (hb : b < 2 ^ wd) (hc : c < 2 ^ lo) :
    (a * 2 ^ (lo + wd) + b * 2 ^ lo + c) / 2 ^ lo % 2 ^ wd = b := by
  have h1 : (a * 2 ^ (lo + wd) + b * 2 ^ lo + c) / 2 ^ lo = a * 2 ^ wd + b := by
    rw [Nat.pow_add, ← Nat.mul_assoc, Nat.mul_right_comm, ← Nat.add_mul, Nat.mul_comm, Nat.mul_add_div (Nat.two_pow_pos lo),
      Nat.div_eq_of_lt hc, Nat.add_zero]
  rw [h1, Nat.mul_add_mod_of_lt' hb]
where
  Nat.mul_add_mod_of_lt' {a b m : Nat} (h : b < m) : (a * m + b) % m = b := by
    rw [Nat.add_comm, Nat.add_mul_mod_self_right, Nat.mod_eq_of_lt h]

/-- A field just set reads the value, cut to its width. -/
theorem getBits_putBits_same (w : Word) (lo wd v : Nat) (h : lo + wd ≤ 32) : getBits (putBits w lo wd v) lo wd = v % 2 ^ wd := by
  have e := word_split w.toNat lo wd
  have hv : v % 2 ^ wd < 2 ^ wd := Nat.mod_lt _ (Nat.two_pow_pos wd)
  have hr : w.toNat % 2 ^ lo < 2 ^ lo := Nat.mod_lt _ (Nat.two_pow_pos lo)
  unfold getBits at *
  rw [putBits_toNat w lo wd v h]
  unfold getBits
  have : w.toNat - w.toNat / 2 ^ lo % 2 ^ wd * 2 ^ lo + v % 2 ^ wd * 2 ^ lo =
      w.toNat / 2 ^ (lo + wd) * 2 ^ (lo + wd) + v % 2 ^ wd * 2 ^ lo + w.toNat % 2 ^ lo := by omega
  rw [this]
  exact bits_of_parts _ _ _ _ _ hv hr

/-- A field beside the one set reads as before. -/
theorem getBits_putBits_disj (w : Word) (lo wd v lo' wd' : Nat) (h : lo + wd ≤ 32) (hd : lo' + wd' ≤ lo ∨ lo + wd ≤ lo') :
    getBits (putBits w lo wd v) lo' wd' = getBits w lo' wd' := by
  have e := word_split w.toNat lo wd
  have hv : v % 2 ^ wd < 2 ^ wd := Nat.mod_lt _ (Nat.two_pow_pos wd)
  have hb : w.toNat / 2 ^ lo % 2 ^ wd < 2 ^ wd := Nat.mod_lt _ (Nat.two_pow_pos wd)
  have hr : w.toNat % 2 ^ lo < 2 ^ lo := Nat.mod_lt _ (Nat.two_pow_pos lo)
  unfold getBits at *
  rw [putBits_toNat w lo wd v h]
  unfold getBits
  generalize w.toNat / 2 ^ (lo + wd) = q at *
  generalize w.toNat / 2 ^ lo % 2 ^ wd = b at *
  generalize w.toNat % 2 ^ lo = r at *
  generalize v % 2 ^ wd = v' at *
  have e2 : w.toNat - b * 2 ^ lo + v' * 2 ^ lo = q * 2 ^ (lo + wd) + v' * 2 ^ lo + r := by omega
  rw [e2, e]
  rcases hd with hd | hd
  · have hs : lo = lo' + wd' + (lo - (lo' + wd')) := by omega
    have low (x : Nat) : (q * 2 ^ (lo + wd) + x * 2 ^ lo + r) / 2 ^ lo' % 2 ^ wd' = r / 2 ^ lo' % 2 ^ wd' := by
      have f1 : q * 2 ^ (lo + wd) + x * 2 ^ lo + r = 2 ^ lo' * ((q * 2 ^ wd + x) * 2 ^ (lo - (lo' + wd')) * 2 ^ wd') + r := by
        have : (2 : Nat) ^ lo = 2 ^ lo' * 2 ^ wd' * 2 ^ (lo - (lo' + wd')) := by
          rw [← Nat.pow_add, ← Nat.pow_add]; congr 1
        rw [Nat.pow_add, this]
        simp only [Nat.add_mul, Nat.mul_add, Nat.mul_assoc, Nat.mul_comm, Nat.mul_left_comm]
      rw [f1, Nat.mul_add_div (Nat.two_pow_pos lo'), Nat.add_comm, Nat.add_mul_mod_self_right]
    rw [low, low]
  · have hs : lo' = lo + wd + (lo' - (lo + wd)) := by omega
    have high (x : Nat) (hx : x < 2 ^ wd) : (q * 2 ^ (lo + wd) + x * 2 ^ lo + r) / 2 ^ lo' = q / 2 ^ (lo' - (lo + wd)) := by
      have hlt : x * 2 ^ lo + r < 2 ^ (lo + wd) := by
        have : (x + 1) * 2 ^ lo ≤ 2 ^ wd * 2 ^ lo := Nat.mul_le_mul_right _ hx
        rw [Nat.add_mul, Nat.one_mul, ← Nat.pow_add, Nat.add_comm wd lo] at this
        omega
      have : (2 : Nat) ^ lo' = 2 ^ (lo + wd) * 2 ^ (lo' - (lo + wd)) := by
        rw [← Nat.pow_add]; congr 1
      rw [this, ← Nat.div_div_eq_div_mul, Nat.add_assoc, Nat.mul_comm q, Nat.mul_add_div (Nat.two_pow_pos _), Nat.div_eq_of_lt hlt,
        Nat.add_zero]
    rw [high _ hv, high _ hb]

/-- Field `x` after a write of another register. -/
theorem f_apply_reg_ne {a : Nat} {x : Fld} (h : a ≠ x.reg) (v : Word) (s : State) : ((Act.reg a v).apply s).f x = s.f x := by
  unfold State.f
  rw [reg_apply_reg_ne h]

/-- Field `x` after it has been set. -/
theorem f_set_same (x : Fld) (h : x.lo + x.wd ≤ 32) (v : Nat) (s : State) : ((set x v).run s).f x = v % 2 ^ x.wd := by
  simp [State.f, getBits_putBits_same _ _ _ _ h]

/-- Field `y` of another register after `x` has been set. -/
theorem f_set_reg {x y : Fld} (h : x.reg ≠ y.reg) (v : Nat) (s : State) : ((set x v).run s).f y = s.f y := by
  simp [State.f, reg_apply_reg_ne h]

/-- Field `y` beside `x` in the same register after `x` has been set. -/
theorem f_set_disj {x y : Fld} (h : x.lo + x.wd ≤ 32) (hd : y.lo + y.wd ≤ x.lo ∨ x.lo + x.wd ≤ y.lo) (v : Nat) (s : State) :
    ((set x v).run s).f y = s.f y := by
  by_cases e : x.reg = y.reg
  · unfold State.f
    rw [run_set, e, reg_apply_reg_same, getBits_putBits_disj _ _ _ _ _ _ h hd]
  · exact f_set_reg e v s

end Sys2Proof.Machine
end

