-- ==== Sys2Proof/Laws/Frame.lean ====
section
/-!
SUPPORT. What programs leave alone: one predicate, a lemma for each way programs are built, and what a wake event, an event flag, a message
and a refusal can touch.
-/
namespace Sys2Proof.Machine

/-- The program leaves `g` of the state as it was. -/
def Prog.Fixes {β : Type} (g : State → β) (p : Prog) : Prop := ∀ s : State, g (p.run s) = g s

section build
variable {β : Type} {g : State → β}

theorem Prog.Fixes.eq {p : Prog} (h : p.Fixes g) (s : State) : g (p.run s) = g s := h s

theorem fixes_skip : Prog.skip.Fixes g := fun _ => rfl

theorem fixes_act {a : Act} (h : ∀ s, g (a.apply s) = g s) : (Prog.act a).Fixes g := h

theorem fixes_seq {p q : Prog} (hp : p.Fixes g) (hq : q.Fixes g) : (Prog.seq p q).Fixes g := fun s => (hq _).trans (hp s)

theorem fixes_dyn {f : State → Prog} (h : ∀ u, (f u).Fixes g) : (Prog.dyn f).Fixes g := fun s => h s s

theorem fixes_blk_nil : (blk []).Fixes g := fun _ => rfl

theorem fixes_blk_cons {p : Prog} {l : List Prog} (hp : p.Fixes g) (hl : (blk l).Fixes g) : (blk (p :: l)).Fixes g := fixes_seq hp hl

theorem fixes_blk {l : List Prog} (h : ∀ p ∈ l, p.Fixes g) : (blk l).Fixes g := by
  induction l with
  | nil => exact fixes_blk_nil
  | cons p l ih => exact fixes_blk_cons (h p (by simp)) (ih fun q hq => h q (by simp [hq]))

theorem fixes_forEach {α : Type} {l : List α} {f : α → Prog} (h : ∀ x ∈ l, (f x).Fixes g) : (forEach l f).Fixes g :=
  fixes_blk fun p hp => by
    obtain ⟨x, hx, rfl⟩ := List.mem_map.1 hp
    exact h x hx

theorem fixes_upTo {n : Nat} {f : Nat → Prog} (h : ∀ i, i < n → (f i).Fixes g) : (upTo n f).Fixes g :=
  fixes_blk fun p hp => by
    obtain ⟨x, hx, rfl⟩ := List.mem_map.1 hp
    exact h x (List.mem_range.1 hx)

theorem fixes_whenB {c : Bool} {p : Prog} (h : p.Fixes g) : (whenB c p).Fixes g := by
  cases c
  · exact fixes_skip
  · exact h

theorem fixes_ite {c : Prop} [Decidable c] {p q : Prog} (hp : p.Fixes g) (hq : q.Fixes g) : (if c then p else q).Fixes g := by
  split
  · exact hp
  · exact hq

theorem fixes_whenS {c : State → Bool} {p : Prog} (h : p.Fixes g) : (whenS c p).Fixes g := fixes_dyn fun _ => fixes_ite h fixes_skip

theorem fixes_ifS {c : State → Bool} {p q : Prog} (hp : p.Fixes g) (hq : q.Fixes g) : (ifS c p q).Fixes g :=
  fixes_dyn fun _ => fixes_ite hp hq

theorem fixes_withFree {k : Nat → Prog} (hd : ∀ s, g (Act.draw.apply s) = g s) (h : ∀ n, (k n).Fixes g) : (withFree k).Fixes g :=
  fixes_dyn fun _ => fixes_seq (fixes_act hd) (h _)

end build

/-! ### What a program keeps true -/

/-- The program keeps `P` true. -/
def Prog.Holds (P : State → Prop) (p : Prog) : Prop := ∀ s : State, P s → P (p.run s)

section holds
variable {P : State → Prop}

theorem Prog.Holds.of {p : Prog} (h : p.Holds P) {s : State} (hs : P s) : P (p.run s) := h s hs

theorem holds_skip : Prog.skip.Holds P := fun _ h => h

theorem holds_act {a : Act} (h : ∀ s, P s → P (a.apply s)) : (Prog.act a).Holds P := h

theorem holds_seq {p q : Prog} (hp : p.Holds P) (hq : q.Holds P) : (Prog.seq p q).Holds P := fun s h => hq _ (hp s h)

theorem holds_dyn {f : State → Prog} (h : ∀ u, (f u).Holds P) : (Prog.dyn f).Holds P := fun s hs => h s s hs

theorem holds_blk_nil : (blk []).Holds P := fun _ h => h

theorem holds_blk_cons {p : Prog} {l : List Prog} (hp : p.Holds P) (hl : (blk l).Holds P) : (blk (p :: l)).Holds P := holds_seq hp hl

theorem holds_whenB {c : Bool} {p : Prog} (h : p.Holds P) : (whenB c p).Holds P := by
  cases c
  · exact holds_skip
  · exact h

theorem holds_ite {c : Prop} [Decidable c] {p q : Prog} (hp : p.Holds P) (hq : q.Holds P) : (if c then p else q).Holds P := by
  split
  · exact hp
  · exact hq

theorem holds_whenS {c : State → Bool} {p : Prog} (h : p.Holds P) : (whenS c p).Holds P := holds_dyn fun _ => holds_ite h holds_skip

theorem holds_ifS {c : State → Bool} {p q : Prog} (hp : p.Holds P) (hq : q.Holds P) : (ifS c p q).Holds P :=
  holds_dyn fun _ => holds_ite hp hq

theorem holds_forEach {α : Type} {l : List α} {f : α → Prog} (h : ∀ x ∈ l, (f x).Holds P) : (forEach l f).Holds P := by
  induction l with
  | nil => exact holds_blk_nil
  | cons x l ih => exact holds_blk_cons (h x (by simp)) (ih fun y hy => h y (by simp [hy]))

/-- What every primitive change keeps true is kept true by every program. -/
theorem holds_all (h : ∀ (a : Act) (s : State), P s → P (a.apply s)) (p : Prog) : p.Holds P := fun s hs => Prog.run_keeps P h p s hs

/-- What is left alone keeps what is said of it. -/
theorem Prog.Fixes.holds {β : Type} {g : State → β} {p : Prog} (h : p.Fixes g) (Q : β → Prop) : p.Holds fun s => Q (g s) :=
  fun s hs => by
    show Q (g (p.run s))
    rw [h.eq]
    exact hs

end holds

/-! ### One register -/

section reg
variable {a : Nat}

theorem fixes_reg_set {x : Fld} (h : x.reg ≠ a) (v : Nat) : (set x v).Fixes (State.reg · a) := fun _ => reg_apply_reg_ne h _ _

theorem fixes_reg_setB {x : Fld} (h : x.reg ≠ a) (b : Bool) : (setB x b).Fixes (State.reg · a) := fixes_reg_set h _

theorem fixes_reg_setI {x : Fld} (h : x.reg ≠ a) (v : Int) : (setI x v).Fixes (State.reg · a) := fixes_reg_set h _

theorem fixes_reg_setSat {x : Fld} (h : x.reg ≠ a) (v : Nat) : (setSat x v).Fixes (State.reg · a) := fixes_reg_set h _

theorem fixes_reg_upd {x : Fld} (h : x.reg ≠ a) (f : Nat → Nat) : (upd x f).Fixes (State.reg · a) := fixes_dyn fun _ => fixes_reg_set h _

theorem fixes_reg_incSat {x : Fld} (h : x.reg ≠ a) : (incSat x).Fixes (State.reg · a) := fixes_reg_upd h _

theorem fixes_reg_incWrap {x : Fld} (h : x.reg ≠ a) : (incWrap x).Fixes (State.reg · a) := fixes_reg_upd h _

theorem fixes_reg_addSat {x : Fld} (h : x.reg ≠ a) (n : Nat) : (addSat x n).Fixes (State.reg · a) :=
  fixes_dyn fun _ => fixes_reg_setSat h _

theorem fixes_reg_setReg {b : Nat} (h : b ≠ a) (v : Nat) : (setReg b v).Fixes (State.reg · a) := fun _ => reg_apply_reg_ne h _ _

theorem fixes_reg_eng (f : Engines → Engines) : (eng f).Fixes (State.reg · a) := fun _ => rfl

theorem fixes_reg_outc (o : Outc) : (setOutc o).Fixes (State.reg · a) := fun _ => rfl

theorem fixes_reg_burn (r w : Nat) : (burn r w).Fixes (State.reg · a) := fun _ => rfl

theorem fixes_reg_setByte (b : Nat) (v : Byte) : (setByte b v).Fixes (State.reg · a) := fun _ => rfl

end reg

/-- A field of a register that the program leaves alone. -/
theorem Prog.Fixes.f {p : Prog} {x : Fld} (h : p.Fixes (State.reg · x.reg)) (s : State) : (p.run s).f x = s.f x := by
  unfold State.f
  rw [h.eq]

/-! ### What no register write and no change of the given engines touches -/

section part
variable {β : Type} {g : State → β}

theorem fixes_set {x : Fld} (h : ∀ s l, g { s with regs := l } = g s) (v : Nat) : (set x v).Fixes g := fun s => h s _

theorem fixes_setReg {b : Nat} (h : ∀ s l, g { s with regs := l } = g s) (v : Nat) : (setReg b v).Fixes g := fun s => h s _

theorem fixes_eng {f : Engines → Engines} (h : ∀ s, g { s with eng := f s.eng } = g s) : (eng f).Fixes g := h

end part

/-! ### Wake events, event flags, messages, refusals -/

section shared
variable {a : Nat}

theorem fixes_reg_eventQ {x : Fld} (h : x.reg ≠ a) (hm : pageOf a ≠ pgMODE) : (eventQ x).Fixes (State.reg · a) := by
  have hp : ∀ b, pageOf b = pgMODE → b ≠ a := fun b hb e => hm (e ▸ hb)
  refine fixes_blk_cons (fixes_reg_set h _) (fixes_blk_cons (fixes_whenS ?_) fixes_blk_nil)
  exact fixes_blk_cons (fixes_reg_set (hp _ rfl) _) (fixes_blk_cons (fixes_reg_set (hp _ rfl) _)
    (fixes_blk_cons (fixes_whenS (fixes_reg_eng _)) fixes_blk_nil))

/-- An evaluation of the mode touches page MODE, and what an ascent from DORMANT starts. -/
theorem fixes_reg_modeEval (hm : pageOf a ≠ pgMODE) (hw : a ∉ wakeRegs) (c : Nat) : (modeEval c).Fixes (State.reg · a) := by
  have hp : ∀ b, pageOf b = pgMODE → b ≠ a := fun b hb e => hm (e ▸ hb)
  have hd : ∀ b, b ∈ wakeRegs → b ≠ a := fun b hb e => hw (e ▸ hb)
  have hset : ∀ (x : Fld) (v : Nat), pageOf x.reg = pgMODE → (set x v).Fixes (State.reg · a) := fun x v h => fixes_reg_set (hp _ h) v
  have hq : ∀ x : Fld, pageOf x.reg = pgMODE → (eventQ x).Fixes (State.reg · a) := fun x h => fixes_reg_eventQ (hp _ h) hm
  have hst : ∀ m u k, (startTrans m u k).Fixes (State.reg · a) := by
    intro m u k
    refine fixes_blk_cons (hset _ _ rfl) (fixes_blk_cons (hset _ _ rfl) (fixes_blk_cons (hset _ _ rfl) (fixes_blk_cons (fixes_reg_eng _)
      (fixes_blk_cons (fixes_whenB (fixes_whenS (fixes_dyn fun s => fixes_whenB ?_))) fixes_blk_nil))))
    exact fixes_blk_cons (fixes_reg_set (hd CLK_STATUS (by decide)) _) (fixes_blk_cons (fixes_reg_set (hd MEM_STATUS (by decide)) _)
      (fixes_blk_cons (fixes_reg_eng _) fixes_blk_nil))
  have hsetB : ∀ (x : Fld) (v : Bool), pageOf x.reg = pgMODE → (setB x v).Fixes (State.reg · a) := fun x v h => fixes_reg_setB (hp _ h) v
  have heng : ∀ f, (modeEng f).Fixes (State.reg · a) := fun f => fixes_reg_eng _
  refine fixes_dyn fun s0 => fixes_blk_cons (fixes_dyn fun s => ?_) (fixes_blk_cons (fixes_dyn fun s => ?_) (fixes_blk_cons
    (fixes_dyn fun s1 => fixes_seq (fixes_dyn fun s => ?_) (fixes_dyn fun s => ?_)) fixes_blk_nil))
  all_goals
    try dsimp only
    repeat' first
      | with_reducible apply hset
      | with_reducible apply hsetB
      | with_reducible apply hq
      | with_reducible apply heng
      | with_reducible apply hst
      | with_reducible apply fixes_skip
      | with_reducible apply fixes_blk_nil
      | with_reducible apply fixes_blk_cons
      | with_reducible apply fixes_whenB
      | with_reducible apply fixes_ite
      | rfl

theorem fixes_reg_wake {x : Fld} (hx : pageOf x.reg = pgMODE) (hm : pageOf a ≠ pgMODE) (hw : a ∉ wakeRegs) :
    (wake x).Fixes (State.reg · a) :=
  have hp : ∀ b, pageOf b = pgMODE → b ≠ a := fun _ hb e => hm (e ▸ hb)
  fixes_blk_cons (fixes_reg_set (hp _ hx) _) (fixes_blk_cons (fixes_reg_eventQ (hp _ rfl) hm) (fixes_blk_cons
    (fixes_whenS (fixes_blk_cons (fixes_reg_eng _) (fixes_blk_cons (fixes_reg_modeEval hm hw _) fixes_blk_nil))) fixes_blk_nil))

/-- An event flag touches its own register, page MODE and the wake registers. -/
theorem fixes_reg_event {x : Fld} (h : x.reg ≠ a) (hm : pageOf a ≠ pgMODE) (hw : a ∉ wakeRegs) : (event x).Fixes (State.reg · a) :=
  fixes_blk_cons (fixes_reg_set h _) (fixes_blk_cons (fixes_whenS (fixes_reg_wake rfl hm hw)) fixes_blk_nil)

/-- A message touches no register but the count of dropped ones and its event, with what an event can touch. -/
theorem fixes_reg_sendMsg (hm : pageOf a ≠ pgMODE) (hw : a ∉ wakeRegs) (hd : a ∉ dropRegs) (m : Msg) : (sendMsg m).Fixes (State.reg · a) :=
  have hr : ∀ b, b ∈ dropRegs → b ≠ a := fun _ hb e => hd (e ▸ hb)
  fixes_ifS (fixes_reg_eng _) (fixes_blk_cons (fixes_reg_incSat (hr _ (by decide))) (fixes_blk_cons
    (fixes_reg_event (hr _ (by decide)) hm hw) fixes_blk_nil))

theorem fixes_reg_send (hm : pageOf a ≠ pgMODE) (hw : a ∉ wakeRegs) (hd : a ∉ dropRegs) (pg i k d : Nat) :
    (send pg i k d).Fixes (State.reg · a) := fixes_reg_sendMsg hm hw hd _

/-- A refusal touches page MODE and the wake registers (R89). -/
theorem fixes_reg_refuse (hm : pageOf a ≠ pgMODE) (hw : a ∉ wakeRegs) (b c : Nat) : (refuse b c).Fixes (State.reg · a) := by
  have hp : ∀ b, pageOf b = pgMODE → b ≠ a := fun b hb e => hm (e ▸ hb)
  exact fixes_dyn fun s => fixes_blk_cons (fixes_reg_outc _) (fixes_blk_cons (fixes_reg_incSat (hp _ rfl)) (fixes_blk_cons
    (fixes_reg_set (hp _ rfl) _) (fixes_blk_cons (fixes_reg_set (hp _ rfl) _) (fixes_blk_cons (fixes_reg_set (hp _ rfl) _) (fixes_blk_cons
    (fixes_reg_set (hp _ rfl) _) (fixes_blk_cons (fixes_reg_event (hp _ rfl) hm hw) fixes_blk_nil))))))

end shared

/-! ### The same for what is no register -/

section parts
variable {β : Type} {g : State → β}

/-- `g` does not look at the registers, nor at the engines that a wake event reaches. -/
def WakeFree (g : State → β) : Prop :=
  (∀ s l, g { s with regs := l } = g s) ∧
    ∀ (s : State) m c b, g { s with eng := { s.eng with mode := m, clk := c, boot := b } } = g s

theorem WakeFree.set (h : WakeFree g) (x : Fld) (v : Nat) : (Machine.set x v).Fixes g := fixes_set h.1 v

theorem WakeFree.setB (h : WakeFree g) (x : Fld) (b : Bool) : (Machine.setB x b).Fixes g := h.set x _

theorem WakeFree.modeEng (h : WakeFree g) (f : ModeEng → ModeEng) : (Machine.modeEng f).Fixes g := fun s => h.2 s _ _ _

theorem WakeFree.eventQ (h : WakeFree g) (x : Fld) : (Machine.eventQ x).Fixes g :=
  fixes_blk_cons (h.set _ _) (fixes_blk_cons (fixes_whenS (fixes_blk_cons (h.set _ _) (fixes_blk_cons (h.set _ _)
    (fixes_blk_cons (fixes_whenS (h.modeEng _)) fixes_blk_nil)))) fixes_blk_nil)

theorem WakeFree.modeEval (h : WakeFree g) (c : Nat) : (Machine.modeEval c).Fixes g := by
  have hst : ∀ m u k, (startTrans m u k).Fixes g := fun m u k =>
    fixes_blk_cons (h.set _ _) (fixes_blk_cons (h.set _ _) (fixes_blk_cons (h.set _ _) (fixes_blk_cons (h.modeEng _)
      (fixes_blk_cons (fixes_whenB (fixes_whenS (fixes_dyn fun _ => fixes_whenB (fixes_blk_cons (h.set _ _) (fixes_blk_cons (h.set _ _)
        (fixes_blk_cons (fun s => h.2 s _ _ _) fixes_blk_nil)))))) fixes_blk_nil))))
  refine fixes_dyn fun s0 => fixes_blk_cons (fixes_dyn fun s => ?_) (fixes_blk_cons (fixes_dyn fun s => ?_) (fixes_blk_cons
    (fixes_dyn fun s1 => fixes_seq (fixes_dyn fun s => ?_) (fixes_dyn fun s => ?_)) fixes_blk_nil))
  all_goals
    try dsimp only
    repeat' first
      | with_reducible apply h.set
      | with_reducible apply h.setB
      | with_reducible apply h.eventQ
      | with_reducible apply h.modeEng
      | with_reducible apply hst
      | with_reducible apply fixes_skip
      | with_reducible apply fixes_blk_nil
      | with_reducible apply fixes_blk_cons
      | with_reducible apply fixes_whenB
      | with_reducible apply fixes_ite

theorem WakeFree.wake (h : WakeFree g) (x : Fld) : (Machine.wake x).Fixes g :=
  fixes_blk_cons (h.set _ _) (fixes_blk_cons (h.eventQ _) (fixes_blk_cons
    (fixes_whenS (fixes_blk_cons (h.modeEng _) (fixes_blk_cons (h.modeEval _) fixes_blk_nil))) fixes_blk_nil))

theorem WakeFree.event (h : WakeFree g) (x : Fld) : (Machine.event x).Fixes g :=
  fixes_blk_cons (h.set _ _) (fixes_blk_cons (fixes_whenS (h.wake _)) fixes_blk_nil)

/-- A message reaches, beside that, the collector's engine. -/
theorem WakeFree.sendMsg (h : WakeFree g) (hf : ∀ (s : State) f, g { s with eng := { s.eng with flt := f } } = g s) (m : Msg) :
    (Machine.sendMsg m).Fixes g :=
  fixes_ifS (fun s => hf s _) (fixes_blk_cons (fixes_dyn fun _ => h.set _ _) (fixes_blk_cons (h.event _) fixes_blk_nil))

theorem WakeFree.refuse (h : WakeFree g) (ho : ∀ (s : State) o, g { s with outcome := o } = g s) (a c : Nat) :
    (Machine.refuse a c).Fixes g :=
  fixes_dyn fun _ => fixes_blk_cons (fun s => ho s _) (fixes_blk_cons (fixes_dyn fun _ => h.set _ _) (fixes_blk_cons (h.set _ _)
    (fixes_blk_cons (h.set _ _) (fixes_blk_cons (h.set _ _) (fixes_blk_cons (h.set _ _) (fixes_blk_cons (h.event _) fixes_blk_nil))))))

theorem wakeFree_shd (a : Nat) : WakeFree (State.shd · a) := ⟨fun _ _ => rfl, fun _ _ _ _ => rfl⟩
theorem wakeFree_stg (a : Nat) : WakeFree (State.stg · a) := ⟨fun _ _ => rfl, fun _ _ _ _ => rfl⟩
theorem wakeFree_byte (a : Nat) : WakeFree (State.byte · a) := ⟨fun _ _ => rfl, fun _ _ _ _ => rfl⟩
theorem wakeFree_mark (a : Nat) : WakeFree (State.mark · a) := ⟨fun _ _ => rfl, fun _ _ _ _ => rfl⟩
theorem wakeFree_otpRow (r : Nat) : WakeFree (State.otpRow · r) := ⟨fun _ _ => rfl, fun _ _ _ _ => rfl⟩
theorem wakeFree_balls : WakeFree State.balls := ⟨fun _ _ => rfl, fun _ _ _ _ => rfl⟩
theorem wakeFree_outcome : WakeFree State.outcome := ⟨fun _ _ => rfl, fun _ _ _ _ => rfl⟩
theorem wakeFree_resp : WakeFree State.resp := ⟨fun _ _ => rfl, fun _ _ _ _ => rfl⟩
theorem wakeFree_flt : WakeFree fun s => s.eng.flt := ⟨fun _ _ => rfl, fun _ _ _ _ => rfl⟩

end parts

/-! ### Frames of statements -/

theorem sameBut_refl (l pg : List Nat) (s : State) : sameBut l pg s s :=
  ⟨fun _ _ _ => rfl, fun _ => rfl, fun _ => rfl, fun _ => rfl, fun _ => rfl, fun _ => rfl⟩

theorem sameBut_trans {l pg : List Nat} {s t u : State} (h1 : sameBut l pg s t) (h2 : sameBut l pg t u) : sameBut l pg s u :=
  ⟨fun a h h' => (h2.1 a h h').trans (h1.1 a h h'), fun a => (h2.2.1 a).trans (h1.2.1 a), fun a => (h2.2.2.1 a).trans (h1.2.2.1 a),
    fun a => (h2.2.2.2.1 a).trans (h1.2.2.2.1 a), fun a => (h2.2.2.2.2.1 a).trans (h1.2.2.2.2.1 a),
    fun a => (h2.2.2.2.2.2 a).trans (h1.2.2.2.2.2 a)⟩

/-- A program that leaves every other register, and all that is no register, gives the frame. -/
theorem sameBut_of_fixes {l pg : List Nat} {p : Prog} (hr : ∀ a, a ∉ l → pageOf a ∉ pg → p.Fixes (State.reg · a))
    (hs : p.Fixes State.shadow) (hg : p.Fixes State.staged) (hm : p.Fixes State.mem) (hk : p.Fixes State.marks)
    (ho : p.Fixes State.otp) (s : State) :
    sameBut l pg s (p.run s.linksQuiet) := by
  refine ⟨fun a h h' => (hr a h h').eq _, fun a => ?_, fun a => ?_, fun a => ?_, fun a => ?_, fun a => ?_⟩
  · simp [State.shd, hs.eq]
  · simp [State.stg, hg.eq]
  · simp [State.byte, hm.eq]
  · simp only [State.mark, hk.eq]
    rfl
  · simp [State.otpRow, ho.eq]

end Sys2Proof.Machine
end

