-- ==== Sys2Proof/Laws/Access.lean ====
section
/-!
SUPPORT. Register accesses: what a write that the register takes runs, and what one that is denied does.
-/
namespace Sys2Proof.Machine

@[simp] theorem takes_linksQuiet (s : State) (src : Src) (a : Nat) (w : Word) : s.linksQuiet.takes src a w = s.takes src a w := rfl
@[simp] theorem served_linksQuiet (s : State) (src : Src) : s.linksQuiet.served src = s.served src := by cases src <;> rfl
@[simp] theorem deniedTo_linksQuiet (s : State) (src : Src) (n : Nat) : s.linksQuiet.deniedTo src n = s.deniedTo src n := rfl
@[simp] theorem levelNeed_linksQuiet (s : State) (a : Nat) (w : Word) : s.linksQuiet.levelNeed a w = s.levelNeed a w := rfl
@[simp] theorem watchShut_linksQuiet (s : State) (src : Src) (a : Nat) : s.linksQuiet.watchShut src a = s.watchShut src a := rfl

/-- Where no error has left a word behind the register at `a` there is none to drop (R521). -/
theorem run_rawDrop_none {s : State} {a : Nat} (h : (s.eng.recs.raw.any fun x => x.1 == a) = false) : (rawDrop a).run s = s := by
  simp [rawDrop, h]

/-- Dropping it changes no register (R521). -/
theorem rawDrop_reg (a b : Nat) (s : State) : ((rawDrop a).run s).reg b = s.reg b := by
  unfold rawDrop
  simp only [run_whenS]
  split <;> rfl

/-- A write that the register takes runs its effect with outcome OK (R63), once what an error left behind the register is gone (R521). -/
theorem run_access_takes {s : State} {src : Src} {a : Nat} {w : Word} (h : s.takes src a w = true) :
    (access src a w).run s = (writeEffect src a w).run ((rawDrop a).run ((Act.outc .ok).apply s)) := by
  simp only [State.takes, Bool.and_eq_true, Bool.not_eq_true', beq_iff_eq] at h
  obtain ⟨⟨⟨⟨⟨h1, h2⟩, h3⟩, h4⟩, h5⟩, h6⟩ := h
  simp [access, regWrite, h1, h2, h3, h4, h5, h6]

/-- A write below the level it needs completes DENIED and does nothing else (R554). -/
theorem run_access_denied {s : State} {src : Src} {a : Nat} {w : Word} (h1 : s.served src = true) (h2 : mapped a = true)
    (h3 : s.deniedTo src (s.levelNeed a w) = true) : (access src a w).run s = (Act.outc .denied).apply s := by
  simp [access, regWrite, h1, h2, h3]

/-- Where the port does not answer nothing happens (R441). -/
theorem run_access_unserved {s : State} {src : Src} {a : Nat} {w : Word} (h : s.served src = false) : (access src a w).run s = s := by
  simp [access, h]

/-- A write where nothing stands completes OK and has no effect (R12, R63). -/
theorem run_access_inert {s : State} {src : Src} {a : Nat} {w : Word} (h1 : s.served src = true) (h2 : mapped a = true)
    (h3 : s.deniedTo src (s.levelNeed a w) = false) (h4 : s.watchShut src a = false) (h5 : s.inert a = true) :
    (access src a w).run s = (Act.outc .ok).apply s := by
  simp [access, regWrite, h1, h2, h3, h4, h5]

/-- A command that the mode accepts runs with outcome OK (R88). -/
theorem run_accepted {s : State} {a c : Nat} (h : s.accepts c = true) (p : Prog) :
    (accepted a c p).run s = p.run ((Act.outc .ok).apply s) := by
  simp [accepted, h]

/-- A command that the mode does not accept is refused (R89). -/
theorem run_refused {s : State} {a c : Nat} (h : s.accepts c = false) (p : Prog) : (accepted a c p).run s = (refuse a c).run s := by
  simp [accepted, h]

/-- A register write to a WK register runs its command. -/
theorem writeEffect_cmd {src : Src} {a : Nat} {w : Word} {r : RegRow} (h : rowAt a = some r) (hk : r.acc = .wk) :
    writeEffect src a w = cmdWrite src a w := by
  simp [writeEffect, h, hk]

/-- A message that its page can hold joins the page's messages (R464). -/
theorem run_sendMsg_held {s : State} {m : Msg} (h : s.heldBy m.src < 4) :
    (sendMsg m).run s = (Act.eng fun e => { e with flt := { e.flt with held := e.flt.held ++ [m] } }).apply s := by
  simp [sendMsg, h, fltEng]

/-- An event flag is set after its event (R52). -/
theorem event_flag (x : Fld) (h : x.lo + x.wd ≤ 32) (hw : x.wd ≠ 0) (hm : pageOf x.reg ≠ pgMODE) (hk : x.reg ∉ wakeRegs) (s : State) :
    ((event x).run s).b x = true := by
  have hf : (whenS (fun s => s.b ⟨x.reg + 8, x.lo, 1⟩) (wake MODE_WAKE_SRC_EVENT)).Fixes (State.reg · x.reg) :=
    fixes_whenS (fixes_reg_wake rfl hm hk)
  have e : (event x).run s = (whenS (fun s => s.b ⟨x.reg + 8, x.lo, 1⟩) (wake MODE_WAKE_SRC_EVENT)).run ((set x 1).run s) := rfl
  have h1 : 1 % 2 ^ x.wd = 1 := Nat.mod_eq_of_lt (Nat.one_lt_two_pow hw)
  have hv : ((event x).run s).f x = 1 := by rw [e, hf.f, f_set_same x h, h1]
  unfold State.b
  rw [hv]
  rfl

/-- The bits of a keyed word below its key. -/
theorem getBits_keyed (key : BitVec 16) (low lo wd : Nat) (hl : low < 2 ^ 16) (h : lo + wd ≤ 16) :
    getBits (keyed key low) lo wd = low / 2 ^ lo % 2 ^ wd := by
  have hk := key.isLt
  have e : (keyed key low).toNat = key.toNat * 2 ^ 16 + low := by
    simp [keyed]
    omega
  have hs : (2 : Nat) ^ 16 = 2 ^ (16 - (lo + wd)) * 2 ^ wd * 2 ^ lo := by
    rw [← Nat.pow_add, ← Nat.pow_add]; congr 1; omega
  unfold getBits
  rw [e, hs, ← Nat.mul_assoc, ← Nat.mul_assoc, Nat.add_comm, Nat.add_mul_div_right _ _ (Nat.two_pow_pos lo),
    Nat.add_mul_mod_self_right]

end Sys2Proof.Machine
end

