-- ==== Sys2Proof/Laws/Exec.lean ====
section
/-!
SUPPORT. Commands and steps: every command is a program run to its end, what an idle step is, and how a property that the primitive
changes keep is carried over a step.
-/
namespace Sys2Proof.Machine
open Host

/-- Every command runs a program from the state whose links are quiet. -/
theorem exec_done (c : Instr) (s : State) : ∃ p : Prog, exec c s = .next (p.run s.linksQuiet) := by
  cases c <;> exact ⟨_, rfl⟩

theorem step_nil {s : State} (h : s.pending = []) : step s = .next (idle s) := by
  unfold step
  rw [h]

theorem step_cons {s : State} {c : Instr} {rest : List Instr} (h : s.pending = c :: rest) :
    step s = exec c { s with pending := rest } := by
  unfold step
  rw [h]

theorem idle_eq (s : State) : idle s = tick.run { s with now := s.now + 1 } := rfl

/-- A step that answers a next state ran a program from the state without its front command, or from one microsecond later. -/
theorem step_run {s t : State} (h : step s = .next t) :
    ∃ (p : Prog) (u : State), t = p.run u ∧ u.regs = s.regs ∧ u.shadow = s.shadow ∧ u.staged = s.staged ∧ u.mem = s.mem ∧
      u.marks = s.marks ∧ u.otp = s.otp ∧
      u.balls = s.balls ∧ u.pending = s.pending.tail := by
  cases hp : s.pending with
  | nil =>
    rw [step_nil hp] at h
    have e : t = idle s := (Outcome.next.inj h).symm
    exact ⟨tick, { s with now := s.now + 1 }, e, rfl, rfl, rfl, rfl, rfl, rfl, rfl, hp⟩
  | cons c rest =>
    rw [step_cons hp] at h
    obtain ⟨p, e⟩ := exec_done c { s with pending := rest }
    rw [e] at h
    exact ⟨p, _, (Outcome.next.inj h).symm, rfl, rfl, rfl, rfl, rfl, rfl, rfl, rfl⟩

/-! ### What no primitive change can do -/

/-- A primitive change keeps every table in its canonical form. -/
theorem Act.apply_tablesOk (a : Act) (s : State) (h : s.tablesOk = true) : (a.apply s).tablesOk = true := by
  simp only [State.tablesOk, Memory.wf, Bool.and_eq_true] at h ⊢
  obtain ⟨⟨⟨⟨⟨h1, h2⟩, h3⟩, h4⟩, h5⟩, h6⟩ := h
  have hb : ∀ b : Nat, canonical noMark (store noMark b 0 s.marks) = true := fun b => store_canonical noMark b 0 s.marks h5
  cases a <;> refine ⟨⟨⟨⟨⟨?_, ?_⟩, ?_⟩, ?_⟩, ?_⟩, ?_⟩ <;>
    first
      | assumption
      | exact hb _
      | exact store_canonical _ _ _ _ ‹_›
      | exact keep_canonical _ _ _ ‹_›

theorem covers_refl (w : Word) : covers w w = true := by simp [covers]

theorem covers_trans {u v w : Word} (h1 : covers u v = true) (h2 : covers v w = true) : covers u w = true := by
  simp only [covers, beq_iff_eq] at *
  rw [← h2, BitVec.and_assoc, h1]

/-- A primitive change takes back no OTP bit. -/
theorem Act.apply_otp (a : Act) (s : State) (r : Nat) : covers ((a.apply s).otpRow r) (s.otpRow r) = true := by
  cases a with
  | burn row w =>
    simp only [Act.apply, State.otpRow, look_store]
    split
    · rename_i e
      subst e
      simp only [covers, beq_iff_eq]
      ext i hi
      simp
      intro h
      exact Or.inl h
    · exact covers_refl _
  | _ => exact covers_refl _

end Sys2Proof.Machine
end

