-- ==== Sys2Proof/Laws/Fields.lean ====
section
/-!
SUPPORT. Fields: which fields a set, an event flag, an evaluation of the mode, a wake event and a refusal leave as they were; in
particular none of them changes the mode in force.
-/
namespace Sys2Proof.Machine

/-- The fields share no bit. -/
def Fld.apart (x y : Fld) : Bool :=
  decide (x.lo + x.wd ≤ 32) && (decide (x.reg ≠ y.reg) || decide (y.lo + y.wd ≤ x.lo) || decide (x.lo + x.wd ≤ y.lo))

theorem fixes_f_set {x y : Fld} (h : x.apart y = true) (v : Nat) : (set x v).Fixes (State.f · y) := by
  simp only [Fld.apart, Bool.and_eq_true, Bool.or_eq_true, decide_eq_true_eq] at h
  intro s
  rcases h.2 with (h2 | h2) | h2
  · exact f_set_reg h2 v s
  · exact f_set_disj h.1 (Or.inl h2) v s
  · exact f_set_disj h.1 (Or.inr h2) v s

theorem fixes_f_setB {x y : Fld} (h : x.apart y = true) (b : Bool) : (setB x b).Fixes (State.f · y) := fixes_f_set h _
theorem fixes_f_setI {x y : Fld} (h : x.apart y = true) (v : Int) : (setI x v).Fixes (State.f · y) := fixes_f_set h _
theorem fixes_f_setSat {x y : Fld} (h : x.apart y = true) (v : Nat) : (setSat x v).Fixes (State.f · y) := fixes_f_set h _
theorem fixes_f_upd {x y : Fld} (h : x.apart y = true) (f : Nat → Nat) : (upd x f).Fixes (State.f · y) := fixes_dyn fun _ => fixes_f_set h _
theorem fixes_f_incSat {x y : Fld} (h : x.apart y = true) : (incSat x).Fixes (State.f · y) := fixes_f_upd h _
theorem fixes_f_eng {y : Fld} (g : Engines → Engines) : (eng g).Fixes (State.f · y) := fun _ => rfl
theorem fixes_f_outc {y : Fld} (o : Outc) : (setOutc o).Fixes (State.f · y) := fun _ => rfl

/-- A field of a register left alone is left alone. -/
theorem Prog.Fixes.field {p : Prog} {y : Fld} (h : p.Fixes (State.reg · y.reg)) : p.Fixes (State.f · y) := fun s => h.f s

/-- A flag of a field left alone. -/
theorem Prog.Fixes.b {p : Prog} {y : Fld} (h : p.Fixes (State.f · y)) (s : State) : (p.run s).b y = s.b y := by
  unfold State.b
  rw [h.eq]

/-- Beside its own bit, a flag of the mode controller touches these. -/
def eventFields : List Fld := [ MODE_WAKE_SRC_EVENT, MODE_EVT_RAW_WAKE]

theorem fixes_f_eventQ {x y : Fld} (h : x.apart y = true) (he : eventFields.all (·.apart y) = true) : (eventQ x).Fixes (State.f · y) := by
  have hm : ∀ z ∈ eventFields, z.apart y = true := by simpa using he
  exact fixes_blk_cons (fixes_f_set h _) (fixes_blk_cons (fixes_whenS (fixes_blk_cons (fixes_f_set (hm _ (by decide)) _)
    (fixes_blk_cons (fixes_f_set (hm _ (by decide)) _) (fixes_blk_cons (fixes_whenS (fixes_f_eng _)) fixes_blk_nil)))) fixes_blk_nil)

/-- The fields that an evaluation of the mode can touch. -/
def modeFields : List Fld :=
  [ MODE_FLOOR_LOCAL, MODE_FLOOR_RACK, MODE_FLOOR_CONT_CLOSED, MODE_FLOOR_ARC_CLOSED, MODE_FLOOR_PEND_CHG, MODE_FLOOR_EFF,
    MODE_EVT_RAW_FLOOR_RAISED, MODE_STATUS_PINNED, MODE_EVT_RAW_UNMET, MODE_STATUS_UNMET, MODE_LIMIT_UNMET, MODE_LIMIT_BOUND,
    MODE_STATUS_FLOOR_HELD, MODE_STATUS_ASCENDING, MODE_STATUS_DESCENDING, MODE_STATUS_ENTERING, MODE_EVT_RAW_DESCENT_ABORT,
    CLK_STATUS_ROOT_RC, MEM_STATUS_FILLING] ++ eventFields

theorem fixes_f_modeEval {y : Fld} (h : modeFields.all (·.apart y) = true) (c : Nat) : (modeEval c).Fixes (State.f · y) := by
  have hm : ∀ z ∈ modeFields, z.apart y = true := by simpa using h
  have he : eventFields.all (·.apart y) = true := by
    rw [List.all_eq_true]
    exact fun z hz => hm z (List.mem_append_right _ hz)
  have hset : ∀ (x : Fld) (v : Nat), x ∈ modeFields → (set x v).Fixes (State.f · y) := fun x v hx => fixes_f_set (hm x hx) v
  have hsetB : ∀ (x : Fld) (v : Bool), x ∈ modeFields → (setB x v).Fixes (State.f · y) := fun x v hx => fixes_f_setB (hm x hx) v
  have hq : ∀ x : Fld, x ∈ modeFields → (eventQ x).Fixes (State.f · y) := fun x hx => fixes_f_eventQ (hm x hx) he
  have heng : ∀ f, (modeEng f).Fixes (State.f · y) := fun f => fixes_f_eng _
  have hst : ∀ m u k, (startTrans m u k).Fixes (State.f · y) := by
    intro m u k
    refine fixes_blk_cons (hset _ _ (by decide)) (fixes_blk_cons (hset _ _ (by decide)) (fixes_blk_cons (hset _ _ (by decide))
      (fixes_blk_cons (heng _) (fixes_blk_cons (fixes_whenB (fixes_whenS (fixes_dyn fun s => fixes_whenB ?_))) fixes_blk_nil))))
    exact fixes_blk_cons (hset CLK_STATUS_ROOT_RC _ (by decide)) (fixes_blk_cons (hset MEM_STATUS_FILLING _ (by decide))
      (fixes_blk_cons (fixes_f_eng _) fixes_blk_nil))
  refine fixes_dyn fun s0 => fixes_blk_cons (fixes_dyn fun s => ?_) (fixes_blk_cons (fixes_dyn fun s => ?_) (fixes_blk_cons
    (fixes_dyn fun s1 => fixes_seq (fixes_dyn fun s => ?_) (fixes_dyn fun s => ?_)) fixes_blk_nil))
  all_goals
    try dsimp only
    repeat' first
      | with_reducible apply hset
      | with_reducible apply hsetB
      | with_reducible apply hq
      | with_reducible apply heng
      | with_reducible apply hst
      | with_reducible apply fixes_skip
      | with_reducible apply fixes_blk_nil
      | with_reducible apply fixes_blk_cons
      | with_reducible apply fixes_whenB
      | with_reducible apply fixes_ite
      | decide

theorem fixes_f_wake {x y : Fld} (hx : x.apart y = true) (h : modeFields.all (·.apart y) = true) : (wake x).Fixes (State.f · y) := by
  have hm : ∀ z ∈ modeFields, z.apart y = true := by simpa using h
  have he : eventFields.all (·.apart y) = true := by
    rw [List.all_eq_true]
    exact fun z hz => hm z (List.mem_append_right _ hz)
  exact fixes_blk_cons (fixes_f_set hx _) (fixes_blk_cons (fixes_f_eventQ (hm _ (by decide)) he) (fixes_blk_cons
    (fixes_whenS (fixes_blk_cons (fixes_f_eng _) (fixes_blk_cons (fixes_f_modeEval h _) fixes_blk_nil))) fixes_blk_nil))

theorem fixes_f_event {x y : Fld} (hx : x.apart y = true) (h : modeFields.all (·.apart y) = true) : (event x).Fixes (State.f · y) := by
  have hm : ∀ z ∈ modeFields, z.apart y = true := by simpa using h
  exact fixes_blk_cons (fixes_f_set hx _) (fixes_blk_cons (fixes_whenS (fixes_f_wake (hm _ (by decide)) h)) fixes_blk_nil)

theorem fixes_f_sendMsg {y : Fld} (h1 : FLT_CNT_DROPS.apart y = true) (h2 : (FLT_EVT_RAW_EVENTS.bit 7).apart y = true)
    (h : modeFields.all (·.apart y) = true) (m : Msg) : (sendMsg m).Fixes (State.f · y) :=
  fixes_ifS (fixes_f_eng _) (fixes_blk_cons (fixes_f_incSat h1) (fixes_blk_cons (fixes_f_event h2 h) fixes_blk_nil))

theorem fixes_f_send {y : Fld} (h1 : FLT_CNT_DROPS.apart y = true) (h2 : (FLT_EVT_RAW_EVENTS.bit 7).apart y = true)
    (h : modeFields.all (·.apart y) = true) (pg i k d : Nat) : (send pg i k d).Fixes (State.f · y) := fixes_f_sendMsg h1 h2 h _

/-- A flag of the mode controller's wake sources stands after its wake event (R87). -/
theorem wake_flag (x : Fld) (hx : x.lo + x.wd ≤ 32) (hw : x.wd ≠ 0) (h : modeFields.all (·.apart x) = true) (s : State) :
    ((wake x).run s).b x = true := by
  have hm : ∀ z ∈ modeFields, z.apart x = true := by simpa using h
  have he : eventFields.all (·.apart x) = true := by
    rw [List.all_eq_true]
    exact fun z hz => hm z (List.mem_append_right _ hz)
  have hf : (blk [eventQ MODE_EVT_RAW_WAKE,
      whenS (fun s => s.mode ≤ 4) (blk [modeEng fun m => { m with wakeHold := true }, modeEval 3])]).Fixes (State.f · x) :=
    fixes_blk_cons (fixes_f_eventQ (hm _ (by decide)) he) (fixes_blk_cons
      (fixes_whenS (fixes_blk_cons (fixes_f_eng _) (fixes_blk_cons (fixes_f_modeEval h _) fixes_blk_nil))) fixes_blk_nil)
  have h1 : 1 % 2 ^ x.wd = 1 := Nat.mod_eq_of_lt (Nat.one_lt_two_pow hw)
  have hv : ((wake x).run s).f x = 1 := (hf.eq ((set x 1).run s)).trans (by rw [f_set_same x hx, h1])
  unfold State.b
  rw [hv]
  rfl

/-- The target is held at ATTEND or above after a wake event (R87). -/
def State.held (s : State) : Prop := s.eng.mode.wakeHold = true

theorem held_set (x : Fld) (v : Nat) : (set x v).Holds State.held := fun _ h => h
theorem held_setB (x : Fld) (v : Bool) : (setB x v).Holds State.held := fun _ h => h

/-- A flag of the mode controller keeps the hold of a wake event. -/
theorem held_eventQ (x : Fld) : (eventQ x).Holds State.held :=
  holds_blk_cons (held_set _ _) (holds_blk_cons (holds_whenS (holds_blk_cons (held_set _ _) (holds_blk_cons (held_set _ _)
    (holds_blk_cons (holds_whenS fun _ _ => rfl) holds_blk_nil)))) holds_blk_nil)

/-- An evaluation of the mode keeps the hold of a wake event. -/
theorem held_modeEval (c : Nat) : (modeEval c).Holds State.held := by
  have heng : ∀ f : ModeEng → ModeEng, (∀ m, (f m).wakeHold = m.wakeHold) → (modeEng f).Holds State.held := fun f hf s h =>
    (hf s.eng.mode).trans h
  have hst : ∀ m u k, (startTrans m u k).Holds State.held := fun m u k =>
    holds_blk_cons (held_setB _ _) (holds_blk_cons (held_setB _ _) (holds_blk_cons (held_set _ _) (holds_blk_cons (heng _ fun _ => rfl)
      (holds_blk_cons (holds_whenB (holds_whenS (holds_dyn fun _ => holds_whenB (holds_blk_cons (held_set _ _) (holds_blk_cons
        (held_set _ _) (holds_blk_cons (fun _ h => h) holds_blk_nil)))))) holds_blk_nil))))
  refine holds_dyn fun s0 => holds_blk_cons (holds_dyn fun s => ?_) (holds_blk_cons (holds_dyn fun s => ?_) (holds_blk_cons
    (holds_dyn fun s1 => holds_seq (holds_dyn fun s => ?_) (holds_dyn fun s => ?_)) holds_blk_nil))
  all_goals
    try dsimp only
    repeat' first
      | with_reducible apply held_set
      | with_reducible apply held_setB
      | with_reducible apply held_eventQ
      | with_reducible apply hst
      | with_reducible apply heng
      | with_reducible apply holds_skip
      | with_reducible apply holds_blk_nil
      | with_reducible apply holds_blk_cons
      | with_reducible apply holds_whenB
      | with_reducible apply holds_ite
      | exact fun _ => rfl

/-- A wake event in modes 0 to 4 holds the target (R87). -/
theorem wake_hold {x : Fld} (hx : x.apart MODE_CUR_MODE = true) (s : State) (h : s.mode ≤ 4) : ((wake x).run s).held := by
  have hm : ((eventQ MODE_EVT_RAW_WAKE).run ((set x 1).run s)).mode = s.mode := by
    have h1 := (fixes_f_eventQ (x := MODE_EVT_RAW_WAKE) (y := MODE_CUR_MODE) (by decide) (by decide)).eq ((set x 1).run s)
    exact h1.trans ((fixes_f_set hx 1).eq s)
  have e : (wake x).run s = (whenS (fun s => s.mode ≤ 4) (blk [modeEng fun m => { m with wakeHold := true }, modeEval 3])).run
      ((eventQ MODE_EVT_RAW_WAKE).run ((set x 1).run s)) := rfl
  have hc : decide (((eventQ MODE_EVT_RAW_WAKE).run ((set x 1).run s)).mode ≤ 4) = true := by
    rw [hm]
    exact decide_eq_true h
  rw [e, run_whenS_pos hc]
  exact (held_modeEval 3).of (rfl : State.held ((modeEng fun m => { m with wakeHold := true }).run _))

/-- No evaluation, wake event, flag or message changes the mode in force. -/
theorem modeEval_mode (c : Nat) (s : State) : ((modeEval c).run s).mode = s.mode := (fixes_f_modeEval (by decide) c).eq s
theorem wake_mode {x : Fld} (h : x.apart MODE_CUR_MODE = true) (s : State) : ((wake x).run s).mode = s.mode :=
  (fixes_f_wake h (by decide)).eq s
theorem event_mode {x : Fld} (h : x.apart MODE_CUR_MODE = true) (s : State) : ((event x).run s).mode = s.mode :=
  (fixes_f_event h (by decide)).eq s
theorem send_mode (pg i k d : Nat) (s : State) : ((send pg i k d).run s).mode = s.mode :=
  (fixes_f_send (by decide) (by decide) (by decide) pg i k d).eq s

end Sys2Proof.Machine
end

