-- ==== Sys2Proof/Tests/Slice0.lean ====
section
/-!
SUPPORT. Our own tests: worked examples of the spec, ill-formed commands, and, for every statement, states and operands that meet the
conditions of each of its clauses.
-/
namespace Sys2Proof.Machine

-- Each test waits for the kernel: one after another they need one thread's stack.
set_option Elab.async false

/-- A state after reset but for the registers given (addresses rising). -/
def onRegs (l : List (Nat × Word)) : State := { State.reset with regs := (l.foldl (fun m p => store regReset p.1 p.2 m) []) }
def fOf (x : Fld) (v : Nat) : Word := putBits (regReset x.reg) x.lo x.wd v
def pkt0 : Pkt := ⟨0, 0, 0, 0, [0], 0⟩
def frame0 : Frame := ⟨0, 1, 0, List.replicate 32 0⟩
def orF (l : List (Fld × Nat)) : Word := l.foldl (fun w p => putBits w p.1.lo p.1.wd p.2) (match l with | [] => 0 | p :: _ => regReset p.1.reg)
/-- Released, ATTEND, role `r`, mode `m`, and the fields given. -/
def unit (r m : Nat) (l : List (Fld × Nat)) : State := { State.reset with
  regs := ((IDENT_ROLE_ROLE, r) :: (MODE_CUR_MODE, m) :: (RST_BOOT_STEP, 8) :: l).foldl
    (fun g p => store regReset p.1.reg (putBits (look regReset g p.1.reg) p.1.lo p.1.wd p.2) g) [] }
def mgr (m : Nat) (l : List (Fld × Nat)) : State := unit 2 m l
def wrk (m : Nat) (l : List (Fld × Nat)) : State := unit 1 m l
/-- Port A is UP. -/
def weldUp (s : State) : State := { s with eng := { s.eng with boot := { s.eng.boot with cores := [true, true, true] } } }
def upA (s : State) : State := (set (RING_P_STATUS_STATE 0) 4).run s

/-- The state that a command answers. -/
def ran (i : Instr) (s : State) : State := match exec i s with | .next t => t | _ => State.reset

/-! ### Ill-formed commands are seen to be -/

/-- `n` codes of zero. -/
def ints (n : Nat) : List Int := List.replicate n 0


theorem test_wf_frame : (Instr.framePublish (ints 32) 0).wf = true ∧ (Instr.framePublish (ints 31) 0).wf = false ∧
    (Instr.framePublish (40000 :: ints 31) 0).wf = false := by decide
theorem test_wf_burst : (Instr.burstDone [1, -1]).wf = true ∧ (Instr.burstDone [32768]).wf = false := by decide
theorem test_wf_direct : (Instr.directResultReady false (-32768) false).wf = true ∧ (Instr.directResultReady false 32768 false).wf = false := by decide
theorem test_wf_path_test : (Instr.pathTestChannel 0 0).wf = true ∧ (Instr.pathTestChannel 0 40000).wf = false := by decide
theorem test_wf_stream : (Instr.streamFrameRx 0 1 0 0 (List.replicate 32 0) 0).wf = true ∧
    (Instr.streamFrameRx 0 1 0 0 (List.replicate 33 0) 0).wf = false ∧ (Instr.streamFrameRx 0 1 0 0 (65536 :: List.replicate 31 0) 0).wf = false := by
  decide
theorem test_wf_forward : (Instr.streamFrameForward 0 1 0 0 (List.replicate 32 0) 0).wf = true ∧
    (Instr.streamFrameForward 0 1 0 0 [] 0).wf = false := by decide
theorem test_wf_readings : (Instr.thmShutdown [ints 6]).wf = true ∧ (Instr.thmShutdown [ints 6, ints 5]).wf = false := by decide
theorem test_wf_words : (Instr.xspiRead 0 65535 []).wf = true ∧ (Instr.xspiRead 0 65536 []).wf = false := by decide
theorem test_wf_packet : (Instr.ackRx 0 pkt0).wf = true ∧ (Instr.ackRx 0 { pkt0 with data := [] }).wf = false ∧
    (Instr.ackRx 0 { pkt0 with dst := 64 }).wf = false ∧ (Instr.ackRx 0 { pkt0 with seq := 2 ^ 30 }).wf = false := by decide
theorem test_wf_trip : (Instr.tripRequest 6 200000 []).wf = true ∧ (Instr.tripRequest 6 1000000 []).wf = false := by decide

/-! ### Worked examples of the spec, one step each -/

/-- 01_architecture.md, example after R31: 0x011D_6020 is EPOCH_LO of the CELL page of worker 7. -/
theorem test_mirror_address : (mgr 4 [(RING_ENUM_M, 16)]).windowOf 0x011D6020 = some (.mirror 7) ∧ 0x011D6020 - 0x1000000 - 7 * 0x40000 = hdrEpochLo pgCELL := by
  decide

/-- 04_operating_modes.md, example after R87: eight tolerances, DORMANT fails HOST, PROT, BAL and RING, and BOUND reads 0x47. -/
theorem test_mode_bound : (ran (.modeLtolWrite .core 7 25000) (onRegs [(IDENT_ROLE, 1), (MODE_ATT_PER, 1000), (MODE_DORM_PER, 10), (MODE_LTOL 0, 2000),
      (MODE_LTOL 1, 150000), (MODE_LTOL 2, 5000), (MODE_LTOL 3, 20000), (MODE_LTOL 4, 0xFFFFFFFF), (MODE_LTOL 5, 0xFFFFFFFF), (MODE_LTOL 6, 2000),
      (RST_BOOT, 8)])).f MODE_LIMIT_BOUND = 0x47 := by decide +kernel

/-- 05_reset_and_bring_up.md, example after R113: RESET_N accepted during bring-up leaves RST_CAUSE at 0x5000_008C. -/
theorem test_reset_cause : (ran .resetNAccept { onRegs [(RST_CAUSE, 0x4000000C), (RST_BOOT, 6)] with eng := { boot := { pinLow := true } } }).reg RST_CAUSE = 0x5000008C := by
  decide +kernel

/-- 17_epochs_and_coherence.md, R364: the high half of epoch 5,000,000,000 is captured by the read of the low half. -/
theorem test_epoch_pair : (ran (.epochNowLoRead .core) { mgr 4 [] with eng := { epoch := { count := 5000000000 } } }).resp = [0x2A05F200] ∧
    (ran (.epochNowLoRead .core) { mgr 4 [] with eng := { epoch := { count := 5000000000 } } }).f EPOCH_NOW_HI_EPOCH = 1 := by decide +kernel

/-- 18_rack_services.md, example after R414: 0.350 V and −0.130 V give ISO_R 0x75B and ISO_IDC 110. -/
theorem test_iso : (ran (.isoHalfEnd (-130000) (-130000) false) { mgr 4 [(ISO_STATUS_STATE, 2), (ISO_NET_INJ_V, 500), (ISO_NET_R_SER, 200)] with
      eng := { rack := { isoPos := some (350000, true, false) } }, now := 50000000 }).reg ISO_R = 0x75B := by decide +kernel

/-- 19_host_port.md, example after R433: READ_STATUS answers 0x0003_0010. -/
theorem test_read_status : statusWord 0 3 16 = 0x00030010 := by decide

/-- 19_host_port.md, example after R449: GPIO_OUT_SET = 8 drives ball 3 high. -/
theorem test_gpio_set : (ran (.gpioOutSet .core 8) (onRegs [(GPIO_CFG 3, 3), (GPIO_CFG 9, 2), (RST_BOOT, 8)])).f GPIO_OUT_VALUE = 8 := by decide +kernel

/-- 20_interrupt_controller.md, example after R460: CLAIM[3] reads 0x8052_00CC and then 0x8030_00B7 one level deeper. -/
theorem test_icu_claim : (ran (.icuClaim .xspi 3) { mgr 4 [(ICU_LINE_HPRIO 204, 0x52), (ICU_LINE_HMASK 204, 1), (ICU_STATUS_ELIG, 0x18)] with
      eng := { icu := { pend := [(204, 3)] } } }).resp = [0x805200CC] := by decide +kernel
theorem test_icu_nested : (ran (.icuClaim .xspi 3) { mgr 4 [(ICU_LINE_HPRIO 183, 0x30), (ICU_LINE_HMASK 183, 3), (ICU_STATUS_ELIG, 0x18)] with
      eng := { icu := { pend := [(183, 3)], claims := [[], [], [], [(204, 0x52)], []] } } }).resp = [0x803000B7] := by decide +kernel

/-- 21_fault_collection.md, example after R475: the message word of a link break, the first record, and OVERFLOW after the second. -/
theorem test_message_word : (Msg.word ⟨0x1D, 6, 1, 0, false⟩) = 0x1D181000 := by decide
theorem test_first_info : (ran .faultMessage { mgr 4 [] with eng := { flt := { held := [⟨0x1D, 6, 1, 0, false⟩] }, epoch := { count := 2000000000 } } }).reg FLT_FIRST_INFO =
    0x83000000 := by decide +kernel
theorem test_first_overflow : (ran .faultMessage { onRegs [(FLT_FIRST, 0x1D181000), (FLT_FIRST_INFO, 0x83000000), (IDENT_ROLE, 2), (RST_BOOT, 8), (MODE_CUR, 0x44)] with
      eng := { flt := { held := [⟨0x1D, 6, 1, 0, false⟩] } } }).reg FLT_FIRST_INFO = 0xC3000000 := by decide +kernel

/-- 22_watchdogs_and_keeper.md, example after R488: the window opens at 24,576; key B at 24,586 serves, at 6 it is EARLY. -/
def wd3 (now armed : Nat) : State := { mgr 4 [(WDG_CFG_EN 3, 1), (WDG_CFG_PERIOD 3, 32768), (WDG_CFG_OPEN 3, 2), (WDG_CFG_ACT 3, 0), (WDG_STATUS_ARMED.bit 3, 1)] with
  eng := { wdg := { sync := [⟨3, 0x3C5A, 0⟩], armed := [0, 0, 0, armed] } }, now := now }
theorem test_wdg_window : (wd3 0 0).wdgOpen 3 = 24576 := by decide +kernel
theorem test_wdg_service : (wd3 750306 0).wdgCnt 3 = 24586 ∧ (ran (.wdgKeyArrival 3) (wd3 750306 24582)).f (WDG_STAT_SERVICES 3) = 1 ∧
    (ran (.wdgKeyArrival 3) (wd3 750306 24582)).f (WDG_STAT_EVENTS 3) = 0 := by decide +kernel
theorem test_wdg_early : (ran (.wdgKeyArrival 3) (wd3 184 3)).reg (WDG_EVID 3) = 0x90000006 := by decide +kernel

/-- 22_watchdogs_and_keeper.md, example after R496: the first attempt failed by lockstep, and the second good. -/
theorem test_keep_fail : (ran (.lockstepMismatch 0 4) { mgr 6 [(KEEP_STATUS_STATE, 2), (KEEP_STATUS_IN_CONTROL, 1), (KEEP_STATUS_ATTEMPTS, 1)] with
      regs := (mgr 6 [(KEEP_STATUS_STATE, 2), (KEEP_STATUS_IN_CONTROL, 1), (KEEP_STATUS_ATTEMPTS, 1)]).regs |> store regReset (KEEP_ATT 0) 0x8A05F5E8
      eng := { boot := { cores := [true, true, true] }, epoch := { count := 5000250000 } } }).reg (KEEP_ATT 0) = 0xAA05F5E8 := by decide +kernel

/-- 23_thermal_and_calendar.md, example after R513: second 0x3000_0000 is 16:12:48 on Tuesday 2025-07-08. -/
theorem test_calendar : (ran .rtcSecond { mgr 4 [(RTC_SEC_SEC, 0x2FFFFFFF)] with now := 1000000 }).reg RTC_DATE = 0x7E974002 ∧
    (ran .rtcSecond { mgr 4 [(RTC_SEC_SEC, 0x2FFFFFFF)] with now := 1000000 }).reg RTC_TIME = 0x00100C30 := by decide +kernel

/-- 24_memory_integrity_and_records.md, R532: CLR_EVT from OPEN is DENIED. -/
theorem test_rec_denied : (ran (.recClrEvt .xspi 0x4EC0) (mgr 4 [])).outcome = .denied := by decide +kernel

/-- 25_otp.md, example after R545: row 0x181 verifies on its first retry, and OTP_RESULT reads 0x1001_0000. -/
def otpBurning : State := { mgr 5 [(OTP_STATUS_BUSY, 1)] with
  eng := { otp := { job := some { op := 2, rows := [(0x181, 0x00321010)], retries := 1, row := 0x181 } } } }
theorem test_otp_result : (ran (.otpBurnAttemptDone 0) otpBurning).reg OTP_RESULT = 0x10010000 := by decide +kernel
theorem test_otp_row : (ran (.otpBurnAttemptDone 0) otpBurning).otpRow 0x181 = 0x00321010 := by decide +kernel

/-- 19_host_port.md, R439, and 26_security_and_access.md, R559: I²C is judged at OPEN, a ring access at the level it carries. -/
theorem test_ring_level : (mgr 4 []).levelOf (.ring 2) = some 2 ∧ (mgr 4 []).levelOf .i2c = some 0 := by decide +kernel

/-- FIPS 180-4's own example, to which R562 refers: SHA-256 of "abc". -/
theorem test_sha256 : (Sha.sha256 [0x61, 0x62, 0x63]).take 4 = [0xBA, 0x78, 0x16, 0xBF] := by decide +kernel

/-- 03_register_conventions.md, R63: a command with a wrong key completes KEY_ERR. -/
theorem test_wrong_key : (ran (.rootRetry .core 0x1234) (mgr 4 [])).outcome = .keyErr := by decide +kernel

/-- 03_register_conventions.md, example of page IDENT: at a manager TYPE of page 0x16 reads 0 and TYPE of page 0x10 reads 0x110. -/
theorem test_absent_page : (ran (.xspiRead 0x16000 1 []) (mgr 4 [(SEC_POLICY_WRITE_MIN, 0)])).resp = [0] ∧
    (ran (.xspiRead 0x10000 1 []) (mgr 4 [])).resp = [0x110] := by decide +kernel

/-- 16_stemline_ring.md, example after R360: NA 6, NB 14 and DB 1 make RING_ARMS 0x060E_0400. -/
theorem test_arms_word : orF [(RING_ARMS_NA, 6), (RING_ARMS_NB, 14), (RING_ARMS_DA, 0), (RING_ARMS_DB, 1)] = 0x060E0400 := by decide

/-- 12_conversion_and_scheduling.md, example after R258: flags 0x201 and 10 frames make CELL_NFR 0x2010_000A. -/
theorem test_nfr_word : orF [(CELL_NFR_FLAGS, 0x201), (CELL_NFR_NFR, 10)] = 0x2010000A := by decide

/-- 24_memory_integrity_and_records.md, R522: a byte that a core writes into a poisoned word merges and leaves the word poisoned; a whole word
clears the mark. -/
def poisoned : State := ((setWord 0x20000000 0x11223344).run (mgr 4 [])) |> (setMark 0x20000000 2).run
theorem test_core_store : ((coreStore 0xC0000 0xFF 0x55).run poisoned).word 0x20000000 = 0x11223355 ∧
    ((coreStore 0xC0000 0xFF 0x55).run poisoned).mark 0x20000000 = 3 ∧ ((coreStore 0xC0000 0xFFFFFFFF 0x55).run poisoned).mark 0x20000000 = 0 := by
  decide +kernel

/-- An idle step lets a microsecond pass, and the queue runs first in, first out. -/
theorem test_fifo : (match step { mgr 4 [] with pending := [.gpioOutSet .core 8, .gpioOutClr .core 8] } with | .next t => t.pending | _ => []) =
    [.gpioOutClr .core 8] := by decide +kernel

/-- A worker whose checkpoint slot A holds a valid checkpoint of zeros (R329, R330). -/
def ckpted : State := { wrk 3 [] with mem := [(805367808, 215), (805367809, 165), (805367810, 30), (805367811, 60), (805368512, 101), (805368513, 120),
  (805368514, 174), (805368515, 74)] }
theorem crc_zeros0 : (List.replicate 25 0).foldl crcWord 4294967295 = 1719089461 := by decide +kernel
theorem crc_zeros1 : (List.replicate 25 0).foldl crcWord 1719089461 = 915298185 := by decide +kernel
theorem crc_zeros2 : (List.replicate 25 0).foldl crcWord 915298185 = 1254846509 := by decide +kernel
theorem crc_zeros3 : (List.replicate 25 0).foldl crcWord 1254846509 = 3118330611 := by decide +kernel
theorem crc_zeros4 : (List.replicate 25 0).foldl crcWord 3118330611 = 4252780165 := by decide +kernel
theorem crc_zeros5 : (List.replicate 25 0).foldl crcWord 4252780165 = 2282905052 := by decide +kernel
theorem crc_zeros6 : (List.replicate 25 0).foldl crcWord 2282905052 = 3042019226 := by decide +kernel
theorem crc_zeros : crc32 (List.replicate 175 0) = 1252948069 := by
  have h : List.replicate 175 0 = List.replicate 25 0 ++ (List.replicate 25 0 ++ (List.replicate 25 0 ++ (List.replicate 25 0 ++
    (List.replicate 25 0 ++ (List.replicate 25 0 ++ List.replicate 25 0))))) := by simp only [List.replicate_append_replicate]
  rw [crc32, h]
  rw [List.foldl_append, List.foldl_append, List.foldl_append, List.foldl_append, List.foldl_append, List.foldl_append, crc_zeros0, crc_zeros1,
    crc_zeros2, crc_zeros3, crc_zeros4, crc_zeros5, crc_zeros6]
theorem ckpted_state : ckpted.ckptState 0 = 1 := by
  have h : (List.range 175).map (fun i => ckpted.ckptWord 0 (i + 1)) = List.replicate 175 0 := by decide +kernel
  have hc : crc32 ((List.range 175).map fun i => ckpted.ckptWord 0 (i + 1)) = 1252948069 := by rw [h]; exact crc_zeros
  have h0 : ckpted.ckptWord 0 0 = 0x3C1EA5D7 ∧ ckpted.ckptWord 0 176 = 1252948069 ∧ ckpted.ckptWord 0 5 = (ckpted.reg IDENT_UID_LO).toNat ∧
      ckpted.ckptWord 0 6 = (ckpted.reg IDENT_UID_HI).toNat ∧ ckpted.ckptWord 0 3 / 16777216 = ckpted.f AFE_CFG_NCELL := by decide +kernel
  simp [State.ckptState, hc, h0]
theorem ckpted_other : (ckpted.ckptState 1 == 1) = false := by
  have h : ckpted.ckptWord 1 0 = 0 := by decide +kernel
  simp [State.ckptState, h]
theorem ckpted_suggest : ckpted.ckptSuggest = 0 + 1 := by simp [State.ckptSuggest, ckpted_state, ckpted_other]

/-! ### Every clause of every statement is met somewhere -/

/-- powerAndFixedMonitors: each clause's conditions hold of a state. -/
theorem witness_powerAndFixedMonitors :
    (∃ (s : State), bitOf s.eng.boot.hold 0 = false) ∧
    (∃ (s : State), bitOf s.eng.boot.hold 0 = true) ∧
    (∃ (k : Fin 6) (s : State), s.b (REG_INT_MON_ABOVE.bit k.val) = true ∧ bitOf s.eng.boot.hold 0 = false) :=
  ⟨⟨State.reset, by decide⟩,
   ⟨{ mgr 3 [] with eng := { (mgr 3 []).eng with boot := { hold := 1 } } }, by decide⟩,
   ⟨0, onRegs [(REG_INT_MON, 63)], by decide⟩⟩

/-- rootAndLinkClock: each clause's conditions hold of a state. -/
theorem witness_rootAndLinkClock :
    (∃ (s : State), s.rootXo = true) ∧
    (∃ (freq : Nat) (s : State), s.clocksOn = true ∧ monLimit s.eng.clk.lfXo (s.f CLK_ROOT_CFG_MON_TOL) + 4000000 ≥ freq ∧ freq + monLimit s.eng.clk.lfXo (s.f CLK_ROOT_CFG_MON_TOL) ≥ 4000000) ∧
    (∃ (s : State), s.clocksOn = true ∧ s.b CLK_STATUS_HOLDOVER = true) ∧
    (∃ (s : State), s.eng.clk.startWait = true) ∧
    (∃ (s : State), s.eng.clk.startWait = true ∧ s.mode ≠ 1) ∧
    (∃ (s : State), s.b RST_BOOT_HALTED = false ∧ s.eng.clk.lpllOn = true ∧ s.rootXo = true ∧ 3 ≤ s.mode) ∧
    (∃ (s : State), s.rootXo = true ∧ s.b CLK_STATUS_MPLL_LOCK = true) ∧
    (∃ (s : State), s.rootXo = true ∧ s.b CLK_STATUS_LPLL_LOCK = true) :=
  ⟨⟨mgr 3 [(CLK_STATUS_ROOT_RC, 0)], by decide⟩,
   ⟨4000000, mgr 3 [], by decide⟩,
   ⟨mgr 3 [(CLK_STATUS_HOLDOVER, 1)], by decide⟩,
   ⟨{ mgr 3 [] with eng := { (mgr 3 []).eng with clk := { startWait := true } } }, by decide⟩,
   ⟨{ mgr 3 [] with eng := { (mgr 3 []).eng with clk := { startWait := true } } }, by decide⟩,
   ⟨{ mgr 3 [(CLK_STATUS_ROOT_RC, 0)] with eng := { (mgr 3 [(CLK_STATUS_ROOT_RC, 0)]).eng with clk := { lpllOn := true } } }, by decide⟩,
   ⟨mgr 3 [(CLK_STATUS_ROOT_RC, 0), (CLK_STATUS_MPLL_LOCK, 1), (CLK_STATUS_LPLL_LOCK, 1)], by decide⟩,
   ⟨mgr 3 [(CLK_STATUS_ROOT_RC, 0), (CLK_STATUS_MPLL_LOCK, 1), (CLK_STATUS_LPLL_LOCK, 1)], by decide⟩⟩

/-- rootReturnAndLfClock: each clause's conditions hold of a state. -/
theorem witness_rootReturnAndLfClock :
    (∃ (src : Src) (key : BitVec 16) (s : State), s.takes src CLK_CMD (keyed key (2 ^ CLK_CMD_ROOT_RETRY.lo)) = true ∧ s.clocksOn = true ∧ s.b CLK_STATUS_ROOT_RC = true ∧ s.eng.clk.startWait = false) ∧
    (∃ (s : State), s.eng.clk.retry = true) ∧
    (∃ (s : State), s.eng.clk.retry = true ∧ s.clocksOn = true) ∧
    (∃ (s : State), s.eng.clk.lfTry = true ∧ s.b CLK_LF_CFG_SEL_RC = false) ∧
    (∃ (s : State), s.eng.clk.lfXo = true) ∧
    (∃ (src : Src) (w : Word) (s : State), s.takes src CLK_LF_CFG w = true) ∧
    (∃ (src : Src) (w : Word) (s : State), s.takes src CLK_STEER w = true) :=
  ⟨⟨.core, 0xC10C, mgr 3 [(CLK_STATUS_ROOT_RC, 1)], by decide⟩,
   ⟨{ mgr 3 [] with eng := { (mgr 3 []).eng with clk := { retry := true } } }, by decide⟩,
   ⟨{ mgr 3 [] with eng := { (mgr 3 []).eng with clk := { retry := true } } }, by decide⟩,
   ⟨State.reset, by decide⟩,
   ⟨{ mgr 3 [] with eng := { (mgr 3 []).eng with clk := { lfXo := true } } }, by decide⟩,
   ⟨.core, 0, mgr 3 [], by decide⟩,
   ⟨.core, 0, mgr 3 [], by decide⟩⟩

/-- resetsOfTheDevice: each clause's conditions hold of a state. -/
theorem witness_resetsOfTheDevice :
    (∃ (s : State), s.eng.boot.pinLow = true ∧ s.eng.boot.hold = 0 ∧ s.powered = true) ∧
    (∃ (s : State), s.eng.boot.pinLow = true ∧ s.eng.boot.hold = 2) ∧
    (∃ (s : State), s.eng.boot.hold = 1) ∧
    (∃ (src : Src) (key : BitVec 16) (s : State), s.takes src RST_CMD (keyed key (2 ^ RST_CMD_SYS.lo)) = true ∧ s.powered = true ∧ s.eng.boot.hold = 0) ∧
    (∃ (src : Src) (key : BitVec 16) (cores : Fin 8) (c : Fin 3) (s : State), s.takes src RST_CMD (keyed key (cores.val * 2 ^ RST_CMD_CORE.lo)) = true ∧ s.released = true ∧ (s.keep = 0 ∨ s.keep = 2) ∧ bitOf cores.val c.val = true ∧ s.coreRuns c.val = true) :=
  ⟨⟨{ mgr 3 [] with eng := { (mgr 3 []).eng with boot := { pinLow := true } } }, by decide⟩,
   ⟨{ mgr 3 [] with eng := { (mgr 3 []).eng with boot := { pinLow := true, hold := 2 } } }, by decide⟩,
   ⟨{ mgr 3 [] with eng := { (mgr 3 []).eng with boot := { hold := 1 } } }, by decide⟩,
   ⟨.core, 0x4E57, mgr 3 [], by decide⟩,
   ⟨.core, 0x4E57, 2, 1, { mgr 3 [] with eng := { (mgr 3 []).eng with boot := { cores := [true, true, true] } } }, by decide⟩⟩

/-- bringUpSteps: each clause's conditions hold of a state. -/
theorem witness_bringUpSteps :
    (∃ (s : State), s.f RST_BOOT_STEP = 1 ∧ s.eng.clk.vsys = true ∧ s.eng.pwr.fixedRow = 1) ∧
    (∃ (x : Nat × Nat) (n : Nat) (s : State), s.f RST_BOOT_STEP = 1 ∧ s.eng.pwr.fixedFailed = false ∧ 2 ≤ s.eng.pwr.fixedRow ∧ s.eng.pwr.fixedRow ≤ 4 ∧ x ∈ fixedRow s.eng.pwr.fixedRow ∧ n ∈ fixedSlots s.eng.pwr.fixedRow) ∧
    (∃ (s : State), s.f RST_BOOT_STEP = 1 ∧ s.eng.pwr.fixedRow = 5 ∧ s.railsUp = true ∧ s.f SUP_FAULTED_MAP = 0) ∧
    (∃ (r : Nat) (x : Nat × Nat) (s : State), s.f RST_BOOT_STEP = 1 ∧ s.eng.pwr.fixedFailed = false ∧ 2 ≤ s.eng.pwr.fixedRow ∧ s.eng.pwr.fixedRow ≤ 4 ∧ r ∈ [2, 3, 4] ∧ x ∈ fixedRow r) ∧
    (∃ (s : State), s.f RST_BOOT_STEP = 1 ∧ s.eng.pwr.fixedFailed = true ∧ s.eng.clk.vsys = true) ∧
    (∃ (s : State), s.f RST_BOOT_STEP = 2 ∧ s.eng.boot.fresh = false ∧ s.b IDENT_ROLE_MISMATCH = false) ∧
    (∃ (s : State), s.f RST_BOOT_STEP = 2 ∧ s.eng.boot.fresh = true ∧ s.eng.boot.fresh = true) ∧
    (∃ (us : Nat) (s : State), s.b MEM_STATUS_FILLING = true ∧ us < 2 ^ MEM_FILL_US.wd ∧ 3 ≤ s.mode) ∧
    (∃ (core : Fin 3) (s : State), s.eng.boot.verify.contains core.val = true ∧ s.released = true ∧ s.eng.boot.cores.length = 3) ∧
    (∃ (core : Fin 3) (s : State), s.eng.boot.verify = [core.val] ∧ s.f RST_BOOT_STEP = 6) ∧
    (∃ (s : State), s.f RST_BOOT_STEP = 7 ∧ s.isMgr = true ∧ s.keep = 0 ∧ s.eng.boot.testen = false) ∧
    (∃ (s : State), s.f RST_BOOT_STEP = 7 ∧ s.isMgr = true ∧ s.keep = 3) :=
  ⟨⟨State.reset, by decide⟩,
   ⟨(2, 2), 1, { State.reset with eng := { State.reset.eng with pwr := { fixedRow := 3 } } }, by decide⟩,
   ⟨{ onRegs [(REG_INT_MON, 63), (RST_BOOT, 1)] with eng := { State.reset.eng with pwr := { fixedRow := 5 } } }, by decide⟩,
   ⟨2, (0, 0), { State.reset with eng := { State.reset.eng with pwr := { fixedRow := 3 } } }, by decide⟩,
   ⟨{ State.reset with eng := { State.reset.eng with pwr := { fixedRow := 3, fixedFailed := true } } }, by decide⟩,
   ⟨{ onRegs [(IDENT_ROLE, 2), (RST_BOOT, 2)] with eng := { State.reset.eng with boot := {} } }, by decide⟩,
   ⟨onRegs [(RST_BOOT, 2)], by decide⟩,
   ⟨0, mgr 3 [(MEM_STATUS_FILLING, 1), (MODE_CUR_MODE, 3)], by decide⟩,
   ⟨0, { mgr 3 [] with eng := { (mgr 3 []).eng with boot := { verify := [0, 1, 2], cores := [false, false, false] } } }, by decide⟩,
   ⟨0, { onRegs [(IDENT_ROLE, 2), (RST_BOOT, 6)] with eng := { State.reset.eng with boot := { verify := [0] } } }, by decide⟩,
   ⟨onRegs [(IDENT_ROLE, 2), (RST_BOOT, 7)], by decide⟩,
   ⟨onRegs [(IDENT_ROLE, 2), (RST_BOOT, 7), (KEEP_STATUS, 3)], by decide⟩⟩

/-- regulatorsAndSupervisors: each clause's conditions hold of a state. -/
theorem witness_regulatorsAndSupervisors :
    (∃ (src : Src) (w : Word) (s : State), s.takes src (REG_BK_VSET 3) w = true) ∧
    (∃ (src : Src) (n : Fin 3) (w : Word) (s : State), s.takes src (REG_LD_VSET (3 + n.val)) w = true) ∧
    (∃ (k : Fin 10) (s : State), s.ramping k.val = true) ∧
    (∃ (n : Fin 4) (cycles : Nat) (s : State), s.f (regState n.val) % 2 = 1 ∧ 64 ≤ cycles) ∧
    (∃ (n : Fin 6) (us : Nat) (s : State), s.f (regState (4 + n.val)) % 2 = 1 ∧ 100 ≤ us) ∧
    (∃ (src : Src) (n : Fin 16) (w : Word) (s : State), s.takes src (SV_CFG n.val) w = true ∧ (SV_CFG_EN n.val).of w = 0) ∧
    (∃ (src : Src) (n : Fin 16) (w : Word) (s : State), s.takes src (SV_CFG n.val) w = true ∧ (SV_CFG_EN n.val).of w = 1 ∧ 0 < (SV_CFG_SRC n.val).of w ∧ (SV_CFG_SRC n.val).of w ≤ 0x14 ∧ s.f (SV_STAT_STATE n.val) = 0) ∧
    (∃ (n : Fin 16) (uv : Nat) (clks : Nat) (s : State), s.svActive n.val = true ∧ s.f (SV_STAT_STATE n.val) = 2 ∧ (s.svUv n.val (s.svSource n.val uv) = true ∨ s.svOv n.val (s.svSource n.val uv) = true) ∧ s.svFilt n.val ≤ clks) ∧
    (∃ (n : Fin 16) (expiry : Bool) (s : State), s.svActive n.val = true ∧ s.f (SV_STAT_STATE n.val) = 3 ∧ expiry = false ∧ s.eng.pwr.svWait.contains n.val = false) ∧
    (∃ (n : Fin 16) (expiry : Bool) (s : State), s.svActive n.val = true ∧ s.f (SV_STAT_STATE n.val) = 3 ∧ s.b (SUP_TIMING_MAP.bit n.val) = true ∧ s.f (SV_CFG_SLOT n.val) ≠ 0x1F ∧ expiry = true) ∧
    (∃ (n : Fin 16) (s : State), s.svActive n.val = true ∧ s.f (SV_STAT_STATE n.val) = 3 ∧ s.b (SUP_TIMING_MAP.bit n.val) = true ∧ s.f (SV_CFG_SLOT n.val) = 0x1F ∧ s.eng.pwr.svWait.contains n.val = false) ∧
    (∃ (n : Fin 16) (s : State), s.svActive n.val = true ∧ s.f (SV_STAT_STATE n.val) = 3 ∧ s.b (SUP_TIMING_MAP.bit n.val) = true ∧ s.f (SV_CFG_SLOT n.val) = 0x1E ∧ s.f SEQ_STATUS_STATE = 2) ∧
    (∃ (n : Fin 16) (s : State), s.svActive n.val = true ∧ s.f (SV_STAT_STATE n.val) = 3 ∧ s.b (SUP_TIMING_MAP.bit n.val) = true ∧ 3 ≤ s.f (SV_CFG_SLOT n.val) ∧ s.f (SV_CFG_SLOT n.val) ≤ 18 ∧ s.faulted (s.f (SV_CFG_SLOT n.val)) = false) :=
  ⟨⟨.core, 0, mgr 3 [], by decide⟩,
   ⟨.core, 0, 0, mgr 3 [], by decide⟩,
   ⟨3, { mgr 3 [] with eng := { (mgr 3 []).eng with pwr := { ramps := [⟨3, 0, 0, false⟩] } } }, by decide⟩,
   ⟨3, 64, mgr 3 [(regState 3, 3)], by decide⟩,
   ⟨3, 100, mgr 3 [(regState 7, 3)], by decide⟩,
   ⟨.core, 0, 0, mgr 3 [], by decide⟩,
   ⟨.core, 0, orF [(SV_CFG_EN 0, 1), (SV_CFG_SRC 0, 1)], mgr 3 [], by decide⟩,
   ⟨4, 0, 200000, mgr 3 [(SV_STAT_STATE 4, 2), (SV_CFG_EN 4, 1), (SV_CFG_SRC 4, 1), (SV_CFG_UV_EN 4, 1), (SV_THR_UV 4, 100)], by decide⟩,
   ⟨4, false, mgr 3 [(SV_STAT_STATE 4, 3), (SV_CFG_EN 4, 1), (SV_CFG_SRC 4, 1), (SV_CFG_UV_EN 4, 1), (SV_THR_UV 4, 100)], by decide⟩,
   ⟨4, true, mgr 3 [(SV_STAT_STATE 4, 3), (SV_CFG_EN 4, 1), (SV_CFG_SRC 4, 1), (SV_CFG_UV_EN 4, 1), (SV_THR_UV 4, 100), (SV_CFG_SLOT 4, 11), (SUP_TIMING_MAP.bit 4, 1)], by decide⟩,
   ⟨4, mgr 3 [(SV_STAT_STATE 4, 3), (SV_CFG_EN 4, 1), (SV_CFG_SRC 4, 1), (SUP_TIMING_MAP.bit 4, 1), (SV_CFG_SLOT 4, 0x1F)], by decide⟩,
   ⟨4, mgr 3 [(SV_STAT_STATE 4, 3), (SV_CFG_EN 4, 1), (SV_CFG_SRC 4, 1), (SUP_TIMING_MAP.bit 4, 1), (SV_CFG_SLOT 4, 0x1E), (SEQ_STATUS_STATE, 2)], by decide⟩,
   ⟨4, mgr 3 [(SV_STAT_STATE 4, 3), (SV_CFG_EN 4, 1), (SV_CFG_SRC 4, 1), (SUP_TIMING_MAP.bit 4, 1), (SV_CFG_SLOT 4, 11)], by decide⟩⟩

/-- sequencerCommands: each clause's conditions hold of a state. -/
theorem witness_sequencerCommands :
    (∃ (src : Src) (key : BitVec 16) (p : Nat) (s : State), s.takes src SEQ_CTRL (keyed key 1) = true ∧ s.accepts 10 = true ∧ s.f SEQ_STATUS_STATE = 0 ∧ s.seqCheck = true ∧ s.heldBack = [] ∧ p ∈ s.progSlots ∧ s.toStart p = true ∧ 1 ≤ s.f (SEQ_SLOT_CFG_UP_STEP p)) ∧
    (∃ (src : Src) (key : BitVec 16) (s : State), s.takes src SEQ_CTRL (keyed key 1) = true ∧ s.accepts 10 = true ∧ s.f SEQ_STATUS_STATE = 0 ∧ s.seqCheck = false) ∧
    (∃ (src : Src) (key : BitVec 16) (s : State), s.takes src SEQ_CTRL (keyed key 1) = true ∧ s.accepts 10 = true ∧ s.f SEQ_STATUS_STATE = 5) ∧
    (∃ (src : Src) (key : BitVec 16) (p : Nat) (s : State), s.takes src SEQ_CTRL (keyed key 2) = true ∧ s.accepts 11 = true ∧ s.f SEQ_STATUS_STATE = 2 ∧ p ∈ s.progSlots ∧ s.slotOn p = true) ∧
    (∃ (src : Src) (key : BitVec 16) (s : State), s.takes src SEQ_CTRL (keyed key 2) = true ∧ s.accepts 11 = true ∧ s.f SEQ_STATUS_STATE = 4 ∧ s.progSlots.any s.slotOn = false) ∧
    (∃ (src : Src) (key : BitVec 16) (n : Fin 32) (s : State), s.takes src SEQ_CTRL (keyed key (3 + n.val * 2 ^ SEQ_CTRL_SLOT.lo)) = true ∧ s.accepts 10 = true ∧ s.cmdSlot n.val = true ∧ (s.f SEQ_STATUS_STATE = 1 ∨ s.f SEQ_STATUS_STATE = 3 ∨ s.f SEQ_STATUS_STATE = 4)) ∧
    (∃ (src : Src) (key : BitVec 16) (n : Fin 32) (s : State), s.takes src SEQ_CTRL (keyed key (3 + n.val * 2 ^ SEQ_CTRL_SLOT.lo)) = true ∧ s.accepts 10 = true ∧ s.cmdSlot n.val = true ∧ (s.f SEQ_STATUS_STATE = 0 ∨ s.f SEQ_STATUS_STATE = 2)) ∧
    (∃ (src : Src) (key : BitVec 16) (n : Fin 32) (s : State), s.takes src SEQ_CTRL (keyed key (4 + n.val * 2 ^ SEQ_CTRL_SLOT.lo)) = true ∧ s.accepts 11 = true ∧ s.cmdSlot n.val = true ∧ s.f SEQ_STATUS_STATE = 2 ∧ n.val ∉ s.eng.seq.dnSet) ∧
    (∃ (src : Src) (key : BitVec 16) (s : State), s.takes src SEQ_CTRL (keyed key 5) = true ∧ s.accepts 11 = true) :=
  ⟨⟨.core, 0x5E9C, 11, mgr 3 [(SEQ_SLOT_CFG_EN 11, 1), (SEQ_SLOT_CFG_MODES 11, 255), (SEQ_CFG_VSYS_SLOT, 31)], by decide⟩,
   ⟨.core, 0x5E9C, mgr 3 [(SEQ_SLOT_CFG_EN 11, 1), (SEQ_SLOT_DEP_DEP 11, 4096)], by decide⟩,
   ⟨.core, 0x5E9C, mgr 3 [(SEQ_STATUS_STATE, 5)], by decide⟩,
   ⟨.core, 0x5E9C, 11, mgr 3 [(SEQ_STATUS_STATE, 2), (SEQ_SLOT_STAT_STATE 11, 3), (SEQ_CFG_VSYS_SLOT, 31)], by decide⟩,
   ⟨.core, 0x5E9C, mgr 3 [(SEQ_STATUS_STATE, 4)], by decide⟩,
   ⟨.core, 0x5E9C, 11, mgr 3 [(SEQ_STATUS_STATE, 1), (SEQ_CFG_VSYS_SLOT, 31)], by decide⟩,
   ⟨.core, 0x5E9C, 11, mgr 3 [(SEQ_STATUS_STATE, 2), (SEQ_CFG_VSYS_SLOT, 31)], by decide⟩,
   ⟨.core, 0x5E9C, 11, mgr 3 [(SEQ_STATUS_STATE, 2), (SEQ_CFG_VSYS_SLOT, 31)], by decide⟩,
   ⟨.core, 0x5E9C, mgr 3 [(SEQ_STATUS_STATE, 5)], by decide⟩⟩

/-- sequencerEvents: each clause's conditions hold of a state. -/
theorem witness_sequencerEvents :
    (∃ (n : Fin 19) (s : State), s.slotState n.val = 1 ∧ s.depsUp n.val = true) ∧
    (∃ (n : Fin 19) (s : State), s.slotState n.val = 1 ∧ s.depsUp n.val = false ∧ s.f SEQ_STATUS_STATE ≠ 1) ∧
    (∃ (n : Fin 19) (s : State), s.slotState n.val = 2 ∧ s.slotPg n.val = true) ∧
    (∃ (n : Fin 19) (s : State), s.slotState n.val = 2 ∧ n.val ∉ s.eng.seq.dnSet ∧ n.val ∉ s.eng.seq.side) ∧
    (∃ (n : Fin 19) (s : State), s.slotOn n.val = true ∧ s.mayStop n.val = true ∧ (n.val ≤ 10 ∨ s.isDown n.val 0 = false)) ∧
    (∃ (n : Fin 19) (uv : Nat) (s : State), s.slotState n.val = 4 ∧ s.isDown n.val uv = true ∧ s.f SEQ_STATUS_STATE = 2) ∧
    (∃ (n : Fin 19) (s : State), s.slotState n.val = 4 ∧ s.f SEQ_STATUS_STATE = 2) ∧
    (∃ (n : Fin 19) (uv : Nat) (s : State), s.stuck n.val = true ∧ s.isDown n.val uv = true) ∧
    (∃ (s : State), s.f SEQ_STATUS_STATE = 4 ∧ s.eng.seq.retry = true ∧ s.seqCheck = true ∧ s.eng.seq.goLatched = false ∧ s.eng.seq.addNext = []) ∧
    (∃ (s : State), s.eng.seq.vsysRetry = true ∧ s.isWrk = true ∧ 7 ≤ s.vsysSlot ∧ s.vsysSlot ≤ 10 ∧ s.slotState s.vsysSlot = 0) :=
  ⟨⟨11, mgr 3 [(SEQ_SLOT_STAT_STATE 11, 1)], by decide⟩,
   ⟨11, mgr 3 [(SEQ_SLOT_STAT_STATE 11, 1), (SEQ_SLOT_DEP_DEP 11, 4096)], by decide⟩,
   ⟨11, mgr 3 [(SEQ_SLOT_STAT_STATE 11, 2)], by decide⟩,
   ⟨11, mgr 3 [(SEQ_SLOT_STAT_STATE 11, 2)], by decide⟩,
   ⟨8, { mgr 3 [(SEQ_SLOT_STAT_STATE 8, 3)] with eng := { (mgr 3 [(SEQ_SLOT_STAT_STATE 8, 3)]).eng with seq := { side := [8] } } }, by decide⟩,
   ⟨11, 0, mgr 3 [(SEQ_SLOT_STAT_STATE 11, 4), (SEQ_STATUS_STATE, 2)], by decide⟩,
   ⟨11, mgr 3 [(SEQ_SLOT_STAT_STATE 11, 4), (SEQ_STATUS_STATE, 2)], by decide⟩,
   ⟨11, 0, mgr 3 [(SEQ_SLOT_STAT_STATE 11, 5), (SEQ_MAP_STUCK_MAP.bit 11, 1)], by decide⟩,
   ⟨{ mgr 3 [(SEQ_STATUS_STATE, 4)] with eng := { (mgr 3 [(SEQ_STATUS_STATE, 4)]).eng with seq := { retry := true } } }, by decide⟩,
   ⟨{ wrk 3 [(SEQ_CFG_VSYS_SLOT, 7)] with eng := { (wrk 3 [(SEQ_CFG_VSYS_SLOT, 7)]).eng with seq := { vsysRetry := true } } }, by decide⟩⟩

/-- phaseControllerCommands: each clause's conditions hold of a state. -/
theorem witness_phaseControllerCommands :
    (∃ (src : Src) (r : Fin 4) (w : Word) (s : State), s.takes src (PHC_RAIL_VSET r.val) w = true) ∧
    (∃ (r : Fin 4) (s : State), s.ramping (10 + r.val) = true ∧ s.railOn r.val = true ∧ s.eng.pwr.rails.length = 4) ∧
    (∃ (r : Fin 4) (fb : Nat) (k : Nat) (s : State), (s.rail r.val).done = true ∧ s.railOn r.val = true ∧ s.active r.val ≠ [] ∧ s.f (PHC_RAIL_PG_FILT r.val) ≤ (s.rail r.val).good + k ∧ ((s.rail r.val).volt (fb % 4096)) < 2 ^ (PHC_RAIL_VMEAS_V r.val).wd ∧ (if ((s.rail r.val).volt (fb % 4096)) ≤ s.f (PHC_RAIL_VSET_VSET r.val) then s.f (PHC_RAIL_VSET_VSET r.val) - ((s.rail r.val).volt (fb % 4096)) else ((s.rail r.val).volt (fb % 4096)) - s.f (PHC_RAIL_VSET_VSET r.val)) * 100 ≤ s.f (PHC_RAIL_VSET_VSET r.val) * s.f (PHC_RAIL_PG_WIN r.val)) ∧
    (∃ (r : Fin 4) (fb : Nat) (s : State), ((s.rail r.val).volt (fb % 4096)) < 2 ^ (PHC_RAIL_VMEAS_V r.val).wd ∧ s.f (PHC_RAIL_VSET_VSET r.val) * s.f (PHC_RAIL_PG_WIN r.val) < (if ((s.rail r.val).volt (fb % 4096)) ≤ s.f (PHC_RAIL_VSET_VSET r.val) then s.f (PHC_RAIL_VSET_VSET r.val) - ((s.rail r.val).volt (fb % 4096)) else ((s.rail r.val).volt (fb % 4096)) - s.f (PHC_RAIL_VSET_VSET r.val)) * 100 ∧ s.b (PHC_RAIL_STATUS_PG r.val) = true) ∧
    (∃ (n : Fin 8) (uv : Nat) (tm : Nat) (s : State), s.pulseOn n.val tm = true ∧ 500 * (s.ph n.val).cl < uv ∧ (s.rail (s.f (PHC_PH_STATUS_RAIL n.val))).blank ≤ tm ∧ (s.ph n.val).limited = false) ∧
    (∃ (n : Fin 8) (uv : Nat) (tm : Nat) (s : State), s.pulseOn n.val tm = true ∧ 500 * (s.ph n.val).cl < uv ∧ (s.rail (s.f (PHC_PH_STATUS_RAIL n.val))).blank ≤ tm ∧ (s.ph n.val).limited = true) ∧
    (∃ (n : Fin 8) (k : Nat) (s : State), s.phState n.val = 2 ∧ 64 ≤ k) ∧
    (∃ (r : Fin 4) (fb : Nat) (s : State), s.f (PHC_RAIL_STATUS_STATE r.val) = 2 ∧ s.active r.val ≠ [] ∧ s.ustF r.val (PHC_RAIL_UST_UST_EN 0) = 1 ∧ s.ustHold r.val ≤ (s.rail r.val).since ∧ s.under r.val fb = true) ∧
    (∃ (r : Fin 4) (fb : Nat) (tm : Nat) (trips : BitVec 8) (n : Nat) (s : State), s.f (PHC_RAIL_STATUS_STATE r.val) = 3 ∧ (s.recovered r.val fb = true ∨ s.ustF r.val (PHC_RAIL_UST_MAXON 0) ≤ tm ∨ (s.active r.val).all (bitOf trips.toNat) = true) ∧ s.eng.pwr.rails.length = 4 ∧ n ∈ s.active r.val) ∧
    (∃ (r : Fin 4) (fb : Nat) (s : State), s.f (PHC_RAIL_STATUS_STATE r.val) = 2 ∧ s.active r.val ≠ [] ∧ s.ustF r.val (PHC_RAIL_UST_OST_EN 0) = 1 ∧ s.above r.val fb = true) ∧
    (∃ (r : Fin 4) (fb : Nat) (n : Nat) (s : State), s.f (PHC_RAIL_STATUS_STATE r.val) = 4 ∧ s.fallenBack r.val fb = true ∧ s.eng.pwr.rails.length = 4 ∧ n ∈ s.active r.val) ∧
    (∃ (s : State), s.eng.pwr.rails.length = 4) ∧
    (∃ (s : State), s.ustArmed 0 = false) ∧
    (∃ (s : State), s.ustArmed 0 = true) ∧
    (∃ (r : Fin 4) (s : State), s.f (PHC_RAIL_STATUS_STATE r.val) ≠ 2) ∧
    (∃ (r : Fin 4) (cs : List (Nat × Nat × Nat)) (k : Nat) (n : Nat) (s : State), s.f (PHC_RAIL_STATUS_STATE r.val) = 2 ∧ (s.rail r.val).susp < k ∧ s.worstPhase r.val cs ((s.active r.val).filter fun m => 64 ≤ (s.health r.val cs (k - (s.rail r.val).susp) m).2) = some n) ∧
    (∃ (r : Fin 4) (cs : List (Nat × Nat × Nat)) (k : Nat) (n : Nat) (s : State), s.f (PHC_RAIL_STATUS_STATE r.val) = 2 ∧ (s.rail r.val).susp < k ∧ s.worstPhase r.val cs ((s.active r.val).filter fun m => 64 ≤ (s.health r.val cs (k - (s.rail r.val).susp) m).2) = none ∧ s.worstPhase r.val cs ((s.active r.val).filter fun m => 64 ≤ (s.health r.val cs (k - (s.rail r.val).susp) m).1) = some n) ∧
    (∃ (src : Src) (key : BitVec 16) (n : Fin 8) (s : State), s.takes src PHC_CMD (keyed key (1 + n.val * 2 ^ PHC_CMD_PHASE.lo)) = true ∧ s.accepts 10 = true ∧ (s.phState n.val = 3 ∨ s.phState n.val = 4) ∧ (∀ r : Fin 4, s.railOn r.val = false ∨ bitOf (s.rail r.val).phases n.val = false)) ∧
    (∃ (src : Src) (key : BitVec 16) (n : Fin 8) (r : Fin 4) (s : State), s.takes src PHC_CMD (keyed key (1 + n.val * 2 ^ PHC_CMD_PHASE.lo)) = true ∧ s.accepts 10 = true ∧ (s.phState n.val = 3 ∨ s.phState n.val = 4) ∧ s.railOn r.val = true ∧ bitOf (s.rail r.val).phases n.val = true ∧ (∀ q : Fin 4, q ≠ r → bitOf (s.rail q.val).phases n.val = false)) :=
  ⟨⟨.core, 0, 0, mgr 3 [], by decide⟩,
   ⟨0, { mgr 3 [(PHC_RAIL_STATUS_STATE 0, 1)] with eng := { (mgr 3 [(PHC_RAIL_STATUS_STATE 0, 1)]).eng with pwr := { ramps := [⟨10, 0, 0, false⟩] } } }, by decide⟩,
   ⟨0, 200, 100000, { mgr 3 [(PHC_RAIL_STATUS_STATE 0, 2), (PHC_RAIL_VSET_VSET 0, 200), (PHC_RAIL_PG_WIN 0, 10), (PHC_PH_STATUS_STATE 1, 2), (PHC_PH_STATUS_RAIL 1, 0)] with eng := { (mgr 3 [(PHC_RAIL_STATUS_STATE 0, 2), (PHC_RAIL_VSET_VSET 0, 200), (PHC_RAIL_PG_WIN 0, 10), (PHC_PH_STATUS_STATE 1, 2), (PHC_PH_STATUS_RAIL 1, 0)]).eng with pwr := { rails := [{ ratio := 3840, done := true }, {}, {}, {}] } } }, by decide⟩,
   ⟨0, 0, { mgr 3 [(PHC_RAIL_STATUS_PG 0, 1), (PHC_RAIL_VSET_VSET 0, 200), (PHC_RAIL_PG_WIN 0, 1)] with eng := { (mgr 3 [(PHC_RAIL_STATUS_PG 0, 1), (PHC_RAIL_VSET_VSET 0, 200), (PHC_RAIL_PG_WIN 0, 1)]).eng with pwr := { rails := [{ ratio := 3840 }, {}, {}, {}] } } }, by decide⟩,
   ⟨1, 1000000, 1000, { mgr 3 [(PHC_PH_STATUS_STATE 1, 2), (PHC_RAIL_STATUS_STATE 0, 2), (PHC_PH_STATUS_RAIL 1, 0)] with eng := { (mgr 3 [(PHC_PH_STATUS_STATE 1, 2), (PHC_RAIL_STATUS_STATE 0, 2), (PHC_PH_STATUS_RAIL 1, 0)]).eng with pwr := { phs := [{}, { width := 5000 }, {}, {}, {}, {}, {}, {}] } } }, by decide⟩,
   ⟨1, 1000000, 1000, { mgr 3 [(PHC_PH_STATUS_STATE 1, 2), (PHC_RAIL_STATUS_STATE 0, 2), (PHC_PH_STATUS_RAIL 1, 0)] with eng := { (mgr 3 [(PHC_PH_STATUS_STATE 1, 2), (PHC_RAIL_STATUS_STATE 0, 2), (PHC_PH_STATUS_RAIL 1, 0)]).eng with pwr := { phs := [{}, { width := 5000, limited := true }, {}, {}, {}, {}, {}, {}] } } }, by decide⟩,
   ⟨1, 64, mgr 3 [(PHC_PH_STATUS_STATE 1, 2), (PHC_RAIL_STATUS_STATE 0, 2), (PHC_PH_STATUS_RAIL 1, 0)], by decide⟩,
   ⟨0, 0, { mgr 3 [(PHC_RAIL_STATUS_STATE 0, 2), (PHC_RAIL_UST_UST_EN 0, 1), (PHC_RAIL_UST_OST_EN 0, 1), (PHC_RAIL_VNOW_V 0, 200), (PHC_PH_STATUS_STATE 1, 2), (PHC_PH_STATUS_RAIL 1, 0)] with eng := { (mgr 3 [(PHC_RAIL_STATUS_STATE 0, 2), (PHC_RAIL_UST_UST_EN 0, 1), (PHC_RAIL_UST_OST_EN 0, 1), (PHC_RAIL_VNOW_V 0, 200), (PHC_PH_STATUS_STATE 1, 2), (PHC_PH_STATUS_RAIL 1, 0)]).eng with pwr := { rails := [{ ratio := 3840, ust := (orF [(PHC_RAIL_UST_UST_EN 0, 1), (PHC_RAIL_UST_OST_EN 0, 1)]).toNat }, {}, {}, {}] } } }, by decide⟩,
   ⟨0, 200, 0, 0, 1, { mgr 3 [(PHC_RAIL_STATUS_STATE 0, 3), (PHC_RAIL_UST_UST_EN 0, 1), (PHC_RAIL_UST_OST_EN 0, 1), (PHC_RAIL_VNOW_V 0, 200), (PHC_PH_STATUS_STATE 1, 2), (PHC_PH_STATUS_RAIL 1, 0)] with eng := { (mgr 3 [(PHC_RAIL_STATUS_STATE 0, 3), (PHC_RAIL_UST_UST_EN 0, 1), (PHC_RAIL_UST_OST_EN 0, 1), (PHC_RAIL_VNOW_V 0, 200), (PHC_PH_STATUS_STATE 1, 2), (PHC_PH_STATUS_RAIL 1, 0)]).eng with pwr := { rails := [{ ratio := 3840, ust := (orF [(PHC_RAIL_UST_UST_EN 0, 1), (PHC_RAIL_UST_OST_EN 0, 1)]).toNat }, {}, {}, {}] } } }, by decide⟩,
   ⟨0, 4000, { mgr 3 [(PHC_RAIL_STATUS_STATE 0, 2), (PHC_RAIL_UST_UST_EN 0, 1), (PHC_RAIL_UST_OST_EN 0, 1), (PHC_RAIL_VNOW_V 0, 200), (PHC_PH_STATUS_STATE 1, 2), (PHC_PH_STATUS_RAIL 1, 0)] with eng := { (mgr 3 [(PHC_RAIL_STATUS_STATE 0, 2), (PHC_RAIL_UST_UST_EN 0, 1), (PHC_RAIL_UST_OST_EN 0, 1), (PHC_RAIL_VNOW_V 0, 200), (PHC_PH_STATUS_STATE 1, 2), (PHC_PH_STATUS_RAIL 1, 0)]).eng with pwr := { rails := [{ ratio := 3840, ust := (orF [(PHC_RAIL_UST_UST_EN 0, 1), (PHC_RAIL_UST_OST_EN 0, 1)]).toNat }, {}, {}, {}] } } }, by decide⟩,
   ⟨0, 200, 1, { mgr 3 [(PHC_RAIL_STATUS_STATE 0, 4), (PHC_RAIL_UST_UST_EN 0, 1), (PHC_RAIL_UST_OST_EN 0, 1), (PHC_RAIL_VNOW_V 0, 200), (PHC_PH_STATUS_STATE 1, 2), (PHC_PH_STATUS_RAIL 1, 0)] with eng := { (mgr 3 [(PHC_RAIL_STATUS_STATE 0, 4), (PHC_RAIL_UST_UST_EN 0, 1), (PHC_RAIL_UST_OST_EN 0, 1), (PHC_RAIL_VNOW_V 0, 200), (PHC_PH_STATUS_STATE 1, 2), (PHC_PH_STATUS_RAIL 1, 0)]).eng with pwr := { rails := [{ ratio := 3840, ust := (orF [(PHC_RAIL_UST_UST_EN 0, 1), (PHC_RAIL_UST_OST_EN 0, 1)]).toNat }, {}, {}, {}] } } }, by decide⟩,
   ⟨State.reset, by decide⟩,
   ⟨State.reset, by decide⟩,
   ⟨{ mgr 3 [] with eng := { (mgr 3 []).eng with pwr := { armAt := some 0 } } }, by decide⟩,
   ⟨0, State.reset, by decide⟩,
   ⟨0, [(4000, 4000, 900), (900, 900, 4000)], 64, 0, { mgr 3 [(PHC_RAIL_STATUS_STATE 0, 2), (PHC_RAIL_SHARE_FLAT_THR 0, 100), (PHC_RAIL_SHARE_SHARE_MIN 0, 0), (PHC_PH_STATUS_STATE 0, 2), (PHC_PH_STATUS_RAIL 0, 0), (PHC_PH_STATUS_STATE 1, 2), (PHC_PH_STATUS_RAIL 1, 0), (PHC_PH_DUTY_D 0, 60000)] with eng := { (mgr 3 [(PHC_RAIL_STATUS_STATE 0, 2), (PHC_RAIL_SHARE_FLAT_THR 0, 100), (PHC_RAIL_SHARE_SHARE_MIN 0, 0), (PHC_PH_STATUS_STATE 0, 2), (PHC_PH_STATUS_RAIL 0, 0), (PHC_PH_STATUS_STATE 1, 2), (PHC_PH_STATUS_RAIL 1, 0), (PHC_PH_DUTY_D 0, 60000)]).eng with pwr := { phs := [{ rsense := 500 }, { rsense := 500 }, {}, {}, {}, {}, {}, {}] } } }, by decide⟩,
   ⟨0, [(900, 4000, 4000), (900, 900, 4000)], 64, 0, { mgr 3 [(PHC_RAIL_STATUS_STATE 0, 2), (PHC_RAIL_SHARE_FLAT_THR 0, 0), (PHC_RAIL_SHARE_SHARE_MIN 0, 0), (PHC_PH_STATUS_STATE 0, 2), (PHC_PH_STATUS_RAIL 0, 0), (PHC_PH_STATUS_STATE 1, 2), (PHC_PH_STATUS_RAIL 1, 0), (PHC_PH_DUTY_D 0, 60000)] with eng := { (mgr 3 [(PHC_RAIL_STATUS_STATE 0, 2), (PHC_RAIL_SHARE_FLAT_THR 0, 0), (PHC_RAIL_SHARE_SHARE_MIN 0, 0), (PHC_PH_STATUS_STATE 0, 2), (PHC_PH_STATUS_RAIL 0, 0), (PHC_PH_STATUS_STATE 1, 2), (PHC_PH_STATUS_RAIL 1, 0), (PHC_PH_DUTY_D 0, 60000)]).eng with pwr := { phs := [{ rsense := 500 }, { rsense := 500 }, {}, {}, {}, {}, {}, {}] } } }, by decide⟩,
   ⟨.core, 0x7C4A, 1, mgr 3 [(PHC_PH_STATUS_STATE 1, 3), (PHC_PH_STATUS_RAIL 1, 0)], by decide⟩,
   ⟨.core, 0x7C4A, 1, 0, { mgr 3 [(PHC_PH_STATUS_STATE 1, 3), (PHC_PH_STATUS_RAIL 1, 2), (PHC_RAIL_STATUS_STATE 0, 2)] with eng := { (mgr 3 [(PHC_PH_STATUS_STATE 1, 3), (PHC_PH_STATUS_RAIL 1, 2), (PHC_RAIL_STATUS_STATE 0, 2)]).eng with pwr := { rails := [{ ratio := 3840, phases := 2 }, {}, {}, {}] } } }, by decide⟩⟩

/-- feedsAndFuse: each clause's conditions hold of a state. -/
theorem witness_feedsAndFuse :
    (∃ (v : Nat) (s : State), s.f FEED_QUAL_UV ≤ v ∧ v ≤ s.f FEED_QUAL_OV) ∧
    (∃ (n : Fin 2) (s : State), s.inLimits n.val = true ∧ s.b (validOf n.val) = false ∧ s.qualOk (s.feedV n.val) = true) ∧
    (∃ (n : Fin 2) (v : Nat) (s : State), (v < s.f FEED_QUAL_UV ∨ s.f FEED_QUAL_OV < v) ∧ s.b (validOf n.val) = true) ∧
    (∃ (n : Fin 2) (s : State), s.b (gateOf n.val) = true) ∧
    (∃ (n : Fin 2) (s : State), s.b (validOf n.val) = true) ∧
    (∃ (vpb : Nat) (s : State), s.ef = 1 ∧ 95 * s.orBus ≤ 100 * (20 * vpb)) ∧
    (∃ (s : State), (s.ef = 2 ∨ s.ef = 3) ∧ s.busUp = true ∧ s.i FEED_IEF_I < 10 * (s.f FEED_EF_ILIM : Int) ∧ s.eng.feed.pcGate = true) ∧
    (∃ (s : State), s.ef = 1 ∧ s.path = 5) ∧
    (∃ (i : BitVec 16) (tm : Nat) (s : State), (s.ef = 2 ∨ s.ef = 3) ∧ s.path = 1 ∧ 10 * (s.f FEED_EF_ILIM : Int) ≤ signed 16 i.toNat ∧ s.f FEED_EF_TMO ≤ tm) ∧
    (∃ (i : BitVec 16) (s : State), (s.ef = 2 ∨ s.ef = 3) ∧ s.path = 1 ∧ 20 * (s.f FEED_EF_ILIM : Int) ≤ signed 16 i.toNat) ∧
    (∃ (s : State), s.ef = 4) ∧
    (∃ (s : State), s.ef = 2) ∧
    (∃ (k : Fin 6) (s : State), k.val < 4 ∧ s.fetJudged k.val = true) ∧
    (∃ (k : Fin 6) (s : State), 4 ≤ k.val ∧ s.fetJudged k.val = true) :=
  ⟨⟨1000, State.reset, by decide⟩,
   ⟨0, { mgr 3 [(FEED_STATUS_A_VALID, 0), (FEED_STATUS_B_VALID, 0)] with eng := { (mgr 3 [(FEED_STATUS_A_VALID, 0), (FEED_STATUS_B_VALID, 0)]).eng with feed := { inA := true, vA := 1000 } } }, by decide⟩,
   ⟨0, 0, mgr 3 [(FEED_STATUS_A_VALID, 1), (PATH_STATUS_STATE, 1)], by decide⟩,
   ⟨0, mgr 3 [(FEED_STATUS_A_ON, 1)], by decide⟩,
   ⟨0, mgr 3 [(FEED_STATUS_A_VALID, 1)], by decide⟩,
   ⟨1000, mgr 3 [(FEED_STATUS_EF_STATE, 1)], by decide⟩,
   ⟨{ mgr 3 [(FEED_STATUS_EF_STATE, 2), (PATH_STATUS_STATE, 5)] with eng := { (mgr 3 [(FEED_STATUS_EF_STATE, 2), (PATH_STATUS_STATE, 5)]).eng with feed := { pcGate := true } } }, by decide⟩,
   ⟨mgr 3 [(FEED_STATUS_EF_STATE, 1), (PATH_STATUS_STATE, 5)], by decide⟩,
   ⟨0x7FFF, 100000, mgr 3 [(FEED_STATUS_EF_STATE, 2), (PATH_STATUS_STATE, 1)], by decide⟩,
   ⟨0x7FFF, mgr 3 [(FEED_STATUS_EF_STATE, 2), (PATH_STATUS_STATE, 1)], by decide⟩,
   ⟨mgr 3 [(FEED_STATUS_EF_STATE, 4)], by decide⟩,
   ⟨mgr 3 [(FEED_STATUS_EF_STATE, 2)], by decide⟩,
   ⟨2, mgr 3 [], by decide⟩,
   ⟨4, mgr 3 [], by decide⟩⟩

/-- pathAndFeedCommands: each clause's conditions hold of a state. -/
theorem witness_pathAndFeedCommands :
    (∃ (s : State), s.path = 2 ∧ s.b PATH_STATUS_PACK_PRESENT = true) ∧
    (∃ (s : State), s.path = 2 ∧ s.b PATH_STATUS_PACK_PRESENT = false ∧ s.anyValid = false) ∧
    (∃ (mv : Nat) (s : State), (s.path = 3 ∨ s.path = 4 ∨ s.b PATH_STATUS_LOCKED = true) ∧ mv < s.f CHG_PACK_CELLS * 10 * s.f CHG_THR_VLOW) ∧
    (∃ (mv : Nat) (s : State), s.f CHG_PACK_CELLS ≠ 0 ∧ s.b PATH_STATUS_PACK_PRESENT = false ∧ s.f CHG_PACK_CELLS * 1000 ≤ mv) ∧
    (∃ (mv : Nat) (s : State), s.b PATH_STATUS_PACK_PRESENT = true ∧ mv < s.f CHG_PACK_CELLS * 500) ∧
    (∃ (s : State), s.path = 1) ∧
    (∃ (src : Src) (key : BitVec 16) (s : State), s.takes src FEED_CMD (keyed key 1) = true ∧ s.accepts 12 = true ∧ (s.ef = 5 ∨ s.ef = 6)) ∧
    (∃ (src : Src) (key : BitVec 16) (s : State), s.takes src FEED_CMD (keyed key 2) = true ∧ s.accepts 12 = true) ∧
    (∃ (src : Src) (key : BitVec 16) (s : State), s.takes src FEED_CMD (keyed key 3) = true ∧ s.accepts 12 = true ∧ s.chg ≠ 9) ∧
    (∃ (src : Src) (key : BitVec 16) (s : State), s.takes src PATH_CMD (keyed key 6) = true ∧ s.accepts 12 = true ∧ s.chg ≠ 9) ∧
    (∃ (src : Src) (key : BitVec 16) (s : State), s.takes src PATH_CMD (keyed key 4) = true ∧ s.accepts 12 = true) ∧
    (∃ (src : Src) (key : BitVec 16) (s : State), s.takes src PATH_CMD (keyed key 5) = true ∧ s.accepts 12 = true) ∧
    (∃ (sec : Nat) (s : State), (s.released = true ∨ s.eng.feed.alive = true) ∧ s.f CHG_FALLBACK_HCT ≠ 0 ∧ s.f CHG_FALLBACK_HCT ≤ sec ∧ s.b PATH_STATUS_HOST_LOST = false) :=
  ⟨⟨mgr 3 [(PATH_STATUS_STATE, 2), (PATH_STATUS_PACK_PRESENT, 1)], by decide⟩,
   ⟨mgr 3 [(PATH_STATUS_STATE, 2)], by decide⟩,
   ⟨0, mgr 3 [(PATH_STATUS_STATE, 3), (CHG_PACK_CELLS, 4)], by decide⟩,
   ⟨12000, mgr 3 [(CHG_PACK_CELLS, 4)], by decide⟩,
   ⟨0, mgr 3 [(PATH_STATUS_PACK_PRESENT, 1), (PATH_STATUS_STATE, 3), (CHG_PACK_CELLS, 4)], by decide⟩,
   ⟨mgr 3 [(PATH_STATUS_STATE, 1)], by decide⟩,
   ⟨.core, 0xFE0D, mgr 3 [(FEED_STATUS_EF_STATE, 6)], by decide⟩,
   ⟨.core, 0xFE0D, mgr 3 [], by decide⟩,
   ⟨.core, 0xFE0D, mgr 3 [], by decide⟩,
   ⟨.core, 0xBA7C, mgr 3 [], by decide⟩,
   ⟨.core, 0xBA7C, mgr 3 [], by decide⟩,
   ⟨.core, 0xBA7C, mgr 3 [], by decide⟩,
   ⟨60000, mgr 3 [(CHG_FALLBACK_HCT, 1)], by decide⟩⟩

/-- backupCharger: each clause's conditions hold of a state. -/
theorem witness_backupCharger :
    (∃ (src : Src) (key : BitVec 16) (s : State), s.takes src PATH_CMD (keyed key 1) = true ∧ s.accepts 12 = true ∧ s.chg = 8) ∧
    (∃ (src : Src) (key : BitVec 16) (s : State), s.takes src PATH_CMD (keyed key 1) = true ∧ s.accepts 12 = true ∧ s.chg = 0 ∧ s.chgEligible = true) ∧
    (∃ (src : Src) (key : BitVec 16) (s : State), s.takes src PATH_CMD (keyed key 1) = true ∧ s.accepts 12 = true ∧ s.chg = 0 ∧ s.chgEligible = false) ∧
    (∃ (src : Src) (key : BitVec 16) (s : State), s.takes src PATH_CMD (keyed key 2) = true ∧ s.accepts 12 = true ∧ s.chg ≠ 9) ∧
    (∃ (src : Src) (key : BitVec 16) (s : State), s.takes src PATH_CMD (keyed key 3) = true ∧ s.accepts 12 = true ∧ s.chg = 9 ∧ s.f CHG_STATUS_FAULT ≠ 4) ∧
    (∃ (src : Src) (w : Word) (s : State), s.takes src CHG_PACK w = true ∧ CHG_PACK_CHEM.of w < 3) ∧
    (∃ (vpb : Nat) (s : State), s.chg = 0 ∧ s.f CHG_PACK_CELLS ≠ 0 ∧ s.b PATH_STATUS_PACK_PRESENT = true ∧ s.path = 1 ∧ s.b PATH_STATUS_SUPPLEMENT = false ∧ s.b PATH_STATUS_LOCKED = false ∧ s.f CHG_PACK_CELLS * s.vreg + 2000 ≤ 20 * vpb ∧ (s.b CHG_PACK_AUTO = true ∨ s.eng.feed.startReq = true)) ∧
    (∃ (s : State), s.chg = 1) ∧
    (∃ (mv : Nat) (s : State), s.chg = 2 ∧ s.f CHG_PACK_CELLS * 10 * s.f CHG_THR_VPRE ≤ mv) ∧
    (∃ (mv : Nat) (s : State), s.chg = 3 ∧ s.f CHG_PACK_CELLS * s.vreg ≤ mv) ∧
    (∃ (ma : Nat) (s : State), s.chg = 4 ∧ ma ≤ 10 * s.f CHG_ICHG_ITERM) ∧
    (∃ (s : State), s.chg = 5) ∧
    (∃ (mv : Nat) (s : State), s.chg = 6 ∧ s.chgEligible = true ∧ mv < s.f CHG_PACK_CELLS * 10 * s.f CHG_THR_VRECH) ∧
    (∃ (t8 : Nat) (s : State), 2 ≤ s.chg ∧ s.chg ≤ 5 ∧ (if s.chg = 2 then s.f CHG_TIMER_PRE * 480 else s.f CHG_TIMER_SAFETY * 28800) ≤ t8 ∧ t8 < 2 ^ CHG_ELAPSED_T8.wd) ∧
    (∃ (mv : Nat) (s : State), s.chg ≠ 9 ∧ s.f CHG_PACK_CELLS ≠ 0 ∧ s.f CHG_PACK_CELLS * (s.vreg + 100) < mv) ∧
    (∃ (s : State), 2 ≤ s.chg ∧ s.chg ≤ 5) ∧
    (∃ (s : State), s.chg = 7 ∧ s.chgHeld = false ∧ s.eng.feed.phaseLeft < 16) :=
  ⟨⟨.core, 0xBA7C, mgr 3 [(CHG_STATUS_PHASE, 8)], by decide⟩,
   ⟨.core, 0xBA7C, { mgr 3 [(CHG_STATUS_PHASE, 0), (CHG_PACK_CELLS, 1), (CHG_VREG_VREG, 3650), (PATH_STATUS_PACK_PRESENT, 1), (PATH_STATUS_STATE, 1)] with eng := { (mgr 3 [(CHG_STATUS_PHASE, 0), (CHG_PACK_CELLS, 1), (CHG_VREG_VREG, 3650), (PATH_STATUS_PACK_PRESENT, 1), (PATH_STATUS_STATE, 1)]).eng with feed := { vpb := 1000 } } }, by decide⟩,
   ⟨.core, 0xBA7C, mgr 3 [(CHG_STATUS_PHASE, 0)], by decide⟩,
   ⟨.core, 0xBA7C, mgr 3 [(CHG_STATUS_PHASE, 3)], by decide⟩,
   ⟨.core, 0xBA7C, mgr 3 [(CHG_STATUS_PHASE, 9)], by decide⟩,
   ⟨.core, 0, mgr 3 [], by decide⟩,
   ⟨1000, mgr 3 [(CHG_STATUS_PHASE, 0), (CHG_PACK_CELLS, 1), (CHG_VREG_VREG, 3650), (PATH_STATUS_PACK_PRESENT, 1), (PATH_STATUS_STATE, 1), (CHG_PACK_AUTO, 1)], by decide⟩,
   ⟨mgr 3 [(CHG_STATUS_PHASE, 1)], by decide⟩,
   ⟨60000, mgr 3 [(CHG_STATUS_PHASE, 2)], by decide⟩,
   ⟨60000, mgr 3 [(CHG_STATUS_PHASE, 3)], by decide⟩,
   ⟨0, mgr 3 [(CHG_STATUS_PHASE, 4)], by decide⟩,
   ⟨mgr 3 [(CHG_STATUS_PHASE, 5)], by decide⟩,
   ⟨0, { mgr 3 [(CHG_STATUS_PHASE, 6), (CHG_PACK_CELLS, 1), (CHG_VREG_VREG, 3650), (PATH_STATUS_PACK_PRESENT, 1), (PATH_STATUS_STATE, 1)] with eng := { (mgr 3 [(CHG_STATUS_PHASE, 6), (CHG_PACK_CELLS, 1), (CHG_VREG_VREG, 3650), (PATH_STATUS_PACK_PRESENT, 1), (PATH_STATUS_STATE, 1)]).eng with feed := { vpb := 1000 } } }, by decide⟩,
   ⟨100000, mgr 3 [(CHG_STATUS_PHASE, 3), (CHG_TIMER_SAFETY, 1)], by decide⟩,
   ⟨18000, mgr 3 [(CHG_STATUS_PHASE, 3), (CHG_PACK_CELLS, 1)], by decide⟩,
   ⟨mgr 3 [(CHG_STATUS_PHASE, 3)], by decide⟩,
   ⟨{ mgr 3 [(CHG_STATUS_PHASE, 7), (CHG_PACK_CELLS, 1), (CHG_VREG_VREG, 3650), (PATH_STATUS_PACK_PRESENT, 1), (PATH_STATUS_STATE, 1)] with eng := { (mgr 3 [(CHG_STATUS_PHASE, 7), (CHG_PACK_CELLS, 1), (CHG_VREG_VREG, 3650), (PATH_STATUS_PACK_PRESENT, 1), (PATH_STATUS_STATE, 1)]).eng with feed := { phaseLeft := 3, vpb := 1000 } } }, by decide⟩⟩

/-- contactorCommands: each clause's conditions hold of a state. -/
theorem witness_contactorCommands :
    (∃ (src : Src) (key : BitVec 16) (s : State), s.takes src CONT_CMD (keyed key 1) = true ∧ s.accepts 1 = true ∧ s.cont = 0 ∧ s.released = true ∧ s.f CONT_STATUS_WELD = 0 ∧ s.b CONT_STATUS_FT_LATCH = false ∧ s.b CONT_STATUS_LOOP_TRIP = false ∧ (s.b CONT_STATUS_LOOP_OK = true ∨ s.b CONT_LOOP_LOOP_EN = false)) ∧
    (∃ (src : Src) (key : BitVec 16) (s : State), s.takes src CONT_CMD (keyed key 1) = true ∧ s.accepts 1 = true ∧ s.cont = 0 ∧ s.f CONT_STATUS_WELD ≠ 0) ∧
    (∃ (src : Src) (key : BitVec 16) (s : State), s.takes src CONT_CMD (keyed key 2) = true ∧ s.accepts 2 = true ∧ s.closing = true) ∧
    (∃ (src : Src) (key : BitVec 16) (s : State), s.takes src CONT_CMD (keyed key 3) = true ∧ s.accepts 2 = true) ∧
    (∃ (src : Src) (key : BitVec 16) (s : State), s.takes src CONT_CMD (keyed key 4) = true ∧ s.accepts 2 = true) ∧
    (∃ (src : Src) (key : BitVec 16) (s : State), s.takes src CONT_CMD (keyed key 5) = true ∧ s.accepts 2 = true) ∧
    (∃ (p0 : Nat) (p1 : Nat) (p2 : Nat), p0 < 1024 ∧ p1 < 1024 ∧ p2 < 1024) ∧
    (∃ (p0 : Nat) (p1 : Nat) (p2 : Nat) (s : State), s.cont = 1 ∧ s.onPm ≤ p1 ∧ p0 < s.offPm ∧ p0 < 1024 ∧ p1 < 1024 ∧ p2 < 1024) ∧
    (∃ (p0 : Nat) (p1 : Nat) (p2 : Nat) (s : State), s.cont = 1 ∧ s.onPm ≤ p1 ∧ s.offPm ≤ p0 ∧ p0 < 1024 ∧ p1 < 1024 ∧ p2 < 1024) ∧
    (∃ (s : State), s.cont = 1) ∧
    (∃ (p0 : Nat) (p1 : Nat) (p2 : Nat) (s : State), s.cont = 2 ∧ s.f CONT_PC_PC_PCT * 10 ≤ p2 ∧ p0 < 1024 ∧ p1 < 1024 ∧ p2 < 1024) ∧
    (∃ (s : State), s.cont = 2) ∧
    (∃ (s : State), s.cont = 3) ∧
    (∃ (p0 : Nat) (p1 : Nat) (p2 : Nat) (s : State), s.cont = 4 ∧ s.onPm ≤ p0 ∧ p0 < 1024 ∧ p1 < 1024 ∧ p2 < 1024) ∧
    (∃ (p0 : Nat) (p1 : Nat) (p2 : Nat) (s : State), s.cont = 4 ∧ p0 < s.onPm ∧ p0 < 1024 ∧ p1 < 1024 ∧ p2 < 1024) ∧
    (∃ (p0 : Nat) (p1 : Nat) (p2 : Nat) (s : State), s.cont = 5 ∧ (p0 < s.onPm ∨ p1 < s.onPm) ∧ p0 < 1024 ∧ p1 < 1024 ∧ p2 < 1024) ∧
    (∃ (s : State), s.cont = 6) ∧
    (∃ (s : State), s.cont = 6 ∧ s.b (CONT_STATUS_CMD.bit 0) = false ∧ s.b (CONT_STATUS_CMD.bit 2) = false) ∧
    (∃ (s : State), s.cont = 6 ∧ s.f CONT_STATUS_CMD = 0) ∧
    (∃ (p0 : Nat) (p1 : Nat) (p2 : Nat) (s : State), s.cont = 7 ∧ p0 < 1024 ∧ p1 < 1024 ∧ p2 < 1024) :=
  ⟨⟨.core, 0xC07A, mgr 3 [(CONT_STATUS_LOOP_OK, 1)], by decide⟩,
   ⟨.core, 0xC07A, mgr 3 [(CONT_STATUS_WELD, 1)], by decide⟩,
   ⟨.core, 0xC07A, mgr 3 [(CONT_STATUS_STATE, 5)], by decide⟩,
   ⟨.core, 0xC07A, mgr 3 [], by decide⟩,
   ⟨.core, 0xC07A, mgr 3 [], by decide⟩,
   ⟨.core, 0xC07A, mgr 3 [], by decide⟩,
   ⟨0, 0, 0, by decide⟩,
   ⟨0, 900, 0, mgr 3 [(CONT_STATUS_STATE, 1), (CONT_SENSE_ON_PCT, 80), (CONT_SENSE_OFF_PCT, 20)], by decide⟩,
   ⟨500, 900, 0, mgr 3 [(CONT_STATUS_STATE, 1), (CONT_SENSE_ON_PCT, 80), (CONT_SENSE_OFF_PCT, 20)], by decide⟩,
   ⟨mgr 3 [(CONT_STATUS_STATE, 1)], by decide⟩,
   ⟨0, 900, 1000, mgr 3 [(CONT_STATUS_STATE, 2)], by decide⟩,
   ⟨mgr 3 [(CONT_STATUS_STATE, 2)], by decide⟩,
   ⟨mgr 3 [(CONT_STATUS_STATE, 3)], by decide⟩,
   ⟨1000, 900, 0, mgr 3 [(CONT_STATUS_STATE, 4)], by decide⟩,
   ⟨0, 900, 0, mgr 3 [(CONT_STATUS_STATE, 4)], by decide⟩,
   ⟨0, 900, 0, mgr 3 [(CONT_STATUS_STATE, 5)], by decide⟩,
   ⟨mgr 3 [(CONT_STATUS_STATE, 6), (CONT_STATUS_CMD, 7)], by decide⟩,
   ⟨mgr 3 [(CONT_STATUS_STATE, 6), (CONT_STATUS_CMD, 2)], by decide⟩,
   ⟨mgr 3 [(CONT_STATUS_STATE, 6)], by decide⟩,
   ⟨0, 0, 0, mgr 3 [(CONT_STATUS_STATE, 7)], by decide⟩⟩

/-- coilsDisconnectAndLoop: each clause's conditions hold of a state. -/
theorem witness_coilsDisconnectAndLoop :
    (∃ (n : Fin 3) (s : State), s.f (CONT_COIL_STATE n.val) = 1) ∧
    (∃ (n : Fin 3) (s : State), s.b (CONT_STATUS_CMD.bit n.val) = true) ∧
    (∃ (n : Fin 3) (s : State), s.b (CONT_STATUS_CMD.bit n.val) = true) ∧
    (∃ (mag : Nat) (s : State), s.isMgr = true ∧ 3 ≤ s.mode ∧ s.b CONT_STATUS_FD_ON = true ∧ s.f CONT_FT_HARD_THR < mag) ∧
    (∃ (mag : Nat) (s : State), s.f CONT_FT_HARD_THR ≥ mag ∧ s.eng.cont.blankFd = true) ∧
    (∃ (s : State), s.isMgr = true ∧ s.b CONT_STATUS_LOOP_OK = true ∧ s.loopSourcing = true ∧ s.closing = true) ∧
    (∃ (s : State), s.isMgr = false) ∧
    (∃ (s : State), s.isWrk = true ∧ s.released = true ∧ s.eng.cont.loopIn = true ∧ s.mode ≠ 6) :=
  ⟨⟨0, mgr 3 [(CONT_COIL_STATE 0, 1)], by decide⟩,
   ⟨0, mgr 3 [(CONT_STATUS_STATE, 5), (CONT_STATUS_CMD, 7)], by decide⟩,
   ⟨0, mgr 3 [(CONT_STATUS_STATE, 5), (CONT_STATUS_CMD, 7)], by decide⟩,
   ⟨300, mgr 3 [(CONT_STATUS_STATE, 5), (CONT_STATUS_FD_ON, 1)], by decide⟩,
   ⟨0, { mgr 3 [(CONT_STATUS_STATE, 5), (CONT_STATUS_FD_ON, 1)] with eng := { (mgr 3 [(CONT_STATUS_STATE, 5), (CONT_STATUS_FD_ON, 1)]).eng with cont := { blankFd := true } } }, by decide⟩,
   ⟨mgr 3 [(CONT_STATUS_STATE, 5), (CONT_STATUS_LOOP_OK, 1), (CONT_LOOP_LOOP_EN, 1)], by decide⟩,
   ⟨State.reset, by decide⟩,
   ⟨{ wrk 3 [] with eng := { (wrk 3 []).eng with cont := { loopIn := true } } }, by decide⟩⟩

/-- frontEndDiagnostics: each clause's conditions hold of a state. -/
theorem witness_frontEndDiagnostics :
    (∃ (s : State), s.b AFE_STATUS_REF_RDY = false ∧ s.refOn = true ∧ (s.eng.boot.fresh = true ∨ 3 ≤ s.f RST_BOOT_STEP)) ∧
    (∃ (s : State), s.refOn = true ∧ s.eng.boot.fresh = false ∧ s.f RST_BOOT_STEP < 3) ∧
    (∃ (src : Src) (key : BitVec 16) (s : State), s.takes src AFE_DIAG_CMD (keyed key 1) = true ∧ s.isMgr = false ∧ s.f AFE_STATUS_DIAG = 0) ∧
    (∃ (src : Src) (key : BitVec 16) (s : State), s.takes src AFE_DIAG_CMD (keyed key 1) = true ∧ s.isMgr = true ∧ s.f AFE_STATUS_DIAG = 0) ∧
    (∃ (src : Src) (key : BitVec 16) (s : State), s.takes src AFE_DIAG_CMD (keyed key 2) = true ∧ s.f AFE_STATUS_DIAG = 0 ∧ (s.mode = 4 ∨ s.mode = 5 ∨ s.mode = 7)) ∧
    (∃ (src : Src) (key : BitVec 16) (s : State), s.takes src AFE_DIAG_CMD (keyed key 2) = true ∧ s.f AFE_STATUS_DIAG = 0 ∧ (s.mode = 3 ∨ s.mode = 6)) ∧
    (∃ (src : Src) (key : BitVec 16) (s : State), s.takes src AFE_DIAG_CMD (keyed key 3) = true ∧ s.f AFE_STATUS_DIAG ≠ 0) ∧
    (∃ (s : State), s.f AFE_DIAG_CFG_AUTO_PER ≠ 0 ∧ s.f AFE_STATUS_DIAG = 0 ∧ s.isMgr = false) ∧
    (∃ (s : State), s.f AFE_STATUS_DIAG = 1 ∧ (s.f BAL_SH_STATUS_STATE = 0 ∨ s.f BAL_SH_STATUS_STATE = 7)) ∧
    (∃ (s : State), s.f AFE_STATUS_DIAG = 1) ∧
    (∃ (s : State), 2 ≤ s.f AFE_STATUS_DIAG ∧ s.f AFE_STATUS_DIAG ≤ 6) ∧
    (∃ (s : State), s.f AFE_STATUS_DIAG = 7) ∧
    (∃ (s : State), s.f AFE_STATUS_DIAG = 0) ∧
    (∃ (s : State), s.f AFE_STATUS_DIAG = 8 ∧ s.f AFE_DIAG_STATUS_CHAN < 28) ∧
    (∃ (src : Src) (ch : Fin 32) (w : Word) (s : State), s.takes src (AFE_CAL_U ch.val) w = true ∧ s.accepts 6 = true) ∧
    (∃ (src : Src) (w : Word) (s : State), s.takes src AFE_CFG w = true ∧ s.accepts 6 = true) :=
  ⟨⟨State.reset, by decide⟩,
   ⟨{ mgr 3 [(RST_BOOT_STEP, 0)] with eng := { (mgr 3 [(RST_BOOT_STEP, 0)]).eng with boot := {} } }, by decide⟩,
   ⟨.core, 0xD1A6, wrk 3 [], by decide⟩,
   ⟨.core, 0xD1A6, mgr 3 [], by decide⟩,
   ⟨.core, 0xD1A6, mgr 4 [], by decide⟩,
   ⟨.core, 0xD1A6, mgr 3 [], by decide⟩,
   ⟨.core, 0xD1A6, wrk 3 [(AFE_STATUS_DIAG, 2)], by decide⟩,
   ⟨wrk 3 [(AFE_DIAG_CFG_AUTO_PER, 1)], by decide⟩,
   ⟨wrk 3 [(AFE_STATUS_DIAG, 1)], by decide⟩,
   ⟨wrk 3 [(AFE_STATUS_DIAG, 1)], by decide⟩,
   ⟨wrk 3 [(AFE_STATUS_DIAG, 2)], by decide⟩,
   ⟨wrk 3 [(AFE_STATUS_DIAG, 7)], by decide⟩,
   ⟨wrk 3 [], by decide⟩,
   ⟨mgr 4 [(AFE_STATUS_DIAG, 8), (AFE_DIAG_STATUS_CHAN, 24)], by decide⟩,
   ⟨.core, 0, 0, mgr 5 [], by decide⟩,
   ⟨.core, 0, wrk 5 [], by decide⟩⟩

/-- conversionAndScheduling: each clause's conditions hold of a state. -/
theorem witness_conversionAndScheduling :
    (∃ (s : State), s.eng.epoch.running = true ∧ s.b AFE_STATUS_REF_RDY = true ∧ s.mode = 3 ∧ s.fullRate = false ∧ s.epoch % s.f MODE_ATT_PER_PER = 0 ∧ s.eng.scan.lastTick = none ∧ s.eng.scan.trips = [] ∧ s.eng.scan.burst = 0 ∧ s.eng.scan.skipK = 1 ∧ s.eng.scan.skipNext = none ∧ s.eng.scan.rerun = false ∧ s.fineNext < 2 ^ AFE_STROBE_FINE.wd) ∧
    (∃ (s : State), s.eng.epoch.running = true ∧ s.eng.scan.skipNext = none ∧ s.eng.scan.lastTick = some s.epoch ∧ s.eng.scan.burst = 0) ∧
    (∃ (k : Nat) (o : Nat) (c : Nat) (ch : Nat) (s : State), s.grantBarred = false ∧ s.eng.scan.reqs = [⟨k, o, c, 0, ch, 1, 0, false, none, none⟩] ∧ c = 1) ∧
    (∃ (raw : List Int) (x : Flight) (rest : List Flight) (s : State), s.eng.scan.flight = x :: rest ∧ raw.length = 32) ∧
    (∃ (ps : Nat) (fine : Nat) (per : Nat) (s : State), ps < 1000000 ∧ s.eng.scan.flight = [⟨s.epoch, 0, fine, per⟩] ∧ s.eng.scan.trips = [] ∧ s.eng.scan.reqs = [] ∧ overlaps (strikePs s.epoch fine) (s.epoch * 1000000 + ps + 62500, s.epoch * 1000000 + ps + 312500) = true) ∧
    (∃ (trip : Bool), trip = true) ∧
    (∃ (trip : Bool) (k : Nat) (o : Nat) (c : Nat) (ch : Nat) (n : Nat) (g : Nat) (e : Option Nat) (s : State), trip = false ∧ s.eng.scan.reqs = [⟨k, o, c, 1, ch, n, g, true, e, none⟩]) ∧
    (∃ (src : Src) (key : BitVec 16) (fw : Option (Bool × Word)) (s : State), fw = none ∧ s.takes src SCAN_REQ (keyed key (2 ^ SCAN_REQ_GO.lo)) = true ∧ s.f SCAN_REQ_CFG_KIND < 2 ∧ s.eng.scan.reqs = []) ∧
    (∃ (src : Src) (key : BitVec 16) (fw : Option (Bool × Word)) (s : State), fw = none ∧ s.takes src SCAN_REQ (keyed key (2 ^ SCAN_REQ_GO.lo)) = true ∧ s.f SCAN_REQ_CFG_KIND < 2 ∧ (∀ k : Fin 16, 4 ≤ k.val → s.eng.scan.reqs.any (fun r => r.entry == k.val) = true)) ∧
    (∃ (fw : Option (Bool × Word)) (woad : Bool) (w : Word) (s : State), fw = some (woad, w) ∧ SCAN_REQ_CFG_KIND.of w < 2 ∧ s.eng.scan.reqs = []) ∧
    (∃ (entry : Nat) (o : Nat) (c : Nat) (kind : Nat) (ch : Nat) (n : Nat) (g : Nat) (e : Nat) (v : Nat) (p : Bool) (s : State), s.eng.scan.reqs = [⟨entry, o, c, kind, ch, n, g, true, some e, some (v, p)⟩] ∧ entry < 16) ∧
    (∃ (codes : List Int) (k : Nat) (o : Nat) (c : Nat) (ch : Nat) (n : Nat) (g : Nat) (e : Nat) (s : State), s.eng.scan.reqs = [⟨k, o, c, 2, ch, n, g, true, some e, none⟩] ∧ codes.length = n ∧ n < 4096) :=
  ⟨⟨{ mgr 3 [(AFE_STATUS_REF_RDY, 1)] with eng := { State.reset.eng with epoch := { count := 1000, running := true } } }, by decide⟩,
   ⟨{ mgr 3 [(AFE_STATUS_REF_RDY, 1)] with eng := { State.reset.eng with epoch := { count := 1000, running := true }, scan := { lastTick := some 1000 } } }, by decide⟩,
   ⟨4, 3, 1, 3, { mgr 3 [] with eng := { (mgr 3 []).eng with scan := { reqs := [⟨4, 3, 1, 0, 3, 1, 0, false, none, none⟩] } } }, by decide⟩,
   ⟨List.replicate 32 0, ⟨1000, 0, 0, 1⟩, [], { mgr 3 [] with eng := { (mgr 3 []).eng with scan := { flight := [⟨1000, 0, 0, 1⟩] } } }, by decide⟩,
   ⟨0, 0, 1, { mgr 3 [] with eng := { (mgr 3 []).eng with scan := { flight := [⟨0, 0, 0, 1⟩] } } }, by decide⟩,
   ⟨true, by decide⟩,
   ⟨false, 4, 3, 1, 3, 1, 0, none, { mgr 3 [] with eng := { (mgr 3 []).eng with scan := { reqs := [⟨4, 3, 1, 1, 3, 1, 0, true, none, none⟩] } } }, by decide⟩,
   ⟨.core, 0x5CA2, none, mgr 3 [], by decide⟩,
   ⟨.core, 0x5CA2, none, { mgr 3 [] with eng := { (mgr 3 []).eng with scan := { reqs := (List.range 12).map fun k => ⟨k + 4, 3, 1, 0, 0, 1, 0, false, none, none⟩ } } }, by decide⟩,
   ⟨some (true, 0), true, 0, mgr 3 [], by decide⟩,
   ⟨4, 3, 1, 1, 3, 1, 0, 9, 5, false, { mgr 3 [] with eng := { (mgr 3 []).eng with scan := { reqs := [⟨4, 3, 1, 1, 3, 1, 0, true, some 9, some (5, false)⟩] } } }, by decide⟩,
   ⟨[5, -7], 4, 3, 1, 3, 2, 0, 9, { mgr 3 [] with eng := { (mgr 3 []).eng with scan := { reqs := [⟨4, 3, 1, 2, 3, 2, 0, true, some 9, none⟩] } } }, by decide⟩⟩

/-- balancingCommands: each clause's conditions hold of a state. -/
theorem witness_balancingCommands :
    (∃ (src : Src) (key : BitVec 16) (s : State), s.takes src BAL_CMD (keyed key 1) = true ∧ s.accepts 3 = true) ∧
    (∃ (src : Src) (key : BitVec 16) (s : State), s.takes src BAL_CMD (keyed key 2) = true) ∧
    (∃ (src : Src) (key : BitVec 16) (s : State), s.takes src BAL_CMD (keyed key 3) = true ∧ s.accepts 3 = true ∧ s.sh = 7 ∧ s.f BAL_NODE_RB_MAP = 0) ∧
    (∃ (src : Src) (key : BitVec 16) (s : State), s.takes src BAL_CMD (keyed key 4) = true ∧ s.f BAL_POLICY_MODE = 2) ∧
    (∃ (src : Src) (key : BitVec 16) (cell : Fin 32) (s : State), s.takes src BAL_SEL (keyed key (cell.val * 2 ^ BAL_SEL_CELL.lo)) = true ∧ s.accepts 3 = true ∧ s.selCause (src == .core) cell.val = 0 ∧ s.balPermitted = true ∧ s.sh = 0 ∧ cell.val < 24) ∧
    (∃ (src : Src) (key : BitVec 16) (cell : Fin 32) (s : State), s.takes src BAL_SEL (keyed key (cell.val * 2 ^ BAL_SEL_CELL.lo)) = true ∧ s.accepts 3 = true ∧ s.selCause (src == .core) cell.val ≠ 0) ∧
    (∃ (src : Src) (w : Word) (s : State), s.takes src BAL_BLEED w = true ∧ s.accepts 3 = true ∧ s.balForeign (src == .core) = false ∧ popcount (BAL_BLEED_MASK.of w) ≤ s.f BAL_PASS_CFG_MAX_ON ∧ BAL_BLEED_MASK.of w < 2 ^ s.cells) ∧
    (∃ (src : Src) (w : Word) (s : State), s.takes src BAL_BLEED w = true ∧ s.accepts 3 = true ∧ s.balForeign (src == .core) = true) ∧
    (∃ (src : Src) (w : Word) (s : State), s.takes src BAL_SH_I w = true ∧ s.accepts 3 = true ∧ s.balForeign (src == .core) = false) ∧
    (∃ (src : Src) (w : Word) (s : State), s.takes src BAL_SH_I w = true ∧ s.accepts 3 = true ∧ s.balForeign (src == .core) = true) :=
  ⟨⟨.core, 0xBA1A, wrk 3 [(BAL_STATUS_FLAGS, 128)], by decide⟩,
   ⟨.core, 0xBA1A, wrk 3 [], by decide⟩,
   ⟨.core, 0xBA1A, wrk 3 [(BAL_SH_STATUS_STATE, 7)], by decide⟩,
   ⟨.core, 0xBA1A, wrk 3 [(BAL_POLICY_MODE, 2)], by decide⟩,
   ⟨.core, 0x5E1C, 0, wrk 3 [(BAL_POLICY_MODE, 1)], by decide⟩,
   ⟨.core, 0x5E1C, 0, wrk 3 [(BAL_POLICY_MODE, 2)], by decide⟩,
   ⟨.core, 0, wrk 3 [(BAL_POLICY_MODE, 1)], by decide⟩,
   ⟨.core, 0, wrk 3 [(BAL_POLICY_MODE, 2)], by decide⟩,
   ⟨.core, 0, wrk 3 [(BAL_POLICY_MODE, 1)], by decide⟩,
   ⟨.core, 0, wrk 3 [(BAL_POLICY_MODE, 2)], by decide⟩⟩

/-- shuttleSequence: each clause's conditions hold of a state. -/
theorem witness_shuttleSequence :
    (∃ (s : State), s.sh = 1) ∧
    (∃ (s : State), s.sh = 2 ∧ s.f BAL_NODE_CMD_MAP = 0) ∧
    (∃ (s : State), s.sh = 2) ∧
    (∃ (rb : BitVec 25) (on : BitVec 25) (us : Nat) (node : Nat) (rest : List Nat) (s : State), s.badNodes rb.toNat on.toNat us = node :: rest) ∧
    (∃ (rb : BitVec 25) (on : BitVec 25) (us : Nat) (s : State), s.badNodes rb.toNat on.toNat us = []) ∧
    (∃ (s : State), s.sh = 3 ∧ s.f BAL_NODE_RB_MAP = 0 ∧ s.f BAL_SEL_CELL ≤ 23) ∧
    (∃ (s : State), s.sh = 3 ∧ s.f BAL_NODE_RB_MAP = 0 ∧ 24 ≤ s.f BAL_SEL_CELL) ∧
    (∃ (s : State), s.sh = 4 ∧ s.eng.bal.closing < 32) ∧
    (∃ (s : State), s.sh = 4) ∧
    (∃ (s : State), s.sh = 5) ∧
    (∃ (i : BitVec 16) (us : Nat) (s : State), (s.sh = 1 ∨ s.sh = 5 ∨ s.sh = 6) ∧ 50 * s.f BAL_SH_CFG_ILIM < 4 * (signed 16 i.toNat).natAbs ∧ 10 ≤ us ∧ s.f BAL_SH_STATUS_CELL ≠ 31) ∧
    (∃ (cell : Fin 24) (ma : BitVec 16) (ms : Nat) (s : State), bitOf (s.f BAL_BLEED_ON_MASK) cell.val = true ∧ 2 * ma.toNat < s.bleedI ∧ 10 ≤ ms ∧ 1600000 ≤ s.bleedDrop cell.val) ∧
    (∃ (cell : Fin 24) (s : State), bitOf s.eng.bal.removed cell.val = true ∧ s.bleedSum (withBit (s.f BAL_BLEED_ON_MASK) cell.val true) ≤ s.pmax4) ∧
    (∃ (ms : Nat) (s : State), s.f BAL_POLICY_MODE = 1 ∧ s.b (balFlag 5) = false ∧ s.leaseMs ≤ ms) ∧
    (∃ (ms : Nat) (s : State), s.f BAL_POLICY_MODE = 2 ∧ s.b (balFlag 5) = false ∧ s.leaseMs ≤ ms) ∧
    (∃ (s : State), s.isWrk = true ∧ s.f BAL_POLICY_MODE = 1 ∧ s.balPermitted = false ∧ s.b (balFlag 7) = true) ∧
    (∃ (s : State), s.isWrk = true ∧ s.f BAL_POLICY_MODE = 1 ∧ s.mode = 3 ∧ s.b (balFlag 7) = false ∧ s.f BAL_POLICY_METHOD = 0 ∧ s.eng.bal.slot = none) ∧
    (∃ (us : Nat) (s : State), s.eng.bal.slot.isSome = true ∧ s.f BAL_SH_STATUS_OWNER ≠ 2 ∧ (s.eng.bal.slotLen ≤ us ∨ s.slotEarly = true)) ∧
    (∃ (s : State), s.f BAL_SH_STATUS_OWNER = 2 ∧ s.eng.bal.yielded = none) :=
  ⟨⟨wrk 3 [(BAL_SH_STATUS_STATE, 1)], by decide⟩,
   ⟨wrk 3 [(BAL_SH_STATUS_STATE, 2)], by decide⟩,
   ⟨wrk 3 [(BAL_SH_STATUS_STATE, 2)], by decide⟩,
   ⟨5, 0, 0, 0, [2], State.reset, by decide⟩,
   ⟨0, 0, 0, State.reset, by decide⟩,
   ⟨wrk 3 [(BAL_SH_STATUS_STATE, 3), (BAL_SEL_CELL, 5)], by decide⟩,
   ⟨wrk 3 [(BAL_SH_STATUS_STATE, 3), (BAL_SEL_CELL, 31)], by decide⟩,
   ⟨{ wrk 3 [(BAL_SH_STATUS_STATE, 4)] with eng := { (wrk 3 [(BAL_SH_STATUS_STATE, 4)]).eng with bal := { closing := 5 } } }, by decide⟩,
   ⟨wrk 3 [(BAL_SH_STATUS_STATE, 4)], by decide⟩,
   ⟨wrk 3 [(BAL_SH_STATUS_STATE, 5)], by decide⟩,
   ⟨0x7FFF, 10, wrk 3 [(BAL_SH_STATUS_STATE, 6), (BAL_SH_STATUS_CELL, 5)], by decide⟩,
   ⟨1, 0, 10, { wrk 3 [(BAL_BLEED_ON_MASK, 2)] with eng := { (wrk 3 [(BAL_BLEED_ON_MASK, 2)]).eng with afe := { last := List.replicate 32 20000 } } }, by decide⟩,
   ⟨1, { wrk 3 [] with eng := { (wrk 3 []).eng with afe := { last := List.replicate 32 20000 }, bal := { removed := 2 } } }, by decide +kernel⟩,
   ⟨100000, wrk 3 [(BAL_POLICY_MODE, 1)], by decide⟩,
   ⟨100000, wrk 3 [(BAL_POLICY_MODE, 2)], by decide⟩,
   ⟨wrk 3 [(BAL_POLICY_MODE, 1), (BAL_STATUS_FLAGS, 128)], by decide⟩,
   ⟨wrk 3 [(BAL_POLICY_MODE, 1), (BAL_POLICY_METHOD, 0)], by decide⟩,
   ⟨0, { wrk 3 [] with eng := { (wrk 3 []).eng with bal := { slot := some (3, 1000) } } }, by decide⟩,
   ⟨wrk 3 [(BAL_SH_STATUS_OWNER, 2)], by decide⟩⟩

/-- impedanceEngine: each clause's conditions hold of a state. -/
theorem witness_impedanceEngine :
    (∃ (src : Src) (key : BitVec 16) (s : State), s.takes src EIS_CMD (keyed key 1) = true ∧ s.accepts 4 = true) ∧
    (∃ (src : Src) (key : BitVec 16) (s : State), s.takes src EIS_CMD (keyed key 2) = true) ∧
    (∃ (src : Src) (key : BitVec 16) (kind : Fin 4) (cell : Fin 32) (s : State), s.takes src EIS_CMD (keyed key (3 + kind.val * 2 ^ EIS_CMD_KIND.lo + cell.val * 2 ^ EIS_CMD_CELL.lo)) = true ∧ s.accepts 4 = true ∧ kind.val < 2 ∧ cell.val < s.cells) ∧
    (∃ (src : Src) (key : BitVec 16) (cell : Fin 32) (s : State), s.takes src EIS_CMD (keyed key (4 + cell.val * 2 ^ EIS_CMD_CELL.lo)) = true ∧ s.accepts 4 = true ∧ cell.val < s.cells ∧ s.latest cell.val = none) ∧
    (∃ (src : Src) (key : BitVec 16) (cell : Fin 32) (x : Spectrum) (re : Int) (im : Int) (s : State), s.takes src EIS_CMD (keyed key (4 + cell.val * 2 ^ EIS_CMD_CELL.lo)) = true ∧ s.accepts 4 = true ∧ cell.val < s.cells ∧ s.latest cell.val = some x ∧ x.valid (s.f EIS_TEMP_CFG_TRACK_I) = some (re, im) ∧ later s.epoch (x.epoch + 60000000) = false ∧ s.f (AUX_TEMP_STATE (s.f (EIS_TREF_TH cell.val))) = 0) ∧
    (∃ (kd : Nat) (c : Nat) (s : State), s.isWrk = true ∧ s.eisState = 0 ∧ s.mode = 4 ∧ s.eng.boot.cores.getD 1 false = true ∧ s.eng.eis.one = some (kd, c)) ∧
    (∃ (s : State), s.eisState = 2) ∧
    (∃ (s : State), s.eisState = 3) ∧
    (∃ (x : EisSlot) (s : State), s.eisState = 4 ∧ s.eng.eis.slot = some x) ∧
    (∃ (x : EisSlot) (s : State), s.eisState = 5 ∧ s.eng.eis.slot = some x ∧ s.f BAL_SH_STATUS_OWNER = 2 ∧ s.eng.bal.yielded = none) ∧
    (∃ (x : EisSlot) (s : State), s.eng.eis.done = some x ∧ x.fin = some 3 ∧ s.f EIS_VIEW_CELL ≠ x.cell) ∧
    (∃ (src : Src) (w : Word) (s : State), s.takes src EIS_VIEW w = true ∧ s.isMgr = false) ∧
    (∃ (s : State), s.isMgr = true ∧ s.fullRate = true) ∧
    (∃ (port : Fin 2) (p : Pkt) (s : State), s.isWrk = true ∧ later s.epoch (bits64 (pw p 0) 16 48 + 500000) = false ∧ s.hears port.val 0x30 p = true ∧ (s.f EIS_CFG_METHOD = 1 ∨ s.f EIS_CFG_METHOD = 2) ∧ s.fullRate = true ∧ s.eng.eis.ripN + 1 < s.f EIS_QUAL_RIP_AVG) ∧
    (∃ (s : State), s.isWrk = true ∧ (s.f EIS_CFG_METHOD = 1 ∨ s.f EIS_CFG_METHOD = 2) ∧ s.fullRate = true) ∧
    (∃ (x : EisSlot) (s : State), s.eisState = 1 ∧ s.eisMode = true ∧ s.eng.eis.slot = some x ∧ s.f BAL_SH_STATUS_OWNER ≠ 2 ∧ s.eng.bal.forEis = false ∧ s.f BAL_POLICY_MODE = 2) ∧
    (∃ (x : EisSlot) (s : State), s.eisState = 1 ∧ s.eisMode = true ∧ s.eng.eis.slot = some x ∧ s.f BAL_SH_STATUS_OWNER ≠ 2 ∧ s.eng.bal.forEis = false ∧ s.f BAL_POLICY_MODE ≠ 2 ∧ s.f AFE_STATUS_DIAG ≠ 1 ∧ s.eng.afe.owHold = false ∧ s.sh = 0 ∧ s.b (balFlag 7) = false ∧ s.eng.bal.slot = none ∧ x.cell < 24) :=
  ⟨⟨.core, 0xE15A, wrk 4 [(EIS_STATUS_STATE, 0)], by decide⟩,
   ⟨.core, 0xE15A, wrk 4 [(EIS_STATUS_STATE, 4)], by decide⟩,
   ⟨.core, 0xE15A, 0, 0, wrk 4 [(EIS_STATUS_STATE, 0)], by decide⟩,
   ⟨.core, 0xE15A, 0, wrk 4 [(EIS_STATUS_STATE, 0)], by decide⟩,
   ⟨.core, 0xE15A, 0, ⟨0, 0, 0, 0, [(5, 100, -7, 0x20000000)]⟩, 100, -7, { wrk 4 [(EIS_STATUS_STATE, 0), (EIS_TEMP_CFG_TRACK_I, 5), (AUX_TEMP_STATE 0, 0)] with eng := { (wrk 4 [(EIS_STATUS_STATE, 0), (EIS_TEMP_CFG_TRACK_I, 5), (AUX_TEMP_STATE 0, 0)]).eng with eis := { spectra := [(0, ⟨0, 0, 0, 0, [(5, 100, -7, 0x20000000)]⟩)] } } }, by decide⟩,
   ⟨0, 3, { { wrk 4 [(EIS_STATUS_STATE, 0)] with eng := { (wrk 4 [(EIS_STATUS_STATE, 0)]).eng with eis := { one := some (0, 3) } } } with eng := { ({ wrk 4 [(EIS_STATUS_STATE, 0)] with eng := { (wrk 4 [(EIS_STATUS_STATE, 0)]).eng with eis := { one := some (0, 3) } } }).eng with boot := { cores := [true, true, true] } } }, by decide⟩,
   ⟨wrk 4 [(EIS_STATUS_STATE, 2)], by decide⟩,
   ⟨wrk 4 [(EIS_STATUS_STATE, 3)], by decide⟩,
   ⟨{ kind := 0, cell := 3, sched := true, wn := 0 }, { wrk 4 [(EIS_STATUS_STATE, 4)] with eng := { (wrk 4 [(EIS_STATUS_STATE, 4)]).eng with eis := { slot := some { kind := 0, cell := 3, sched := true, wn := 0 } } } }, by decide⟩,
   ⟨{ kind := 0, cell := 3, sched := true, fin := some 0 }, { wrk 4 [(EIS_STATUS_STATE, 5), (BAL_SH_STATUS_OWNER, 2)] with eng := { (wrk 4 [(EIS_STATUS_STATE, 5), (BAL_SH_STATUS_OWNER, 2)]).eng with eis := { slot := some { kind := 0, cell := 3, sched := true, fin := some 0 } } } }, by decide⟩,
   ⟨{ kind := 0, cell := 3, sched := true, fin := some 3 }, { wrk 4 [(EIS_STATUS_STATE, 0)] with eng := { (wrk 4 [(EIS_STATUS_STATE, 0)]).eng with eis := { done := some { kind := 0, cell := 3, sched := true, fin := some 3 } } } }, by decide⟩,
   ⟨.core, 0, wrk 4 [(EIS_STATUS_STATE, 0)], by decide⟩,
   ⟨mgr 4 [], by decide⟩,
   ⟨0, ⟨63, 0, 48, 1, [0], 15161540286064419669⟩, (upA { wrk 4 [(EIS_STATUS_STATE, 0), (EIS_CFG_METHOD, 1), (RING_SELF_INDEX, 3), (EIS_QUAL_RIP_AVG, 10)] with eng := { (wrk 4 [(EIS_STATUS_STATE, 0), (EIS_CFG_METHOD, 1), (RING_SELF_INDEX, 3), (EIS_QUAL_RIP_AVG, 10)]).eng with ring := { keys := [3] } } }), by decide +kernel⟩,
   ⟨wrk 4 [(EIS_STATUS_STATE, 0), (EIS_CFG_METHOD, 1)], by decide⟩,
   ⟨{ kind := 0, cell := 3, sched := true }, { wrk 4 [(EIS_STATUS_STATE, 1), (BAL_POLICY_MODE, 2)] with eng := { (wrk 4 [(EIS_STATUS_STATE, 1), (BAL_POLICY_MODE, 2)]).eng with eis := { slot := some { kind := 0, cell := 3, sched := true } } } }, by decide⟩,
   ⟨{ kind := 0, cell := 3, sched := true }, { wrk 4 [(EIS_STATUS_STATE, 1)] with eng := { (wrk 4 [(EIS_STATUS_STATE, 1)]).eng with eis := { slot := some { kind := 0, cell := 3, sched := true } } } }, by decide⟩⟩

/-- stateEstimation: each clause's conditions hold of a state. -/
theorem witness_stateEstimation :
    (∃ (s : State), s.isWrk = true ∧ s.released = true ∧ s.eng.boot.cores.getD 1 false = true ∧ s.b EST_CFG_EN = true ∧ 3 ≤ s.mode ∧ s.epoch % s.estU = 0) ∧
    (∃ (ms : Nat) (s : State), s.isWrk = true ∧ s.f EST_CFG_ISRC = 0 ∧ s.b (estFlag 6) = false ∧ 1000 ≤ ms) ∧
    (∃ (src : Src) (key : BitVec 16) (s : State), s.takes src EST_CMD (keyed key 1) = true ∧ s.isWrk = true ∧ s.eng.est.pend = none ∧ s.f EST_CKPT_SUGGEST = 0) ∧
    (∃ (src : Src) (key : BitVec 16) (a : Nat) (s : State), s.takes src EST_CMD (keyed key 1) = true ∧ s.isWrk = true ∧ s.eng.est.pend = none ∧ s.f EST_CKPT_SUGGEST = a + 1) ∧
    (∃ (src : Src) (key : BitVec 16) (s : State), s.takes src EST_CMD (keyed key 2) = true ∧ s.isWrk = true ∧ s.eng.est.pend = none ∧ s.rsCells = [] ∧ s.f EST_RS_CRC_CRC = crc32 []) ∧
    (∃ (src : Src) (key : BitVec 16) (s : State), s.takes src EST_CMD (keyed key 2) = true ∧ s.isWrk = true ∧ s.eng.est.pend = none ∧ s.rsCells = [] ∧ s.f EST_RS_CRC_CRC ≠ crc32 []) ∧
    (∃ (src : Src) (key : BitVec 16) (s : State), s.takes src EST_CMD (keyed key 3) = true ∧ s.isWrk = true ∧ s.anyUnrestored = true) ∧
    (∃ (src : Src) (key : BitVec 16) (s : State), s.takes src EST_CMD (keyed key 3) = true ∧ s.isWrk = true ∧ s.anyUnrestored = false ∧ s.b (estFlag 2) = false ∧ s.eng.recs.cur = none ∧ s.eng.recs.queue = []) ∧
    (∃ (src : Src) (key : BitVec 16) (s : State), s.takes src EST_CMD (keyed key 4) = true ∧ s.isWrk = true) ∧
    (∃ (src : Src) (key : BitVec 16) (s : State), s.takes src EST_CMD (keyed key 5) = true ∧ s.isWrk = true ∧ s.eng.est.pend = none) ∧
    (∃ (src : Src) (key : BitVec 16) (s : State), s.takes src EST_CMD (keyed key 5) = true ∧ s.isWrk = true ∧ s.eng.est.pend.isSome = true) ∧
    (∃ (poison : Bool) (j : RecJob) (s : State), s.eng.recs.cur = some j ∧ j.kind = 2 ∧ poison = true) ∧
    (∃ (poison : Bool) (err : Option Nat) (j : RecJob) (s : State), s.eng.recs.cur = some j ∧ j.kind = 2 ∧ poison = false ∧ err = none) ∧
    (∃ (s : State), s.isWrk = true ∧ s.enumerated = true ∧ later s.epoch (s.second + 10000) = false ∧ s.weldDown = false) ∧
    (∃ (port : Fin 2) (p : Pkt) (s : State), s.isMgr = true ∧ s.hears port.val 0x32 p = true ∧ p.seq ≠ 0x3F000000) ∧
    (∃ (s : State), s.isMgr = true ∧ s.epoch = s.second + 20000 ∧ s.f RING_ENUM_M = 0) ∧
    (∃ (x : Summary) (s : State), s.isMgr = true ∧ s.epoch = s.second + 20000 ∧ s.f RING_ENUM_M = 1 ∧ s.eng.est.sums = [x] ∧ x.worker = 1 ∧ later s.epoch (x.epoch + 3000000) = false ∧ x.loCell < 32 ∧ x.hiCell < 32 ∧ x.lo < 2 ^ 17 ∧ x.hi < 2 ^ 17 ∧ x.d + x.c < 2 ^ 32 ∧ x.d + x.c ≠ 0) ∧
    (∃ (s : State), s.isMgr = true ∧ s.epoch = s.second + 20000 ∧ s.f RING_ENUM_M = 1 ∧ s.eng.est.sums = [] ∧ bitOf (s.f EST_RACK_MISS_MAP) 0 = false ∧ s.heldBy pgEST < 4) :=
  ⟨⟨{ wrk 3 [(EST_CFG_EN, 1)] with eng := { (wrk 3 [(EST_CFG_EN, 1)]).eng with boot := { cores := [true, true, true] } } }, by decide⟩,
   ⟨1000, wrk 3 [], by decide⟩,
   ⟨.core, 0xE57A, wrk 3 [], by decide⟩,
   ⟨.core, 0xE57A, 0, wrk 3 [(EST_CKPT_SUGGEST, 1)], by decide⟩,
   ⟨.core, 0xE57A, wrk 3 [], by decide +kernel⟩,
   ⟨.core, 0xE57A, wrk 3 [(EST_RS_CRC_CRC, 5)], by decide +kernel⟩,
   ⟨.core, 0xE57A, wrk 3 [], by decide⟩,
   ⟨.core, 0xE57A, { wrk 3 [] with eng := { (wrk 3 []).eng with est := { cells := List.replicate 24 { unrest := false } } } }, by decide⟩,
   ⟨.core, 0xE57A, wrk 3 [], by decide⟩,
   ⟨.core, 0xE57A, wrk 3 [], by decide⟩,
   ⟨.core, 0xE57A, { wrk 3 [] with eng := { (wrk 3 []).eng with est := { pend := some (3, []) } } }, by decide⟩,
   ⟨true, ⟨2, 0, []⟩, { wrk 3 [(EST_STATUS_FLAGS, 4)] with eng := { (wrk 3 [(EST_STATUS_FLAGS, 4)]).eng with recs := { cur := some ⟨2, 0, []⟩ } } }, by decide⟩,
   ⟨false, none, ⟨2, 0, []⟩, { wrk 3 [(EST_STATUS_FLAGS, 4)] with eng := { (wrk 3 [(EST_STATUS_FLAGS, 4)]).eng with recs := { cur := some ⟨2, 0, []⟩ } } }, by decide⟩,
   ⟨(weldUp (wrk 3 [(RING_SELF_INDEX, 3)])), by decide⟩,
   ⟨0, ⟨0, 3, 50, 1, [0, 0, 0], 13018632292741126093⟩, (upA { mgr 3 [] with eng := { (mgr 3 []).eng with ring := { keys := [3] } } }), by decide +kernel⟩,
   ⟨{ mgr 3 [] with eng := { (mgr 3 []).eng with epoch := { count := 20000 } } }, by decide⟩,
   ⟨⟨1, 0, 7, 9, 5, 3, 8, 4, 0⟩, { mgr 3 [(RING_ENUM_M, 1)] with eng := { (mgr 3 [(RING_ENUM_M, 1)]).eng with est := { sums := [⟨1, 0, 7, 9, 5, 3, 8, 4, 0⟩] }, epoch := { count := 20000 } } }, by decide⟩,
   ⟨{ mgr 3 [(RING_ENUM_M, 1)] with eng := { (mgr 3 [(RING_ENUM_M, 1)]).eng with epoch := { count := 20000 } } }, by decide⟩⟩

/-- ringPortsAndBeacons: each clause's conditions hold of a state. -/
theorem witness_ringPortsAndBeacons :
    (∃ (port : Fin 2) (training : Bool) (s : State), s.released = true ∧ 3 ≤ s.mode ∧ s.b CLK_STATUS_LPLL_LOCK = true ∧ s.port port.val ≤ 1 ∧ (training = true ∨ s.beaconQuiet port.val = true)) ∧
    (∃ (port : Fin 2) (s : State), s.port port.val = 2) ∧
    (∃ (port : Fin 2) (rtt : List Nat) (turn : BitVec 16) (s : State), s.port port.val = 3 ∧ rtt.length = 256 ∧ linkDelay rtt turn.toNat < 2 ^ (RING_P_DLY_DLY port.val).wd) ∧
    (∃ (port : Fin 2) (s : State), s.port port.val = 3 ∧ s.eng.ring.alignAt.getD port.val 0 + 1000 ≤ s.now) ∧
    (∃ (port : Fin 2) (bad : Fin 65) (ns : Nat) (s : State), s.port port.val = 4 ∧ (16 ≤ bad.val ∨ 100 ≤ ns)) ∧
    (∃ (src : Src) (key : BitVec 16) (port : Fin 2) (s : State), s.takes src RING_CMD (keyed key (2 + port.val * 2 ^ RING_CMD_PORT.lo)) = true ∧ s.port port.val = 4) ∧
    (∃ (port : Fin 2) (s : State), s.port port.val = 1 ∧ s.isMgr = true) ∧
    (∃ (port : Fin 2) (bits : BitVec 56) (s : State), s.isWrk = true ∧ s.mode = 2 ∧ s.port port.val = 1 ∧ s.port (1 - port.val) = 1 ∧ crc16 (bits.toNat / 65536) 40 = bits.toNat % 65536 ∧ bits64 bits.toNat 52 4 = 0 ∧ bits64 bits.toNat 49 3 < 3) ∧
    (∃ (port : Fin 2) (link : Fin 64) (heal : Bool) (s : State), s.isWrk = true ∧ s.port port.val = 4 ∧ s.port (1 - port.val) = 4 ∧ heal = false ∧ s.eng.ring.brk.contains link.val = false) ∧
    (∃ (port : Fin 2) (link : Fin 64) (heal : Bool) (s : State), s.isWrk = true ∧ s.port port.val = 4 ∧ s.port (1 - port.val) = 4 ∧ heal = true ∧ s.eng.ring.brk.contains link.val = true) ∧
    (∃ (port : Fin 2) (k : Nat) (s : State), s.port port.val = 4 ∧ s.linkAt port.val = some k ∧ s.isWrk = true ∧ s.port (1 - port.val) = 4 ∧ s.eng.ring.upAt.getD port.val 0 + 100000 ≤ s.now ∧ s.eng.ring.brk.contains k = true) ∧
    (∃ (s : State), s.isWrk = true ∧ s.enumerated = true ∧ s.eng.ring.armDue = true ∧ brokenA s.eng.ring.brk (s.f RING_SELF_POS) = true ∧ brokenB s.eng.ring.brk (s.f RING_SELF_POS) = false ∧ s.f RING_SELF_ARM = 0) ∧
    (∃ (hdr : Fin 4), hdr ≠ 1 ∧ hdr ≠ 2) ∧
    (∃ (port : Fin 2) (hdr : Fin 4) (w : BitVec 64) (s : State), hdr = 2 ∧ w.toNat % 256 ∉ [0x1E, 0x2D, 0x33, 0x4B, 0x66, 0x78] ∧ (w.toNat % 256 < 0xC1 ∨ 0xE0 < w.toNat % 256) ∧ s.eng.ring.inPkt.getD port.val 0 = 0) ∧
    (∃ (port : Fin 2) (hdr : Fin 4) (w : BitVec 64) (s : State), hdr = 2 ∧ (w.toNat % 256 = 0x66 ∨ w.toNat % 256 = 0x78) ∧ s.eng.ring.inPkt.length = 2 ∧ s.eng.ring.inPkt.getD port.val 0 ≠ 0) ∧
    (∃ (hdr : Fin 4) (w : BitVec 64), hdr = 2 ∧ (w.toNat % 256 = 0x1E ∨ w.toNat % 256 = 0x33)) :=
  ⟨⟨0, false, mgr 3 [(CLK_STATUS_LPLL_LOCK, 1)], by decide⟩,
   ⟨0, mgr 3 [(RING_P_STATUS_STATE 0, 2)], by decide⟩,
   ⟨0, List.replicate 256 1000, 100, mgr 3 [(RING_P_STATUS_STATE 0, 3)], by decide +kernel⟩,
   ⟨0, { mgr 3 [(RING_P_STATUS_STATE 0, 3)] with now := 1000 }, by decide⟩,
   ⟨0, 16, 0, mgr 3 [(RING_P_STATUS_STATE 0, 4)], by decide⟩,
   ⟨.core, 0x7E11, 0, mgr 3 [(RING_P_STATUS_STATE 0, 4)], by decide⟩,
   ⟨0, mgr 2 [(RING_P_STATUS_STATE 0, 1)], by decide⟩,
   ⟨0, BitVec.ofNat 56 (beaconBits 0 2 true 1000), wrk 2 [(RING_P_STATUS_STATE 0, 1), (RING_P_STATUS_STATE 1, 1)], by decide +kernel⟩,
   ⟨0, 3, false, wrk 3 [(RING_P_STATUS_STATE 0, 4), (RING_P_STATUS_STATE 1, 4)], by decide⟩,
   ⟨0, 3, true, { wrk 3 [(RING_P_STATUS_STATE 0, 4), (RING_P_STATUS_STATE 1, 4)] with eng := { (wrk 3 [(RING_P_STATUS_STATE 0, 4), (RING_P_STATUS_STATE 1, 4)]).eng with ring := { brk := [3] } } }, by decide⟩,
   ⟨1, 3, { { wrk 3 [(RING_P_STATUS_STATE 0, 4), (RING_P_STATUS_STATE 1, 4), (RING_SELF_POS, 4)] with eng := { (wrk 3 [(RING_P_STATUS_STATE 0, 4), (RING_P_STATUS_STATE 1, 4), (RING_SELF_POS, 4)]).eng with ring := { brk := [3] } } } with now := 100000 }, by decide⟩,
   ⟨{ wrk 3 [(RING_SELF_INDEX, 4), (RING_SELF_POS, 4)] with eng := { (wrk 3 [(RING_SELF_INDEX, 4), (RING_SELF_POS, 4)]).eng with ring := { brk := [1], armDue := true } } }, by decide⟩,
   ⟨0, by decide⟩,
   ⟨0, 2, 0, mgr 3 [], by decide⟩,
   ⟨0, 2, 0x66, { mgr 3 [] with eng := { (mgr 3 []).eng with ring := { inPkt := [3, 0] } } }, by decide⟩,
   ⟨2, 0x1E, by decide⟩⟩

/-- ringEnumerationAndKeys: each clause's conditions hold of a state. -/
theorem witness_ringEnumerationAndKeys :
    (∃ (src : Src) (key : BitVec 16) (s : State), s.takes src RING_CMD (keyed key 1) = true ∧ s.accepts 8 = true ∧ s.isMgr = true ∧ s.port 0 = 4 ∧ s.port 1 = 4) ∧
    (∃ (src : Src) (key : BitVec 16) (s : State), s.takes src RING_CMD (keyed key 1) = true ∧ s.accepts 8 = true ∧ s.isMgr = true ∧ s.port 0 ≠ 4 ∧ s.port 1 ≠ 4) ∧
    (∃ (s : State), s.isMgr = true ∧ s.eng.ring.autoDue = true ∧ s.eng.ring.upAt.getD 0 0 + 100000 ≤ s.now ∧ s.b RING_CFG_AUTO_ENUM = true ∧ s.accepts 8 = true ∧ s.port 0 = 4 ∧ s.port 1 ≠ 4 ∧ s.weldDown = false) ∧
    (∃ (port : Fin 2) (fin : Bool) (s : State), s.isWrk = true ∧ s.port port.val = 4 ∧ fin = false) ∧
    (∃ (port : Fin 2) (fin : Bool) (origin : Fin 2) (s : State), s.isMgr = true ∧ s.port port.val = 4 ∧ s.eng.ring.enumOut = 2 ∧ s.f RING_ENUM_M = 0 ∧ (fin = true ∨ port = origin)) ∧
    (∃ (port : Fin 2) (count : Fin 64) (fin : Bool) (origin : Fin 2) (s : State), s.isMgr = true ∧ s.port port.val = 4 ∧ s.eng.ring.enumOut ≠ 0 ∧ s.f RING_ENUM_M = 0 ∧ fin = false ∧ port ≠ origin ∧ 32 < count.val) ∧
    (∃ (port : Fin 2) (p : Pkt) (s : State), s.isWrk = true ∧ s.port port.val = 4 ∧ p.kind = 0x01 ∧ p.dst = 0x3E ∧ s.setMine (pw p 0) (pw p 2) = true ∧ pw p 0 < 64 ∧ pw p 1 < 2) ∧
    (∃ (port : Fin 2) (p : Pkt) (s : State), s.isWrk = true ∧ s.port port.val = 4 ∧ p.kind = 0x01 ∧ p.dst = 0x3E ∧ s.port (1 - port.val) = 4 ∧ s.setMine (pw p 0) (pw p 2) = false) ∧
    (∃ (s : State), s.isMgr = true ∧ s.eng.ring.enumOut ≠ 0 ∧ s.f RING_ENUM_M ≠ 0) ∧
    (∃ (port : Fin 2) (p : Pkt) (s : State), s.hears port.val 0x05 p = true ∧ s.isWrk = true) ∧
    (∃ (e : Nat) (arm : Nat) (dec : Nat) (lost : Bool) (s : State), s.eng.ring.arms = some (e, arm, dec, lost) ∧ later e s.epoch = false ∧ arm < 2 ∧ dec < 4) ∧
    (∃ (port : Fin 2) (p : Pkt) (uid : BitVec 64) (s : State), s.isWrk = true ∧ s.f RING_SELF_INDEX ≠ 0 ∧ p.dst = s.f RING_SELF_INDEX ∧ s.port port.val = 4 ∧ s.b SEC_RNG_OK = true ∧ s.helloOk p (Sha.lowBytes 8 uid.toNat) = true ∧ p.kind = 0x02 ∧ bits64 (pw p 0) 56 8 = 1) ∧
    (∃ (port : Fin 2) (p : Pkt) (uid : BitVec 64) (s : State), s.isWrk = true ∧ s.port port.val = 4 ∧ s.f RING_SELF_INDEX ≠ 0 ∧ p.dst = s.f RING_SELF_INDEX ∧ s.helloOk p (Sha.lowBytes 8 uid.toNat) = false ∧ p.kind = 0x02 ∧ bits64 (pw p 0) 56 8 = 1) ∧
    (∃ (port : Fin 2) (p : Pkt) (uid : BitVec 64) (x : KeySetup) (ks : Nat) (s : State), s.isMgr = true ∧ s.port port.val = 4 ∧ p.dst = 0 ∧ s.portTo p.src < 2 ∧ s.port (s.portTo p.src) = 4 ∧ s.eng.sec.setups = [x] ∧ x.w = p.src ∧ x.await = 2 ∧ x.gen = bits64 (pw p 0) 48 8 ∧ s.helloOk p (Sha.lowBytes 8 uid.toNat) = true ∧ sessionKey x.d x.gen p s.uidBytes (Sha.lowBytes 8 uid.toNat) = some ks ∧ s.eng.rack.readmit = none ∧ s.weldDown = false ∧ p.kind = 0x02 ∧ bits64 (pw p 0) 56 8 = 2) ∧
    (∃ (port : Fin 2) (p : Pkt) (x : KeySetup) (s : State), s.isWrk = true ∧ s.port port.val = 4 ∧ s.f RING_SELF_INDEX ≠ 0 ∧ p.dst = s.f RING_SELF_INDEX ∧ s.eng.sec.setups = [x] ∧ x.await = 3 ∧ x.gen = bits64 (pw p 0) 48 8 ∧ pw p 3 = tagOf x.ks (blockBytes (p.data.take 3)) ∧ p.kind = 0x02 ∧ bits64 (pw p 0) 56 8 = 3) ∧
    (∃ (port : Fin 2) (p : Pkt) (x : KeySetup) (s : State), s.isMgr = true ∧ s.port port.val = 4 ∧ p.dst = 0 ∧ s.eng.sec.setups = [x] ∧ x.w = p.src ∧ x.await = 4 ∧ x.gen = bits64 (pw p 0) 48 8 ∧ pw p 1 = tagOf x.ks (blockBytes (p.data.take 1)) ∧ s.eng.rack.readmit = none ∧ p.kind = 0x02 ∧ bits64 (pw p 0) 56 8 = 4) ∧
    (∃ (worker : Fin 33) (x : KeySetup) (s : State), s.isMgr = true ∧ s.eng.sec.setups = [x] ∧ x.w = worker.val ∧ x.late s.now = true ∧ x.tries < 3 ∧ s.b SEC_RNG_OK = false) ∧
    (∃ (worker : Fin 33) (x : KeySetup) (s : State), s.isMgr = true ∧ s.eng.sec.setups = [x] ∧ x.w = worker.val ∧ x.late s.now = true ∧ 3 ≤ x.tries ∧ s.f RING_ENUM_RESULT = 0 ∧ s.f RING_ENUM_M = 0) :=
  ⟨⟨.core, 0x7E11, mgr 3 [(RING_P_STATUS_STATE 0, 4), (RING_P_STATUS_STATE 1, 4)], by decide⟩,
   ⟨.core, 0x7E11, mgr 3 [], by decide⟩,
   ⟨(weldUp { { mgr 3 [(RING_P_STATUS_STATE 0, 4), (RING_CFG_AUTO_ENUM, 1)] with eng := { (mgr 3 [(RING_P_STATUS_STATE 0, 4), (RING_CFG_AUTO_ENUM, 1)]).eng with ring := { autoDue := true } } } with now := 100000 }), by decide⟩,
   ⟨0, false, wrk 3 [(RING_P_STATUS_STATE 0, 4)], by decide⟩,
   ⟨0, false, 0, { mgr 3 [(RING_P_STATUS_STATE 0, 4)] with eng := { (mgr 3 [(RING_P_STATUS_STATE 0, 4)]).eng with ring := { enumOut := 2 } } }, by decide⟩,
   ⟨1, 40, false, 0, { mgr 3 [(RING_P_STATUS_STATE 1, 4)] with eng := { (mgr 3 [(RING_P_STATUS_STATE 1, 4)]).eng with ring := { enumOut := 2 } } }, by decide⟩,
   ⟨0, ⟨0x3E, 0, 1, 0, [3, 0, 5], 0⟩, { wrk 3 [(RING_P_STATUS_STATE 0, 4)] with eng := { (wrk 3 [(RING_P_STATUS_STATE 0, 4)]).eng with ring := { enumCount := 3, enumPort := 1 } } }, by decide⟩,
   ⟨0, ⟨0x3E, 0, 1, 0, [4, 0, 5], 0⟩, { wrk 3 [(RING_P_STATUS_STATE 0, 4), (RING_P_STATUS_STATE 1, 4)] with eng := { (wrk 3 [(RING_P_STATUS_STATE 0, 4), (RING_P_STATUS_STATE 1, 4)]).eng with ring := { enumCount := 3, enumPort := 1 } } }, by decide⟩,
   ⟨{ mgr 3 [(RING_ENUM_M, 2)] with eng := { (mgr 3 [(RING_ENUM_M, 2)]).eng with ring := { enumOut := 1, keys := [1, 2] } } }, by decide⟩,
   ⟨0, ⟨63, 0, 5, 1, [65536, 4, 0], 1213604842799925465⟩, (upA { wrk 3 [(RING_SELF_INDEX, 3)] with eng := { (wrk 3 [(RING_SELF_INDEX, 3)]).eng with ring := { keys := [3] } } }), by decide +kernel⟩,
   ⟨64, 1, 2, false, { wrk 3 [] with eng := { (wrk 3 []).eng with ring := { arms := some (64, 1, 2, false) }, epoch := { count := 64 } } }, by decide⟩,
   ⟨0, ⟨3, 0, 2, 0, [73464968921481216, 5134715874108839787, 17456132904653864184, 11543828850559222647, 10863413305812820468, 11204704079941133135, 1629757141662033806, 14870377356718231083, 17677120257099085515, 8950870529251350686, 5182070629002730443, 15189818381960552829, 3130650364153697412], 0⟩, 0, wrk 3 [(RING_SELF_INDEX, 3), (SEC_RNG_OK, 1), (RING_P_STATUS_STATE 0, 4)], by decide +kernel⟩,
   ⟨0, ⟨3, 0, 2, 0, [1 * 2 ^ 56 + 5 * 2 ^ 48], 0⟩, 0, wrk 3 [(RING_SELF_INDEX, 3), (RING_P_STATUS_STATE 0, 4)], by decide +kernel⟩,
   ⟨0, ⟨0, 3, 2, 0, [145522562959409152, 5134715874108839787, 17456132904653864184, 11543828850559222647, 10863413305812820468, 11204704079941133135, 1629757141662033806, 14870377356718231083, 17677120257099085515, 9134957267982846485, 12104618381254761720, 9880247355825549970, 5721010561417507697], 0⟩, 0, ⟨3, 2, 1, 5, 1, 0, 0⟩, 198919596191318490283610399033529277100, (weldUp { mgr 3 [(RING_P_STATUS_STATE 0, 4)] with eng := { (mgr 3 [(RING_P_STATUS_STATE 0, 4)]).eng with sec := { setups := [⟨3, 2, 1, 5, 1, 0, 0⟩] } } }), by decide +kernel⟩,
   ⟨0, ⟨3, 0, 2, 0, [217580156997337088, 0, 0, 9982297733389226422], 0⟩, ⟨0, 3, 1, 5, 1, 0, 0⟩, { wrk 3 [(RING_SELF_INDEX, 3), (RING_P_STATUS_STATE 0, 4)] with eng := { (wrk 3 [(RING_SELF_INDEX, 3), (RING_P_STATUS_STATE 0, 4)]).eng with sec := { setups := [⟨0, 3, 1, 5, 1, 0, 0⟩] } } }, by decide +kernel⟩,
   ⟨0, ⟨0, 3, 2, 0, [289637751035265024, 15371561501171498146], 0⟩, ⟨3, 4, 1, 5, 1, 0, 0⟩, { mgr 3 [(RING_P_STATUS_STATE 0, 4)] with eng := { (mgr 3 [(RING_P_STATUS_STATE 0, 4)]).eng with sec := { setups := [⟨3, 4, 1, 5, 1, 0, 0⟩] } } }, by decide +kernel⟩,
   ⟨3, ⟨3, 2, 1, 5, 1, 0, 0⟩, { { mgr 3 [] with eng := { (mgr 3 []).eng with sec := { setups := [⟨3, 2, 1, 5, 1, 0, 0⟩] } } } with now := 20000 }, by decide⟩,
   ⟨3, ⟨3, 2, 3, 5, 1, 0, 0⟩, { { mgr 3 [] with eng := { (mgr 3 []).eng with sec := { setups := [⟨3, 2, 3, 5, 1, 0, 0⟩] } } } with now := 20000 }, by decide⟩⟩

/-- streamFramesAndRackPackets: each clause's conditions hold of a state. -/
theorem witness_streamFramesAndRackPackets :
    (∃ (port : Fin 2) (worker : Fin 64) (e14 : BitVec 14) (flags : BitVec 10) (samples : List Nat) (crc : BitVec 32) (s : State), s.isMgr = true ∧ s.port port.val = 4 ∧ frameCrc ⟨rebuildEpoch s.epoch e14.toNat, worker.val, flags.toNat, samples⟩ ≠ crc.toNat ∧ samples.length = 32) ∧
    (∃ (port : Fin 2) (worker : Fin 64) (e14 : BitVec 14) (flags : BitVec 10) (samples : List Nat) (crc : BitVec 32) (s : State), s.isMgr = true ∧ s.port port.val = 4 ∧ port = 0 ∧ frameCrc ⟨rebuildEpoch s.epoch e14.toNat, worker.val, flags.toNat, samples⟩ = crc.toNat ∧ 1 ≤ worker.val ∧ worker.val ≤ 32 ∧ bitOf (s.f RING_MAP_A_MAP) (worker.val - 1) = true ∧ samples.length = 32) ∧
    (∃ (p : Pkt) (rest : List Pkt) (s : State), s.isWrk = true ∧ s.portUp s.outPort = true ∧ s.eng.ring.ctl = p :: rest) ∧
    (∃ (f : Frame) (rest : List Frame) (s : State), s.isWrk = true ∧ s.portUp s.outPort = true ∧ s.eng.ring.ctl = [] ∧ s.eng.ring.own = f :: rest ∧ later (f.epoch + 4096) s.epoch = true) ∧
    (∃ (f : Frame) (rest : List Frame) (s : State), s.eng.ring.own = f :: rest ∧ later (f.epoch + 4096) s.epoch = false) ∧
    (∃ (worker : Fin 33) (e : BitVec 48) (s : State), s.isMgr = true ∧ s.liveAt worker.val e.toNat = true ∧ s.expects worker.val e.toNat = true ∧ later (e.toNat + 4200) s.epoch = false ∧ later (e.toNat + 8000) s.epoch = true ∧ (s.eng.ring.rx.any fun x => x.1 == worker.val && x.2.1 == e.toNat) = false ∧ s.eng.ring.missed.contains (worker.val, e.toNat) = false) ∧
    (∃ (port : Fin 2) (s : State), s.isWrk = true ∧ s.port port.val = 4 ∧ s.port (1 - port.val) = 4) ∧
    (∃ (port : Fin 2) (p : Pkt) (s : State), s.isWrk = true ∧ s.hears port.val 0x31 p = true) ∧
    (∃ (s : State), s.isWrk = true ∧ s.enumerated = true ∧ s.epoch % 1000 = 0) ∧
    (∃ (port : Fin 2) (p : Pkt) (s : State), s.isMgr = true ∧ s.hears port.val 0x34 p = true ∧ p.seq ≠ 0x3F000000 ∧ ((s.eng.ring.rx.filter fun x => x.1 == p.src && bits64 (pw p 0) 16 48 ≤ x.2.1 + 1000 && x.2.1 < bits64 (pw p 0) 16 48).map Prod.snd).length = pw p 1 ∧ digestOf (s.keyWith p.src) ((s.eng.ring.rx.filter fun x => x.1 == p.src && bits64 (pw p 0) 16 48 ≤ x.2.1 + 1000 && x.2.1 < bits64 (pw p 0) 16 48).map Prod.snd) = pw p 2) :=
  ⟨⟨0, 0, 0, 0, List.replicate 32 0, 0, mgr 3 [(RING_P_STATUS_STATE 0, 4)], by decide +kernel⟩,
   ⟨0, 3, 0, 0, List.replicate 32 0, 3065783413, mgr 3 [(RING_P_STATUS_STATE 0, 4), (RING_MAP_A_MAP, 4)], by decide +kernel⟩,
   ⟨pkt0, [], { wrk 3 [(RING_P_STATUS_STATE 1, 4)] with eng := { (wrk 3 [(RING_P_STATUS_STATE 1, 4)]).eng with ring := { ctl := [pkt0] } } }, by decide⟩,
   ⟨frame0, [], { wrk 3 [(RING_P_STATUS_STATE 1, 4)] with eng := { (wrk 3 [(RING_P_STATUS_STATE 1, 4)]).eng with ring := { own := [frame0] } } }, by decide⟩,
   ⟨frame0, [], { wrk 3 [] with eng := { (wrk 3 []).eng with ring := { own := [frame0] }, epoch := { count := 5000 } } }, by decide⟩,
   ⟨3, 0, { mgr 3 [(RING_ENUM_M, 3), (ROSTER_W_INFO_P 3, 1)] with eng := { (mgr 3 [(RING_ENUM_M, 3), (ROSTER_W_INFO_P 3, 1)]).eng with ring := { keys := [3], decs := [(0, 0, 0, 0)], losts := [(0, 0)] }, epoch := { count := 4200 } } }, by decide⟩,
   ⟨0, wrk 3 [(RING_P_STATUS_STATE 0, 4), (RING_P_STATUS_STATE 1, 4)], by decide⟩,
   ⟨0, ⟨63, 0, 49, 1, [65536, 4294966296], 3114865458442626733⟩, (upA { wrk 3 [(RING_SELF_INDEX, 3)] with eng := { (wrk 3 [(RING_SELF_INDEX, 3)]).eng with ring := { keys := [3] } } }), by decide +kernel⟩,
   ⟨wrk 3 [(RING_SELF_INDEX, 3)], by decide⟩,
   ⟨0, ⟨0, 3, 52, 1, [0, 0, 1693053595135608643], 10160723136844008990⟩, (upA { mgr 3 [] with eng := { (mgr 3 []).eng with ring := { keys := [3] } } }), by decide +kernel⟩⟩

/-- registerBusWrites: each clause's conditions hold of a state. -/
theorem witness_registerBusWrites :
    (∃ (src : Src) (a : BitVec 18) (w : Word) (s : State), s.takes src a.toNat w = true ∧ [some Acc.rw, some Acc.rwl, some Acc.rwMgr].contains ((rowAt a.toNat).map fun r => r.acc) = true ∧ [0x01C, 0x028].contains (offOf a.toNat) = false ∧ pageOf a.toNat ≠ pgMODE ∧ ([CLK_LF_CFG, CLK_STEER, REG_BK_VSET 3, REG_LD_VSET 3, SV_CFG 0, PHC_RAIL_VSET 0, CHG_PACK, CHG_VREG, AFE_CFG, AFE_TMUX, AFE_CAL_U 0, SCAN_REQ_CFG, BAL_SH_I, BAL_BLEED, EIS_VIEW, ARC_CTRL, ISO_CTRL, GPIO_OUT, GPIO_CFG 0, ICU_SWI, ICU_T_MOD 3, ICU_LINE 0, WDG_CFG 0, RTC_ALARM, RTC_ALM_CFG, RTC_PWRON] : List Nat).contains (canon a.toNat) = false ∧ ([RTC_TRIM, MODE_ATT_PER, MODE_CFG, MEM_CFG, THM_CFG, THM_THR, WDG_TM_CFG, FLT_CFG, BAL_PASS_CFG, FEED_QUAL, CONT_SENSE, ICU_GROUP, ICU_CFG] : List Nat).contains a.toNat = false) ∧
    (∃ (src : Src) (a : BitVec 18) (w : Word) (s : State), s.takes src a.toNat w = true ∧ [some Acc.rw, some Acc.rwl, some Acc.rwMgr].contains ((rowAt a.toNat).map fun r => r.acc) = true ∧ ([RTC_TRIM, MODE_ATT_PER, MODE_CFG, MEM_CFG, THM_CFG, THM_THR, WDG_TM_CFG, FLT_CFG, BAL_PASS_CFG, FEED_QUAL, CONT_SENSE, ICU_GROUP, ICU_CFG] : List Nat).contains a.toNat = true) ∧
    (∃ (src : Src) (a : BitVec 18) (w : Word) (s : State), s.takes src a.toNat w = true ∧ ((rowAt a.toNat).map fun r => r.acc) = some .w1c ∧ ([FLT_PEND, SEQ_FIRST, SUP_FIRST, PHC_FIRST, FLT_FIRST_INFO] : List Nat).contains a.toNat = false) ∧
    (∃ (src : Src) (a : BitVec 18) (w : Word) (o : Outc) (s : State), s.served src = true ∧ mapped a.toNat = true ∧ s.deniedTo src (s.levelNeed a.toNat w) = false ∧ s.watchShut src a.toNat = false ∧ s.inert a.toNat = false ∧ s.writeFault src a.toNat w = some o) ∧
    (∃ (src : Src) (a : BitVec 18) (s : State), s.served src = true ∧ mapped a.toNat = false) ∧
    (∃ (src : Src) (a : BitVec 18) (w : Word) (s : State), s.served src = true ∧ mapped a.toNat = true ∧ s.deniedTo src (s.levelNeed a.toNat w) = true) ∧
    (∃ (src : Src) (page : Fin 40) (w : Word) (s : State), s.takes src (hdrShadow page.val) w = true ∧ hasShd page.val = true ∧ getBits w 0 2 = 1 ∧ bitOf w.toNat 2 = true ∧ s.b (shadowFrozen page.val) = false) ∧
    (∃ (src : Src) (page : Fin 40) (w : Word) (s : State), s.takes src (hdrShadow page.val) w = true ∧ hasShd page.val = true ∧ (getBits w 0 2 = 3 ∨ s.b (shadowFrozen page.val) = true ∨ bitOf w.toNat 2 = false)) ∧
    (∃ (src : Src) (page : Fin 40) (key : BitVec 16) (lock : Bool) (s : State), s.takes src (page.val * 0x1000 + 0x018) (keyed key (b2n lock)) = true) ∧
    (∃ (src : Src) (page : Fin 40) (key : BitVec 16) (s : State), s.served src = true ∧ s.deniedTo src 1 = false ∧ s.watchShut src (page.val * 0x1000 + 0x018) = false ∧ s.inert (page.val * 0x1000 + 0x018) = false ∧ ((rowAt (page.val * 0x1000 + 0x018)).map fun r => r.acc) = some .wk ∧ key ≠ 0x1F0C) ∧
    (∃ (src : Src) (a : BitVec 18) (w : Word) (s : State), s.takes src a.toNat w = true ∧ ((rowAt a.toNat).map fun r => r.acc) = some .stg ∧ pageOf a.toNat ≠ pgBAL) ∧
    (∃ (src : Src) (page : Fin 40) (view : Bool) (s : State), s.takes src (hdrStage page.val) (BitVec.ofNat 32 (8 + b2n view)) = true ∧ hasStg page.val = true ∧ s.b (stageHeld page.val) = false) ∧
    (∃ (src : Src) (page : Fin 40) (view : Bool) (s : State), s.served src = true ∧ s.deniedTo src (s.levelNeed (hdrStage page.val) (BitVec.ofNat 32 (8 + b2n view))) = false ∧ s.watchShut src (hdrStage page.val) = false ∧ s.inert (hdrStage page.val) = false ∧ hasStg page.val = true ∧ s.b (stageHeld page.val) = true) ∧
    (∃ (src : Src) (page : Fin 40) (view : Bool) (s : State), s.takes src (hdrStage page.val) (BitVec.ofNat 32 (b2n view)) = true ∧ hasStg page.val = true) :=
  ⟨⟨.core, 0x10044, 0, mgr 3 [], by decide⟩,
   ⟨.core, BitVec.ofNat 18 MODE_CFG, 0, mgr 3 [(SEC_POLICY_WRITE_MIN, 0)], by decide⟩,
   ⟨.core, 0x0B00C, 0, mgr 3 [(SEC_POLICY_WRITE_MIN, 0)], by decide⟩,
   ⟨.core, 0x00040, 0, .roWrite, mgr 3 [], by decide⟩,
   ⟨.core, 0x28000, mgr 3 [], by decide⟩,
   ⟨(.ring 0), 0x01018, 0, mgr 3 [], by decide⟩,
   ⟨.core, 0x1A, 5, mgr 3 [], by decide⟩,
   ⟨.core, 0x1A, 1, mgr 3 [], by decide⟩,
   ⟨.core, 7, 0x1F0C, true, mgr 3 [], by decide⟩,
   ⟨.core, 7, 0, mgr 3 [], by decide⟩,
   ⟨.core, 0x1A044, 0, mgr 3 [], by decide⟩,
   ⟨.core, 0x1A, false, mgr 3 [], by decide⟩,
   ⟨.core, 0x1A, false, unit 2 3 [(stageHeld 0x1A, 1)], by decide⟩,
   ⟨.core, 0x1A, true, mgr 3 [], by decide⟩⟩

/-- modeRequests: each clause's conditions hold of a state. -/
theorem witness_modeRequests :
    (∃ (src : Src) (tg : Fin 5) (s : State), s.takes src MODE_REQ (BitVec.ofNat 32 tg.val) = true ∧ s.accepts 0 = true) ∧
    (∃ (src : Src) (tg : Fin 5) (s : State), s.takes src MODE_REQ (BitVec.ofNat 32 tg.val) = true ∧ s.accepts 0 = true ∧ s.released = true ∧ s.isMgr = true ∧ s.inTransition = false ∧ s.mode < max tg.val s.floorLocal ∧ s.mode ≤ 4 ∧ max tg.val s.floorLocal ≥ 3) ∧
    (∃ (src : Src) (tg : Fin 5) (s : State), s.takes src MODE_REQ (BitVec.ofNat 32 tg.val) = true ∧ s.accepts 0 = false ∧ s.judgedMode < 8) ∧
    (∃ (src : Src) (s : State), s.takes src MODE_REQ 5 = true ∧ s.accepts 0 = true ∧ s.contOpenNow = true) ∧
    (∃ (src : Src) (s : State), s.takes src MODE_REQ 5 = true ∧ s.accepts 0 = true ∧ s.contOpenNow = true ∧ s.released = true ∧ s.inTransition = false ∧ (s.mode = 3 ∨ s.mode = 4)) ∧
    (∃ (src : Src) (s : State), s.takes src MODE_REQ 5 = true ∧ s.accepts 0 = true ∧ s.contOpenNow = false ∧ s.judgedMode < 8) ∧
    (∃ (src : Src) (s : State), s.takes src MODE_REQ 6 = true ∧ s.mode ≠ 7 ∧ s.heldBy pgMODE < 4) ∧
    (∃ (src : Src) (s : State), s.takes src MODE_REQ 7 = true ∧ s.accepts 0 = true) ∧
    (∃ (src : Src) (s : State), s.takes src MODE_REQ 15 = true ∧ s.accepts 0 = true) ∧
    (∃ (src : Src) (n : Fin 8) (w : Word) (s : State), s.takes src (MODE_LTOL n.val) w = true) ∧
    (∃ (src : Src) (w : Word) (s : State), s.takes src MODE_ATT_PER w = true) ∧
    (∃ (src : Src) (w : Word) (s : State), s.takes src MODE_DORM_PER w = true) ∧
    (∃ (src : Src) (w : Word) (s : State), s.takes src MODE_CFG w = true) ∧
    (∃ (src : Src) (w : Word) (s : State), s.takes src MODE_IDLE_I w = true) ∧
    (∃ (src : Src) (w : Word) (s : State), s.served src = true ∧ s.deniedTo src (s.levelNeed MODE_IDLE_I w) = false ∧ s.isMgr = false) :=
  ⟨⟨.core, 4, mgr 3 [], by decide⟩,
   ⟨.core, 4, mgr 3 [], by decide⟩,
   ⟨.core, 4, mgr 6 [], by decide⟩,
   ⟨.core, mgr 3 [], by decide⟩,
   ⟨.core, mgr 3 [], by decide⟩,
   ⟨.core, mgr 3 [(CONT_STATUS_CMD, 1)], by decide⟩,
   ⟨.core, mgr 3 [], by decide⟩,
   ⟨.core, mgr 3 [], by decide⟩,
   ⟨.core, mgr 3 [(MODE_REQ_TARGET, 4)], by decide⟩,
   ⟨.core, 3, 700, mgr 3 [], by decide⟩,
   ⟨.core, 5, mgr 3 [], by decide⟩,
   ⟨.core, 100000, mgr 3 [], by decide⟩,
   ⟨.core, 0x00640001, mgr 3 [], by decide⟩,
   ⟨.core, 400, mgr 3 [], by decide⟩,
   ⟨.core, 0, wrk 3 [], by decide⟩⟩

/-- modeTransitions: each clause's conditions hold of a state. -/
theorem witness_modeTransitions :
    (∃ (s : State), s.b MODE_STATUS_ASCENDING = true ∧ (s.mode = 2 ∨ s.mode = 3 ∨ s.mode = 4) ∧ s.mode < s.f MODE_STATUS_ENTERING ∧ s.eng.mode.aborted = false ∧ s.eng.mode.check = 0) ∧
    (∃ (s : State), s.b MODE_STATUS_ASCENDING = true ∧ s.mode = 1 ∧ s.b CLK_STATUS_MPLL_LOCK = true ∧ s.eng.mode.aborted = false ∧ s.eng.mode.check = 1) ∧
    (∃ (s : State), s.b MODE_STATUS_ASCENDING = true ∧ s.mode = 1 ∧ s.b CLK_STATUS_MPLL_LOCK = false) ∧
    (∃ (s : State), s.released = true ∧ s.mode ≤ 4 ∧ s.inTransition = false ∧ s.target < s.mode ∧ 2 ≤ s.target) ∧
    (∃ (s : State), s.b MODE_STATUS_DESCENDING = true ∧ (s.mode = 3 ∨ s.mode = 4) ∧ s.f MODE_STATUS_ENTERING < s.mode ∧ 2 ≤ s.f MODE_STATUS_ENTERING ∧ s.eng.mode.check = 0) ∧
    (∃ (s : State), s.b MODE_STATUS_DESCENDING = true ∧ s.f MODE_STATUS_ENTERING = 1 ∧ s.eng.mode.check = 3) ∧
    (∃ (s : State), s.b MODE_CFG_WAKE_EN = true ∧ 1 ≤ s.mode ∧ s.mode ≤ 4) ∧
    (∃ (s : State), s.isWrk = true ∧ s.mode = 0 ∧ s.released = true ∧ s.inTransition = false) ∧
    (∃ (s : State), s.isMgr = true ∧ s.reg (MODE_EVT_RAW + 8) = 0) ∧
    (∃ (s : State), s.mode = 1 ∧ s.inTransition = false) ∧
    (∃ (hit : Bool) (s : State), s.mode = 3 ∧ s.eng.mode.check = 2 ∧ hit = false ∧ s.f CELL_OV_MAP_MAP = 0 ∧ s.f CELL_UV_MAP_MAP = 0 ∧ s.f AUX_T_MAP_OT = 0 ∧ s.f AUX_T_MAP_UT = 0 ∧ s.target ≤ 1 ∧ s.isMgr = true) ∧
    (∃ (hit : Bool) (s : State), s.mode = 3 ∧ s.eng.mode.check = 2 ∧ hit = false ∧ s.f CELL_OV_MAP_MAP = 0 ∧ s.f CELL_UV_MAP_MAP = 0 ∧ s.f AUX_T_MAP_OT = 0 ∧ s.f AUX_T_MAP_UT = 0 ∧ s.target ≤ 1 ∧ s.isWrk = true) ∧
    (∃ (hit : Bool) (s : State), s.mode = 3 ∧ s.eng.mode.check = 2 ∧ hit = true ∧ s.inTransition = false) :=
  ⟨⟨mgr 3 [(MODE_STATUS_ASCENDING, 1), (MODE_STATUS_ENTERING, 4)], by decide⟩,
   ⟨{ mgr 1 [(MODE_STATUS_ASCENDING, 1), (MODE_STATUS_ENTERING, 3), (CLK_STATUS_MPLL_LOCK, 1)] with eng := { (mgr 1 [(MODE_STATUS_ASCENDING, 1), (MODE_STATUS_ENTERING, 3), (CLK_STATUS_MPLL_LOCK, 1)]).eng with mode := { check := 1 } } }, by decide⟩,
   ⟨mgr 1 [(MODE_STATUS_ASCENDING, 1), (MODE_STATUS_ENTERING, 3)], by decide⟩,
   ⟨mgr 4 [(MODE_REQ_TARGET, 2)], by decide⟩,
   ⟨mgr 4 [(MODE_STATUS_DESCENDING, 1), (MODE_STATUS_ENTERING, 2)], by decide⟩,
   ⟨{ mgr 3 [(MODE_STATUS_DESCENDING, 1), (MODE_STATUS_ENTERING, 1)] with eng := { (mgr 3 [(MODE_STATUS_DESCENDING, 1), (MODE_STATUS_ENTERING, 1)]).eng with mode := { check := 3 } } }, by decide⟩,
   ⟨mgr 2 [(MODE_CFG_WAKE_EN, 1)], by decide⟩,
   ⟨wrk 0 [], by decide⟩,
   ⟨{ mgr 3 [] with eng := { (mgr 3 []).eng with mode := { wakeHold := true } } }, by decide⟩,
   ⟨mgr 1 [], by decide⟩,
   ⟨false, { mgr 3 [(MODE_REQ_TARGET, 1)] with eng := { (mgr 3 [(MODE_REQ_TARGET, 1)]).eng with mode := { check := 2 } } }, by decide⟩,
   ⟨false, { wrk 3 [(MODE_REQ_TARGET, 1)] with eng := { (wrk 3 [(MODE_REQ_TARGET, 1)]).eng with mode := { check := 2 } } }, by decide⟩,
   ⟨true, { mgr 3 [(MODE_REQ_TARGET, 1)] with eng := { (mgr 3 [(MODE_REQ_TARGET, 1)]).eng with mode := { check := 2 } } }, by decide⟩⟩

/-- epochDistribution: each clause's conditions hold of a state. -/
theorem witness_epochDistribution :
    (∃ (s : State), s.isMgr = true ∧ s.eng.epoch.running = true ∧ s.epoch % 64 = 0 ∧ s.port 0 = 4 ∧ s.port 1 = 4) ∧
    (∃ (port : Fin 2) (s : State), s.isWrk = true ∧ s.port port.val = 4 ∧ s.port (1 - port.val) = 4 ∧ (port.val ≠ s.outPort ∨ s.b EPOCH_PATH_VALID = false)) ∧
    (∃ (port : Fin 2) (phi : Int) (s : State), s.isWrk = true ∧ s.port port.val = 4 ∧ port.val = s.outPort ∧ s.b EPOCH_PATH_VALID = true ∧ s.f EPOCH_STATUS_SYNC ≠ 2 ∧ s.eng.epoch.near = 15 ∧ (sigmaOf phi (s.f AFE_STROBE_FINE)).natAbs ≤ 1000 ∧ phi.natAbs ≤ 400000) ∧
    (∃ (port : Fin 2) (phi : Int) (s : State), s.isWrk = true ∧ s.port port.val = 4 ∧ port.val = s.outPort ∧ s.b EPOCH_PATH_VALID = true ∧ s.eng.epoch.far < 4 ∧ 400000 < phi.natAbs ∧ phi.natAbs < 2 ^ 60) ∧
    (∃ (s : State), s.isWrk = true ∧ s.f EPOCH_STATUS_SYNC = 2 ∧ s.blocksLost = true ∧ 3 ≤ s.mode ∧ s.heldBy pgEPOCH < 4) ∧
    (∃ (s : State), s.isWrk = true ∧ s.f EPOCH_STATUS_SYNC = 2 ∧ s.blocksLost = false ∧ s.b EPOCH_PATH_VALID = false ∧ s.heldBy pgEPOCH < 4) ∧
    (∃ (src : Src) (s : State), s.served src = true ∧ s.watchShut src EPOCH_NOW_LO = false) ∧
    (∃ (w : Nat) (s : State), s.isMgr = true ∧ s.liveWorkers = [w] ∧ s.seqFree w = true ∧ s.port (s.portTo w) = 4 ∧ s.weldDown = false) :=
  ⟨⟨{ mgr 3 [(RING_P_STATUS_STATE 0, 4), (RING_P_STATUS_STATE 1, 4)] with eng := { (mgr 3 [(RING_P_STATUS_STATE 0, 4), (RING_P_STATUS_STATE 1, 4)]).eng with epoch := { count := 128, running := true } } }, by decide⟩,
   ⟨0, wrk 3 [(RING_P_STATUS_STATE 0, 4), (RING_P_STATUS_STATE 1, 4)], by decide⟩,
   ⟨1, 0, { wrk 3 [(RING_P_STATUS_STATE 0, 4), (RING_P_STATUS_STATE 1, 4), (EPOCH_PATH_VALID, 1), (EPOCH_STATUS_SYNC, 1), (AFE_STROBE_FINE, 1280)] with eng := { (wrk 3 [(RING_P_STATUS_STATE 0, 4), (RING_P_STATUS_STATE 1, 4), (EPOCH_PATH_VALID, 1), (EPOCH_STATUS_SYNC, 1), (AFE_STROBE_FINE, 1280)]).eng with epoch := { near := 15, count := 640 } } }, by decide⟩,
   ⟨1, 5000000, { wrk 3 [(RING_P_STATUS_STATE 0, 4), (RING_P_STATUS_STATE 1, 4), (EPOCH_PATH_VALID, 1), (EPOCH_STATUS_SYNC, 1), (AFE_STROBE_FINE, 1280)] with eng := { (wrk 3 [(RING_P_STATUS_STATE 0, 4), (RING_P_STATUS_STATE 1, 4), (EPOCH_PATH_VALID, 1), (EPOCH_STATUS_SYNC, 1), (AFE_STROBE_FINE, 1280)]).eng with epoch := { near := 15, count := 640 } } }, by decide⟩,
   ⟨{ wrk 3 [(EPOCH_STATUS_SYNC, 2)] with now := 1024 }, by decide⟩,
   ⟨wrk 3 [(EPOCH_STATUS_SYNC, 2)], by decide⟩,
   ⟨.core, { mgr 3 [] with eng := { (mgr 3 []).eng with epoch := { count := 0x500000001 } } }, by decide⟩,
   ⟨3, (weldUp { mgr 3 [(RING_ENUM_M, 3), (RING_P_STATUS_STATE 0, 4)] with eng := { (mgr 3 [(RING_ENUM_M, 3), (RING_P_STATUS_STATE 0, 4)]).eng with ring := { keys := [3] } } }), by decide⟩⟩

/-- bracketsAndSnapshots: each clause's conditions hold of a state. -/
theorem witness_bracketsAndSnapshots :
    (∃ (src : Src) (key : BitVec 16) (s : State), s.takes src EPOCH_CMD (keyed key 1) = true ∧ s.b EPOCH_BRK_EP_HI_SCOPE = false ∧ s.eng.epoch.brk = 0 ∧ s.eng.epoch.snapE = none ∧ s.f EPOCH_BRK_EP_LO_EPOCH + 2 ^ 32 * s.f EPOCH_BRK_EP_HI_EPOCH = 0) ∧
    (∃ (src : Src) (key : BitVec 16) (s : State), s.takes src EPOCH_CMD (keyed key 1) = true ∧ s.b EPOCH_BRK_EP_HI_SCOPE = true ∧ s.isMgr = false) ∧
    (∃ (src : Src) (key : BitVec 16) (s : State), s.takes src EPOCH_CMD (keyed key 1) = true ∧ s.isMgr = true ∧ s.eng.epoch.brk ≠ 0) ∧
    (∃ (src : Src) (key : BitVec 16) (s : State), s.takes src EPOCH_CMD (keyed key 1) = true ∧ s.b EPOCH_BRK_EP_HI_SCOPE = false ∧ s.eng.epoch.brk = 0 ∧ s.eng.epoch.snapE = none ∧ s.f EPOCH_BRK_EP_LO_EPOCH + 2 ^ 32 * s.f EPOCH_BRK_EP_HI_EPOCH ≠ 0 ∧ later (s.epoch + 10) (s.f EPOCH_BRK_EP_LO_EPOCH + 2 ^ 32 * s.f EPOCH_BRK_EP_HI_EPOCH) = true) ∧
    (∃ (src : Src) (key : BitVec 16) (s : State), s.takes src EPOCH_CMD (keyed key 2) = true ∧ s.eng.epoch.brk ≠ 0 ∧ (s.isMgr = false ∨ s.eng.epoch.brkRack = false)) ∧
    (∃ (s : State), s.eng.epoch.brk = 1 ∧ later (s.eng.epoch.brkE + 2) s.epoch = false ∧ s.eng.epoch.brkSnap = false) ∧
    (∃ (s : State), s.eng.epoch.brk ≠ 0 ∧ later (s.eng.epoch.brkE + 1000 * s.f EPOCH_BRK_EP_HI_TMO) s.epoch = false ∧ (s.isMgr = false ∨ s.eng.epoch.brkRack = false)) ∧
    (∃ (src : Src) (key : BitVec 16) (s : State), s.takes src EPOCH_CMD (keyed key 3) = true ∧ s.eng.epoch.brk = 0 ∧ s.eng.epoch.snapE = none) ∧
    (∃ (src : Src) (key : BitVec 16) (s : State), s.takes src EPOCH_CMD (keyed key 3) = true ∧ (s.eng.epoch.brk ≠ 0 ∨ s.eng.epoch.snapE.isSome = true)) ∧
    (∃ (s : State), s.f EPOCH_SNAP_CFG_PER ≠ 0 ∧ s.eng.epoch.running = true ∧ s.epoch % (1000 * s.f EPOCH_SNAP_CFG_PER) = 0 ∧ s.eng.epoch.snapAt ≠ some s.epoch ∧ s.eng.epoch.brk = 0 ∧ s.eng.epoch.snapE = none) ∧
    (∃ (e : Nat) (s : State), s.eng.epoch.snapE = some e ∧ s.eng.epoch.brk ≠ 1 ∧ s.snapAll = true ∧ s.eng.epoch.snapBuf < 2) ∧
    (∃ (e : Nat) (s : State), s.eng.epoch.snapE = some e ∧ s.snapAll = false ∧ later (e + 8000) s.epoch = false ∧ s.eng.epoch.snapBuf < 2) :=
  ⟨⟨.core, 0xE9C0, mgr 3 [], by decide⟩,
   ⟨.core, 0xE9C0, wrk 3 [(EPOCH_BRK_EP_HI_SCOPE, 1)], by decide⟩,
   ⟨.core, 0xE9C0, { mgr 3 [] with eng := { (mgr 3 []).eng with epoch := { brk := 1 } } }, by decide⟩,
   ⟨.core, 0xE9C0, { mgr 3 [(EPOCH_BRK_EP_LO_EPOCH, 3)] with eng := { (mgr 3 [(EPOCH_BRK_EP_LO_EPOCH, 3)]).eng with epoch := { count := 1000 } } }, by decide⟩,
   ⟨.core, 0xE9C0, { mgr 3 [] with eng := { (mgr 3 []).eng with epoch := { brk := 2, brkPages := 2 ^ 26 } } }, by decide⟩,
   ⟨{ mgr 3 [] with eng := { (mgr 3 []).eng with epoch := { brk := 1, brkPages := 2 ^ 26, count := 2 } } }, by decide⟩,
   ⟨{ mgr 3 [] with eng := { (mgr 3 []).eng with epoch := { brk := 2, brkPages := 2 ^ 26, count := 5000000 } } }, by decide⟩,
   ⟨.core, 0xE9C0, mgr 3 [], by decide⟩,
   ⟨.core, 0xE9C0, { mgr 3 [] with eng := { (mgr 3 []).eng with epoch := { brk := 1 } } }, by decide⟩,
   ⟨{ mgr 3 [(EPOCH_SNAP_CFG_PER, 20)] with eng := { (mgr 3 [(EPOCH_SNAP_CFG_PER, 20)]).eng with epoch := { count := 20000, running := true } } }, by decide⟩,
   ⟨640, { wrk 3 [] with eng := { (wrk 3 []).eng with epoch := { snapE := some 640, snapWant := [0], snapGot := [(0, 0, false), (0, 1, false), (0, 2, false)] } } }, by decide⟩,
   ⟨640, { wrk 3 [(EPOCH_SNAP_PG_PAGE0, 3)] with eng := { (wrk 3 [(EPOCH_SNAP_PG_PAGE0, 3)]).eng with epoch := { snapE := some 640, snapWant := [0], count := 8640 } } }, by decide⟩⟩

/-- stagedCommit: each clause's conditions hold of a state. -/
theorem witness_stagedCommit :
    (∃ (src : Src) (key : BitVec 16) (s : State), s.takes src EPOCH_CMD (keyed key 4) = true ∧ s.accepts 7 = true ∧ later (s.epoch + 200) (s.f EPOCH_CM_EP_LO_EPOCH + 2 ^ 32 * s.f EPOCH_CM_EP_HI_EPOCH) = false ∧ s.eng.epoch.cm = none ∧ s.eng.epoch.holds = [] ∧ s.b EPOCH_CM_EP_HI_SCOPE = false) ∧
    (∃ (src : Src) (key : BitVec 16) (s : State), s.takes src EPOCH_CMD (keyed key 4) = true ∧ s.accepts 7 = true ∧ later (s.epoch + 200) (s.f EPOCH_CM_EP_LO_EPOCH + 2 ^ 32 * s.f EPOCH_CM_EP_HI_EPOCH) = true) ∧
    (∃ (src : Src) (key : BitVec 16) (s : State), s.takes src EPOCH_CMD (keyed key 4) = true ∧ s.accepts 7 = true ∧ later (s.epoch + 200) (s.f EPOCH_CM_EP_LO_EPOCH + 2 ^ 32 * s.f EPOCH_CM_EP_HI_EPOCH) = false ∧ (s.eng.epoch.cm.isSome = true ∨ s.eng.epoch.holds ≠ [])) ∧
    (∃ (src : Src) (key : BitVec 16) (s : State), s.takes src EPOCH_CMD (keyed key 4) = true ∧ s.accepts 7 = true ∧ later (s.epoch + 200) (s.f EPOCH_CM_EP_LO_EPOCH + 2 ^ 32 * s.f EPOCH_CM_EP_HI_EPOCH) = false ∧ s.eng.epoch.cm = none ∧ s.eng.epoch.holds = [] ∧ s.b EPOCH_CM_EP_HI_SCOPE = true ∧ s.isMgr = false) ∧
    (∃ (src : Src) (key : BitVec 16) (c : CmRun) (s : State), s.takes src EPOCH_CMD (keyed key 5) = true ∧ s.eng.epoch.cm = some c ∧ c.decided = false) ∧
    (∃ (src : Src) (key : BitVec 16) (d : Nat) (e : Nat) (w : Nat) (s : State), s.takes src EPOCH_CMD (keyed key 6) = true ∧ s.isMgr = true ∧ s.eng.epoch.lastDec = some (d, e, true) ∧ ((List.range 32).map (· + 1)).filter (fun w => s.f (cmOut w) == 8 || s.f (cmOut w) == 10) = [w] ∧ s.seqFree w = true ∧ s.port (s.portTo w) = 4 ∧ s.weldDown = false) ∧
    (∃ (port : Fin 2) (p : Pkt) (s : State), s.isWrk = true ∧ s.hears port.val 0x20 p = true ∧ bitOf (pw p 2) (s.f RING_SELF_INDEX - 1) = true ∧ (s.stgTargets (bits64 (pw p 1) 0 40)).all (fun q => !s.b (stageHeld q)) = true ∧ later (s.epoch + 50) (bits64 (pw p 0) 16 48) = false ∧ s.mode ≠ 2 ∧ s.mode ≠ 6 ∧ s.weldDown = false) ∧
    (∃ (port : Fin 2) (p : Pkt) (s : State), s.isWrk = true ∧ s.hears port.val 0x20 p = true ∧ bitOf (pw p 2) (s.f RING_SELF_INDEX - 1) = true ∧ (s.stgTargets (bits64 (pw p 1) 0 40)).any (fun q => s.b (stageHeld q)) = true ∧ s.weldDown = false) ∧
    (∃ (port : Fin 2) (p : Pkt) (s : State), s.isWrk = true ∧ s.hears port.val 0x20 p = true ∧ bitOf (pw p 2) (s.f RING_SELF_INDEX - 1) = true ∧ (s.stgTargets (bits64 (pw p 1) 0 40)).all (fun q => !s.b (stageHeld q)) = true ∧ later (s.epoch + 50) (bits64 (pw p 0) 16 48) = true ∧ s.weldDown = false) ∧
    (∃ (port : Fin 2) (p : Pkt) (s : State), s.isWrk = true ∧ s.hears port.val 0x20 p = true ∧ bitOf (pw p 2) (s.f RING_SELF_INDEX - 1) = true ∧ (s.stgTargets (bits64 (pw p 1) 0 40)).all (fun q => !s.b (stageHeld q)) = true ∧ later (s.epoch + 50) (bits64 (pw p 0) 16 48) = false ∧ (s.mode = 2 ∨ s.mode = 6) ∧ s.weldDown = false) ∧
    (∃ (port : Fin 2) (p : Pkt) (c : CmRun) (s : State), s.isMgr = true ∧ s.hears port.val 0x21 p = true ∧ p.seq ≠ 0x3F000000 ∧ 1 ≤ p.src ∧ p.src ≤ 32 ∧ bits64 (pw p 0) 8 8 = s.f EPOCH_CM_EP_HI_ID ∧ bits64 (pw p 0) 4 4 = 0 ∧ s.eng.epoch.cm = some c ∧ c.decided = false ∧ c.mem.contains p.src = true) ∧
    (∃ (port : Fin 2) (p : Pkt) (s : State), s.isMgr = true ∧ s.hears port.val 0x21 p = true ∧ p.seq ≠ 0x3F000000 ∧ 1 ≤ p.src ∧ p.src ≤ 32 ∧ bits64 (pw p 0) 8 8 = s.f EPOCH_CM_EP_HI_ID ∧ bits64 (pw p 0) 4 4 = 1 ∧ 1 ≤ bits64 (pw p 0) 0 4 ∧ bits64 (pw p 0) 0 4 ≤ 4 ∧ s.eng.epoch.cm = none ∧ s.f (cmOut p.src) ≠ 0) ∧
    (∃ (port : Fin 2) (p : Pkt) (s : State), s.isMgr = true ∧ s.hears port.val 0x21 p = true ∧ p.seq ≠ 0x3F000000 ∧ 1 ≤ p.src ∧ p.src ≤ 32 ∧ bits64 (pw p 0) 8 8 = s.f EPOCH_CM_EP_HI_ID ∧ bits64 (pw p 0) 4 4 = 1 ∧ s.f (cmOut p.src) = 0) ∧
    (∃ (c : CmRun) (h : CmHold) (s : State), s.eng.epoch.cm = some c ∧ c.decided = false ∧ c.rack = false ∧ c.mem = [] ∧ s.eng.epoch.holds = [h] ∧ h.id = c.id ∧ h.rack = false ∧ later c.e (s.epoch + 50) = false ∧ c.abort = false) ∧
    (∃ (c : CmRun) (h : CmHold) (s : State), s.eng.epoch.cm = some c ∧ c.decided = false ∧ c.rack = false ∧ c.mem = [] ∧ s.eng.epoch.holds = [h] ∧ h.id = c.id ∧ h.rack = false ∧ later c.e (s.epoch + 50) = false ∧ c.abort = true) ∧
    (∃ (port : Fin 2) (p : Pkt) (h : CmHold) (s : State), s.isWrk = true ∧ s.hears port.val 0x22 p = true ∧ s.eng.epoch.holds = [h] ∧ h.rack = true ∧ h.id = bits64 (pw p 0) 8 8 ∧ bitOf (pw p 0) 0 = false ∧ h.apply = none ∧ later h.e s.epoch = true) ∧
    (∃ (port : Fin 2) (p : Pkt) (h : CmHold) (s : State), s.isWrk = true ∧ s.hears port.val 0x22 p = true ∧ s.eng.epoch.holds = [h] ∧ h.rack = true ∧ h.id = bits64 (pw p 0) 8 8 ∧ bitOf (pw p 0) 0 = false ∧ h.apply = none ∧ later h.e s.epoch = false ∧ later s.epoch (h.e + 10050) = false) ∧
    (∃ (port : Fin 2) (p : Pkt) (h : CmHold) (s : State), s.isWrk = true ∧ s.hears port.val 0x22 p = true ∧ s.eng.epoch.holds = [h] ∧ h.rack = true ∧ h.id = bits64 (pw p 0) 8 8 ∧ bitOf (pw p 0) 0 = true) ∧
    (∃ (port : Fin 2) (p : Pkt) (h : CmHold) (s : State), s.isWrk = true ∧ s.hears port.val 0x23 p = true ∧ s.eng.epoch.holds = [h] ∧ h.rack = true ∧ h.id = bits64 (pw p 0) 8 8 ∧ s.weldDown = false) ∧
    (∃ (port : Fin 2) (p : Pkt) (s : State), s.isWrk = true ∧ s.hears port.val 0x23 p = true ∧ p.dst = 0x3F ∧ s.eng.epoch.holds = [] ∧ s.eng.epoch.named ≠ some (bits64 (pw p 0) 8 8)) ∧
    (∃ (h : CmHold) (x : Nat × Nat) (s : State), s.eng.epoch.holds = [h] ∧ h.rack = false ∧ h.apply = some x ∧ later x.1 s.epoch = false ∧ (s.stgTargets h.pages).contains pgBAL = false) ∧
    (∃ (port : Fin 2) (p : Pkt) (e : Nat) (ok : Bool) (s : State), s.isMgr = true ∧ s.hears port.val 0x24 p = true ∧ p.seq ≠ 0x3F000000 ∧ s.seqFree p.src = true ∧ s.portTo p.src < 2 ∧ s.port (s.portTo p.src) = 4 ∧ s.eng.epoch.lastDec = some (bits64 (pw p 0) 8 8, e, ok) ∧ s.weldDown = false) ∧
    (∃ (h : CmHold) (s : State), s.eng.epoch.holds = [h] ∧ h.rack = true ∧ h.apply = none ∧ h.doubt = false ∧ s.isWrk = true ∧ later (h.e + 50) s.epoch = false ∧ h.asked.all (fun t => !later (t + 1000) s.epoch) = true ∧ s.weldDown = false) ∧
    (∃ (h : CmHold) (s : State), s.eng.epoch.holds = [h] ∧ h.rack = true ∧ h.apply = none ∧ h.doubt = false ∧ s.isWrk = true ∧ later (h.e + 10050) s.epoch = false ∧ s.heldBy pgEPOCH < 4 ∧ s.weldDown = false) ∧
    (∃ (h : CmHold) (s : State), s.eng.epoch.holds = [h] ∧ h.doubt = true ∧ h.apply = none ∧ later (h.e + 10050 + 1000000 * s.f EPOCH_CM_CFG_HOLD) s.epoch = false) ∧
    (∃ (c : CmRun) (s : State), s.eng.epoch.cm = some c ∧ c.rack = true ∧ c.decided = true ∧ later (c.e + 20000) s.epoch = false ∧ (c.mem.all (fun w => decide (1 ≤ w ∧ w ≤ 32)) = true)) :=
  ⟨⟨.core, 0xE9C0, mgr 3 [(EPOCH_CM_EP_LO_EPOCH, 5000), (EPOCH_CM_PG_LO_PAGES, 67108864)], by decide⟩,
   ⟨.core, 0xE9C0, { mgr 3 [] with eng := { (mgr 3 []).eng with epoch := { count := 1000 } } }, by decide⟩,
   ⟨.core, 0xE9C0, { mgr 3 [(EPOCH_CM_EP_LO_EPOCH, 5000), (EPOCH_CM_PG_LO_PAGES, 67108864)] with eng := { (mgr 3 [(EPOCH_CM_EP_LO_EPOCH, 5000), (EPOCH_CM_PG_LO_PAGES, 67108864)]).eng with epoch := { cm := some ⟨0, 0, 0, false, [], false, false⟩ } } }, by decide⟩,
   ⟨.core, 0xE9C0, wrk 3 [(EPOCH_CM_EP_LO_EPOCH, 5000), (EPOCH_CM_EP_HI_SCOPE, 1)], by decide⟩,
   ⟨.core, 0xE9C0, ⟨1, 5000, 0, false, [], false, false⟩, { mgr 3 [] with eng := { (mgr 3 []).eng with epoch := { cm := some ⟨1, 5000, 0, false, [], false, false⟩ } } }, by decide⟩,
   ⟨.core, 0xE9C0, 7, 640, 3, (weldUp { mgr 3 [((cmOut 3), 10), (RING_P_STATUS_STATE 0, 4)] with eng := { (mgr 3 [((cmOut 3), 10), (RING_P_STATUS_STATE 0, 4)]).eng with epoch := { lastDec := some (7, 640, true) } } }), by decide⟩,
   ⟨0, ⟨63, 0, 32, 1, [327680256, 67108864, 4], 9941388578146658951⟩, (weldUp ((upA { wrk 3 [(RING_SELF_INDEX, 3)] with eng := { (wrk 3 [(RING_SELF_INDEX, 3)]).eng with ring := { keys := [3] }, epoch := {  } } }))), by decide +kernel⟩,
   ⟨0, ⟨63, 0, 32, 1, [327680256, 67108864, 4], 9941388578146658951⟩, (weldUp ((upA { wrk 3 [(RING_SELF_INDEX, 3), ((stageHeld 0x1A), 1)] with eng := { (wrk 3 [(RING_SELF_INDEX, 3), ((stageHeld 0x1A), 1)]).eng with ring := { keys := [3] }, epoch := {  } } }))), by decide +kernel⟩,
   ⟨0, ⟨63, 0, 32, 1, [327680256, 67108864, 4], 9941388578146658951⟩, (weldUp ((upA { wrk 3 [(RING_SELF_INDEX, 3)] with eng := { (wrk 3 [(RING_SELF_INDEX, 3)]).eng with ring := { keys := [3] }, epoch := { count := 6000 } } }))), by decide +kernel⟩,
   ⟨0, ⟨63, 0, 32, 1, [327680256, 67108864, 4], 9941388578146658951⟩, (weldUp ((upA { wrk 2 [(RING_SELF_INDEX, 3)] with eng := { (wrk 2 [(RING_SELF_INDEX, 3)]).eng with ring := { keys := [3] } } }))), by decide +kernel⟩,
   ⟨0, ⟨0, 3, 33, 1, [327680000], 4251235769155112933⟩, ⟨0, 5000, 0, true, [3], false, false⟩, (upA { mgr 3 [] with eng := { (mgr 3 []).eng with ring := { keys := [3] }, epoch := { cm := some ⟨0, 5000, 0, true, [3], false, false⟩ } } }), by decide +kernel⟩,
   ⟨0, ⟨0, 3, 33, 1, [327680019], 10255506643092559081⟩, (upA { mgr 3 [((cmOut 3), 2)] with eng := { (mgr 3 [((cmOut 3), 2)]).eng with ring := { keys := [3] }, epoch := {  } } }), by decide +kernel⟩,
   ⟨0, ⟨0, 3, 33, 1, [327680019], 10255506643092559081⟩, (upA { mgr 3 [] with eng := { (mgr 3 []).eng with ring := { keys := [3] }, epoch := {  } } }), by decide +kernel⟩,
   ⟨⟨1, 5000, 2 ^ 26, false, [], false, false⟩, ⟨1, 5000, 2 ^ 26, false, none, false, none⟩, { mgr 3 [] with eng := { (mgr 3 []).eng with epoch := { cm := some ⟨1, 5000, 2 ^ 26, false, [], false, false⟩, holds := [⟨1, 5000, 2 ^ 26, false, none, false, none⟩], count := 4950 } } }, by decide⟩,
   ⟨⟨1, 5000, 2 ^ 26, false, [], true, false⟩, ⟨1, 5000, 2 ^ 26, false, none, false, none⟩, { mgr 3 [] with eng := { (mgr 3 []).eng with epoch := { cm := some ⟨1, 5000, 2 ^ 26, false, [], true, false⟩, holds := [⟨1, 5000, 2 ^ 26, false, none, false, none⟩], count := 4950 } } }, by decide⟩,
   ⟨0, ⟨3, 0, 34, 1, [327680256], 15854098621452928497⟩, ⟨1, 5000, 2 ^ 26, true, none, false, none⟩, (upA { wrk 3 [(RING_SELF_INDEX, 3)] with eng := { (wrk 3 [(RING_SELF_INDEX, 3)]).eng with ring := { keys := [3] }, epoch := { holds := [⟨1, 5000, 2 ^ 26, true, none, false, none⟩], count := 4950 } } }), by decide +kernel⟩,
   ⟨0, ⟨3, 0, 34, 1, [327680256], 15854098621452928497⟩, ⟨1, 5000, 2 ^ 26, true, none, false, none⟩, (upA { wrk 3 [(RING_SELF_INDEX, 3)] with eng := { (wrk 3 [(RING_SELF_INDEX, 3)]).eng with ring := { keys := [3] }, epoch := { holds := [⟨1, 5000, 2 ^ 26, true, none, false, none⟩], count := 5950 } } }), by decide +kernel⟩,
   ⟨0, ⟨3, 0, 34, 1, [327680257], 13208193039178126036⟩, ⟨1, 5000, 2 ^ 26, true, none, false, none⟩, (upA { wrk 3 [(RING_SELF_INDEX, 3)] with eng := { (wrk 3 [(RING_SELF_INDEX, 3)]).eng with ring := { keys := [3] }, epoch := { holds := [⟨1, 5000, 2 ^ 26, true, none, false, none⟩], count := 5950 } } }), by decide +kernel⟩,
   ⟨0, ⟨3, 0, 35, 1, [327680256], 1704879755511470471⟩, ⟨1, 5000, 2 ^ 26, true, none, false, none⟩, (weldUp ((upA { wrk 3 [(RING_SELF_INDEX, 3)] with eng := { (wrk 3 [(RING_SELF_INDEX, 3)]).eng with ring := { keys := [3] }, epoch := { holds := [⟨1, 5000, 2 ^ 26, true, none, false, none⟩] } } }))), by decide +kernel⟩,
   ⟨0, ⟨63, 0, 35, 1, [327680256], 5859381220283441048⟩, (upA { wrk 3 [(RING_SELF_INDEX, 3)] with eng := { (wrk 3 [(RING_SELF_INDEX, 3)]).eng with ring := { keys := [3] }, epoch := {  } } }), by decide +kernel⟩,
   ⟨⟨1, 5000, 2 ^ 26, false, some (5000, 1), false, none⟩, (5000, 1), { mgr 3 [] with eng := { (mgr 3 []).eng with epoch := { holds := [⟨1, 5000, 2 ^ 26, false, some (5000, 1), false, none⟩], count := 5000 } } }, by decide⟩,
   ⟨0, ⟨0, 3, 36, 1, [327680256], 17249844506944278580⟩, 5000, true, (weldUp ((upA { mgr 3 [(RING_P_STATUS_STATE 0, 4)] with eng := { (mgr 3 [(RING_P_STATUS_STATE 0, 4)]).eng with ring := { keys := [3] }, epoch := { lastDec := some (1, 5000, true) } } }))), by decide +kernel⟩,
   ⟨⟨1, 5000, 2 ^ 26, true, none, false, none⟩, (weldUp { wrk 3 [(RING_SELF_INDEX, 3)] with eng := { (wrk 3 [(RING_SELF_INDEX, 3)]).eng with ring := { keys := [3] }, epoch := { holds := [⟨1, 5000, 2 ^ 26, true, none, false, none⟩], count := 5050 } } }), by decide⟩,
   ⟨⟨1, 5000, 2 ^ 26, true, none, false, none⟩, (weldUp { wrk 3 [(RING_SELF_INDEX, 3)] with eng := { (wrk 3 [(RING_SELF_INDEX, 3)]).eng with ring := { keys := [3] }, epoch := { holds := [⟨1, 5000, 2 ^ 26, true, none, false, none⟩], count := 15050 } } }), by decide⟩,
   ⟨⟨1, 5000, 2 ^ 26, true, none, true, none⟩, { wrk 3 [(RING_SELF_INDEX, 3)] with eng := { (wrk 3 [(RING_SELF_INDEX, 3)]).eng with ring := { keys := [3] }, epoch := { holds := [⟨1, 5000, 2 ^ 26, true, none, true, none⟩], count := 2 ^ 34 } } }, by decide⟩,
   ⟨⟨0, 5000, 0, true, [3], false, true⟩, { mgr 3 [] with eng := { (mgr 3 []).eng with ring := { keys := [3] }, epoch := { cm := some ⟨0, 5000, 0, true, [3], false, true⟩, count := 25000 } } }, by decide⟩⟩

/-- mirrorPackets: each clause's conditions hold of a state. -/
theorem witness_mirrorPackets :
    (∃ (port : Fin 2) (p : Pkt) (ecc : List Nat) (s : State), s.isWrk = true ∧ s.hears port.val 0x10 p = true ∧ ecc.headD 0 = 0 ∧ bits64 (pw p 0) 24 8 = 1 ∧ bits64 (pw p 0) 32 32 = IDENT_ROLE ∧ s.weldDown = false) ∧
    (∃ (port : Fin 2) (p : Pkt) (s : State), s.isWrk = true ∧ s.hears port.val 0x11 p = true ∧ bits64 (pw p 0) 24 8 = 1 ∧ p.data.length = 2 ∧ bits64 (pw p 0) 32 32 = EPOCH_PATH ∧ s.deniedTo (packetSrc p) (s.levelNeed EPOCH_PATH (BitVec.ofNat 32 (pw p 1))) = false ∧ s.weldDown = false) ∧
    (∃ (port : Fin 2) (p : Pkt) (r : MirReq) (s : State), s.isMgr = true ∧ s.hears port.val 0x12 p = true ∧ p.seq ≠ 0x3F000000 ∧ s.eng.epoch.mir = [r] ∧ r.tid = bits64 (pw p 0) 0 16 ∧ r.dead = false ∧ r.worker = p.src ∧ r.use = 0 ∧ s.mirState = 1) ∧
    (∃ (port : Fin 2) (p : Pkt) (r : MirReq) (s : State), s.isMgr = true ∧ s.hears port.val 0x12 p = true ∧ p.seq ≠ 0x3F000000 ∧ s.eng.epoch.mir = [r] ∧ r.tid = bits64 (pw p 0) 0 16 ∧ r.dead = false ∧ r.worker = p.src ∧ r.use = 4 ∧ bits64 (pw p 0) 20 4 = 0 ∧ bitOf (((packetWords p).take (bits64 (pw p 0) 24 8)).headD 0) 31 = true) ∧
    (∃ (tid : BitVec 16) (r : MirReq) (s : State), s.eng.epoch.mir = [r] ∧ r.tid = tid.toNat ∧ r.at0 + s.f EPOCH_MIR_CFG_TMO ≤ s.now ∧ 1 ≤ r.worker ∧ r.worker ≤ 32 ∧ r.use = 3) :=
  ⟨⟨0, ⟨3, 0, 16, 1, [326434291717], 2138128232991643362⟩, [], (weldUp ((upA { wrk 3 [(RING_SELF_INDEX, 3)] with eng := { (wrk 3 [(RING_SELF_INDEX, 3)]).eng with ring := { keys := [3] }, epoch := {  } } }))), by decide +kernel⟩,
   ⟨0, ⟨3, 0, 17, 1, [528092018769925, 2147483939], 9687724762399982668⟩, (weldUp ((upA { wrk 3 [(RING_SELF_INDEX, 3)] with eng := { (wrk 3 [(RING_SELF_INDEX, 3)]).eng with ring := { keys := [3] }, epoch := {  } } }))), by decide +kernel⟩,
   ⟨0, ⟨0, 3, 18, 1, [274894684165, 9], 82981586034078085⟩, ⟨5, 3, 0x40, 1, 0, 0, 0, false⟩, (upA { mgr 3 [(HOST_MIR_STATUS_STATE, 1)] with eng := { (mgr 3 [(HOST_MIR_STATUS_STATE, 1)]).eng with ring := { keys := [3] }, epoch := { mir := [⟨5, 3, 0x40, 1, 0, 0, 0, false⟩] } } }), by decide +kernel⟩,
   ⟨0, ⟨0, 3, 18, 1, [274894684165, 2147483657], 9851107031203232313⟩, ⟨5, 3, 0x40, 1, 4, 1, 0, false⟩, (upA { mgr 3 [(RING_ENUM_M, 3)] with eng := { (mgr 3 [(RING_ENUM_M, 3)]).eng with ring := { keys := [3] }, epoch := { mir := [⟨5, 3, 0x40, 1, 4, 1, 0, false⟩] } } }), by decide +kernel⟩,
   ⟨5, ⟨5, 3, 0x40, 1, 3, 0, 0, false⟩, { { mgr 3 [] with eng := { (mgr 3 []).eng with ring := { keys := [3] }, epoch := { mir := [⟨5, 3, 0x40, 1, 3, 0, 0, false⟩] } } } with now := 2000 }, by decide⟩⟩

/-- rosterAndRackMeans: each clause's conditions hold of a state. -/
theorem witness_rosterAndRackMeans :
    (∃ (s : State), s.isWrk = true ∧ s.statusDue = true ∧ s.enumerated = true ∧ (s.port 0 = 4 ∨ s.port 1 = 4) ∧ s.weldDown = false) ∧
    (∃ (s : State), s.isWrk = true ∧ s.statusDue = true ∧ s.enumerated = false ∧ (s.port 0 = 4 ∨ s.port 1 = 4) ∧ s.weldDown = false) ∧
    (∃ (port : Fin 2) (p : Pkt) (s : State), s.isMgr = true ∧ s.hears port.val 0x33 p = true ∧ p.seq ≠ 0x3F000000 ∧ 1 ≤ p.src ∧ p.src ≤ 32 ∧ s.f RING_STATUS_STATE ≠ 1) ∧
    (∃ (worker : Fin 33) (s : State), s.isMgr = true ∧ s.workers.contains worker.val = true ∧ s.f (ROSTER_W_STAT_STATE worker.val) ≤ 1 ∧ (s.port 0 = 4 ∨ s.port 1 = 4) ∧ s.f RING_STATUS_STATE ≠ 1 ∧ s.statusLate worker.val = true ∧ s.heldBy pgROSTER < 4 ∧ s.f RING_ENUM_M ≤ 32) ∧
    (∃ (s : State), s.isMgr = true ∧ s.f ROSTER_CFG_BLIND_T ≠ 0 ∧ s.anyClosed = true ∧ s.anyBad = true ∧ s.b ROSTER_STATUS_BLIND = false ∧ (s.eng.rack.blindAt.any fun x => decide (x + 1000 * s.f ROSTER_CFG_BLIND_T ≤ s.now)) = true ∧ s.heldBy pgROSTER < 4) ∧
    (∃ (src : Src) (key : BitVec 16) (worker : Fin 64) (s : State), s.takes src ROSTER_CMD (keyed key (1 + worker.val * 2 ^ ROSTER_CMD_W.lo)) = true ∧ s.accepts 8 = true ∧ s.isMgr = true ∧ s.eng.boot.cores.getD 2 false = true ∧ s.workers.contains worker.val = true ∧ s.f (ROSTER_W_STAT_STATE worker.val) = 4) ∧
    (∃ (src : Src) (key : BitVec 16) (worker : Fin 64) (s : State), s.takes src ROSTER_CMD (keyed key (1 + worker.val * 2 ^ ROSTER_CMD_W.lo)) = true ∧ s.accepts 8 = true ∧ s.isMgr = true ∧ s.eng.boot.cores.getD 2 false = false ∧ s.workers.contains worker.val = true ∧ s.f (ROSTER_W_STAT_STATE worker.val) = 4) ∧
    (∃ (src : Src) (key : BitVec 16) (worker : Fin 64) (x : Nat × Nat × Nat) (s : State), s.takes src ROSTER_CMD (keyed key (2 + worker.val * 2 ^ ROSTER_CMD_W.lo)) = true ∧ s.accepts 8 = true ∧ s.isMgr = true ∧ s.eng.boot.cores.getD 2 false = true ∧ s.workers.contains worker.val = true ∧ worker.val ≤ 32 ∧ 4 ≤ s.f (ROSTER_W_STAT_STATE worker.val) ∧ (s.eng.rack.seen.find? fun x => x.2.2 == worker.val) = some x) ∧
    (∃ (v : Rat) (i : Rat) (s : State), s.isMgr = true ∧ later (s.eng.rack.resNext * 1000) (s.resMs * 1000) = false ∧ s.msMean 0 s.resMs = (some v, some i) ∧ (s.f (shadowSrc pgRACK)) = 0 ∧ s.b (shadowFrozen pgRACK) = false) ∧
    (∃ (i : Rat) (s : State), s.isMgr = true ∧ later (s.epoch / 1000 * 1000) (s.eng.rack.iNext * 1000) = true ∧ (s.port 0 = 4 ∨ s.port 1 = 4) ∧ (s.msMean 0 (s.epoch / 1000 - 1)).2 = some i ∧ s.seqFree 0x3F = true) :=
  ⟨⟨(weldUp (wrk 3 [(RING_SELF_INDEX, 3), (RING_P_STATUS_STATE 1, 4)])), by decide⟩,
   ⟨(weldUp (wrk 3 [(RING_P_STATUS_STATE 1, 4)])), by decide⟩,
   ⟨0, ⟨0, 3, 51, 1, [327704576, 17592254763892736, 1234605616436508552], 11606701264106373518⟩, (upA { mgr 3 [] with eng := { (mgr 3 []).eng with ring := { keys := [3] }, epoch := {  } } }), by decide +kernel⟩,
   ⟨3, { { mgr 3 [(RING_ENUM_M, 3), (RING_P_STATUS_STATE 0, 4), ((ROSTER_W_STAT_STATE 3), 1)] with eng := { (mgr 3 [(RING_ENUM_M, 3), (RING_P_STATUS_STATE 0, 4), ((ROSTER_W_STAT_STATE 3), 1)]).eng with ring := { keys := [3] } } } with now := 70000000 }, by decide⟩,
   ⟨{ { { mgr 3 [(RING_ENUM_M, 3), (RING_P_STATUS_STATE 0, 4), ((ROSTER_W_STAT_STATE 3), 2), (CONT_STATUS_CMD, 1), (ROSTER_CFG_BLIND_T, 1)] with eng := { (mgr 3 [(RING_ENUM_M, 3), (RING_P_STATUS_STATE 0, 4), ((ROSTER_W_STAT_STATE 3), 2), (CONT_STATUS_CMD, 1), (ROSTER_CFG_BLIND_T, 1)]).eng with ring := { keys := [3] } } } with eng := { ({ mgr 3 [(RING_ENUM_M, 3), (RING_P_STATUS_STATE 0, 4), ((ROSTER_W_STAT_STATE 3), 2), (CONT_STATUS_CMD, 1), (ROSTER_CFG_BLIND_T, 1)] with eng := { (mgr 3 [(RING_ENUM_M, 3), (RING_P_STATUS_STATE 0, 4), ((ROSTER_W_STAT_STATE 3), 2), (CONT_STATUS_CMD, 1), (ROSTER_CFG_BLIND_T, 1)]).eng with ring := { keys := [3] } } }).eng with rack := { blindAt := some 0 } } } with now := 1000 }, by decide⟩,
   ⟨.core, 0x2057, 3, { { mgr 3 [(RING_ENUM_M, 3), (RING_P_STATUS_STATE 0, 4), ((ROSTER_W_STAT_STATE 3), 4)] with eng := { (mgr 3 [(RING_ENUM_M, 3), (RING_P_STATUS_STATE 0, 4), ((ROSTER_W_STAT_STATE 3), 4)]).eng with ring := { keys := [3] } } } with eng := { ({ mgr 3 [(RING_ENUM_M, 3), (RING_P_STATUS_STATE 0, 4), ((ROSTER_W_STAT_STATE 3), 4)] with eng := { (mgr 3 [(RING_ENUM_M, 3), (RING_P_STATUS_STATE 0, 4), ((ROSTER_W_STAT_STATE 3), 4)]).eng with ring := { keys := [3] } } }).eng with boot := { cores := [true, true, true] } } }, by decide⟩,
   ⟨.core, 0x2057, 3, { mgr 3 [(RING_ENUM_M, 3), (RING_P_STATUS_STATE 0, 4), ((ROSTER_W_STAT_STATE 3), 4)] with eng := { (mgr 3 [(RING_ENUM_M, 3), (RING_P_STATUS_STATE 0, 4), ((ROSTER_W_STAT_STATE 3), 4)]).eng with ring := { keys := [3] } } }, by decide⟩,
   ⟨.core, 0x2057, 3, (0x1234500000678, 0, 3), { { mgr 3 [(RING_ENUM_M, 3), (RING_P_STATUS_STATE 0, 4), ((ROSTER_W_STAT_STATE 3), 5)] with eng := { (mgr 3 [(RING_ENUM_M, 3), (RING_P_STATUS_STATE 0, 4), ((ROSTER_W_STAT_STATE 3), 5)]).eng with ring := { keys := [3] } } } with eng := { ({ mgr 3 [(RING_ENUM_M, 3), (RING_P_STATUS_STATE 0, 4), ((ROSTER_W_STAT_STATE 3), 5)] with eng := { (mgr 3 [(RING_ENUM_M, 3), (RING_P_STATUS_STATE 0, 4), ((ROSTER_W_STAT_STATE 3), 5)]).eng with ring := { keys := [3] } } }).eng with rack := { seen := [(0x1234500000678, 0, 3)] }, boot := { cores := [true, true, true] } } }, by decide⟩,
   ⟨64000, 3200, { mgr 3 [] with eng := { (mgr 3 []).eng with rack := { sums := [(0, 8, 640000, 10, 32000, 10)] }, epoch := { count := 9200 } } }, by decide +kernel⟩,
   ⟨3200, { mgr 3 [(RING_P_STATUS_STATE 0, 4)] with eng := { (mgr 3 [(RING_P_STATUS_STATE 0, 4)]).eng with rack := { sums := [(0, 8, 640000, 10, 32000, 10)] }, epoch := { count := 9030 } } }, by decide +kernel⟩⟩

/-- arcIsolationAndCapture: each clause's conditions hold of a state. -/
theorem witness_arcIsolationAndCapture :
    (∃ (s : State), s.isMgr = true ∧ s.eng.boot.cores.getD 1 false = true ∧ later (s.arcBlock * 100) (s.eng.rack.blockNext * 100) = true ∧ (s.arcEpochs ((s.epoch - 10 * s.f ARC_CFG_WAIT) / 100 - 1)).filterMap s.arcAt = []) ∧
    (∃ (hfe : Nat) (got : List (Rat × List Rat × Rat)) (s : State), s.isMgr = true ∧ s.eng.boot.cores.getD 1 false = true ∧ later (s.arcBlock * 100) (s.eng.rack.blockNext * 100) = true ∧ (s.arcEpochs ((s.epoch - 10 * s.f ARC_CFG_WAIT) / 100 - 1)).filterMap s.arcAt = got ∧ got ≠ [] ∧ (s.arcEpochs ((s.epoch - 10 * s.f ARC_CFG_WAIT) / 100 - 1)).length ≤ 2 * got.length ∧ hfe < s.f ARC_HF_HF_FLOOR) ∧
    (∃ (hfe : Nat) (got : List (Rat × List Rat × Rat)) (s : State), s.isMgr = true ∧ s.eng.boot.cores.getD 1 false = true ∧ later (s.arcBlock * 100) (s.eng.rack.blockNext * 100) = true ∧ (s.arcEpochs ((s.epoch - 10 * s.f ARC_CFG_WAIT) / 100 - 1)).filterMap s.arcAt = got ∧ got ≠ [] ∧ (s.arcEpochs ((s.epoch - 10 * s.f ARC_CFG_WAIT) / 100 - 1)).length ≤ 2 * got.length ∧ ((s.f ARC_CFG_VTH : Nat) : Rat) / 10 < ratAbs (ratMean (got.map fun x => x.1) - s.eng.rack.rEnd * ratMean (got.map fun x => x.2.2)) ∧ ((s.f ARC_HF_HF_RATIO : Nat) : Rat) * s.eng.rack.hfb ≤ 4 * ((hfe : Nat) : Rat) ∧ s.f ARC_HF_HF_FLOOR ≤ hfe ∧ s.eng.rack.decided = false ∧ s.b ARC_CTRL_EN = true ∧ s.b ARC_STATUS_LEARNED = true ∧ s.fullRate = true ∧ s.anyClosed = true ∧ s.f ARC_CFG_N ≤ satInc ARC_STATUS_COUNT.wd (s.f ARC_STATUS_COUNT)) ∧
    (∃ (src : Src) (w : Word) (s : State), s.takes src ARC_CTRL w = true ∧ s.isMgr = true) ∧
    (∃ (src : Src) (key : BitVec 16) (s : State), s.takes src ARC_CMD (keyed key 1) = true) ∧
    (∃ (src : Src) (key : BitVec 16) (s : State), s.takes src ARC_CMD (keyed key 2) = true) ∧
    (∃ (src : Src) (w : Word) (s : State), s.takes src ISO_CTRL w = true ∧ s.isMgr = true ∧ 3 ≤ s.mode) ∧
    (∃ (s : State), s.isMgr = true ∧ s.eng.rack.isoAt + 100000 * s.f ISO_CFG_T_HALF ≤ s.now ∧ s.f ISO_STATUS_STATE = 1) ∧
    (∃ (p : Int) (q : Bool) (l : Bool) (s : State), s.isMgr = true ∧ s.eng.rack.isoAt + 100000 * s.f ISO_CFG_T_HALF ≤ s.now ∧ s.f ISO_STATUS_STATE = 2 ∧ s.eng.rack.isoPos = some (p, q, l) ∧ q = false) ∧
    (∃ (m80 : Int) (m90 : Int) (limit : Bool) (p : Int) (r : Rat) (s : State), s.isMgr = true ∧ s.eng.rack.isoAt + 100000 * s.f ISO_CFG_T_HALF ≤ s.now ∧ s.f ISO_STATUS_STATE = 2 ∧ s.eng.rack.isoPos = some (p, true, false) ∧ limit = false ∧ m80 = m90 ∧ p ≠ m90 ∧ 0 < r ∧ r ≤ 50000 ∧ r = ((2000 * s.f ISO_NET_INJ_V * s.f ISO_CFG_R_M : Nat) : Rat) / (((p - m90).natAbs : Nat) : Rat) - ((s.f ISO_NET_R_SER : Nat) : Rat)) ∧
    (∃ (src : Src) (key : BitVec 16) (s : State), s.takes src CAP_CMD (keyed key 1) = true ∧ s.accepts 5 = true ∧ s.isWrk = true) ∧
    (∃ (src : Src) (key : BitVec 16) (s : State), s.takes src CAP_CMD (keyed key 1) = true ∧ s.accepts 5 = true ∧ s.isMgr = true ∧ s.b CAP_CFG_RACK = true ∧ s.b CAP_CFG_MGR = true) ∧
    (∃ (src : Src) (key : BitVec 16) (s : State), s.takes src CAP_CMD (keyed key 1) = true ∧ s.accepts 5 = false) ∧
    (∃ (src : Src) (key : BitVec 16) (s : State), s.takes src CAP_CMD (keyed key 2) = true ∧ s.capState = 1) ∧
    (∃ (src : Src) (key : BitVec 16) (s : State), s.takes src CAP_CMD (keyed key 2) = true ∧ 2 ≤ s.capState) ∧
    (∃ (src : Src) (key : BitVec 16) (s : State), s.takes src CAP_CMD (keyed key 3) = true) ∧
    (∃ (src : Src) (key : BitVec 16) (s : State), s.takes src CAP_CMD (keyed key 4) = true ∧ 1 ≤ s.capState ∧ s.capState ≤ 3) ∧
    (∃ (s : State), s.capState = 2 ∧ later ((s.eng.cap.trig + s.eng.cap.post) * s.eng.cap.stride) s.epoch = false) ∧
    (∃ (s : State), s.capState = 3 ∧ later (s.eng.cap.settleAt + 4200) s.epoch = false) :=
  ⟨⟨{ mgr 3 [] with eng := { (mgr 3 []).eng with boot := { cores := [true, true, true] }, epoch := { count := 10050 } } }, by decide +kernel⟩,
   ⟨100, [(597 / 80, [0], 2500)], { mgr 4 [(RING_ENUM_M, 1), ((ROSTER_W_INFO_P 1), 50), (ARC_HF_HF_FLOOR, 500)] with eng := { (mgr 4 [(RING_ENUM_M, 1), ((ROSTER_W_INFO_P 1), 50), (ARC_HF_HF_FLOOR, 500)]).eng with ring := { decs := [(0, 0, 0, 0)], losts := [(0, 0)] }, rack := { arc := [⟨9900, 0, 2000, 40000, true⟩, ⟨9900, 1, 10, 0, true⟩] }, epoch := { count := 10050 }, boot := { cores := [true, true, true] } } }, by decide +kernel⟩,
   ⟨70000, [(597 / 80, [0], 2500)], { mgr 4 [(RING_ENUM_M, 1), ((ROSTER_W_INFO_P 1), 50), (ARC_CTRL_EN, 1), (ARC_STATUS_LEARNED, 1), (CONT_STATUS_CMD, 7), (ARC_STATUS_COUNT, 15)] with eng := { (mgr 4 [(RING_ENUM_M, 1), ((ROSTER_W_INFO_P 1), 50), (ARC_CTRL_EN, 1), (ARC_STATUS_LEARNED, 1), (CONT_STATUS_CMD, 7), (ARC_STATUS_COUNT, 15)]).eng with ring := { decs := [(0, 0, 0, 0)], losts := [(0, 0)] }, rack := { arc := [⟨9900, 0, 2000, 40000, true⟩, ⟨9900, 1, 10, 0, true⟩] }, epoch := { count := 10050 }, boot := { cores := [true, true, true] } } }, by decide +kernel⟩,
   ⟨.core, 3, mgr 3 [(CONT_STATUS_CMD, 1)], by decide⟩,
   ⟨.core, 0xA4C0, mgr 3 [], by decide⟩,
   ⟨.core, 0xA4C0, mgr 3 [], by decide⟩,
   ⟨.core, 1, mgr 3 [], by decide⟩,
   ⟨{ mgr 3 [(ISO_STATUS_STATE, 1)] with now := 50000000 }, by decide +kernel⟩,
   ⟨5, false, false, { { mgr 3 [(ISO_STATUS_STATE, 2)] with eng := { (mgr 3 [(ISO_STATUS_STATE, 2)]).eng with rack := { isoPos := some (5, false, false) } } } with now := 50000000 }, by decide +kernel⟩,
   ⟨-400000, -400000, false, 400000, 1050, { { mgr 3 [(ISO_STATUS_STATE, 2)] with eng := { (mgr 3 [(ISO_STATUS_STATE, 2)]).eng with rack := { isoPos := some (400000, true, false) } } } with now := 50000000 }, by decide +kernel⟩,
   ⟨.core, 0xCA9E, wrk 4 [], by decide⟩,
   ⟨.core, 0xCA9E, mgr 4 [(CAP_CFG_RACK, 1), (CAP_CFG_MGR, 1)], by decide⟩,
   ⟨.core, 0xCA9E, mgr 3 [], by decide⟩,
   ⟨.core, 0xCA9E, mgr 4 [(CAP_STATUS_STATE, 1)], by decide⟩,
   ⟨.core, 0xCA9E, mgr 4 [(CAP_STATUS_STATE, 4)], by decide⟩,
   ⟨.core, 0xCA9E, mgr 4 [(CAP_STATUS_STATE, 4)], by decide⟩,
   ⟨.core, 0xCA9E, mgr 4 [(CAP_STATUS_STATE, 2)], by decide⟩,
   ⟨mgr 4 [(CAP_STATUS_STATE, 2)], by decide⟩,
   ⟨{ mgr 4 [(CAP_STATUS_STATE, 3)] with eng := { (mgr 4 [(CAP_STATUS_STATE, 3)]).eng with cap := { slots := 481, trig := 380, post := 240 }, epoch := { count := 4200 } } }, by decide⟩⟩

/-- hostPortTransactions: each clause's conditions hold of a state. -/
theorem witness_hostPortTransactions :
    (∃ (a : BitVec 32) (n : Nat) (ecc : List Nat) (s : State), s.hostOpen = true ∧ n = 1 ∧ ecc.headD 0 = 0 ∧ s.watchShut .xspi a.toNat = false ∧ pageOf a.toNat ∉ [pgSVC, pgRTC, pgICU, pgSEC, pgEPOCH, pgHOST] ∧ s.windowOf a.toNat = some .local ∧ a.toNat % 4 = 0 ∧ mapped a.toNat = true) ∧
    (∃ (a : BitVec 32) (n : Nat) (s : State), s.hostOpen = true ∧ (s.windowOf a.toNat = none ∨ a.toNat % 4 ≠ 0) ∧ 0 < n) ∧
    (∃ (a : BitVec 32) (s : State), s.hostOpen = true ∧ s.isMgr = true ∧ a.toNat % 4 = 0 ∧ 0x1040000 ≤ a.toNat ∧ a.toNat < 0x1840000 ∧ s.liveWorkers.contains ((a.toNat - 0x1000000) / 0x40000) = true ∧ s.mirState = 0 ∧ s.seqFree ((a.toNat - 0x1000000) / 0x40000) = true ∧ s.port (s.portTo ((a.toNat - 0x1000000) / 0x40000)) = 4 ∧ s.mode ≠ 2 ∧ s.weldDown = false) ∧
    (∃ (a : BitVec 32) (s : State), s.hostOpen = true ∧ s.isMgr = true ∧ a.toNat % 4 = 0 ∧ 0x1040000 ≤ a.toNat ∧ a.toNat < 0x1840000 ∧ s.liveWorkers.contains ((a.toNat - 0x1000000) / 0x40000) = true ∧ s.mirState = 0 ∧ s.mode = 2) ∧
    (∃ (a : BitVec 32) (words : List Word) (cut : Bool) (w : Word) (s : State), words = [w] ∧ cut = false ∧ s.windowOf a.toNat = some .local ∧ a.toNat % 4 = 0 ∧ [pgEST, pgCONT, pgEIS].contains (pageOf a.toNat) = true ∧ a.toNat ≠ EIS_VIEW ∧ ((rowAt a.toNat).map fun r => r.acc) = some .rwl ∧ s.takes .xspi a.toNat w = true) ∧
    (∃ (a : BitVec 32) (words : List Word) (cut : Bool) (s : State), s.hostOpen = true ∧ words = [] ∧ cut = true ∧ s.windowOf a.toNat = some .local ∧ a.toNat % 4 = 0) ∧
    (∃ (a : BitVec 32) (words : List Word) (cut : Bool) (w : Word) (s : State), s.hostOpen = true ∧ words = [w] ∧ cut = false ∧ s.windowOf a.toNat = none) ∧
    (∃ (s : State), s.hostOpen = true) ∧
    (∃ (s : State), s.hostOpen = true) ∧
    (∃ (s : State), s.hostOpen = true) ∧
    (∃ (s : State), s.mirState = 2 ∧ s.eng.host.mirAt + 10000 ≤ s.now) ∧
    (∃ (a : BitVec 32) (words : List Word) (w : Word) (s : State), s.b MODE_STATUS_DESCENDING = true ∧ s.f MODE_STATUS_ENTERING ≤ 1 ∧ words = [w] ∧ s.windowOf a.toNat = some .local ∧ a.toNat % 4 = 0 ∧ [pgEST, pgCONT, pgEIS].contains (pageOf a.toNat) = true ∧ a.toNat ≠ EIS_VIEW ∧ ((rowAt a.toNat).map fun r => r.acc) = some .rwl ∧ s.takes .xspi a.toNat w = true) ∧
    (∃ (dev : BitVec 7) (a : BitVec 32) (n : Nat) (ecc : List Nat) (s : State), s.served .i2c = true ∧ dev.toNat = 0x3A + s.f HOST_STATUS_I2C_A0 ∧ n = 1 ∧ ecc.headD 0 = 0 ∧ s.watchShut .i2c a.toNat = false ∧ pageOf a.toNat ∉ [pgSVC, pgRTC, pgICU, pgSEC, pgEPOCH, pgHOST] ∧ s.windowOf a.toNat = some .local ∧ a.toNat % 4 = 0 ∧ mapped a.toNat = true) ∧
    (∃ (dev : BitVec 7) (a : BitVec 32) (n : Nat) (s : State), s.served .i2c = true ∧ dev.toNat = 0x3A + s.f HOST_STATUS_I2C_A0 ∧ (s.windowOf a.toNat = none ∨ a.toNat % 4 ≠ 0) ∧ 0 < n) ∧
    (∃ (dev : BitVec 7) (a : BitVec 32) (words : List Word) (cut : Bool) (w : Word) (s : State), s.served .i2c = true ∧ dev.toNat = 0x3A + s.f HOST_STATUS_I2C_A0 ∧ words = [w] ∧ cut = false ∧ s.windowOf a.toNat = some .local ∧ a.toNat % 4 = 0 ∧ [pgEST, pgCONT, pgEIS].contains (pageOf a.toNat) = true ∧ a.toNat ≠ EIS_VIEW ∧ ((rowAt a.toNat).map fun r => r.acc) = some .rwl ∧ s.takes .i2c a.toNat w = true) ∧
    (∃ (dev : BitVec 7) (s : State), dev.toNat ≠ 0x3A + s.f HOST_STATUS_I2C_A0) :=
  ⟨⟨0x54, 1, [], mgr 3 [], by decide⟩,
   ⟨0x54321, 3, mgr 3 [], by decide⟩,
   ⟨0x010C0040, (weldUp { mgr 3 [(RING_ENUM_M, 3), (RING_P_STATUS_STATE 0, 4)] with eng := { (mgr 3 [(RING_ENUM_M, 3), (RING_P_STATUS_STATE 0, 4)]).eng with ring := { keys := [3] } } }), by decide⟩,
   ⟨0x010C0040, { mgr 2 [(RING_ENUM_M, 3)] with eng := { (mgr 2 [(RING_ENUM_M, 3)]).eng with ring := { keys := [3] } } }, by decide⟩,
   ⟨0x10044, [7], false, 7, mgr 3 [(SEC_POLICY_WRITE_MIN, 0)], by decide⟩,
   ⟨0x10044, [], true, mgr 3 [], by decide⟩,
   ⟨0x44444444, [7], false, 7, mgr 3 [], by decide⟩,
   ⟨mgr 3 [], by decide⟩,
   ⟨{ mgr 3 [] with eng := { (mgr 3 []).eng with host := { fifo := [(frame0, 2), (frame0, 0)] } } }, by decide⟩,
   ⟨mgr 3 [], by decide⟩,
   ⟨{ mgr 3 [(HOST_MIR_STATUS_STATE, 2)] with now := 10000 }, by decide⟩,
   ⟨0x10044, [7], 7, mgr 3 [(SEC_POLICY_WRITE_MIN, 0), (MODE_STATUS_DESCENDING, 1), (MODE_STATUS_ENTERING, 1)], by decide⟩,
   ⟨0x3A, 0x54, 1, [], mgr 3 [(HOST_CFG_I2C_EN, 1), (SEC_POLICY_WRITE_MIN, 0)], by decide⟩,
   ⟨0x3A, 0x55, 1, mgr 3 [(HOST_CFG_I2C_EN, 1), (SEC_POLICY_WRITE_MIN, 0)], by decide⟩,
   ⟨0x3A, 0x10044, [7], false, 7, mgr 3 [(HOST_CFG_I2C_EN, 1), (SEC_POLICY_WRITE_MIN, 0)], by decide⟩,
   ⟨0x10, mgr 3 [(HOST_CFG_I2C_EN, 1), (SEC_POLICY_WRITE_MIN, 0)], by decide⟩⟩

/-- exportAndPins: each clause's conditions hold of a state. -/
theorem witness_exportAndPins :
    (∃ (src : Src) (key : BitVec 16) (s : State), s.takes src HOST_EXP_CMD (keyed key 1) = true ∧ s.accepts 5 = true) ∧
    (∃ (src : Src) (key : BitVec 16) (s : State), s.takes src HOST_EXP_CMD (keyed key 1) = true ∧ s.accepts 5 = false) ∧
    (∃ (src : Src) (key : BitVec 16) (s : State), s.takes src HOST_EXP_CMD (keyed key 2) = true) ∧
    (∃ (src : Src) (key : BitVec 16) (s : State), s.takes src HOST_EXP_CMD (keyed key 3) = true) ∧
    (∃ (src : Src) (w : Word) (s : State), s.takes src GPIO_OUT w = true) ∧
    (∃ (src : Src) (w : Word) (s : State), s.takes src GPIO_OUT_SET w = true) ∧
    (∃ (src : Src) (w : Word) (s : State), s.takes src GPIO_OUT_CLR w = true) ∧
    (∃ (src : Src) (n : Fin 16) (w : Word) (s : State), s.takes src (GPIO_CFG n.val) w = true ∧ bitOf s.gpioOwner n.val = false) ∧
    (∃ (src : Src) (n : Fin 16) (w : Word) (s : State), s.takes src (GPIO_CFG n.val) w = true ∧ bitOf s.gpioOwner n.val = true) ∧
    (∃ (n : Fin 16) (high : Bool) (s : State), bitOf s.balls.gpio n.val ≠ high ∧ s.mode ≠ 0 ∧ s.f (GPIO_CFG_EDGE n.val) = 3) ∧
    (∃ (n : Fin 16) (high : Bool) (s : State), bitOf s.balls.gpio n.val ≠ high ∧ s.f (GPIO_CFG_EDGE n.val) = 0) :=
  ⟨⟨.core, 0xE4B0, mgr 4 [], by decide⟩,
   ⟨.core, 0xE4B0, mgr 3 [], by decide⟩,
   ⟨.core, 0xE4B0, mgr 4 [(HOST_STATUS_EXP_ON, 1)], by decide⟩,
   ⟨.core, 0xE4B0, { mgr 4 [] with eng := { (mgr 4 []).eng with host := { fifo := [(frame0, 0)] } } }, by decide⟩,
   ⟨.core, 0xFF00, mgr 3 [(GPIO_OUT_VALUE, 61680), ((SEQ_SLOT_CFG_OUT_GPIO 11), 5), ((SEQ_SLOT_CFG_EN 11), 1)], by decide⟩,
   ⟨.core, 0x0F, mgr 3 [(GPIO_OUT_VALUE, 61680), ((SEQ_SLOT_CFG_OUT_GPIO 11), 5), ((SEQ_SLOT_CFG_EN 11), 1)], by decide⟩,
   ⟨.core, 0x10, mgr 3 [(GPIO_OUT_VALUE, 61680), ((SEQ_SLOT_CFG_OUT_GPIO 11), 5), ((SEQ_SLOT_CFG_EN 11), 1)], by decide⟩,
   ⟨.core, 3, 0x732, mgr 3 [(GPIO_OUT_VALUE, 61680), ((SEQ_SLOT_CFG_OUT_GPIO 11), 5), ((SEQ_SLOT_CFG_EN 11), 1)], by decide⟩,
   ⟨.core, 5, 0x732, mgr 3 [(GPIO_OUT_VALUE, 61680), ((SEQ_SLOT_CFG_OUT_GPIO 11), 5), ((SEQ_SLOT_CFG_EN 11), 1)], by decide⟩,
   ⟨4, true, mgr 3 [((GPIO_CFG_EDGE 4), 3)], by decide⟩,
   ⟨4, true, mgr 3 [], by decide⟩⟩

/-- interruptController: each clause's conditions hold of a state. -/
theorem witness_interruptController :
    (∃ (line : Fin 256) (u : Nat) (s : State), s.lineOn line.val = true ∧ s.lineMask line.val ≠ 0 ∧ s.inService line.val = false ∧ (s.eng.icu.pend.any fun x => x.1 == line.val) = false ∧ s.icuTarget line.val = some u) ∧
    (∃ (line : Fin 256) (u : Nat) (s : State), s.eng.icu.pend = [(line.val, u)] ∧ s.lineOn line.val = false) ∧
    (∃ (src : Src) (tg : Fin 5) (l : Nat) (s : State), src = .core ∧ tg.val < 3 ∧ s.presentable tg.val = some l ∧ (s.stack tg.val).length < 8 ∧ s.eng.icu.claims.length = 5 ∧ l < 256) ∧
    (∃ (src : Src) (tg : Fin 5) (s : State), src = .core ∧ tg.val < 3 ∧ s.presentable tg.val = none) ∧
    (∃ (src : Src) (tg : Fin 5) (l : Nat) (s : State), src = .core ∧ tg.val < 3 ∧ s.presentable tg.val = some l ∧ 8 ≤ (s.stack tg.val).length) ∧
    (∃ (src : Src) (tg : Fin 5) (line : BitVec 8) (q : Nat) (r : List (Nat × Nat)) (s : State), s.takes src (ICU_T_DONE tg.val) (line.zeroExtend 32) = true ∧ src = .core ∧ tg.val < 3 ∧ s.stack tg.val = (line.toNat, q) :: r ∧ s.eng.icu.claims.length = 5 ∧ s.lineOn line.toNat = false) ∧
    (∃ (src : Src) (tg : Fin 5) (line : BitVec 8) (s : State), s.takes src (ICU_T_DONE tg.val) (line.zeroExtend 32) = true ∧ src = .core ∧ tg.val < 3 ∧ (s.stack tg.val).head?.all (fun x => x.1 != line.toNat) = true) ∧
    (∃ (src : Src) (w : Word) (s : State), s.takes src ICU_SWI w = true) ∧
    (∃ (src : Src) (line : Fin 256) (w : Word) (s : State), s.takes src (ICU_LINE line.val) w = true ∧ src = .core) ∧
    (∃ (src : Src) (line : Fin 256) (w : Word) (s : State), s.takes src (ICU_LINE line.val) w = true ∧ src ≠ .core) ∧
    (∃ (tg : Fin 5) (s : State), s.gateDue tg.val = true ∧ s.eng.icu.gate.length = 5 ∧ s.eng.icu.shown.getD tg.val false = false) ∧
    (∃ (s : State), s.startUpOver = true) :=
  ⟨⟨251, 0, mgr 3 [((ICU_LINE_CMASK 251), 1), (ICU_STATUS_ELIG, 1), (ICU_SWI_SW, 1)], by decide⟩,
   ⟨251, 0, { mgr 3 [((ICU_LINE_CMASK 251), 1), (ICU_STATUS_ELIG, 1)] with eng := { (mgr 3 [((ICU_LINE_CMASK 251), 1), (ICU_STATUS_ELIG, 1)]).eng with icu := { pend := [(251, 0)] } } }, by decide⟩,
   ⟨.core, 0, 251, { mgr 3 [((ICU_LINE_CMASK 251), 1), (ICU_STATUS_ELIG, 1), ((ICU_LINE_CPRIO 251), 7)] with eng := { (mgr 3 [((ICU_LINE_CMASK 251), 1), (ICU_STATUS_ELIG, 1), ((ICU_LINE_CPRIO 251), 7)]).eng with icu := { pend := [(251, 0)] } } }, by decide⟩,
   ⟨.core, 0, mgr 3 [], by decide⟩,
   ⟨.core, 0, 251, { mgr 3 [((ICU_LINE_CMASK 251), 1), (ICU_STATUS_ELIG, 1), ((ICU_LINE_CPRIO 251), 7)] with eng := { (mgr 3 [((ICU_LINE_CMASK 251), 1), (ICU_STATUS_ELIG, 1), ((ICU_LINE_CPRIO 251), 7)]).eng with icu := { pend := [(251, 0)], claims := [[(1, 200), (2, 9), (3, 9), (4, 9), (5, 9), (6, 9), (7, 9), (8, 9)], [], [], [], []] } } }, by decide⟩,
   ⟨.core, 0, 251, 7, [], { mgr 3 [] with eng := { (mgr 3 []).eng with icu := { claims := [[(251, 7)], [], [], [], []] } } }, by decide⟩,
   ⟨.core, 0, 5, mgr 3 [], by decide⟩,
   ⟨.core, 1, mgr 3 [((ICU_LINE_CMASK 251), 1), (ICU_STATUS_ELIG, 1)], by decide⟩,
   ⟨.core, 251, 0x12345607, mgr 3 [], by decide⟩,
   ⟨(.ring 3), 251, 0x1234561F, mgr 3 [(SEC_POLICY_WRITE_MIN, 0)], by decide⟩,
   ⟨1, { { mgr 3 [((ICU_T_MOD_TIME 1), 50)] with eng := { (mgr 3 [((ICU_T_MOD_TIME 1), 50)]).eng with icu := { since := [0, 2, 0, 0, 0] } } } with now := 50 }, by decide⟩,
   ⟨{ { mgr 3 [] with eng := { (mgr 3 []).eng with icu := { startUp := true } } } with now := 70000000 }, by decide⟩⟩

/-- faultCollector: each clause's conditions hold of a state. -/
theorem witness_faultCollector :
    (∃ (m : Msg) (s : State), s.released = true ∧ s.fltNext = some m ∧ (s.fltClass m + b2n (s.fltCount m).1) ≤ 3 ∧ 1 ≤ (s.fltClass m + b2n (s.fltCount m).1) ∧ s.heldBy pgREC < 4) ∧
    (∃ (m : Msg) (s : State), s.released = true ∧ s.fltNext = some m ∧ (s.fltClass m + b2n (s.fltCount m).1) = 4 ∧ (s.mode = 3 ∨ s.mode = 4)) ∧
    (∃ (s : State), s.released = true ∧ s.fltNext = none) ∧
    (∃ (s : State), s.mode = 6 ∧ s.fltMayQuiet = true ∧ s.quietOver = true ∧ s.fltGrave = false) ∧
    (∃ (src : Src) (key : BitVec 16) (s : State), s.takes src FLT_CMD (keyed key 1) = true ∧ s.accepts 9 = true ∧ s.mode = 6 ∧ s.fltHold % 64 = 0 ∧ s.fltGrave = false) ∧
    (∃ (src : Src) (key : BitVec 16) (s : State), s.takes src FLT_CMD (keyed key 1) = true ∧ s.accepts 9 = true ∧ s.mode = 6 ∧ s.fltHold % 32 ≠ 0) ∧
    (∃ (src : Src) (key : BitVec 16) (s : State), s.takes src FLT_CMD (keyed key 1) = true ∧ s.accepts 9 = true ∧ s.mode = 6 ∧ s.fltHold % 64 = 32 ∧ s.fltGrave = false) ∧
    (∃ (src : Src) (key : BitVec 16) (s : State), s.takes src FLT_CMD (keyed key 2) = true) ∧
    (∃ (src : Src) (w : Word) (s : State), s.takes src FLT_PEND w = true) ∧
    (∃ (src : Src) (w : Word) (s : State), s.takes src FLT_FIRST_INFO w = true ∧ FLT_FIRST_INFO_VALID.of w = 1) ∧
    (∃ (src : Src) (w : Word) (s : State), s.takes src FLT_INJ w = true ∧ s.mode = 7 ∧ s.heldBy (getBits w 24 8) < 4) ∧
    (∃ (src : Src) (w : Word) (s : State), s.takes src FLT_INJ w = true ∧ s.mode ≠ 7) :=
  ⟨⟨⟨pgAFE, 3, 1, 0, false⟩, { mgr 3 [] with eng := { (mgr 3 []).eng with flt := { held := [⟨pgAFE, 3, 1, 0, false⟩] } } }, by decide⟩,
   ⟨⟨pgMODE, 0, 0, 0, false⟩, { mgr 3 [] with eng := { (mgr 3 []).eng with flt := { held := [⟨pgMODE, 0, 0, 0, false⟩] } } }, by decide⟩,
   ⟨mgr 3 [], by decide⟩,
   ⟨{ { mgr 6 [(FLT_STATUS_HOLDING, 1), (FLT_CFG_AUTO_EXIT, 1)] with eng := { (mgr 6 [(FLT_STATUS_HOLDING, 1), (FLT_CFG_AUTO_EXIT, 1)]).eng with flt := { quietFrom := some 0 } } } with now := 700000000 }, by decide⟩,
   ⟨.core, 0xF17C, mgr 6 [(FLT_STATUS_HOLDING, 1)], by decide⟩,
   ⟨.core, 0xF17C, mgr 6 [(CONT_STATUS_FT_LATCH, 1)], by decide⟩,
   ⟨.core, 0xF17C, mgr 6 [(KEEP_STATUS_IN_CONTROL, 1)], by decide⟩,
   ⟨.core, 0xF17C, mgr 6 [(FLT_CNT_RECOVERIES, 3)], by decide⟩,
   ⟨.core, 0xF, mgr 3 [(FLT_PEND_SEV, 15)], by decide⟩,
   ⟨.core, 0x80000000, mgr 3 [], by decide⟩,
   ⟨.core, 0x13041000, mgr 7 [], by decide⟩,
   ⟨.core, 0x13041000, mgr 3 [], by decide⟩⟩

/-- watchdogsAndTaskMonitor: each clause's conditions hold of a state. -/
theorem witness_watchdogsAndTaskMonitor :
    (∃ (src : Src) (n : Fin 4) (w : Word) (s : State), s.takes src (WDG_SVC n.val) w = true ∧ src ≠ .core ↔ n = 3 ∧ (s.eng.wdg.sync.filter fun x => x.n == n.val).length < 2) ∧
    (∃ (n : Fin 4) (t0 : Nat) (s : State), s.eng.wdg.sync = [⟨n.val, 0xA5C3, t0⟩] ∧ 2 ≤ s.wdgSince n.val t0 ∧ s.wdgRuns n.val = true ∧ s.b WDG_STATUS_COMPAT = false ∧ s.wdgCnt n.val < s.wdgPeriod n.val) ∧
    (∃ (n : Fin 4) (t0 : Nat) (s : State), s.eng.wdg.sync = [⟨n.val, 0x3C5A, t0⟩] ∧ 2 ≤ s.wdgSince n.val t0 ∧ s.wdgRuns n.val = true ∧ s.b WDG_STATUS_COMPAT = false ∧ s.wdgCnt n.val < s.wdgPeriod n.val ∧ s.b (WDG_STATUS_ARMED.bit n.val) = true ∧ s.wdgCnt n.val ≤ s.eng.wdg.armed.getD n.val 0 + 8 ∧ s.wdgOpen n.val ≤ s.wdgCnt n.val) ∧
    (∃ (n : Fin 4) (t0 : Nat) (s : State), s.eng.wdg.sync = [⟨n.val, 0x3C5A, t0⟩] ∧ 2 ≤ s.wdgSince n.val t0 ∧ s.wdgRuns n.val = true ∧ s.b WDG_STATUS_COMPAT = false ∧ s.wdgCnt n.val < s.wdgPeriod n.val ∧ s.b (WDG_STATUS_ARMED.bit n.val) = false ∧ s.f (WDG_CFG_ACT n.val) = 0) ∧
    (∃ (n : Fin 4) (v : Nat) (t0 : Nat) (s : State), s.eng.wdg.sync = [⟨n.val, v, t0⟩] ∧ 2 ≤ s.wdgSince n.val t0 ∧ s.wdgRuns n.val = true ∧ s.b WDG_STATUS_COMPAT = false ∧ s.wdgCnt n.val < s.wdgPeriod n.val ∧ v ≠ 0xA5C3 ∧ v ≠ 0x3C5A ∧ s.f (WDG_CFG_ACT n.val) = 0) ∧
    (∃ (n : Fin 4) (s : State), s.armOver n.val = true) ∧
    (∃ (n : Fin 4) (s : State), s.wdgOver n.val = true ∧ s.f (WDG_CFG_ACT n.val) = 0) ∧
    (∃ (n : Fin 4) (s : State), s.wdgOver n.val = true ∧ n.val ≠ 0 ∧ s.f (WDG_CFG_ACT n.val) = 2) ∧
    (∃ (n : Fin 4) (cnt : Nat) (s : State), s.wdgRuns n.val = true ∧ cnt ≤ s.wdgCnt n.val ∧ s.f (WDG_CFG_ACT n.val) = 0) ∧
    (∃ (src : Src) (n : Fin 4) (w : Word) (s : State), s.takes src (WDG_CFG n.val) w = true) ∧
    (∃ (src : Src) (key : BitVec 16) (slot : Fin 16) (s : State), s.takes src WDG_TM_CHECKIN (keyed key (slot.val * 2 ^ WDG_TM_CHECKIN_SLOT.lo)) = true ∧ src = .core) ∧
    (∃ (src : Src) (key : BitVec 16) (slot : Fin 16) (s : State), s.takes src WDG_TM_CHECKIN (keyed key (slot.val * 2 ^ WDG_TM_CHECKIN_SLOT.lo)) = true ∧ src ≠ .core) ∧
    (∃ (s : State), s.tmOver = true ∧ s.b WDG_TM_CFG_TO_WD3 = false) :=
  ⟨⟨.core, 1, 0xA5C3, mgr 3 [], by decide⟩,
   ⟨3, 0, { { mgr 3 [((WDG_CFG_EN 3), 1), ((WDG_CFG_PERIOD 3), 1000), ((WDG_CFG_ACT 3), 0)] with eng := { (mgr 3 [((WDG_CFG_EN 3), 1), ((WDG_CFG_PERIOD 3), 1000), ((WDG_CFG_ACT 3), 0)]).eng with wdg := { sync := [⟨3, 0xA5C3, 0⟩] } } } with now := 62 }, by decide⟩,
   ⟨3, 0, { { mgr 3 [((WDG_CFG_EN 3), 1), ((WDG_CFG_PERIOD 3), 1000), ((WDG_CFG_ACT 3), 0), ((WDG_STATUS_ARMED.bit 3), 1)] with eng := { (mgr 3 [((WDG_CFG_EN 3), 1), ((WDG_CFG_PERIOD 3), 1000), ((WDG_CFG_ACT 3), 0), ((WDG_STATUS_ARMED.bit 3), 1)]).eng with wdg := { sync := [⟨3, 0x3C5A, 0⟩], armed := [0, 0, 0, 10] } } } with now := 62 }, by decide⟩,
   ⟨3, 0, { { mgr 3 [((WDG_CFG_EN 3), 1), ((WDG_CFG_PERIOD 3), 1000), ((WDG_CFG_ACT 3), 0)] with eng := { (mgr 3 [((WDG_CFG_EN 3), 1), ((WDG_CFG_PERIOD 3), 1000), ((WDG_CFG_ACT 3), 0)]).eng with wdg := { sync := [⟨3, 0x3C5A, 0⟩] } } } with now := 62 }, by decide⟩,
   ⟨3, 7, 0, { { mgr 3 [((WDG_CFG_EN 3), 1), ((WDG_CFG_PERIOD 3), 1000), ((WDG_CFG_ACT 3), 0)] with eng := { (mgr 3 [((WDG_CFG_EN 3), 1), ((WDG_CFG_PERIOD 3), 1000), ((WDG_CFG_ACT 3), 0)]).eng with wdg := { sync := [⟨3, 7, 0⟩] } } } with now := 62 }, by decide⟩,
   ⟨3, { mgr 3 [((WDG_CFG_EN 3), 1), ((WDG_CFG_PERIOD 3), 1000), ((WDG_CFG_ACT 3), 0), ((WDG_STATUS_ARMED.bit 3), 1)] with now := 1000 }, by decide⟩,
   ⟨3, { mgr 3 [((WDG_CFG_EN 3), 1), ((WDG_CFG_PERIOD 3), 1000), ((WDG_CFG_ACT 3), 0)] with now := 50000 }, by decide⟩,
   ⟨3, { mgr 3 [((WDG_CFG_EN 3), 1), ((WDG_CFG_PERIOD 3), 1000), ((WDG_CFG_ACT 3), 2)] with now := 50000 }, by decide⟩,
   ⟨3, 500, { mgr 3 [((WDG_CFG_EN 3), 1), ((WDG_CFG_PERIOD 3), 1000), ((WDG_CFG_ACT 3), 0)] with now := 20000 }, by decide⟩,
   ⟨(.ring 3), 3, 0x80000400, mgr 3 [(SEC_POLICY_WRITE_MIN, 0)], by decide⟩,
   ⟨.core, 0x7A5C, 5, mgr 3 [((WDG_TM_SLOT_EN 5), 1)], by decide⟩,
   ⟨.xspi, 0x7A5C, 5, mgr 3 [((WDG_TM_SLOT_EN 5), 1)], by decide⟩,
   ⟨{ { mgr 3 [((WDG_TM_SLOT_EN 5), 1), ((WDG_TM_SLOT_MIN 5), 2)] with eng := { (mgr 3 [((WDG_TM_SLOT_EN 5), 1), ((WDG_TM_SLOT_MIN 5), 2)]).eng with wdg := { tm := true } } } with now := 70000000 }, by decide⟩⟩

/-- keeper: each clause's conditions hold of a state. -/
theorem witness_keeper :
    (∃ (s : State), s.coreRuns 0 = true ∧ (s.mode = 3 ∨ s.mode = 4) ∧ s.keep = 0 ∧ s.keepTries < 3 ∧ s.heldBy pgKEEP < 4) ∧
    (∃ (s : State), s.coreRuns 0 = true ∧ (s.mode = 3 ∨ s.mode = 4) ∧ s.keep = 0 ∧ s.keepTries = 3) ∧
    (∃ (s : State), s.keep = 1 ∧ s.keepFor 1000 = true ∧ s.keepTries < 3) ∧
    (∃ (s : State), s.keep = 2 ∧ s.keepFor (s.f KEEP_CFG_PROB * 1000) = true ∧ 1 ≤ s.keepTries ∧ s.heldBy pgKEEP < 4) ∧
    (∃ (s : State), s.keep = 0 ∧ s.keepTries ≠ 0 ∧ s.keepFor 600000000 = true) ∧
    (∃ (src : Src) (key : BitVec 16) (s : State), s.takes src KEEP_CMD (keyed key 1) = true ∧ s.accepts 9 = true ∧ s.keep = 3) :=
  ⟨⟨{ mgr 3 [] with eng := { (mgr 3 []).eng with boot := { cores := [true, true, true] } } }, by decide⟩,
   ⟨{ mgr 3 [(KEEP_STATUS_ATTEMPTS, 3)] with eng := { (mgr 3 [(KEEP_STATUS_ATTEMPTS, 3)]).eng with boot := { cores := [true, true, true] } } }, by decide⟩,
   ⟨{ mgr 6 [(KEEP_STATUS_STATE, 1), (KEEP_STATUS_IN_CONTROL, 1)] with now := 1000 }, by decide⟩,
   ⟨{ mgr 6 [(KEEP_STATUS_STATE, 2), (KEEP_STATUS_IN_CONTROL, 1), (KEEP_STATUS_ATTEMPTS, 1)] with now := 70000000 }, by decide⟩,
   ⟨{ mgr 3 [(KEEP_STATUS_ATTEMPTS, 2)] with now := 600000000 }, by decide⟩,
   ⟨.core, 0xD0A7, { mgr 6 [(KEEP_STATUS_STATE, 3), (KEEP_STATUS_IN_CONTROL, 1)] with eng := { (mgr 6 [(KEEP_STATUS_STATE, 3), (KEEP_STATUS_IN_CONTROL, 1)]).eng with boot := { cores := [true, true, true] } } }, by decide⟩⟩

/-- thermalManagement: each clause's conditions hold of a state. -/
theorem witness_thermalManagement :
    (∃ (ts : List (List Int)) (a : Int) (b : Int) (c : Int) (d : Int) (e : Int) (g : Int) (s : State), s.thmSamples = true ∧ s.eng.boot.hold = 0 ∧ ts = [[a, b, c, d, e, g]] ∧ s.f THM_CFG_EN = 63 ∧ (List.range 6).all (fun k => !s.b (THM_T_FAULT k)) = true ∧ [a, b, c, d, e, g].all (fun x => -550 ≤ x && x ≤ 1750) = true ∧ s.eng.thm.conds = [⟨false, 3⟩, {}, {}, {}, {}] ∧ 10 * (s.f THM_THR_WARN : Int) ≤ max (max a b) c ∧ s.b (THM_STATUS_WARN.bit 0) = false ∧ s.b (THM_STATUS_WARN.bit 1) = false ∧ s.f THM_STATUS_LEVEL = 0 ∧ s.f THM_STATUS_UNMON = 0 ∧ s.heldBy pgTHM < 4) ∧
    (∃ (ts : List (List Int)) (a : Int) (b : Int) (c : Int) (d : Int) (e : Int) (g : Int) (s : State), s.thmSamples = true ∧ s.eng.boot.hold = 0 ∧ ts = [[a, b, c, d, e, g]] ∧ s.f THM_CFG_EN = 63 ∧ (List.range 6).all (fun k => !s.b (THM_T_FAULT k)) = true ∧ [a, b, c, d, e, g].all (fun x => -550 ≤ x && x ≤ 1750) = true ∧ s.eng.thm.conds = [⟨true, 3⟩, {}, {}, {}, {}] ∧ max (max a b) c ≤ 10 * (s.f THM_THR_WARN : Int) - 10 * (s.f THM_CFG_HYS : Int) ∧ s.f THM_STATUS_LEVEL = 0 ∧ s.f THM_STATUS_UNMON = 0) ∧
    (∃ (ts : List (List Int)) (a : Int) (b : Int) (c : Int) (d : Int) (e : Int) (g : Int) (s : State), s.thmSamples = true ∧ s.eng.boot.hold = 0 ∧ ts = [[a, b, c, d, e, g]] ∧ s.f THM_CFG_EN = 63 ∧ (List.range 6).all (fun k => !s.b (THM_T_FAULT k)) = true ∧ [a, b, c, d, e, g].all (fun x => -550 ≤ x && x ≤ 1750) = true ∧ s.eng.thm.conds = [⟨false, 2⟩, {}, {}, {}, {}] ∧ 10 * (s.f THM_THR_WARN : Int) ≤ max (max a b) c ∧ s.b (THM_STATUS_WARN.bit 0) = false ∧ s.b (THM_STATUS_WARN.bit 1) = false ∧ s.f THM_STATUS_LEVEL = 0 ∧ s.f THM_STATUS_UNMON = 0) ∧
    (∃ (ts : List (List Int)) (a : Int) (b : Int) (c : Int) (d : Int) (e : Int) (g : Int) (s : State), s.thmSamples = true ∧ s.eng.boot.hold = 0 ∧ ts = [[a, b, c, d, e, g]] ∧ s.f THM_CFG_EN = 63 ∧ (List.range 6).all (fun k => !s.b (THM_T_FAULT k)) = true ∧ [a, b, c, d, e, g].all (fun x => -550 ≤ x && x ≤ 1750) = true ∧ s.eng.thm.conds = [{}, ⟨false, 3⟩, {}, {}, {}] ∧ 10 * (s.f THM_THR_WARN : Int) ≤ max (max d e) g ∧ s.b (THM_STATUS_WARN.bit 1) = false ∧ s.b (THM_STATUS_WARN.bit 0) = false ∧ s.f THM_STATUS_LEVEL = 0 ∧ s.f THM_STATUS_UNMON = 0 ∧ s.heldBy pgTHM < 4) ∧
    (∃ (ts : List (List Int)) (a : Int) (b : Int) (c : Int) (d : Int) (e : Int) (g : Int) (s : State), s.thmSamples = true ∧ s.eng.boot.hold = 0 ∧ ts = [[a, b, c, d, e, g]] ∧ s.f THM_CFG_EN = 63 ∧ (List.range 6).all (fun k => !s.b (THM_T_FAULT k)) = true ∧ [a, b, c, d, e, g].all (fun x => -550 ≤ x && x ≤ 1750) = true ∧ s.eng.thm.conds = [{}, ⟨true, 3⟩, {}, {}, {}] ∧ max (max d e) g ≤ 10 * (s.f THM_THR_WARN : Int) - 10 * (s.f THM_CFG_HYS : Int) ∧ s.f THM_STATUS_LEVEL = 0 ∧ s.f THM_STATUS_UNMON = 0) ∧
    (∃ (ts : List (List Int)) (a : Int) (b : Int) (c : Int) (d : Int) (e : Int) (g : Int) (s : State), s.thmSamples = true ∧ s.eng.boot.hold = 0 ∧ ts = [[a, b, c, d, e, g]] ∧ s.f THM_CFG_EN = 63 ∧ (List.range 6).all (fun k => !s.b (THM_T_FAULT k)) = true ∧ [a, b, c, d, e, g].all (fun x => -550 ≤ x && x ≤ 1750) = true ∧ s.eng.thm.conds = [{}, ⟨false, 2⟩, {}, {}, {}] ∧ 10 * (s.f THM_THR_WARN : Int) ≤ max (max d e) g ∧ s.b (THM_STATUS_WARN.bit 1) = false ∧ s.b (THM_STATUS_WARN.bit 0) = false ∧ s.f THM_STATUS_LEVEL = 0 ∧ s.f THM_STATUS_UNMON = 0) ∧
    (∃ (ts : List (List Int)) (a : Int) (b : Int) (c : Int) (d : Int) (e : Int) (g : Int) (s : State), s.thmSamples = true ∧ s.eng.boot.hold = 0 ∧ ts = [[a, b, c, d, e, g]] ∧ s.f THM_CFG_EN = 63 ∧ (List.range 6).all (fun k => !s.b (THM_T_FAULT k)) = true ∧ [a, b, c, d, e, g].all (fun x => -550 ≤ x && x ≤ 1750) = true ∧ s.eng.thm.conds = [{}, {}, ⟨false, 3⟩, {}, {}] ∧ 10 * (s.f THM_THR_THR : Int) ≤ max (max (max a b) c) (max (max d e) g) ∧ s.f THM_STATUS_LEVEL = 0 ∧ s.f THM_STATUS_UNMON = 0 ∧ s.heldBy pgTHM < 4) ∧
    (∃ (ts : List (List Int)) (a : Int) (b : Int) (c : Int) (d : Int) (e : Int) (g : Int) (s : State), s.thmSamples = true ∧ s.eng.boot.hold = 0 ∧ ts = [[a, b, c, d, e, g]] ∧ s.f THM_CFG_EN = 63 ∧ (List.range 6).all (fun k => !s.b (THM_T_FAULT k)) = true ∧ [a, b, c, d, e, g].all (fun x => -550 ≤ x && x ≤ 1750) = true ∧ s.eng.thm.conds = [{}, {}, ⟨true, 0⟩, ⟨false, 3⟩, {}] ∧ 10 * ((s.f THM_THR_THR : Int) + s.f THM_CFG_STEP2) ≤ max (max (max a b) c) (max (max d e) g) ∧ s.f THM_STATUS_LEVEL = 1 ∧ s.f THM_STATUS_UNMON = 0) ∧
    (∃ (ts : List (List Int)) (a : Int) (b : Int) (c : Int) (d : Int) (e : Int) (g : Int) (s : State), s.thmSamples = true ∧ s.eng.boot.hold = 0 ∧ ts = [[a, b, c, d, e, g]] ∧ s.f THM_CFG_EN = 63 ∧ (List.range 6).all (fun k => !s.b (THM_T_FAULT k)) = true ∧ [a, b, c, d, e, g].all (fun x => -550 ≤ x && x ≤ 1750) = true ∧ s.eng.thm.conds = [{}, {}, ⟨true, 3⟩, {}, {}] ∧ max (max (max a b) c) (max (max d e) g) ≤ 10 * (s.f THM_THR_THR : Int) - 10 * (s.f THM_CFG_HYS : Int) ∧ s.f THM_STATUS_LEVEL = 1 ∧ s.f THM_STATUS_UNMON = 0) ∧
    (∃ (k : Nat) (s : State), s.eng.scan.skipNext = some k ∧ s.epoch % 64 = 0) ∧
    (∃ (ts : List (List Int)) (k : Nat) (a : Int) (b : Int) (c : Int) (d : Int) (e : Int) (g : Int) (s : State), s.thmSamples = true ∧ s.eng.boot.hold = 0 ∧ ts = [[a, b, c, d, e, g]] ∧ s.f THM_CFG_EN = 63 ∧ s.eng.thm.conds = [{}, {}, {}, {}, {}] ∧ s.f THM_STATUS_LEVEL = 0 ∧ s.f THM_STATUS_UNMON = 0 ∧ k < 6 ∧ s.eng.thm.odd = (List.range 6).map (fun j => if j = k then 9 else 0) ∧ (List.range 6).all (fun j => !s.b (THM_T_FAULT j)) = true ∧ ((List.range 6).all (fun j => decide (-550 ≤ [a, b, c, d, e, g].getD j 0 ∧ [a, b, c, d, e, g].getD j 0 ≤ 1750) == decide (j ≠ k)) = true) ∧ s.b (THM_STATUS_WARN.bit 0) = false ∧ s.b (THM_STATUS_WARN.bit 1) = false ∧ s.heldBy pgTHM < 4) ∧
    (∃ (ts : List (List Int)) (k : Nat) (a : Int) (b : Int) (c : Int) (d : Int) (e : Int) (g : Int) (s : State), s.thmSamples = true ∧ s.eng.boot.hold = 0 ∧ ts = [[a, b, c, d, e, g]] ∧ s.f THM_CFG_EN = 63 ∧ s.eng.thm.conds = [{}, {}, {}, {}, {}] ∧ s.f THM_STATUS_LEVEL = 0 ∧ s.f THM_STATUS_UNMON = 0 ∧ k < 6 ∧ s.eng.thm.odd = (List.range 6).map (fun j => if j = k then 9 else 0) ∧ (List.range 6).all (fun j => s.b (THM_T_FAULT j) == decide (j = k)) = true ∧ [a, b, c, d, e, g].all (fun x => -550 ≤ x && x ≤ 1750) = true) ∧
    (∃ (ts : List (List Int)) (x : Int) (a : Int) (b : Int) (c : Int) (d : Int) (e : Int) (g : Int) (s : State), s.thmSamples = true ∧ s.eng.boot.hold = 0 ∧ ts = [[a, b, c, d, e, g]] ∧ s.f THM_CFG_EN = 63 ∧ (List.range 6).all (fun k => !s.b (THM_T_FAULT k)) = true ∧ [a, b, c, d, e, g].all (fun x => -550 ≤ x && x ≤ 1750) = true ∧ s.released = true ∧ s.eng.thm.conds = [{}, {}, {}, {}, ⟨false, 1⟩] ∧ [a, b, c, d, e, g] = [x, x, x, x, x, x] ∧ 10 * (s.f THM_THR_SHUT : Int) ≤ x) ∧
    (∃ (ts : List (List Int)) (a : Int) (b : Int) (c : Int) (d : Int) (e : Int) (g : Int) (n : Nat) (s : State), ts = [[a, b, c, d, e, g]] ∧ s.f THM_CFG_EN = 63 ∧ (List.range 6).all (fun k => !s.b (THM_T_FAULT k)) = true ∧ [a, b, c, d, e, g].all (fun x => -550 ≤ x && x ≤ 1750) = true ∧ s.eng.boot.hold = 2 ∧ max (max (max a b) c) (max (max d e) g) ≤ 10 * (s.f THM_THR_SHUT : Int) - 10 * (s.f THM_CFG_HYS : Int) ∧ s.eng.thm.cool = some n ∧ n + 100000 ≤ s.now) ∧
    (∃ (ts : List (List Int)) (a : Int) (b : Int) (c : Int) (d : Int) (e : Int) (g : Int) (n : Nat) (s : State), ts = [[a, b, c, d, e, g]] ∧ s.f THM_CFG_EN = 63 ∧ (List.range 6).all (fun k => !s.b (THM_T_FAULT k)) = true ∧ [a, b, c, d, e, g].all (fun x => -550 ≤ x && x ≤ 1750) = true ∧ s.eng.boot.hold = 2 ∧ max (max (max a b) c) (max (max d e) g) ≤ 10 * (s.f THM_THR_SHUT : Int) - 10 * (s.f THM_CFG_HYS : Int) ∧ s.eng.thm.cool = some n ∧ s.now < n + 100000) ∧
    (∃ (ts : List (List Int)) (a : Int) (b : Int) (c : Int) (d : Int) (e : Int) (g : Int) (s : State), ts = [[a, b, c, d, e, g]] ∧ s.f THM_CFG_EN = 63 ∧ (List.range 6).all (fun k => !s.b (THM_T_FAULT k)) = true ∧ [a, b, c, d, e, g].all (fun x => -550 ≤ x && x ≤ 1750) = true ∧ s.eng.boot.hold = 2 ∧ 10 * (s.f THM_THR_SHUT : Int) - 10 * (s.f THM_CFG_HYS : Int) < max (max (max a b) c) (max (max d e) g)) :=
  ⟨⟨[[1110, 20, 30, 1120, 20, 30]], 1110, 20, 30, 1120, 20, 30, { mgr 3 [] with eng := { (mgr 3 []).eng with thm := { conds := [⟨false, 3⟩, {}, {}, {}, {}] } } }, by decide⟩,
   ⟨[[1000, 20, 30, 1000, 20, 30]], 1000, 20, 30, 1000, 20, 30, { mgr 3 [((THM_STATUS_WARN.bit 0), 1)] with eng := { (mgr 3 [((THM_STATUS_WARN.bit 0), 1)]).eng with thm := { conds := [⟨true, 3⟩, {}, {}, {}, {}] } } }, by decide⟩,
   ⟨[[1110, 20, 30, 1120, 20, 30]], 1110, 20, 30, 1120, 20, 30, { mgr 3 [] with eng := { (mgr 3 []).eng with thm := { conds := [⟨false, 2⟩, {}, {}, {}, {}] } } }, by decide⟩,
   ⟨[[1110, 20, 30, 1120, 20, 30]], 1110, 20, 30, 1120, 20, 30, { mgr 3 [] with eng := { (mgr 3 []).eng with thm := { conds := [{}, ⟨false, 3⟩, {}, {}, {}] } } }, by decide⟩,
   ⟨[[1000, 20, 30, 1000, 20, 30]], 1000, 20, 30, 1000, 20, 30, { mgr 3 [((THM_STATUS_WARN.bit 1), 1)] with eng := { (mgr 3 [((THM_STATUS_WARN.bit 1), 1)]).eng with thm := { conds := [{}, ⟨true, 3⟩, {}, {}, {}] } } }, by decide⟩,
   ⟨[[1110, 20, 30, 1120, 20, 30]], 1110, 20, 30, 1120, 20, 30, { mgr 3 [] with eng := { (mgr 3 []).eng with thm := { conds := [{}, ⟨false, 2⟩, {}, {}, {}] } } }, by decide⟩,
   ⟨[[1210, 20, 30, 10, 20, 30]], 1210, 20, 30, 10, 20, 30, { mgr 3 [] with eng := { (mgr 3 []).eng with thm := { conds := [{}, {}, ⟨false, 3⟩, {}, {}] } } }, by decide⟩,
   ⟨[[1260, 20, 30, 10, 20, 30]], 1260, 20, 30, 10, 20, 30, { mgr 3 [(THM_STATUS_LEVEL, 1)] with eng := { (mgr 3 [(THM_STATUS_LEVEL, 1)]).eng with thm := { conds := [{}, {}, ⟨true, 0⟩, ⟨false, 3⟩, {}] } } }, by decide⟩,
   ⟨[[1090, 20, 30, 10, 20, 30]], 1090, 20, 30, 10, 20, 30, { mgr 3 [(THM_STATUS_LEVEL, 1)] with eng := { (mgr 3 [(THM_STATUS_LEVEL, 1)]).eng with thm := { conds := [{}, {}, ⟨true, 3⟩, {}, {}] } } }, by decide⟩,
   ⟨4, { mgr 3 [] with eng := { (mgr 3 []).eng with scan := { skipNext := some 4 } } }, by decide⟩,
   ⟨[[10, 20, 1760, 10, 20, 30]], 2, 10, 20, 1760, 10, 20, 30, { mgr 3 [] with eng := { (mgr 3 []).eng with thm := { odd := [0, 0, 9, 0, 0, 0] } } }, by decide⟩,
   ⟨[[10, 20, 30, 10, 20, 30]], 2, 10, 20, 30, 10, 20, 30, { mgr 3 [((THM_T_FAULT 2), 1)] with eng := { (mgr 3 [((THM_T_FAULT 2), 1)]).eng with thm := { odd := [0, 0, 9, 0, 0, 0] } } }, by decide⟩,
   ⟨[[1410, 1410, 1410, 1410, 1410, 1410]], 1410, 1410, 1410, 1410, 1410, 1410, 1410, { mgr 3 [] with eng := { (mgr 3 []).eng with thm := { conds := [{}, {}, {}, {}, ⟨false, 1⟩] } } }, by decide⟩,
   ⟨[[900, 20, 30, 10, 20, 30]], 900, 20, 30, 10, 20, 30, 7, { { mgr 3 [] with eng := { (mgr 3 []).eng with boot := { hold := 2 }, thm := { cool := some 7 } } } with now := 100007 }, by decide⟩,
   ⟨[[900, 20, 30, 10, 20, 30]], 900, 20, 30, 10, 20, 30, 7, { { mgr 3 [] with eng := { (mgr 3 []).eng with boot := { hold := 2 }, thm := { cool := some 7 } } } with now := 100006 }, by decide⟩,
   ⟨[[1310, 20, 30, 10, 20, 30]], 1310, 20, 30, 10, 20, 30, { { mgr 3 [] with eng := { (mgr 3 []).eng with boot := { hold := 2 }, thm := { cool := some 7 } } } with now := 100007 }, by decide⟩⟩

/-- calendarAndPowerOn: each clause's conditions hold of a state. -/
theorem witness_calendarAndPowerOn :
    (∃ (s : State), 32768 ≤ s.rtcCount ∧ s.b RTC_ALM_CFG_EN = false ∧ 1 ≤ s.mode ∧ s.f RTC_SEC_SEC + 1 < 2 ^ 32) ∧
    (∃ (s : State), 32768 ≤ s.rtcCount ∧ s.b RTC_ALM_CFG_EN = true ∧ 1 ≤ s.mode ∧ s.mode ≤ 4 ∧ s.f RTC_SEC_SEC + 1 < 2 ^ 32 ∧ s.f RTC_ALARM_SEC = s.f RTC_SEC_SEC + 1) ∧
    (∃ (s : State), s.rtcCount < 32768 ∧ 1 ≤ s.mode) ∧
    (∃ (s : State), s.perDue = true ∧ 1 ≤ s.mode ∧ s.mode ≤ 4) ∧
    (∃ (s : State), s.calDue = true) ∧
    (∃ (src : Src) (r : Fin 4) (s : State), s.served src = true ∧ s.watchShut src (RTC_SUB + 4 * r.val) = false ∧ r.val ≠ 3) ∧
    (∃ (src : Src) (r : Fin 4) (s : State), s.served src = true ∧ s.watchShut src (RTC_SUB + 4 * r.val) = false ∧ r.val = 3) ∧
    (∃ (src : Src) (u : Nat) (v : Nat) (n : Nat) (s : State), s.eng.rtc.frozen = [⟨pathOf src, u, v, n⟩] ∧ n + 1000000 ≤ s.now) ∧
    (∃ (src : Src) (u : Nat) (v : Nat) (n : Nat) (s : State), s.eng.rtc.frozen = [⟨pathOf src, u, v, n⟩] ∧ s.now < n + 1000000) ∧
    (∃ (src : Src) (key : BitVec 16) (s : State), s.takes src RTC_CMD (keyed key 1) = true ∧ s.b RTC_ALM_CFG_EN = false) ∧
    (∃ (src : Src) (key : BitVec 16) (s : State), s.takes src RTC_CMD (keyed key 2) = true) ∧
    (∃ (src : Src) (cfg : Bool) (w : Word) (s : State), s.takes src (if cfg then RTC_ALM_CFG else RTC_ALARM) w = true ∧ cfg = false) ∧
    (∃ (src : Src) (cfg : Bool) (w : Word) (s : State), s.takes src (if cfg then RTC_ALM_CFG else RTC_ALARM) w = true ∧ cfg = true) ∧
    (∃ (src : Src) (w : Word) (s : State), s.takes src RTC_PWRON w = true) ∧
    (∃ (s : State), s.pulseOver = true) :=
  ⟨⟨{ mgr 3 [] with now := 1000001 }, by decide⟩,
   ⟨{ mgr 3 [(RTC_ALM_CFG_EN, 1), (RTC_ALARM_SEC, 1)] with now := 1000001 }, by decide⟩,
   ⟨mgr 3 [], by decide⟩,
   ⟨{ mgr 3 [(RTC_PER_EN, 1), (RTC_PER_PER, 1)] with now := 500000 }, by decide⟩,
   ⟨{ mgr 3 [(CLK_STATUS_ROOT_RC, 0)] with now := 10000000 }, by decide⟩,
   ⟨.core, 1, mgr 3 [], by decide⟩,
   ⟨.core, 3, mgr 3 [], by decide⟩,
   ⟨.xspi, 2, 3, 4, { { mgr 3 [] with eng := { (mgr 3 []).eng with rtc := { frozen := [⟨1, 2, 3, 4⟩] } } } with now := 1000004 }, by decide⟩,
   ⟨.xspi, 2, 3, 4, { { mgr 3 [] with eng := { (mgr 3 []).eng with rtc := { frozen := [⟨1, 2, 3, 4⟩] } } } with now := 1000003 }, by decide⟩,
   ⟨.core, 0x2C7A, mgr 3 [(RTC_SET_SEC_SEC, 805306368)], by decide⟩,
   ⟨.core, 0x2C7A, { mgr 3 [(RTC_PWRON_MODE, 2)] with eng := { (mgr 3 [(RTC_PWRON_MODE, 2)]).eng with rtc := { latched := true } } }, by decide⟩,
   ⟨.core, false, 7, mgr 3 [(RTC_ALM_CFG_EN, 1), (RTC_SEC_SEC, 100)], by decide⟩,
   ⟨.core, true, 1, mgr 3 [(RTC_SEC_SEC, 100)], by decide⟩,
   ⟨.core, 0x00640003, mgr 3 [], by decide⟩,
   ⟨{ mgr 3 [(RTC_PWRON_MODE, 1)] with eng := { (mgr 3 [(RTC_PWRON_MODE, 1)]).eng with rtc := { pulse := true } } }, by decide⟩⟩

/-- memoryAndRecords: each clause's conditions hold of a state. -/
theorem witness_memoryAndRecords :
    (∃ (s : State), s.heldBy pgMEM < 3) ∧
    (∃ (poison : Bool) (err : Option Nat) (j : RecJob) (s : State), s.eng.recs.cur = some j ∧ s.eng.recs.queue = [] ∧ j.kind = 3 ∧ j.words.length = 7 ∧ poison = false ∧ err = none) ∧
    (∃ (poison : Bool) (j : RecJob) (s : State), s.eng.recs.cur = some j ∧ s.eng.recs.queue = [] ∧ j.kind ≠ 2 ∧ poison = true) ∧
    (∃ (src : Src) (key : BitVec 16) (s : State), s.takes src REC_CMD (keyed key 1) = true) ∧
    (∃ (src : Src) (key : BitVec 16) (s : State), s.takes src REC_CMD (keyed key 2) = true) :=
  ⟨⟨mgr 3 [], by decide⟩,
   ⟨false, none, ⟨3, 0, [1, 2, 3, 4, 5, 6, 7]⟩, { mgr 3 [] with eng := { (mgr 3 []).eng with recs := { cur := some ⟨3, 0, [1, 2, 3, 4, 5, 6, 7]⟩ } } }, by decide⟩,
   ⟨true, ⟨3, 0, [1, 2, 3, 4, 5, 6, 7]⟩, { mgr 3 [] with eng := { (mgr 3 []).eng with recs := { cur := some ⟨3, 0, [1, 2, 3, 4, 5, 6, 7]⟩ } } }, by decide⟩,
   ⟨.core, 0x4EC0, mgr 3 [(REC_EVT_PTR_NEXT, 7)], by decide⟩,
   ⟨.core, 0x4EC0, mgr 3 [(REC_THM_PTR_NEXT, 7)], by decide⟩⟩

/-- oneTimeProgrammableMemory: each clause's conditions hold of a state. -/
theorem witness_oneTimeProgrammableMemory :
    (∃ (src : Src) (key : BitVec 16) (margin : Fin 4) (s : State), s.takes src OTP_CMD (keyed key (1 + margin.val * 2 ^ OTP_CMD_MARGIN.lo)) = true ∧ margin.val = 0 ∧ s.b OTP_STATUS_BUSY = false ∧ isProtected (s.f OTP_ADDR_ROW) = false) ∧
    (∃ (src : Src) (key : BitVec 16) (margin : Fin 4) (s : State), s.takes src OTP_CMD (keyed key (1 + margin.val * 2 ^ OTP_CMD_MARGIN.lo)) = true ∧ margin.val ≠ 3 ∧ s.b OTP_STATUS_BUSY = false ∧ isProtected (s.f OTP_ADDR_ROW) = true) ∧
    (∃ (src : Src) (key : BitVec 16) (margin : Fin 4) (s : State), s.takes src OTP_CMD (keyed key (1 + margin.val * 2 ^ OTP_CMD_MARGIN.lo)) = true ∧ margin.val ≠ 3 ∧ s.b OTP_STATUS_BUSY = true) ∧
    (∃ (src : Src) (key : BitVec 16) (margin : Fin 4) (s : State), s.takes src OTP_CMD (keyed key (2 + margin.val * 2 ^ OTP_CMD_MARGIN.lo)) = true ∧ margin.val ≠ 3 ∧ s.accepts 6 = true ∧ s.b OTP_STATUS_BUSY = false ∧ s.f OTP_ADDR_ROW ≤ 0x3FF ∧ (isSealed (s.f OTP_ADDR_ROW) = false ∨ (regionOfRow (s.f OTP_ADDR_ROW)).all (fun r => s.regionState r == 0) = true) ∧ s.lowSupply = false) ∧
    (∃ (src : Src) (key : BitVec 16) (margin : Fin 4) (s : State), s.takes src OTP_CMD (keyed key (2 + margin.val * 2 ^ OTP_CMD_MARGIN.lo)) = true ∧ margin.val ≠ 3 ∧ s.accepts 6 = true ∧ s.b OTP_STATUS_BUSY = false ∧ 0x3FF < s.f OTP_ADDR_ROW) ∧
    (∃ (src : Src) (key : BitVec 16) (margin : Fin 4) (s : State), s.takes src OTP_CMD (keyed key (2 + margin.val * 2 ^ OTP_CMD_MARGIN.lo)) = true ∧ margin.val ≠ 3 ∧ s.accepts 6 = true ∧ s.b OTP_STATUS_BUSY = false ∧ s.f OTP_ADDR_ROW ≤ 0x3FF ∧ isSealed (s.f OTP_ADDR_ROW) = false ∧ s.lowSupply = true) ∧
    (∃ (src : Src) (key : BitVec 16) (margin : Fin 4) (s : State), s.takes src OTP_CMD (keyed key (2 + margin.val * 2 ^ OTP_CMD_MARGIN.lo)) = true ∧ margin.val ≠ 3 ∧ s.accepts 6 = false) ∧
    (∃ (src : Src) (key : BitVec 16) (margin : Fin 4) (e : Nat) (s : State), s.takes src OTP_CMD (keyed key (3 + margin.val * 2 ^ OTP_CMD_MARGIN.lo)) = true ∧ margin.val ≠ 3 ∧ s.accepts 6 = true ∧ s.b OTP_STATUS_BUSY = false ∧ s.f OTP_ADDR_ROW ≤ 0x3FF ∧ (isSealed (s.f OTP_ADDR_ROW) = false ∨ s.f OTP_WDATA_DATA = s.otpRead (s.f OTP_ADDR_ROW)) ∧ s.lowSupply = false ∧ s.freeSpare = some e) ∧
    (∃ (src : Src) (key : BitVec 16) (margin : Fin 4) (s : State), s.takes src OTP_CMD (keyed key (3 + margin.val * 2 ^ OTP_CMD_MARGIN.lo)) = true ∧ margin.val ≠ 3 ∧ s.accepts 6 = true ∧ s.b OTP_STATUS_BUSY = false ∧ s.f OTP_ADDR_ROW ≤ 0x3FF ∧ isSealed (s.f OTP_ADDR_ROW) = false ∧ s.lowSupply = false ∧ s.freeSpare = none) ∧
    (∃ (src : Src) (key : BitVec 16) (margin : Fin 4) (region : Fin 8) (s : State), s.takes src OTP_CMD (keyed key (4 + margin.val * 2 ^ OTP_CMD_MARGIN.lo + region.val * 2 ^ OTP_CMD_REGION.lo)) = true ∧ margin.val ≠ 3 ∧ s.accepts 6 = true ∧ s.b OTP_STATUS_BUSY = false ∧ s.regionState region.val = 0 ∧ s.lowSupply = false) ∧
    (∃ (src : Src) (key : BitVec 16) (margin : Fin 4) (region : Fin 8) (s : State), s.takes src OTP_CMD (keyed key (4 + margin.val * 2 ^ OTP_CMD_MARGIN.lo + region.val * 2 ^ OTP_CMD_REGION.lo)) = true ∧ margin.val ≠ 3 ∧ s.accepts 6 = true ∧ s.b OTP_STATUS_BUSY = false ∧ s.regionState region.val ≠ 0) ∧
    (∃ (fail : Word) (j : OtpJob) (q : Nat) (data : Nat) (s : State), s.eng.otp.job = some j ∧ j.op = 2 ∧ j.rows = [(q, data)] ∧ data < 2 ^ 32 ∧ BitVec.ofNat 32 data &&& fail = 0 ∧ j.retries ≤ 8 ∧ j.most ≤ 8) ∧
    (∃ (fail : Word) (j : OtpJob) (q : Nat) (data : Nat) (s : State), s.eng.otp.job = some j ∧ j.rows = [(q, data)] ∧ data < 2 ^ 32 ∧ BitVec.ofNat 32 data &&& fail ≠ 0 ∧ j.retries < 8) ∧
    (∃ (fail : Word) (j : OtpJob) (q : Nat) (data : Nat) (s : State), s.eng.otp.job = some j ∧ j.op = 2 ∧ j.rows = [(q, data)] ∧ data < 2 ^ 32 ∧ BitVec.ofNat 32 data &&& fail ≠ 0 ∧ j.retries = 8 ∧ s.heldBy pgOTP < 4) :=
  ⟨⟨.core, 0x0A7F, 0, mgr 3 [(OTP_ADDR_ROW, 128)], by decide⟩,
   ⟨.core, 0x0A7F, 0, mgr 3 [(OTP_ADDR_ROW, 897)], by decide⟩,
   ⟨.core, 0x0A7F, 0, mgr 3 [(OTP_STATUS_BUSY, 1)], by decide⟩,
   ⟨.core, 0x0A7F, 0, mgr 7 [(REG_VSYS_MV10, 1200), (OTP_ADDR_ROW, 289), (OTP_WDATA_DATA, 5)], by decide⟩,
   ⟨.core, 0x0A7F, 0, mgr 7 [(REG_VSYS_MV10, 1200), (OTP_ADDR_ROW, 1025)], by decide⟩,
   ⟨.core, 0x0A7F, 0, mgr 7 [(OTP_ADDR_ROW, 255)], by decide⟩,
   ⟨.core, 0x0A7F, 0, mgr 3 [(OTP_ADDR_ROW, 289)], by decide⟩,
   ⟨.core, 0x0A7F, 0, 0, mgr 7 [(REG_VSYS_MV10, 1200), (OTP_ADDR_ROW, 289)], by decide⟩,
   ⟨.core, 0x0A7F, 0, { mgr 7 [(REG_VSYS_MV10, 1200), (OTP_ADDR_ROW, 255)] with otp := (List.range 48).map fun k => (0x410 + k, 0x80000000#32) }, by decide⟩,
   ⟨.core, 0x0A7F, 0, 4, mgr 7 [(REG_VSYS_MV10, 1200)], by decide⟩,
   ⟨.core, 0x0A7F, 0, 4, mgr 7 [(REG_VSYS_MV10, 1200), ((OTP_REGION_STATE 4), 1)], by decide⟩,
   ⟨0, { op := 2, rows := [(0x121, 5)], row := 0x121 }, 0x121, 5, { mgr 7 [] with eng := { (mgr 7 []).eng with otp := { job := some { op := 2, rows := [(0x121, 5)], row := 0x121 } } } }, by decide⟩,
   ⟨1, { op := 2, rows := [(0x121, 5)], row := 0x121 }, 0x121, 5, { mgr 7 [] with eng := { (mgr 7 []).eng with otp := { job := some { op := 2, rows := [(0x121, 5)], row := 0x121 } } } }, by decide⟩,
   ⟨1, { op := 2, rows := [(0x121, 5)], row := 0x121, retries := 8 }, 0x121, 5, { mgr 7 [] with eng := { (mgr 7 []).eng with otp := { job := some { op := 2, rows := [(0x121, 5)], row := 0x121, retries := 8 } } } }, by decide⟩⟩

/-- lifecycleAndEntropy: each clause's conditions hold of a state. -/
theorem witness_lifecycleAndEntropy :
    (∃ (src : Src) (key : BitVec 16) (l : Nat) (rs : List Nat) (s : State), s.takes src SEC_CMD (keyed key (1)) = true ∧ s.accepts 6 = true ∧ lcNeeds s.lc = some (l, rs) ∧ l ≤ s.sessionOf src ∧ (rs.all fun r => s.regionState r == 1) = true ∧ s.b OTP_STATUS_BUSY = false ∧ s.lowSupply = false) ∧
    (∃ (src : Src) (key : BitVec 16) (l : Nat) (rs : List Nat) (s : State), s.takes src SEC_CMD (keyed key (1)) = true ∧ s.accepts 6 = true ∧ lcNeeds s.lc = some (l, rs) ∧ (s.sessionOf src < l ∨ (rs.all fun r => s.regionState r == 1) = false)) ∧
    (∃ (src : Src) (key : BitVec 16) (s : State), s.takes src SEC_CMD (keyed key (2)) = true ∧ s.accepts 6 = true ∧ s.lc ≠ 4 ∧ 2 ≤ s.sessionOf src ∧ s.b OTP_STATUS_BUSY = false ∧ s.lowSupply = false) ∧
    (∃ (src : Src) (key : BitVec 16) (s : State), s.takes src SEC_CMD (keyed key (2)) = true ∧ s.accepts 6 = true ∧ (s.lc = 4 ∨ s.sessionOf src < 2)) ∧
    (∃ (src : Src) (key : BitVec 16) (worker : Fin 64) (s : State), s.takes src SEC_CMD (keyed key (3 + worker.val * 2 ^ SEC_CMD_W.lo)) = true ∧ s.accepts 8 = true ∧ s.isMgr = true ∧ worker.val ≠ 0 ∧ s.eng.ring.keys.contains worker.val = true) ∧
    (∃ (src : Src) (key : BitVec 16) (s : State), s.takes src SEC_CMD (keyed key (4)) = true) ∧
    (∃ (s : State), s.heldBy pgSEC < 4) ∧
    (∃ (ok : Bool) (s : State), s.b SEC_RNG_STARTUP_DONE = false ∧ ok = true) ∧
    (∃ (ok : Bool) (s : State), s.b SEC_RNG_STARTUP_DONE = false ∧ ok = false ∧ s.heldBy pgSEC < 4) :=
  ⟨⟨.core, 0x5EC1, 3, [0, 1], mgr 7 [(REG_VSYS_MV10, 1200), ((OTP_REGION_STATE 0), 1), ((OTP_REGION_STATE 1), 1), (SVC_SESSION_LEVEL, 3)], by decide⟩,
   ⟨.core, 0x5EC1, 3, [0, 1], mgr 7 [(REG_VSYS_MV10, 1200)], by decide⟩,
   ⟨.core, 0x5EC1, mgr 7 [(REG_VSYS_MV10, 1200), (SVC_SESSION_LEVEL, 3)], by decide⟩,
   ⟨.core, 0x5EC1, mgr 7 [(REG_VSYS_MV10, 1200)], by decide⟩,
   ⟨.core, 0x5EC1, 3, { mgr 3 [] with eng := { (mgr 3 []).eng with ring := { keys := [3] } } }, by decide⟩,
   ⟨.core, 0x5EC1, mgr 3 [(SEC_RNG_OK, 1)], by decide⟩,
   ⟨mgr 3 [(SEC_RNG_OK, 1)], by decide⟩,
   ⟨true, mgr 3 [], by decide⟩,
   ⟨false, mgr 3 [], by decide⟩⟩

/-- sessionsAndPorts: each clause's conditions hold of a state. -/
theorem witness_sessionsAndPorts :
    (∃ (src : Src) (key : BitVec 16) (level : Fin 4) (s : State), s.takes src SVC_CMD (keyed key (1 + level.val * 2 ^ SVC_CMD_LEVEL.lo)) = true ∧ s.lockedOut = false ∧ lcOffers s.lc level.val = true ∧ s.keyUsable (keyRow level.val) = true ∧ s.b SEC_RNG_OK = true) ∧
    (∃ (src : Src) (key : BitVec 16) (level : Fin 4) (s : State), s.takes src SVC_CMD (keyed key (1 + level.val * 2 ^ SVC_CMD_LEVEL.lo)) = true ∧ s.lockedOut = true) ∧
    (∃ (src : Src) (key : BitVec 16) (level : Fin 4) (s : State), s.takes src SVC_CMD (keyed key (1 + level.val * 2 ^ SVC_CMD_LEVEL.lo)) = true ∧ s.lockedOut = false ∧ (lcOffers s.lc level.val = false ∨ s.keyUsable (keyRow level.val) = false)) ∧
    (∃ (src : Src) (key : BitVec 16) (level : Fin 4) (s : State), s.takes src SVC_CMD (keyed key (1 + level.val * 2 ^ SVC_CMD_LEVEL.lo)) = true ∧ s.lockedOut = false ∧ lcOffers s.lc level.val = true ∧ s.keyUsable (keyRow level.val) = true ∧ s.b SEC_RNG_OK = false) ∧
    (∃ (src : Src) (key : BitVec 16) (s : State), s.takes src SVC_CMD (keyed key (2)) = true ∧ s.eng.sec.nonce = true) ∧
    (∃ (src : Src) (key : BitVec 16) (s : State), s.takes src SVC_CMD (keyed key (2)) = true ∧ s.eng.sec.nonce = false) ∧
    (∃ (src : Src) (key : BitVec 16) (level : Fin 4) (s : State), s.takes src SVC_CMD (keyed key (3 + level.val * 2 ^ SVC_CMD_LEVEL.lo)) = true ∧ s.lockedOut = false ∧ s.b SEC_POLICY_PW_DIS = false ∧ (level.val = 1 ∨ level.val = 2) ∧ s.keyUsable (pwRow level.val) = true) ∧
    (∃ (src : Src) (key : BitVec 16) (level : Fin 4) (s : State), s.takes src SVC_CMD (keyed key (3 + level.val * 2 ^ SVC_CMD_LEVEL.lo)) = true ∧ s.lockedOut = false ∧ s.b SEC_POLICY_PW_DIS = true) ∧
    (∃ (src : Src) (key : BitVec 16) (s : State), s.takes src SVC_CMD (keyed key (4)) = true ∧ s.lc = 2) ∧
    (∃ (src : Src) (key : BitVec 16) (s : State), s.takes src SVC_CMD (keyed key (4)) = true ∧ s.lc = 1) ∧
    (∃ (src : Src) (key : BitVec 16) (s : State), s.takes src SVC_CMD (keyed key (5)) = true ∧ s.lc = 2 ∧ 2 ≤ s.sessionOf src ∧ s.b SEC_POLICY_DEBUG_FIELD = true ∧ s.heldBy pgSVC < 4) ∧
    (∃ (src : Src) (key : BitVec 16) (s : State), s.takes src SVC_CMD (keyed key (5)) = true ∧ s.lc = 2 ∧ (s.sessionOf src < 2 ∨ s.b SEC_POLICY_DEBUG_FIELD = false)) ∧
    (∃ (src : Src) (key : BitVec 16) (s : State), s.takes src SVC_CMD (keyed key (6)) = true ∧ s.lc = 2) ∧
    (∃ (s : State), s.nonceOld = true) ∧
    (∃ (s : State), s.eng.sec.nonce = true ∧ s.now < s.eng.sec.nonceAt + 60000000) ∧
    (∃ (s : State), s.lockOver = true) ∧
    (∃ (s : State), s.lockedOut = true) ∧
    (∃ (s : State), s.lapseDue = true ∧ s.lc = 2) ∧
    (∃ (s : State), s.lapseDue = false) :=
  ⟨⟨.core, 0x5C1D, 1, { mgr 3 [(SEC_STATUS_LC, 2), ((OTP_REGION_STATE 7), 1), (SEC_RNG_OK, 1)] with otp := [(0x380, 5#32), (0x388, 6#32), (0x398, 7#32), (0x3A0, 8#32)] }, by decide⟩,
   ⟨.core, 0x5C1D, 1, mgr 3 [(SEC_STATUS_LC, 2), ((OTP_REGION_STATE 7), 1), (SVC_FAIL_LOCK_REM, 900)], by decide⟩,
   ⟨.core, 0x5C1D, 0, mgr 3 [(SEC_STATUS_LC, 2), ((OTP_REGION_STATE 7), 1)], by decide⟩,
   ⟨.core, 0x5C1D, 1, { mgr 3 [(SEC_STATUS_LC, 2), ((OTP_REGION_STATE 7), 1)] with otp := [(0x380, 5#32), (0x388, 6#32), (0x398, 7#32), (0x3A0, 8#32)] }, by decide⟩,
   ⟨.core, 0x5C1D, { mgr 3 [(SEC_STATUS_LC, 2), ((OTP_REGION_STATE 7), 1)] with eng := { (mgr 3 [(SEC_STATUS_LC, 2), ((OTP_REGION_STATE 7), 1)]).eng with sec := { nonce := true } } }, by decide⟩,
   ⟨.core, 0x5C1D, mgr 3 [(SEC_STATUS_LC, 2), ((OTP_REGION_STATE 7), 1)], by decide⟩,
   ⟨.core, 0x5C1D, 1, { mgr 3 [(SEC_STATUS_LC, 2), ((OTP_REGION_STATE 7), 1)] with otp := [(0x380, 5#32), (0x388, 6#32), (0x398, 7#32), (0x3A0, 8#32)] }, by decide⟩,
   ⟨.core, 0x5C1D, 1, mgr 3 [(SEC_STATUS_LC, 2), ((OTP_REGION_STATE 7), 1), (SEC_POLICY_PW_DIS, 1)], by decide⟩,
   ⟨.core, 0x5C1D, mgr 3 [(SEC_STATUS_LC, 2), ((OTP_REGION_STATE 7), 1), (SVC_SESSION_LEVEL, 2)], by decide⟩,
   ⟨.core, 0x5C1D, mgr 3 [(SEC_STATUS_LC, 1), (SVC_SESSION_LEVEL, 3)], by decide⟩,
   ⟨.core, 0x5C1D, mgr 3 [(SEC_STATUS_LC, 2), ((OTP_REGION_STATE 7), 1), (SVC_SESSION_LEVEL, 2), (SEC_POLICY_DEBUG_FIELD, 1)], by decide⟩,
   ⟨.core, 0x5C1D, mgr 3 [(SEC_STATUS_LC, 2), ((OTP_REGION_STATE 7), 1)], by decide⟩,
   ⟨.core, 0x5C1D, mgr 3 [(SEC_STATUS_LC, 2), ((OTP_REGION_STATE 7), 1), (SVC_DEBUG_SAP_OPEN, 1)], by decide⟩,
   ⟨{ { mgr 3 [(SEC_STATUS_LC, 2), ((OTP_REGION_STATE 7), 1)] with eng := { (mgr 3 [(SEC_STATUS_LC, 2), ((OTP_REGION_STATE 7), 1)]).eng with sec := { nonce := true, nonceAt := 5 } } } with now := 60000005 }, by decide⟩,
   ⟨{ { mgr 3 [(SEC_STATUS_LC, 2), ((OTP_REGION_STATE 7), 1)] with eng := { (mgr 3 [(SEC_STATUS_LC, 2), ((OTP_REGION_STATE 7), 1)]).eng with sec := { nonce := true, nonceAt := 5 } } } with now := 60000004 }, by decide⟩,
   ⟨{ mgr 3 [(SEC_STATUS_LC, 2), ((OTP_REGION_STATE 7), 1), (SVC_FAIL_COUNT, 5), (SVC_FAIL_LOCK_REM, 900)] with now := 900000000 }, by decide⟩,
   ⟨{ mgr 3 [(SEC_STATUS_LC, 2), ((OTP_REGION_STATE 7), 1), (SVC_FAIL_COUNT, 5), (SVC_FAIL_LOCK_REM, 900)] with now := 899999999 }, by decide⟩,
   ⟨{ mgr 3 [(SEC_STATUS_LC, 2), ((OTP_REGION_STATE 7), 1), (SVC_SESSION_LEVEL, 2)] with now := 600000000 }, by decide⟩,
   ⟨mgr 3 [(SEC_STATUS_LC, 2), ((OTP_REGION_STATE 7), 1)], by decide⟩⟩

/-- commandAtTheFront: each clause's conditions hold of a state. -/
theorem witness_commandAtTheFront :
    ∃ (c : Instr) (rest : List Instr) (s : State), s.pending = c :: rest :=
  ⟨.vsysFallThreshold, [], { State.reset with pending := [.vsysFallThreshold] }, by decide⟩

/-- emptyQueueIdles: each clause's conditions hold of a state. -/
theorem witness_emptyQueueIdles :
    ∃ s : State, s.pending = [] ∧ s.eng.epoch.running = true :=
  ⟨{ State.reset with eng := { epoch := { running := true } } }, by decide⟩

/-- everyCommandCompletes: each clause's conditions hold of a state. -/
theorem witness_everyCommandCompletes :
    (∃ s t : State, step s = Host.Outcome.next t) ∧
    (∃ (src : Src) (a : BitVec 18) (w : Word) (s : State), s.takes src a.toNat w = true ∧ [some Acc.rw, some Acc.rwl, some Acc.rwMgr].contains ((rowAt a.toNat).map fun r => r.acc) = true ∧ [0x01C, 0x028].contains (offOf a.toNat) = false ∧ pageOf a.toNat ≠ pgMODE ∧ ([CLK_LF_CFG, CLK_STEER, REG_BK_VSET 3, REG_LD_VSET 3, SV_CFG 0, PHC_RAIL_VSET 0, CHG_PACK, CHG_VREG, AFE_CFG, AFE_TMUX, AFE_CAL_U 0, SCAN_REQ_CFG, BAL_SH_I, BAL_BLEED, EIS_VIEW, ARC_CTRL, ISO_CTRL, GPIO_OUT, GPIO_CFG 0, ICU_SWI, ICU_T_MOD 3, ICU_LINE 0, WDG_CFG 0, RTC_ALARM, RTC_ALM_CFG, RTC_PWRON] : List Nat).contains (canon a.toNat) = false ∧ ([RTC_TRIM, MODE_ATT_PER, MODE_CFG, MEM_CFG, THM_CFG, THM_THR, WDG_TM_CFG, FLT_CFG, BAL_PASS_CFG, FEED_QUAL, CONT_SENSE, ICU_GROUP, ICU_CFG] : List Nat).contains a.toNat = false) ∧
    (∃ (src : Src) (page : Fin 40) (w : Word) (s : State), s.takes src (hdrShadow page.val) w = true ∧ hasShd page.val = true ∧ getBits w 0 2 = 1 ∧ bitOf w.toNat 2 = true ∧ s.b (shadowFrozen page.val) = false) ∧
    (∃ (src : Src) (page : Fin 40) (key : BitVec 16) (lock : Bool) (s : State), s.takes src (page.val * 0x1000 + 0x018) (keyed key (b2n lock)) = true) ∧
    (∃ (src : Src) (a : BitVec 18) (w : Word) (s : State), s.takes src a.toNat w = true ∧ ((rowAt a.toNat).map fun r => r.acc) = some .stg ∧ pageOf a.toNat ≠ pgBAL) ∧
    (∃ (src : Src) (page : Fin 40) (view : Bool) (s : State), s.takes src (hdrStage page.val) (BitVec.ofNat 32 (8 + b2n view)) = true ∧ hasStg page.val = true ∧ s.b (stageHeld page.val) = false) ∧
    (∃ (src : Src) (page : Fin 40) (view : Bool) (s : State), s.takes src (hdrStage page.val) (BitVec.ofNat 32 (b2n view)) = true ∧ hasStg page.val = true) ∧
    (∃ (src : Src) (tg : Fin 5) (s : State), s.takes src MODE_REQ (BitVec.ofNat 32 tg.val) = true ∧ s.accepts 0 = true) ∧
    (∃ (src : Src) (s : State), s.takes src MODE_REQ 5 = true ∧ s.accepts 0 = true ∧ s.contOpenNow = true) ∧
    (∃ (src : Src) (s : State), s.takes src MODE_REQ 6 = true ∧ s.mode ≠ 7 ∧ s.heldBy pgMODE < 4) ∧
    (∃ (src : Src) (s : State), s.takes src MODE_REQ 7 = true ∧ s.accepts 0 = true) ∧
    (∃ (src : Src) (s : State), s.takes src MODE_REQ 15 = true ∧ s.accepts 0 = true) ∧
    (∃ (src : Src) (n : Fin 8) (w : Word) (s : State), s.takes src (MODE_LTOL n.val) w = true) ∧
    (∃ (src : Src) (w : Word) (s : State), s.takes src MODE_ATT_PER w = true) ∧
    (∃ (src : Src) (w : Word) (s : State), s.takes src MODE_DORM_PER w = true) ∧
    (∃ (src : Src) (w : Word) (s : State), s.takes src MODE_CFG w = true) ∧
    (∃ (src : Src) (w : Word) (s : State), s.takes src MODE_IDLE_I w = true) ∧
    (∃ (s : State), s.b MODE_STATUS_ASCENDING = true ∧ (s.mode = 2 ∨ s.mode = 3 ∨ s.mode = 4) ∧ s.mode < s.f MODE_STATUS_ENTERING ∧ s.eng.mode.aborted = false ∧ s.eng.mode.check = 0) ∧
    (∃ (s : State), s.released = true ∧ s.mode ≤ 4 ∧ s.inTransition = false ∧ s.target < s.mode ∧ 2 ≤ s.target) ∧
    (∃ (s : State), s.b MODE_STATUS_DESCENDING = true ∧ (s.mode = 3 ∨ s.mode = 4) ∧ s.f MODE_STATUS_ENTERING < s.mode ∧ 2 ≤ s.f MODE_STATUS_ENTERING ∧ s.eng.mode.check = 0) ∧
    (∃ (s : State), s.b MODE_CFG_WAKE_EN = true ∧ 1 ≤ s.mode ∧ s.mode ≤ 4) ∧
    (∃ (s : State), s.isWrk = true ∧ s.mode = 0 ∧ s.released = true ∧ s.inTransition = false) ∧
    (∃ (s : State), s.isMgr = true ∧ s.reg (MODE_EVT_RAW + 8) = 0) ∧
    (∃ (s : State), s.mode = 1 ∧ s.inTransition = false) ∧
    (∃ (hit : Bool) (s : State), s.mode = 3 ∧ s.eng.mode.check = 2 ∧ hit = false ∧ s.f CELL_OV_MAP_MAP = 0 ∧ s.f CELL_UV_MAP_MAP = 0 ∧ s.f AUX_T_MAP_OT = 0 ∧ s.f AUX_T_MAP_UT = 0 ∧ s.target ≤ 1 ∧ s.isMgr = true) ∧
    (∃ (s : State), s.isMgr = true ∧ s.eng.epoch.running = true ∧ s.epoch % 64 = 0 ∧ s.port 0 = 4 ∧ s.port 1 = 4) ∧
    (∃ (port : Fin 2) (phi : Int) (s : State), s.isWrk = true ∧ s.port port.val = 4 ∧ port.val = s.outPort ∧ s.b EPOCH_PATH_VALID = true ∧ s.f EPOCH_STATUS_SYNC ≠ 2 ∧ s.eng.epoch.near = 15 ∧ (sigmaOf phi (s.f AFE_STROBE_FINE)).natAbs ≤ 1000 ∧ phi.natAbs ≤ 400000) ∧
    (∃ (s : State), s.isWrk = true ∧ s.f EPOCH_STATUS_SYNC = 2 ∧ s.blocksLost = true ∧ 3 ≤ s.mode ∧ s.heldBy pgEPOCH < 4) ∧
    (∃ (src : Src) (s : State), s.served src = true ∧ s.watchShut src EPOCH_NOW_LO = false) ∧
    (∃ (w : Nat) (s : State), s.isMgr = true ∧ s.liveWorkers = [w] ∧ s.seqFree w = true ∧ s.port (s.portTo w) = 4 ∧ s.weldDown = false) ∧
    (∃ (src : Src) (key : BitVec 16) (s : State), s.takes src EPOCH_CMD (keyed key 1) = true ∧ s.b EPOCH_BRK_EP_HI_SCOPE = false ∧ s.eng.epoch.brk = 0 ∧ s.eng.epoch.snapE = none ∧ s.f EPOCH_BRK_EP_LO_EPOCH + 2 ^ 32 * s.f EPOCH_BRK_EP_HI_EPOCH = 0) ∧
    (∃ (src : Src) (key : BitVec 16) (s : State), s.takes src EPOCH_CMD (keyed key 2) = true ∧ s.eng.epoch.brk ≠ 0 ∧ (s.isMgr = false ∨ s.eng.epoch.brkRack = false)) ∧
    (∃ (s : State), s.eng.epoch.brk = 1 ∧ later (s.eng.epoch.brkE + 2) s.epoch = false ∧ s.eng.epoch.brkSnap = false) ∧
    (∃ (s : State), s.eng.epoch.brk ≠ 0 ∧ later (s.eng.epoch.brkE + 1000 * s.f EPOCH_BRK_EP_HI_TMO) s.epoch = false ∧ (s.isMgr = false ∨ s.eng.epoch.brkRack = false)) ∧
    (∃ (src : Src) (key : BitVec 16) (s : State), s.takes src EPOCH_CMD (keyed key 3) = true ∧ s.eng.epoch.brk = 0 ∧ s.eng.epoch.snapE = none) ∧
    (∃ (s : State), s.f EPOCH_SNAP_CFG_PER ≠ 0 ∧ s.eng.epoch.running = true ∧ s.epoch % (1000 * s.f EPOCH_SNAP_CFG_PER) = 0 ∧ s.eng.epoch.snapAt ≠ some s.epoch ∧ s.eng.epoch.brk = 0 ∧ s.eng.epoch.snapE = none) ∧
    (∃ (e : Nat) (s : State), s.eng.epoch.snapE = some e ∧ s.eng.epoch.brk ≠ 1 ∧ s.snapAll = true ∧ s.eng.epoch.snapBuf < 2) ∧
    (∃ (e : Nat) (s : State), s.eng.epoch.snapE = some e ∧ s.snapAll = false ∧ later (e + 8000) s.epoch = false ∧ s.eng.epoch.snapBuf < 2) ∧
    (∃ (src : Src) (key : BitVec 16) (s : State), s.takes src EPOCH_CMD (keyed key 4) = true ∧ s.accepts 7 = true ∧ later (s.epoch + 200) (s.f EPOCH_CM_EP_LO_EPOCH + 2 ^ 32 * s.f EPOCH_CM_EP_HI_EPOCH) = false ∧ s.eng.epoch.cm = none ∧ s.eng.epoch.holds = [] ∧ s.b EPOCH_CM_EP_HI_SCOPE = false) ∧
    (∃ (src : Src) (key : BitVec 16) (c : CmRun) (s : State), s.takes src EPOCH_CMD (keyed key 5) = true ∧ s.eng.epoch.cm = some c ∧ c.decided = false) ∧
    (∃ (src : Src) (key : BitVec 16) (d : Nat) (e : Nat) (w : Nat) (s : State), s.takes src EPOCH_CMD (keyed key 6) = true ∧ s.isMgr = true ∧ s.eng.epoch.lastDec = some (d, e, true) ∧ ((List.range 32).map (· + 1)).filter (fun w => s.f (cmOut w) == 8 || s.f (cmOut w) == 10) = [w] ∧ s.seqFree w = true ∧ s.port (s.portTo w) = 4 ∧ s.weldDown = false) ∧
    (∃ (port : Fin 2) (p : Pkt) (s : State), s.isWrk = true ∧ s.hears port.val 0x20 p = true ∧ bitOf (pw p 2) (s.f RING_SELF_INDEX - 1) = true ∧ (s.stgTargets (bits64 (pw p 1) 0 40)).all (fun q => !s.b (stageHeld q)) = true ∧ later (s.epoch + 50) (bits64 (pw p 0) 16 48) = false ∧ s.mode ≠ 2 ∧ s.mode ≠ 6 ∧ s.weldDown = false) ∧
    (∃ (port : Fin 2) (p : Pkt) (c : CmRun) (s : State), s.isMgr = true ∧ s.hears port.val 0x21 p = true ∧ p.seq ≠ 0x3F000000 ∧ 1 ≤ p.src ∧ p.src ≤ 32 ∧ bits64 (pw p 0) 8 8 = s.f EPOCH_CM_EP_HI_ID ∧ bits64 (pw p 0) 4 4 = 0 ∧ s.eng.epoch.cm = some c ∧ c.decided = false ∧ c.mem.contains p.src = true) ∧
    (∃ (c : CmRun) (h : CmHold) (s : State), s.eng.epoch.cm = some c ∧ c.decided = false ∧ c.rack = false ∧ c.mem = [] ∧ s.eng.epoch.holds = [h] ∧ h.id = c.id ∧ h.rack = false ∧ later c.e (s.epoch + 50) = false ∧ c.abort = false) ∧
    (∃ (port : Fin 2) (p : Pkt) (h : CmHold) (s : State), s.isWrk = true ∧ s.hears port.val 0x22 p = true ∧ s.eng.epoch.holds = [h] ∧ h.rack = true ∧ h.id = bits64 (pw p 0) 8 8 ∧ bitOf (pw p 0) 0 = false ∧ h.apply = none ∧ later h.e s.epoch = true) ∧
    (∃ (port : Fin 2) (p : Pkt) (h : CmHold) (s : State), s.isWrk = true ∧ s.hears port.val 0x23 p = true ∧ s.eng.epoch.holds = [h] ∧ h.rack = true ∧ h.id = bits64 (pw p 0) 8 8 ∧ s.weldDown = false) ∧
    (∃ (h : CmHold) (x : Nat × Nat) (s : State), s.eng.epoch.holds = [h] ∧ h.rack = false ∧ h.apply = some x ∧ later x.1 s.epoch = false ∧ (s.stgTargets h.pages).contains pgBAL = false) ∧
    (∃ (port : Fin 2) (p : Pkt) (e : Nat) (ok : Bool) (s : State), s.isMgr = true ∧ s.hears port.val 0x24 p = true ∧ p.seq ≠ 0x3F000000 ∧ s.seqFree p.src = true ∧ s.portTo p.src < 2 ∧ s.port (s.portTo p.src) = 4 ∧ s.eng.epoch.lastDec = some (bits64 (pw p 0) 8 8, e, ok) ∧ s.weldDown = false) ∧
    (∃ (h : CmHold) (s : State), s.eng.epoch.holds = [h] ∧ h.rack = true ∧ h.apply = none ∧ h.doubt = false ∧ s.isWrk = true ∧ later (h.e + 50) s.epoch = false ∧ h.asked.all (fun t => !later (t + 1000) s.epoch) = true ∧ s.weldDown = false) ∧
    (∃ (h : CmHold) (s : State), s.eng.epoch.holds = [h] ∧ h.rack = true ∧ h.apply = none ∧ h.doubt = false ∧ s.isWrk = true ∧ later (h.e + 10050) s.epoch = false ∧ s.heldBy pgEPOCH < 4 ∧ s.weldDown = false) ∧
    (∃ (h : CmHold) (s : State), s.eng.epoch.holds = [h] ∧ h.doubt = true ∧ h.apply = none ∧ later (h.e + 10050 + 1000000 * s.f EPOCH_CM_CFG_HOLD) s.epoch = false) ∧
    (∃ (c : CmRun) (s : State), s.eng.epoch.cm = some c ∧ c.rack = true ∧ c.decided = true ∧ later (c.e + 20000) s.epoch = false ∧ (c.mem.all (fun w => decide (1 ≤ w ∧ w ≤ 32)) = true)) ∧
    (∃ (port : Fin 2) (p : Pkt) (ecc : List Nat) (s : State), s.isWrk = true ∧ s.hears port.val 0x10 p = true ∧ ecc.headD 0 = 0 ∧ bits64 (pw p 0) 24 8 = 1 ∧ bits64 (pw p 0) 32 32 = IDENT_ROLE ∧ s.weldDown = false) ∧
    (∃ (port : Fin 2) (p : Pkt) (s : State), s.isWrk = true ∧ s.hears port.val 0x11 p = true ∧ bits64 (pw p 0) 24 8 = 1 ∧ p.data.length = 2 ∧ bits64 (pw p 0) 32 32 = EPOCH_PATH ∧ s.deniedTo (packetSrc p) (s.levelNeed EPOCH_PATH (BitVec.ofNat 32 (pw p 1))) = false ∧ s.weldDown = false) ∧
    (∃ (port : Fin 2) (p : Pkt) (r : MirReq) (s : State), s.isMgr = true ∧ s.hears port.val 0x12 p = true ∧ p.seq ≠ 0x3F000000 ∧ s.eng.epoch.mir = [r] ∧ r.tid = bits64 (pw p 0) 0 16 ∧ r.dead = false ∧ r.worker = p.src ∧ r.use = 0 ∧ s.mirState = 1) ∧
    (∃ (tid : BitVec 16) (r : MirReq) (s : State), s.eng.epoch.mir = [r] ∧ r.tid = tid.toNat ∧ r.at0 + s.f EPOCH_MIR_CFG_TMO ≤ s.now ∧ 1 ≤ r.worker ∧ r.worker ≤ 32 ∧ r.use = 3) ∧
    (∃ (s : State), s.isWrk = true ∧ s.statusDue = true ∧ s.enumerated = true ∧ (s.port 0 = 4 ∨ s.port 1 = 4) ∧ s.weldDown = false) ∧
    (∃ (port : Fin 2) (p : Pkt) (s : State), s.isMgr = true ∧ s.hears port.val 0x33 p = true ∧ p.seq ≠ 0x3F000000 ∧ 1 ≤ p.src ∧ p.src ≤ 32 ∧ s.f RING_STATUS_STATE ≠ 1) ∧
    (∃ (worker : Fin 33) (s : State), s.isMgr = true ∧ s.workers.contains worker.val = true ∧ s.f (ROSTER_W_STAT_STATE worker.val) ≤ 1 ∧ (s.port 0 = 4 ∨ s.port 1 = 4) ∧ s.f RING_STATUS_STATE ≠ 1 ∧ s.statusLate worker.val = true ∧ s.heldBy pgROSTER < 4 ∧ s.f RING_ENUM_M ≤ 32) ∧
    (∃ (s : State), s.isMgr = true ∧ s.f ROSTER_CFG_BLIND_T ≠ 0 ∧ s.anyClosed = true ∧ s.anyBad = true ∧ s.b ROSTER_STATUS_BLIND = false ∧ (s.eng.rack.blindAt.any fun x => decide (x + 1000 * s.f ROSTER_CFG_BLIND_T ≤ s.now)) = true ∧ s.heldBy pgROSTER < 4) ∧
    (∃ (src : Src) (key : BitVec 16) (worker : Fin 64) (s : State), s.takes src ROSTER_CMD (keyed key (1 + worker.val * 2 ^ ROSTER_CMD_W.lo)) = true ∧ s.accepts 8 = true ∧ s.isMgr = true ∧ s.eng.boot.cores.getD 2 false = true ∧ s.workers.contains worker.val = true ∧ s.f (ROSTER_W_STAT_STATE worker.val) = 4) ∧
    (∃ (src : Src) (key : BitVec 16) (worker : Fin 64) (x : Nat × Nat × Nat) (s : State), s.takes src ROSTER_CMD (keyed key (2 + worker.val * 2 ^ ROSTER_CMD_W.lo)) = true ∧ s.accepts 8 = true ∧ s.isMgr = true ∧ s.eng.boot.cores.getD 2 false = true ∧ s.workers.contains worker.val = true ∧ worker.val ≤ 32 ∧ 4 ≤ s.f (ROSTER_W_STAT_STATE worker.val) ∧ (s.eng.rack.seen.find? fun x => x.2.2 == worker.val) = some x) ∧
    (∃ (v : Rat) (i : Rat) (s : State), s.isMgr = true ∧ later (s.eng.rack.resNext * 1000) (s.resMs * 1000) = false ∧ s.msMean 0 s.resMs = (some v, some i) ∧ (s.f (shadowSrc pgRACK)) = 0 ∧ s.b (shadowFrozen pgRACK) = false) ∧
    (∃ (i : Rat) (s : State), s.isMgr = true ∧ later (s.epoch / 1000 * 1000) (s.eng.rack.iNext * 1000) = true ∧ (s.port 0 = 4 ∨ s.port 1 = 4) ∧ (s.msMean 0 (s.epoch / 1000 - 1)).2 = some i ∧ s.seqFree 0x3F = true) ∧
    (∃ (s : State), s.isMgr = true ∧ s.eng.boot.cores.getD 1 false = true ∧ later (s.arcBlock * 100) (s.eng.rack.blockNext * 100) = true ∧ (s.arcEpochs ((s.epoch - 10 * s.f ARC_CFG_WAIT) / 100 - 1)).filterMap s.arcAt = []) ∧
    (∃ (src : Src) (w : Word) (s : State), s.takes src ARC_CTRL w = true ∧ s.isMgr = true) ∧
    (∃ (src : Src) (key : BitVec 16) (s : State), s.takes src ARC_CMD (keyed key 1) = true) ∧
    (∃ (src : Src) (key : BitVec 16) (s : State), s.takes src ARC_CMD (keyed key 2) = true) ∧
    (∃ (src : Src) (w : Word) (s : State), s.takes src ISO_CTRL w = true ∧ s.isMgr = true ∧ 3 ≤ s.mode) ∧
    (∃ (s : State), s.isMgr = true ∧ s.eng.rack.isoAt + 100000 * s.f ISO_CFG_T_HALF ≤ s.now ∧ s.f ISO_STATUS_STATE = 1) ∧
    (∃ (src : Src) (key : BitVec 16) (s : State), s.takes src CAP_CMD (keyed key 1) = true ∧ s.accepts 5 = true ∧ s.isWrk = true) ∧
    (∃ (src : Src) (key : BitVec 16) (s : State), s.takes src CAP_CMD (keyed key 2) = true ∧ s.capState = 1) ∧
    (∃ (src : Src) (key : BitVec 16) (s : State), s.takes src CAP_CMD (keyed key 3) = true) ∧
    (∃ (src : Src) (key : BitVec 16) (s : State), s.takes src CAP_CMD (keyed key 4) = true ∧ 1 ≤ s.capState ∧ s.capState ≤ 3) ∧
    (∃ (s : State), s.capState = 2 ∧ later ((s.eng.cap.trig + s.eng.cap.post) * s.eng.cap.stride) s.epoch = false) ∧
    (∃ (s : State), s.capState = 3 ∧ later (s.eng.cap.settleAt + 4200) s.epoch = false) :=
  ⟨⟨{ State.reset with pending := [.pwronClr .core 0] }, _, rfl⟩,
   witness_registerBusWrites.1,
   witness_registerBusWrites.2.2.2.2.2.2.1,
   witness_registerBusWrites.2.2.2.2.2.2.2.2.1,
   witness_registerBusWrites.2.2.2.2.2.2.2.2.2.2.1,
   witness_registerBusWrites.2.2.2.2.2.2.2.2.2.2.2.1,
   witness_registerBusWrites.2.2.2.2.2.2.2.2.2.2.2.2.2,
   witness_modeRequests.1,
   witness_modeRequests.2.2.2.1,
   witness_modeRequests.2.2.2.2.2.2.1,
   witness_modeRequests.2.2.2.2.2.2.2.1,
   witness_modeRequests.2.2.2.2.2.2.2.2.1,
   witness_modeRequests.2.2.2.2.2.2.2.2.2.1,
   witness_modeRequests.2.2.2.2.2.2.2.2.2.2.1,
   witness_modeRequests.2.2.2.2.2.2.2.2.2.2.2.1,
   witness_modeRequests.2.2.2.2.2.2.2.2.2.2.2.2.1,
   witness_modeRequests.2.2.2.2.2.2.2.2.2.2.2.2.2.1,
   witness_modeTransitions.1,
   witness_modeTransitions.2.2.2.1,
   witness_modeTransitions.2.2.2.2.1,
   witness_modeTransitions.2.2.2.2.2.2.1,
   witness_modeTransitions.2.2.2.2.2.2.2.1,
   witness_modeTransitions.2.2.2.2.2.2.2.2.1,
   witness_modeTransitions.2.2.2.2.2.2.2.2.2.1,
   witness_modeTransitions.2.2.2.2.2.2.2.2.2.2.1,
   witness_epochDistribution.1,
   witness_epochDistribution.2.2.1,
   witness_epochDistribution.2.2.2.2.1,
   witness_epochDistribution.2.2.2.2.2.2.1,
   witness_epochDistribution.2.2.2.2.2.2.2,
   witness_bracketsAndSnapshots.1,
   witness_bracketsAndSnapshots.2.2.2.2.1,
   witness_bracketsAndSnapshots.2.2.2.2.2.1,
   witness_bracketsAndSnapshots.2.2.2.2.2.2.1,
   witness_bracketsAndSnapshots.2.2.2.2.2.2.2.1,
   witness_bracketsAndSnapshots.2.2.2.2.2.2.2.2.2.1,
   witness_bracketsAndSnapshots.2.2.2.2.2.2.2.2.2.2.1,
   witness_bracketsAndSnapshots.2.2.2.2.2.2.2.2.2.2.2,
   witness_stagedCommit.1,
   witness_stagedCommit.2.2.2.2.1,
   witness_stagedCommit.2.2.2.2.2.1,
   witness_stagedCommit.2.2.2.2.2.2.1,
   witness_stagedCommit.2.2.2.2.2.2.2.2.2.2.1,
   witness_stagedCommit.2.2.2.2.2.2.2.2.2.2.2.2.2.1,
   witness_stagedCommit.2.2.2.2.2.2.2.2.2.2.2.2.2.2.2.1,
   witness_stagedCommit.2.2.2.2.2.2.2.2.2.2.2.2.2.2.2.2.2.2.1,
   witness_stagedCommit.2.2.2.2.2.2.2.2.2.2.2.2.2.2.2.2.2.2.2.2.1,
   witness_stagedCommit.2.2.2.2.2.2.2.2.2.2.2.2.2.2.2.2.2.2.2.2.2.1,
   witness_stagedCommit.2.2.2.2.2.2.2.2.2.2.2.2.2.2.2.2.2.2.2.2.2.2.1,
   witness_stagedCommit.2.2.2.2.2.2.2.2.2.2.2.2.2.2.2.2.2.2.2.2.2.2.2.1,
   witness_stagedCommit.2.2.2.2.2.2.2.2.2.2.2.2.2.2.2.2.2.2.2.2.2.2.2.2.1,
   witness_stagedCommit.2.2.2.2.2.2.2.2.2.2.2.2.2.2.2.2.2.2.2.2.2.2.2.2.2,
   witness_mirrorPackets.1,
   witness_mirrorPackets.2.1,
   witness_mirrorPackets.2.2.1,
   witness_mirrorPackets.2.2.2.2,
   witness_rosterAndRackMeans.1,
   witness_rosterAndRackMeans.2.2.1,
   witness_rosterAndRackMeans.2.2.2.1,
   witness_rosterAndRackMeans.2.2.2.2.1,
   witness_rosterAndRackMeans.2.2.2.2.2.1,
   witness_rosterAndRackMeans.2.2.2.2.2.2.2.1,
   witness_rosterAndRackMeans.2.2.2.2.2.2.2.2.1,
   witness_rosterAndRackMeans.2.2.2.2.2.2.2.2.2,
   witness_arcIsolationAndCapture.1,
   witness_arcIsolationAndCapture.2.2.2.1,
   witness_arcIsolationAndCapture.2.2.2.2.1,
   witness_arcIsolationAndCapture.2.2.2.2.2.1,
   witness_arcIsolationAndCapture.2.2.2.2.2.2.1,
   witness_arcIsolationAndCapture.2.2.2.2.2.2.2.1,
   witness_arcIsolationAndCapture.2.2.2.2.2.2.2.2.2.2.1,
   witness_arcIsolationAndCapture.2.2.2.2.2.2.2.2.2.2.2.2.2.1,
   witness_arcIsolationAndCapture.2.2.2.2.2.2.2.2.2.2.2.2.2.2.2.1,
   witness_arcIsolationAndCapture.2.2.2.2.2.2.2.2.2.2.2.2.2.2.2.2.1,
   witness_arcIsolationAndCapture.2.2.2.2.2.2.2.2.2.2.2.2.2.2.2.2.2.1,
   witness_arcIsolationAndCapture.2.2.2.2.2.2.2.2.2.2.2.2.2.2.2.2.2.2⟩

/-- tablesStayCanonical: each clause's conditions hold of a state. -/
theorem witness_tablesStayCanonical :
    ∃ s t : State, s.tablesOk = true ∧ step s = Host.Outcome.next t :=
  ⟨{ State.reset with pending := [.pwronClr .core 0] }, _, by decide, rfl⟩

/-- tablesAfterReset: each clause's conditions hold of a state. -/
theorem witness_tablesAfterReset :
    ∃ a : Nat, a ≠ RST_CAUSE ∧ a ≠ RST_BOOT :=
  ⟨CLK_STATUS, by decide⟩

/-- registersAfterReset: each clause's conditions hold of a state. -/
theorem witness_registersAfterReset :
    ∃ x : Nat × Word, x ∈ ([(RST_CAUSE, 0xC000000C), (RST_BOOT, 1)] : List (Nat × Word)) :=
  ⟨(RST_BOOT, 1), by decide⟩

/-- otpBitsNeverReturn: each clause's conditions hold of a state. -/
theorem witness_otpBitsNeverReturn :
    ∃ s t : State, step s = Host.Outcome.next t :=
  ⟨{ State.reset with pending := [.pwronClr .core 0] }, _, rfl⟩

/-- absentPages: each clause's conditions hold of a state. -/
theorem witness_absentPages :
    (∃ (a : BitVec 32) (n : Nat) (s : State), s.hostOpen = true ∧ n = 1 ∧ s.watchShut .xspi a.toNat = false ∧ s.windowOf a.toNat = some .local ∧ a.toNat % 4 = 0 ∧ mapped a.toNat = true ∧ ((s.isWrk = true ∧ pageOf a.toNat ∈ [pgCONT, pgARC, pgISO, pgROSTER, pgRACK]) ∨ (s.isMgr = true ∧ pageOf a.toNat ∈ [pgCELL, pgBAL]))) ∧
    (∃ (src : Src) (a : BitVec 18) (w : Word) (s : State), s.served src = true ∧ mapped a.toNat = true ∧ s.deniedTo src (s.levelNeed a.toNat w) = false ∧ s.watchShut src a.toNat = false ∧ ((s.isWrk = true ∧ pageOf a.toNat ∈ [pgCONT, pgARC, pgISO, pgROSTER, pgRACK]) ∨ (s.isMgr = true ∧ pageOf a.toNat ∈ [pgCELL, pgBAL]))) :=
  ⟨⟨0x10000, 1, wrk 3 [], by decide⟩,
   ⟨.core, 0x16044, 7, mgr 3 [], by decide⟩⟩

/-- epochReadPair: each clause's conditions hold of a state. -/
theorem witness_epochReadPair :
    (∃ (src : Src) (s : State), s.served src = true ∧ s.watchShut src EPOCH_NOW_LO = false) ∧
    (∃ (a : BitVec 32) (n : Nat) (s : State), s.hostOpen = true ∧ n = 1 ∧ a.toNat = EPOCH_NOW_HI ∧ s.watchShut .xspi EPOCH_NOW_HI = false) ∧
    (∃ (dev : BitVec 7) (a : BitVec 32) (n : Nat) (s : State), s.served .i2c = true ∧ dev.toNat = 0x3A + s.f HOST_STATUS_I2C_A0 ∧ n = 1 ∧ a.toNat = EPOCH_NOW_HI ∧ s.watchShut .i2c EPOCH_NOW_HI = false) :=
  ⟨⟨.core, { mgr 3 [] with eng := { (mgr 3 []).eng with epoch := { count := 0x500000001 } } }, by decide⟩,
   ⟨BitVec.ofNat 32 EPOCH_NOW_HI, 1, { mgr 3 [] with eng := { (mgr 3 []).eng with epoch := { count := 0x500000001 } } }, by decide⟩,
   ⟨0x3A, BitVec.ofNat 32 EPOCH_NOW_HI, 1, mgr 3 [(HOST_CFG_I2C_EN, 1), (SEC_POLICY_WRITE_MIN, 0)], by decide⟩⟩

/-- calendarEpochPair: each clause's conditions hold of a state. -/
theorem witness_calendarEpochPair :
    (∃ (s : State), 32768 ≤ s.rtcCount ∧ 1 ≤ s.mode) ∧
    (∃ (src : Src) (key : BitVec 16) (s : State), s.takes src RTC_CMD (keyed key 1) = true ∧ 1 ≤ s.mode) :=
  ⟨⟨{ { mgr 3 [] with eng := { (mgr 3 []).eng with epoch := { count := 0x500000001 } } } with now := 1000001 }, by decide⟩,
   ⟨.core, 0x2C7A, mgr 3 [(RTC_SET_SEC_SEC, 805306368)], by decide⟩⟩

/-- softwareLines: each clause's conditions hold of a state. -/
theorem witness_softwareLines :
    (∃ n : Nat, n < 5) ∧
    (∃ s : State, s.lineOn 255 = true) :=
  ⟨⟨4, by decide⟩,
   ⟨mgr 3 [(ICU_SWI_SW, 16)], by decide⟩⟩

/-- watchdogEvidence: each clause's conditions hold of a state. -/
theorem witness_watchdogEvidence :
    (∃ (n : Fin 4) (s : State), s.wdgOver n.val = true) ∧
    (∃ (n : Fin 4) (v : Nat) (t0 : Nat) (s : State), s.eng.wdg.sync = [⟨n.val, v, t0⟩] ∧ 2 ≤ s.wdgSince n.val t0 ∧ s.wdgRuns n.val = true ∧ s.wdgOver n.val = true) ∧
    (∃ (n : Fin 4) (t0 : Nat) (s : State), s.eng.wdg.sync = [⟨n.val, 0x3C5A, t0⟩] ∧ 2 ≤ s.wdgSince n.val t0 ∧ s.wdgRuns n.val = true ∧ s.wdgOver n.val = false ∧ s.b WDG_STATUS_COMPAT = false ∧ s.b (WDG_STATUS_ARMED.bit n.val) = true ∧ s.wdgCnt n.val ≤ s.eng.wdg.armed.getD n.val 0 + 8 ∧ s.wdgCnt n.val < s.wdgOpen n.val) ∧
    (∃ (n : Fin 4) (t0 : Nat) (s : State), s.eng.wdg.sync = [⟨n.val, 0x6B1D, t0⟩] ∧ 2 ≤ s.wdgSince n.val t0 ∧ s.wdgRuns n.val = true ∧ s.wdgOver n.val = false ∧ s.b WDG_STATUS_COMPAT = true ∧ s.wdgCnt n.val < s.wdgOpen n.val) ∧
    (∃ (n : Fin 4) (v : Nat) (t0 : Nat) (s : State), s.eng.wdg.sync = [⟨n.val, v, t0⟩] ∧ 2 ≤ s.wdgSince n.val t0 ∧ s.wdgRuns n.val = true ∧ s.wdgOver n.val = false ∧ (s.b WDG_STATUS_COMPAT = false → v ≠ 0xA5C3 ∧ v ≠ 0x3C5A) ∧ (s.b WDG_STATUS_COMPAT = true → v ≠ 0x6B1D)) ∧
    (∃ (n : Fin 4) (t0 : Nat) (s : State), s.eng.wdg.sync = [⟨n.val, 0x3C5A, t0⟩] ∧ 2 ≤ s.wdgSince n.val t0 ∧ s.wdgRuns n.val = true ∧ s.wdgOver n.val = false ∧ s.b WDG_STATUS_COMPAT = false ∧ (s.b (WDG_STATUS_ARMED.bit n.val) = false ∨ s.eng.wdg.armed.getD n.val 0 + 8 < s.wdgCnt n.val)) ∧
    (∃ (src : Src) (n : Fin 4) (w : Word) (s : State), s.takes src (WDG_SVC n.val) w = true ∧ src ≠ .core ↔ n = 3 ∧ 2 ≤ (s.eng.wdg.sync.filter fun x => x.n == n.val).length ∧ s.wdgRuns n.val = true) ∧
    (∃ (n : Fin 4) (cnt : Nat) (s : State), s.wdgRuns n.val = true ∧ cnt ≤ s.wdgCnt n.val) ∧
    (∃ (s : State), s.tmOver = true ∧ s.b WDG_TM_CFG_TO_WD3 = true ∧ s.tmMissing ≠ []) :=
  ⟨⟨3, { mgr 3 [((WDG_CFG_EN 3), 1), ((WDG_CFG_PERIOD 3), 1000), ((WDG_CFG_ACT 3), 0)] with now := 50000 }, by decide⟩,
   ⟨3, 7, 0, { { mgr 3 [((WDG_CFG_EN 3), 1), ((WDG_CFG_PERIOD 3), 1000), ((WDG_CFG_ACT 3), 0)] with eng := { (mgr 3 [((WDG_CFG_EN 3), 1), ((WDG_CFG_PERIOD 3), 1000), ((WDG_CFG_ACT 3), 0)]).eng with wdg := { sync := [⟨3, 7, 0⟩] } } } with now := 50000 }, by decide⟩,
   ⟨3, 0, { { mgr 3 [((WDG_CFG_EN 3), 1), ((WDG_CFG_PERIOD 3), 1000), ((WDG_CFG_ACT 3), 0), ((WDG_CFG_OPEN 3), 1), ((WDG_STATUS_ARMED.bit 3), 1)] with eng := { (mgr 3 [((WDG_CFG_EN 3), 1), ((WDG_CFG_PERIOD 3), 1000), ((WDG_CFG_ACT 3), 0), ((WDG_CFG_OPEN 3), 1), ((WDG_STATUS_ARMED.bit 3), 1)]).eng with wdg := { sync := [⟨3, 0x3C5A, 0⟩], armed := [0, 0, 0, 10] } } } with now := 500 }, by decide⟩,
   ⟨3, 0, { { mgr 3 [((WDG_CFG_EN 3), 1), ((WDG_CFG_PERIOD 3), 1000), ((WDG_CFG_ACT 3), 0), ((WDG_CFG_OPEN 3), 1), (WDG_STATUS_COMPAT, 1)] with eng := { (mgr 3 [((WDG_CFG_EN 3), 1), ((WDG_CFG_PERIOD 3), 1000), ((WDG_CFG_ACT 3), 0), ((WDG_CFG_OPEN 3), 1), (WDG_STATUS_COMPAT, 1)]).eng with wdg := { sync := [⟨3, 0x6B1D, 0⟩] } } } with now := 500 }, by decide⟩,
   ⟨3, 7, 0, { { mgr 3 [((WDG_CFG_EN 3), 1), ((WDG_CFG_PERIOD 3), 1000), ((WDG_CFG_ACT 3), 0)] with eng := { (mgr 3 [((WDG_CFG_EN 3), 1), ((WDG_CFG_PERIOD 3), 1000), ((WDG_CFG_ACT 3), 0)]).eng with wdg := { sync := [⟨3, 7, 0⟩] } } } with now := 500 }, by decide⟩,
   ⟨3, 0, { { mgr 3 [((WDG_CFG_EN 3), 1), ((WDG_CFG_PERIOD 3), 1000), ((WDG_CFG_ACT 3), 0)] with eng := { (mgr 3 [((WDG_CFG_EN 3), 1), ((WDG_CFG_PERIOD 3), 1000), ((WDG_CFG_ACT 3), 0)]).eng with wdg := { sync := [⟨3, 0x3C5A, 0⟩] } } } with now := 500 }, by decide⟩,
   ⟨(.ring 3), 3, 9, { mgr 3 [((WDG_CFG_EN 3), 1), ((WDG_CFG_PERIOD 3), 1000), ((WDG_CFG_ACT 3), 0), (SEC_POLICY_WRITE_MIN, 0)] with eng := { (mgr 3 [((WDG_CFG_EN 3), 1), ((WDG_CFG_PERIOD 3), 1000), ((WDG_CFG_ACT 3), 0), (SEC_POLICY_WRITE_MIN, 0)]).eng with wdg := { sync := [⟨3, 1, 0⟩, ⟨3, 2, 0⟩] } } }, by decide⟩,
   ⟨3, 500, { mgr 3 [((WDG_CFG_EN 3), 1), ((WDG_CFG_PERIOD 3), 1000), ((WDG_CFG_ACT 3), 0)] with now := 20000 }, by decide⟩,
   ⟨{ { mgr 3 [(WDG_TM_CFG_TO_WD3, 1), ((WDG_TM_SLOT_EN 5), 1), ((WDG_TM_SLOT_MIN 5), 2)] with eng := { (mgr 3 [(WDG_TM_CFG_TO_WD3, 1), ((WDG_TM_SLOT_EN 5), 1), ((WDG_TM_SLOT_MIN 5), 2)]).eng with wdg := { tm := true } } } with now := 70000000 }, by decide⟩⟩

/-- recordStoreClears: each clause's conditions hold of a state. -/
theorem witness_recordStoreClears :
    (∃ (src : Src) (key : BitVec 16) (s : State), s.takes src REC_CMD (keyed key 1) = true) ∧
    (∃ (src : Src) (key : BitVec 16) (s : State), s.takes src REC_CMD (keyed key 2) = true) ∧
    (∃ (src : Src) (s : State), s.served src = true ∧ s.deniedTo src 2 = true) ∧
    (∃ (src : Src) (s : State), s.served src = true ∧ s.deniedTo src 2 = true) :=
  ⟨⟨.core, 0x4EC0, mgr 3 [(REC_EVT_PTR_NEXT, 7)], by decide⟩,
   ⟨.core, 0x4EC0, mgr 3 [(REC_THM_PTR_NEXT, 7)], by decide⟩,
   ⟨.xspi, mgr 3 [], by decide⟩,
   ⟨.xspi, mgr 3 [], by decide⟩⟩

/-- supplyAndPowerCommandsComplete: each clause's conditions hold of a state. -/
theorem witness_supplyAndPowerCommandsComplete :
    (∃ (s : State), bitOf s.eng.boot.hold 0 = false) ∧
    (∃ (k : Fin 6) (s : State), s.b (REG_INT_MON_ABOVE.bit k.val) = true ∧ bitOf s.eng.boot.hold 0 = false) ∧
    (∃ (s : State), s.rootXo = true) ∧
    (∃ (freq : Nat) (s : State), s.clocksOn = true ∧ monLimit s.eng.clk.lfXo (s.f CLK_ROOT_CFG_MON_TOL) + 4000000 ≥ freq ∧ freq + monLimit s.eng.clk.lfXo (s.f CLK_ROOT_CFG_MON_TOL) ≥ 4000000) ∧
    (∃ (s : State), s.clocksOn = true ∧ s.b CLK_STATUS_HOLDOVER = true) ∧
    (∃ (s : State), s.eng.clk.startWait = true) ∧
    (∃ (s : State), s.eng.clk.startWait = true ∧ s.mode ≠ 1) ∧
    (∃ (s : State), s.b RST_BOOT_HALTED = false ∧ s.eng.clk.lpllOn = true ∧ s.rootXo = true ∧ 3 ≤ s.mode) ∧
    (∃ (s : State), s.rootXo = true ∧ s.b CLK_STATUS_MPLL_LOCK = true) ∧
    (∃ (s : State), s.rootXo = true ∧ s.b CLK_STATUS_LPLL_LOCK = true) ∧
    (∃ (src : Src) (key : BitVec 16) (s : State), s.takes src CLK_CMD (keyed key (2 ^ CLK_CMD_ROOT_RETRY.lo)) = true ∧ s.clocksOn = true ∧ s.b CLK_STATUS_ROOT_RC = true ∧ s.eng.clk.startWait = false) ∧
    (∃ (s : State), s.eng.clk.retry = true) ∧
    (∃ (s : State), s.eng.clk.retry = true ∧ s.clocksOn = true) ∧
    (∃ (s : State), s.eng.clk.lfTry = true ∧ s.b CLK_LF_CFG_SEL_RC = false) ∧
    (∃ (s : State), s.eng.clk.lfXo = true) ∧
    (∃ (src : Src) (w : Word) (s : State), s.takes src CLK_LF_CFG w = true) ∧
    (∃ (src : Src) (w : Word) (s : State), s.takes src CLK_STEER w = true) ∧
    (∃ (src : Src) (a : BitVec 18) (w : Word) (s : State), s.takes src a.toNat w = true ∧ [some Acc.rw, some Acc.rwl, some Acc.rwMgr].contains ((rowAt a.toNat).map fun r => r.acc) = true ∧ [0x01C, 0x028].contains (offOf a.toNat) = false ∧ pageOf a.toNat ≠ pgMODE ∧ ([CLK_LF_CFG, CLK_STEER, REG_BK_VSET 3, REG_LD_VSET 3, SV_CFG 0, PHC_RAIL_VSET 0, CHG_PACK, CHG_VREG, AFE_CFG, AFE_TMUX, AFE_CAL_U 0, SCAN_REQ_CFG, BAL_SH_I, BAL_BLEED, EIS_VIEW, ARC_CTRL, ISO_CTRL, GPIO_OUT, GPIO_CFG 0, ICU_SWI, ICU_T_MOD 3, ICU_LINE 0, WDG_CFG 0, RTC_ALARM, RTC_ALM_CFG, RTC_PWRON] : List Nat).contains (canon a.toNat) = false ∧ ([RTC_TRIM, MODE_ATT_PER, MODE_CFG, MEM_CFG, THM_CFG, THM_THR, WDG_TM_CFG, FLT_CFG, BAL_PASS_CFG, FEED_QUAL, CONT_SENSE, ICU_GROUP, ICU_CFG] : List Nat).contains a.toNat = false) ∧
    (∃ (src : Src) (page : Fin 40) (w : Word) (s : State), s.takes src (hdrShadow page.val) w = true ∧ hasShd page.val = true ∧ getBits w 0 2 = 1 ∧ bitOf w.toNat 2 = true ∧ s.b (shadowFrozen page.val) = false) ∧
    (∃ (src : Src) (page : Fin 40) (key : BitVec 16) (lock : Bool) (s : State), s.takes src (page.val * 0x1000 + 0x018) (keyed key (b2n lock)) = true) ∧
    (∃ (src : Src) (a : BitVec 18) (w : Word) (s : State), s.takes src a.toNat w = true ∧ ((rowAt a.toNat).map fun r => r.acc) = some .stg ∧ pageOf a.toNat ≠ pgBAL) ∧
    (∃ (src : Src) (page : Fin 40) (view : Bool) (s : State), s.takes src (hdrStage page.val) (BitVec.ofNat 32 (8 + b2n view)) = true ∧ hasStg page.val = true ∧ s.b (stageHeld page.val) = false) ∧
    (∃ (src : Src) (page : Fin 40) (view : Bool) (s : State), s.takes src (hdrStage page.val) (BitVec.ofNat 32 (b2n view)) = true ∧ hasStg page.val = true) ∧
    (∃ (src : Src) (tg : Fin 5) (s : State), s.takes src MODE_REQ (BitVec.ofNat 32 tg.val) = true ∧ s.accepts 0 = true) ∧
    (∃ (src : Src) (s : State), s.takes src MODE_REQ 5 = true ∧ s.accepts 0 = true ∧ s.contOpenNow = true) ∧
    (∃ (src : Src) (s : State), s.takes src MODE_REQ 6 = true ∧ s.mode ≠ 7 ∧ s.heldBy pgMODE < 4) ∧
    (∃ (src : Src) (s : State), s.takes src MODE_REQ 7 = true ∧ s.accepts 0 = true) ∧
    (∃ (src : Src) (s : State), s.takes src MODE_REQ 15 = true ∧ s.accepts 0 = true) ∧
    (∃ (src : Src) (n : Fin 8) (w : Word) (s : State), s.takes src (MODE_LTOL n.val) w = true) ∧
    (∃ (src : Src) (w : Word) (s : State), s.takes src MODE_ATT_PER w = true) ∧
    (∃ (src : Src) (w : Word) (s : State), s.takes src MODE_DORM_PER w = true) ∧
    (∃ (src : Src) (w : Word) (s : State), s.takes src MODE_CFG w = true) ∧
    (∃ (src : Src) (w : Word) (s : State), s.takes src MODE_IDLE_I w = true) ∧
    (∃ (s : State), s.b MODE_STATUS_ASCENDING = true ∧ (s.mode = 2 ∨ s.mode = 3 ∨ s.mode = 4) ∧ s.mode < s.f MODE_STATUS_ENTERING ∧ s.eng.mode.aborted = false ∧ s.eng.mode.check = 0) ∧
    (∃ (s : State), s.released = true ∧ s.mode ≤ 4 ∧ s.inTransition = false ∧ s.target < s.mode ∧ 2 ≤ s.target) ∧
    (∃ (s : State), s.b MODE_STATUS_DESCENDING = true ∧ (s.mode = 3 ∨ s.mode = 4) ∧ s.f MODE_STATUS_ENTERING < s.mode ∧ 2 ≤ s.f MODE_STATUS_ENTERING ∧ s.eng.mode.check = 0) ∧
    (∃ (s : State), s.b MODE_CFG_WAKE_EN = true ∧ 1 ≤ s.mode ∧ s.mode ≤ 4) ∧
    (∃ (s : State), s.isWrk = true ∧ s.mode = 0 ∧ s.released = true ∧ s.inTransition = false) ∧
    (∃ (s : State), s.isMgr = true ∧ s.reg (MODE_EVT_RAW + 8) = 0) ∧
    (∃ (s : State), s.mode = 1 ∧ s.inTransition = false) ∧
    (∃ (hit : Bool) (s : State), s.mode = 3 ∧ s.eng.mode.check = 2 ∧ hit = false ∧ s.f CELL_OV_MAP_MAP = 0 ∧ s.f CELL_UV_MAP_MAP = 0 ∧ s.f AUX_T_MAP_OT = 0 ∧ s.f AUX_T_MAP_UT = 0 ∧ s.target ≤ 1 ∧ s.isMgr = true) ∧
    (∃ (s : State), s.eng.boot.pinLow = true ∧ s.eng.boot.hold = 0 ∧ s.powered = true) ∧
    (∃ (s : State), s.eng.boot.hold = 1) ∧
    (∃ (src : Src) (key : BitVec 16) (s : State), s.takes src RST_CMD (keyed key (2 ^ RST_CMD_SYS.lo)) = true ∧ s.powered = true ∧ s.eng.boot.hold = 0) ∧
    (∃ (src : Src) (key : BitVec 16) (cores : Fin 8) (c : Fin 3) (s : State), s.takes src RST_CMD (keyed key (cores.val * 2 ^ RST_CMD_CORE.lo)) = true ∧ s.released = true ∧ (s.keep = 0 ∨ s.keep = 2) ∧ bitOf cores.val c.val = true ∧ s.coreRuns c.val = true) ∧
    (∃ (x : Nat × Nat) (n : Nat) (s : State), s.f RST_BOOT_STEP = 1 ∧ s.eng.pwr.fixedFailed = false ∧ 2 ≤ s.eng.pwr.fixedRow ∧ s.eng.pwr.fixedRow ≤ 4 ∧ x ∈ fixedRow s.eng.pwr.fixedRow ∧ n ∈ fixedSlots s.eng.pwr.fixedRow) ∧
    (∃ (s : State), s.f RST_BOOT_STEP = 1 ∧ s.eng.clk.vsys = true ∧ s.eng.pwr.fixedRow = 1) ∧
    (∃ (s : State), s.f RST_BOOT_STEP = 1 ∧ s.eng.pwr.fixedRow = 5 ∧ s.railsUp = true ∧ s.f SUP_FAULTED_MAP = 0) ∧
    (∃ (r : Nat) (x : Nat × Nat) (s : State), s.f RST_BOOT_STEP = 1 ∧ s.eng.pwr.fixedFailed = false ∧ 2 ≤ s.eng.pwr.fixedRow ∧ s.eng.pwr.fixedRow ≤ 4 ∧ r ∈ [2, 3, 4] ∧ x ∈ fixedRow r) ∧
    (∃ (s : State), s.f RST_BOOT_STEP = 1 ∧ s.eng.pwr.fixedFailed = true ∧ s.eng.clk.vsys = true) ∧
    (∃ (s : State), s.f RST_BOOT_STEP = 2 ∧ s.eng.boot.fresh = false ∧ s.b IDENT_ROLE_MISMATCH = false) ∧
    (∃ (us : Nat) (s : State), s.b MEM_STATUS_FILLING = true ∧ us < 2 ^ MEM_FILL_US.wd ∧ 3 ≤ s.mode) ∧
    (∃ (core : Fin 3) (s : State), s.eng.boot.verify.contains core.val = true ∧ s.released = true ∧ s.eng.boot.cores.length = 3) ∧
    (∃ (s : State), s.f RST_BOOT_STEP = 7 ∧ s.isMgr = true ∧ s.keep = 0 ∧ s.eng.boot.testen = false) ∧
    (∃ (src : Src) (w : Word) (s : State), s.takes src (REG_BK_VSET 3) w = true) ∧
    (∃ (src : Src) (n : Fin 3) (w : Word) (s : State), s.takes src (REG_LD_VSET (3 + n.val)) w = true) ∧
    (∃ (k : Fin 10) (s : State), s.ramping k.val = true) ∧
    (∃ (n : Fin 4) (cycles : Nat) (s : State), s.f (regState n.val) % 2 = 1 ∧ 64 ≤ cycles) ∧
    (∃ (n : Fin 6) (us : Nat) (s : State), s.f (regState (4 + n.val)) % 2 = 1 ∧ 100 ≤ us) ∧
    (∃ (src : Src) (n : Fin 16) (w : Word) (s : State), s.takes src (SV_CFG n.val) w = true ∧ (SV_CFG_EN n.val).of w = 0) ∧
    (∃ (n : Fin 16) (uv : Nat) (clks : Nat) (s : State), s.svActive n.val = true ∧ s.f (SV_STAT_STATE n.val) = 2 ∧ (s.svUv n.val (s.svSource n.val uv) = true ∨ s.svOv n.val (s.svSource n.val uv) = true) ∧ s.svFilt n.val ≤ clks) ∧
    (∃ (n : Fin 16) (expiry : Bool) (s : State), s.svActive n.val = true ∧ s.f (SV_STAT_STATE n.val) = 3 ∧ expiry = false ∧ s.eng.pwr.svWait.contains n.val = false) ∧
    (∃ (n : Fin 16) (s : State), s.svActive n.val = true ∧ s.f (SV_STAT_STATE n.val) = 3 ∧ s.b (SUP_TIMING_MAP.bit n.val) = true ∧ s.f (SV_CFG_SLOT n.val) = 0x1F ∧ s.eng.pwr.svWait.contains n.val = false) ∧
    (∃ (src : Src) (key : BitVec 16) (p : Nat) (s : State), s.takes src SEQ_CTRL (keyed key 1) = true ∧ s.accepts 10 = true ∧ s.f SEQ_STATUS_STATE = 0 ∧ s.seqCheck = true ∧ s.heldBack = [] ∧ p ∈ s.progSlots ∧ s.toStart p = true ∧ 1 ≤ s.f (SEQ_SLOT_CFG_UP_STEP p)) ∧
    (∃ (src : Src) (key : BitVec 16) (p : Nat) (s : State), s.takes src SEQ_CTRL (keyed key 2) = true ∧ s.accepts 11 = true ∧ s.f SEQ_STATUS_STATE = 2 ∧ p ∈ s.progSlots ∧ s.slotOn p = true) ∧
    (∃ (src : Src) (key : BitVec 16) (n : Fin 32) (s : State), s.takes src SEQ_CTRL (keyed key (3 + n.val * 2 ^ SEQ_CTRL_SLOT.lo)) = true ∧ s.accepts 10 = true ∧ s.cmdSlot n.val = true ∧ (s.f SEQ_STATUS_STATE = 1 ∨ s.f SEQ_STATUS_STATE = 3 ∨ s.f SEQ_STATUS_STATE = 4)) ∧
    (∃ (src : Src) (key : BitVec 16) (n : Fin 32) (s : State), s.takes src SEQ_CTRL (keyed key (4 + n.val * 2 ^ SEQ_CTRL_SLOT.lo)) = true ∧ s.accepts 11 = true ∧ s.cmdSlot n.val = true ∧ s.f SEQ_STATUS_STATE = 2 ∧ n.val ∉ s.eng.seq.dnSet) ∧
    (∃ (src : Src) (key : BitVec 16) (s : State), s.takes src SEQ_CTRL (keyed key 5) = true ∧ s.accepts 11 = true) ∧
    (∃ (n : Fin 19) (s : State), s.slotState n.val = 1 ∧ s.depsUp n.val = true) ∧
    (∃ (n : Fin 19) (s : State), s.slotState n.val = 2 ∧ s.slotPg n.val = true) ∧
    (∃ (n : Fin 19) (s : State), s.slotState n.val = 2 ∧ n.val ∉ s.eng.seq.dnSet ∧ n.val ∉ s.eng.seq.side) ∧
    (∃ (n : Fin 19) (s : State), s.slotOn n.val = true ∧ s.mayStop n.val = true ∧ (n.val ≤ 10 ∨ s.isDown n.val 0 = false)) ∧
    (∃ (n : Fin 19) (uv : Nat) (s : State), s.slotState n.val = 4 ∧ s.isDown n.val uv = true ∧ s.f SEQ_STATUS_STATE = 2) ∧
    (∃ (n : Fin 19) (s : State), s.slotState n.val = 4 ∧ s.f SEQ_STATUS_STATE = 2) ∧
    (∃ (n : Fin 19) (uv : Nat) (s : State), s.stuck n.val = true ∧ s.isDown n.val uv = true) ∧
    (∃ (s : State), s.f SEQ_STATUS_STATE = 4 ∧ s.eng.seq.retry = true ∧ s.seqCheck = true ∧ s.eng.seq.goLatched = false ∧ s.eng.seq.addNext = []) ∧
    (∃ (s : State), s.eng.seq.vsysRetry = true ∧ s.isWrk = true ∧ 7 ≤ s.vsysSlot ∧ s.vsysSlot ≤ 10 ∧ s.slotState s.vsysSlot = 0) ∧
    (∃ (src : Src) (key : BitVec 16) (n : Fin 8) (s : State), s.takes src PHC_CMD (keyed key (1 + n.val * 2 ^ PHC_CMD_PHASE.lo)) = true ∧ s.accepts 10 = true ∧ (s.phState n.val = 3 ∨ s.phState n.val = 4) ∧ (∀ r : Fin 4, s.railOn r.val = false ∨ bitOf (s.rail r.val).phases n.val = false)) ∧
    (∃ (src : Src) (r : Fin 4) (w : Word) (s : State), s.takes src (PHC_RAIL_VSET r.val) w = true) ∧
    (∃ (r : Fin 4) (s : State), s.ramping (10 + r.val) = true ∧ s.railOn r.val = true ∧ s.eng.pwr.rails.length = 4) ∧
    (∃ (r : Fin 4) (fb : Nat) (k : Nat) (s : State), (s.rail r.val).done = true ∧ s.railOn r.val = true ∧ s.active r.val ≠ [] ∧ s.f (PHC_RAIL_PG_FILT r.val) ≤ (s.rail r.val).good + k ∧ ((s.rail r.val).volt (fb % 4096)) < 2 ^ (PHC_RAIL_VMEAS_V r.val).wd ∧ (if ((s.rail r.val).volt (fb % 4096)) ≤ s.f (PHC_RAIL_VSET_VSET r.val) then s.f (PHC_RAIL_VSET_VSET r.val) - ((s.rail r.val).volt (fb % 4096)) else ((s.rail r.val).volt (fb % 4096)) - s.f (PHC_RAIL_VSET_VSET r.val)) * 100 ≤ s.f (PHC_RAIL_VSET_VSET r.val) * s.f (PHC_RAIL_PG_WIN r.val)) ∧
    (∃ (r : Fin 4) (fb : Nat) (s : State), ((s.rail r.val).volt (fb % 4096)) < 2 ^ (PHC_RAIL_VMEAS_V r.val).wd ∧ s.f (PHC_RAIL_VSET_VSET r.val) * s.f (PHC_RAIL_PG_WIN r.val) < (if ((s.rail r.val).volt (fb % 4096)) ≤ s.f (PHC_RAIL_VSET_VSET r.val) then s.f (PHC_RAIL_VSET_VSET r.val) - ((s.rail r.val).volt (fb % 4096)) else ((s.rail r.val).volt (fb % 4096)) - s.f (PHC_RAIL_VSET_VSET r.val)) * 100 ∧ s.b (PHC_RAIL_STATUS_PG r.val) = true) ∧
    (∃ (n : Fin 8) (uv : Nat) (tm : Nat) (s : State), s.pulseOn n.val tm = true ∧ 500 * (s.ph n.val).cl < uv ∧ (s.rail (s.f (PHC_PH_STATUS_RAIL n.val))).blank ≤ tm ∧ (s.ph n.val).limited = false) ∧
    (∃ (n : Fin 8) (k : Nat) (s : State), s.phState n.val = 2 ∧ 64 ≤ k) ∧
    (∃ (r : Fin 4) (fb : Nat) (s : State), s.f (PHC_RAIL_STATUS_STATE r.val) = 2 ∧ s.active r.val ≠ [] ∧ s.ustF r.val (PHC_RAIL_UST_UST_EN 0) = 1 ∧ s.ustHold r.val ≤ (s.rail r.val).since ∧ s.under r.val fb = true) ∧
    (∃ (r : Fin 4) (fb : Nat) (tm : Nat) (trips : BitVec 8) (n : Nat) (s : State), s.f (PHC_RAIL_STATUS_STATE r.val) = 3 ∧ (s.recovered r.val fb = true ∨ s.ustF r.val (PHC_RAIL_UST_MAXON 0) ≤ tm ∨ (s.active r.val).all (bitOf trips.toNat) = true) ∧ s.eng.pwr.rails.length = 4 ∧ n ∈ s.active r.val) ∧
    (∃ (r : Fin 4) (fb : Nat) (s : State), s.f (PHC_RAIL_STATUS_STATE r.val) = 2 ∧ s.active r.val ≠ [] ∧ s.ustF r.val (PHC_RAIL_UST_OST_EN 0) = 1 ∧ s.above r.val fb = true) ∧
    (∃ (r : Fin 4) (fb : Nat) (n : Nat) (s : State), s.f (PHC_RAIL_STATUS_STATE r.val) = 4 ∧ s.fallenBack r.val fb = true ∧ s.eng.pwr.rails.length = 4 ∧ n ∈ s.active r.val) ∧
    (∃ (s : State), s.eng.pwr.rails.length = 4) ∧
    (∃ (s : State), s.ustArmed 0 = false) ∧
    (∃ (r : Fin 4) (cs : List (Nat × Nat × Nat)) (k : Nat) (n : Nat) (s : State), s.f (PHC_RAIL_STATUS_STATE r.val) = 2 ∧ (s.rail r.val).susp < k ∧ s.worstPhase r.val cs ((s.active r.val).filter fun m => 64 ≤ (s.health r.val cs (k - (s.rail r.val).susp) m).2) = some n) ∧
    (∃ (v : Nat) (s : State), s.f FEED_QUAL_UV ≤ v ∧ v ≤ s.f FEED_QUAL_OV) ∧
    (∃ (n : Fin 2) (s : State), s.inLimits n.val = true ∧ s.b (validOf n.val) = false ∧ s.qualOk (s.feedV n.val) = true) ∧
    (∃ (n : Fin 2) (v : Nat) (s : State), (v < s.f FEED_QUAL_UV ∨ s.f FEED_QUAL_OV < v) ∧ s.b (validOf n.val) = true) ∧
    (∃ (n : Fin 2) (s : State), s.b (gateOf n.val) = true) ∧
    (∃ (n : Fin 2) (s : State), s.b (validOf n.val) = true) ∧
    (∃ (vpb : Nat) (s : State), s.ef = 1 ∧ 95 * s.orBus ≤ 100 * (20 * vpb)) ∧
    (∃ (s : State), (s.ef = 2 ∨ s.ef = 3) ∧ s.busUp = true ∧ s.i FEED_IEF_I < 10 * (s.f FEED_EF_ILIM : Int) ∧ s.eng.feed.pcGate = true) ∧
    (∃ (s : State), s.ef = 1 ∧ s.path = 5) ∧
    (∃ (i : BitVec 16) (tm : Nat) (s : State), (s.ef = 2 ∨ s.ef = 3) ∧ s.path = 1 ∧ 10 * (s.f FEED_EF_ILIM : Int) ≤ signed 16 i.toNat ∧ s.f FEED_EF_TMO ≤ tm) ∧
    (∃ (i : BitVec 16) (s : State), (s.ef = 2 ∨ s.ef = 3) ∧ s.path = 1 ∧ 20 * (s.f FEED_EF_ILIM : Int) ≤ signed 16 i.toNat) ∧
    (∃ (s : State), s.ef = 4) ∧
    (∃ (s : State), s.ef = 2) ∧
    (∃ (k : Fin 6) (s : State), k.val < 4 ∧ s.fetJudged k.val = true) ∧
    (∃ (s : State), s.path = 2 ∧ s.b PATH_STATUS_PACK_PRESENT = true) ∧
    (∃ (mv : Nat) (s : State), (s.path = 3 ∨ s.path = 4 ∨ s.b PATH_STATUS_LOCKED = true) ∧ mv < s.f CHG_PACK_CELLS * 10 * s.f CHG_THR_VLOW) ∧
    (∃ (mv : Nat) (s : State), s.f CHG_PACK_CELLS ≠ 0 ∧ s.b PATH_STATUS_PACK_PRESENT = false ∧ s.f CHG_PACK_CELLS * 1000 ≤ mv) ∧
    (∃ (mv : Nat) (s : State), s.b PATH_STATUS_PACK_PRESENT = true ∧ mv < s.f CHG_PACK_CELLS * 500) ∧
    (∃ (s : State), s.path = 1) ∧
    (∃ (src : Src) (key : BitVec 16) (s : State), s.takes src FEED_CMD (keyed key 1) = true ∧ s.accepts 12 = true ∧ (s.ef = 5 ∨ s.ef = 6)) ∧
    (∃ (src : Src) (key : BitVec 16) (s : State), s.takes src FEED_CMD (keyed key 2) = true ∧ s.accepts 12 = true) ∧
    (∃ (src : Src) (key : BitVec 16) (s : State), s.takes src FEED_CMD (keyed key 3) = true ∧ s.accepts 12 = true ∧ s.chg ≠ 9) ∧
    (∃ (src : Src) (key : BitVec 16) (s : State), s.takes src PATH_CMD (keyed key 1) = true ∧ s.accepts 12 = true ∧ s.chg = 8) ∧
    (∃ (src : Src) (key : BitVec 16) (s : State), s.takes src PATH_CMD (keyed key 2) = true ∧ s.accepts 12 = true ∧ s.chg ≠ 9) ∧
    (∃ (src : Src) (key : BitVec 16) (s : State), s.takes src PATH_CMD (keyed key 3) = true ∧ s.accepts 12 = true ∧ s.chg = 9 ∧ s.f CHG_STATUS_FAULT ≠ 4) ∧
    (∃ (src : Src) (key : BitVec 16) (s : State), s.takes src PATH_CMD (keyed key 4) = true ∧ s.accepts 12 = true) ∧
    (∃ (src : Src) (key : BitVec 16) (s : State), s.takes src PATH_CMD (keyed key 5) = true ∧ s.accepts 12 = true) ∧
    (∃ (src : Src) (key : BitVec 16) (s : State), s.takes src PATH_CMD (keyed key 6) = true ∧ s.accepts 12 = true ∧ s.chg ≠ 9) ∧
    (∃ (src : Src) (w : Word) (s : State), s.takes src CHG_PACK w = true ∧ CHG_PACK_CHEM.of w < 3) ∧
    (∃ (vpb : Nat) (s : State), s.chg = 0 ∧ s.f CHG_PACK_CELLS ≠ 0 ∧ s.b PATH_STATUS_PACK_PRESENT = true ∧ s.path = 1 ∧ s.b PATH_STATUS_SUPPLEMENT = false ∧ s.b PATH_STATUS_LOCKED = false ∧ s.f CHG_PACK_CELLS * s.vreg + 2000 ≤ 20 * vpb ∧ (s.b CHG_PACK_AUTO = true ∨ s.eng.feed.startReq = true)) ∧
    (∃ (s : State), s.chg = 1) ∧
    (∃ (mv : Nat) (s : State), s.chg = 2 ∧ s.f CHG_PACK_CELLS * 10 * s.f CHG_THR_VPRE ≤ mv) ∧
    (∃ (mv : Nat) (s : State), s.chg = 3 ∧ s.f CHG_PACK_CELLS * s.vreg ≤ mv) ∧
    (∃ (ma : Nat) (s : State), s.chg = 4 ∧ ma ≤ 10 * s.f CHG_ICHG_ITERM) ∧
    (∃ (s : State), s.chg = 5) ∧
    (∃ (mv : Nat) (s : State), s.chg = 6 ∧ s.chgEligible = true ∧ mv < s.f CHG_PACK_CELLS * 10 * s.f CHG_THR_VRECH) ∧
    (∃ (t8 : Nat) (s : State), 2 ≤ s.chg ∧ s.chg ≤ 5 ∧ (if s.chg = 2 then s.f CHG_TIMER_PRE * 480 else s.f CHG_TIMER_SAFETY * 28800) ≤ t8 ∧ t8 < 2 ^ CHG_ELAPSED_T8.wd) ∧
    (∃ (mv : Nat) (s : State), s.chg ≠ 9 ∧ s.f CHG_PACK_CELLS ≠ 0 ∧ s.f CHG_PACK_CELLS * (s.vreg + 100) < mv) ∧
    (∃ (s : State), 2 ≤ s.chg ∧ s.chg ≤ 5) ∧
    (∃ (s : State), s.chg = 7 ∧ s.chgHeld = false ∧ s.eng.feed.phaseLeft < 16) ∧
    (∃ (sec : Nat) (s : State), (s.released = true ∨ s.eng.feed.alive = true) ∧ s.f CHG_FALLBACK_HCT ≠ 0 ∧ s.f CHG_FALLBACK_HCT ≤ sec ∧ s.b PATH_STATUS_HOST_LOST = false) ∧
    (∃ (src : Src) (key : BitVec 16) (s : State), s.takes src CONT_CMD (keyed key 1) = true ∧ s.accepts 1 = true ∧ s.cont = 0 ∧ s.released = true ∧ s.f CONT_STATUS_WELD = 0 ∧ s.b CONT_STATUS_FT_LATCH = false ∧ s.b CONT_STATUS_LOOP_TRIP = false ∧ (s.b CONT_STATUS_LOOP_OK = true ∨ s.b CONT_LOOP_LOOP_EN = false)) ∧
    (∃ (src : Src) (key : BitVec 16) (s : State), s.takes src CONT_CMD (keyed key 2) = true ∧ s.accepts 2 = true ∧ s.closing = true) ∧
    (∃ (src : Src) (key : BitVec 16) (s : State), s.takes src CONT_CMD (keyed key 3) = true ∧ s.accepts 2 = true) ∧
    (∃ (src : Src) (key : BitVec 16) (s : State), s.takes src CONT_CMD (keyed key 4) = true ∧ s.accepts 2 = true) ∧
    (∃ (src : Src) (key : BitVec 16) (s : State), s.takes src CONT_CMD (keyed key 5) = true ∧ s.accepts 2 = true) ∧
    (∃ (p0 : Nat) (p1 : Nat) (p2 : Nat) (s : State), s.cont = 1 ∧ s.onPm ≤ p1 ∧ p0 < s.offPm ∧ p0 < 1024 ∧ p1 < 1024 ∧ p2 < 1024) ∧
    (∃ (s : State), s.cont = 1) ∧
    (∃ (p0 : Nat) (p1 : Nat) (p2 : Nat) (s : State), s.cont = 2 ∧ s.f CONT_PC_PC_PCT * 10 ≤ p2 ∧ p0 < 1024 ∧ p1 < 1024 ∧ p2 < 1024) ∧
    (∃ (s : State), s.cont = 2) ∧
    (∃ (s : State), s.cont = 3) ∧
    (∃ (p0 : Nat) (p1 : Nat) (p2 : Nat) (s : State), s.cont = 4 ∧ s.onPm ≤ p0 ∧ p0 < 1024 ∧ p1 < 1024 ∧ p2 < 1024) ∧
    (∃ (p0 : Nat) (p1 : Nat) (p2 : Nat) (s : State), s.cont = 5 ∧ (p0 < s.onPm ∨ p1 < s.onPm) ∧ p0 < 1024 ∧ p1 < 1024 ∧ p2 < 1024) ∧
    (∃ (s : State), s.cont = 6) ∧
    (∃ (s : State), s.cont = 6 ∧ s.b (CONT_STATUS_CMD.bit 0) = false ∧ s.b (CONT_STATUS_CMD.bit 2) = false) ∧
    (∃ (s : State), s.cont = 6 ∧ s.f CONT_STATUS_CMD = 0) ∧
    (∃ (p0 : Nat) (p1 : Nat) (p2 : Nat) (s : State), s.cont = 7 ∧ p0 < 1024 ∧ p1 < 1024 ∧ p2 < 1024) ∧
    (∃ (n : Fin 3) (s : State), s.f (CONT_COIL_STATE n.val) = 1) ∧
    (∃ (n : Fin 3) (s : State), s.b (CONT_STATUS_CMD.bit n.val) = true) ∧
    (∃ (n : Fin 3) (s : State), s.b (CONT_STATUS_CMD.bit n.val) = true) ∧
    (∃ (mag : Nat) (s : State), s.isMgr = true ∧ 3 ≤ s.mode ∧ s.b CONT_STATUS_FD_ON = true ∧ s.f CONT_FT_HARD_THR < mag) ∧
    (∃ (s : State), s.isMgr = true ∧ s.b CONT_STATUS_LOOP_OK = true ∧ s.loopSourcing = true ∧ s.closing = true) ∧
    (∃ (s : State), s.isWrk = true ∧ s.released = true ∧ s.eng.cont.loopIn = true ∧ s.mode ≠ 6) :=
  ⟨witness_powerAndFixedMonitors.1,
   witness_powerAndFixedMonitors.2.2,
   witness_rootAndLinkClock.1,
   witness_rootAndLinkClock.2.1,
   witness_rootAndLinkClock.2.2.1,
   witness_rootAndLinkClock.2.2.2.1,
   witness_rootAndLinkClock.2.2.2.2.1,
   witness_rootAndLinkClock.2.2.2.2.2.1,
   witness_rootAndLinkClock.2.2.2.2.2.2.1,
   witness_rootAndLinkClock.2.2.2.2.2.2.2,
   witness_rootReturnAndLfClock.1,
   witness_rootReturnAndLfClock.2.1,
   witness_rootReturnAndLfClock.2.2.1,
   witness_rootReturnAndLfClock.2.2.2.1,
   witness_rootReturnAndLfClock.2.2.2.2.1,
   witness_rootReturnAndLfClock.2.2.2.2.2.1,
   witness_rootReturnAndLfClock.2.2.2.2.2.2,
   witness_registerBusWrites.1,
   witness_registerBusWrites.2.2.2.2.2.2.1,
   witness_registerBusWrites.2.2.2.2.2.2.2.2.1,
   witness_registerBusWrites.2.2.2.2.2.2.2.2.2.2.1,
   witness_registerBusWrites.2.2.2.2.2.2.2.2.2.2.2.1,
   witness_registerBusWrites.2.2.2.2.2.2.2.2.2.2.2.2.2,
   witness_modeRequests.1,
   witness_modeRequests.2.2.2.1,
   witness_modeRequests.2.2.2.2.2.2.1,
   witness_modeRequests.2.2.2.2.2.2.2.1,
   witness_modeRequests.2.2.2.2.2.2.2.2.1,
   witness_modeRequests.2.2.2.2.2.2.2.2.2.1,
   witness_modeRequests.2.2.2.2.2.2.2.2.2.2.1,
   witness_modeRequests.2.2.2.2.2.2.2.2.2.2.2.1,
   witness_modeRequests.2.2.2.2.2.2.2.2.2.2.2.2.1,
   witness_modeRequests.2.2.2.2.2.2.2.2.2.2.2.2.2.1,
   witness_modeTransitions.1,
   witness_modeTransitions.2.2.2.1,
   witness_modeTransitions.2.2.2.2.1,
   witness_modeTransitions.2.2.2.2.2.2.1,
   witness_modeTransitions.2.2.2.2.2.2.2.1,
   witness_modeTransitions.2.2.2.2.2.2.2.2.1,
   witness_modeTransitions.2.2.2.2.2.2.2.2.2.1,
   witness_modeTransitions.2.2.2.2.2.2.2.2.2.2.1,
   witness_resetsOfTheDevice.1,
   witness_resetsOfTheDevice.2.2.1,
   witness_resetsOfTheDevice.2.2.2.1,
   witness_resetsOfTheDevice.2.2.2.2,
   witness_bringUpSteps.2.1,
   witness_bringUpSteps.1,
   witness_bringUpSteps.2.2.1,
   witness_bringUpSteps.2.2.2.1,
   witness_bringUpSteps.2.2.2.2.1,
   witness_bringUpSteps.2.2.2.2.2.1,
   witness_bringUpSteps.2.2.2.2.2.2.2.1,
   witness_bringUpSteps.2.2.2.2.2.2.2.2.1,
   witness_bringUpSteps.2.2.2.2.2.2.2.2.2.2.1,
   witness_regulatorsAndSupervisors.1,
   witness_regulatorsAndSupervisors.2.1,
   witness_regulatorsAndSupervisors.2.2.1,
   witness_regulatorsAndSupervisors.2.2.2.1,
   witness_regulatorsAndSupervisors.2.2.2.2.1,
   witness_regulatorsAndSupervisors.2.2.2.2.2.1,
   witness_regulatorsAndSupervisors.2.2.2.2.2.2.2.1,
   witness_regulatorsAndSupervisors.2.2.2.2.2.2.2.2.1,
   witness_regulatorsAndSupervisors.2.2.2.2.2.2.2.2.2.2.1,
   witness_sequencerCommands.1,
   witness_sequencerCommands.2.2.2.1,
   witness_sequencerCommands.2.2.2.2.2.1,
   witness_sequencerCommands.2.2.2.2.2.2.2.1,
   witness_sequencerCommands.2.2.2.2.2.2.2.2,
   witness_sequencerEvents.1,
   witness_sequencerEvents.2.2.1,
   witness_sequencerEvents.2.2.2.1,
   witness_sequencerEvents.2.2.2.2.1,
   witness_sequencerEvents.2.2.2.2.2.1,
   witness_sequencerEvents.2.2.2.2.2.2.1,
   witness_sequencerEvents.2.2.2.2.2.2.2.1,
   witness_sequencerEvents.2.2.2.2.2.2.2.2.1,
   witness_sequencerEvents.2.2.2.2.2.2.2.2.2,
   witness_phaseControllerCommands.2.2.2.2.2.2.2.2.2.2.2.2.2.2.2.2.2.1,
   witness_phaseControllerCommands.1,
   witness_phaseControllerCommands.2.1,
   witness_phaseControllerCommands.2.2.1,
   witness_phaseControllerCommands.2.2.2.1,
   witness_phaseControllerCommands.2.2.2.2.1,
   witness_phaseControllerCommands.2.2.2.2.2.2.1,
   witness_phaseControllerCommands.2.2.2.2.2.2.2.1,
   witness_phaseControllerCommands.2.2.2.2.2.2.2.2.1,
   witness_phaseControllerCommands.2.2.2.2.2.2.2.2.2.1,
   witness_phaseControllerCommands.2.2.2.2.2.2.2.2.2.2.1,
   witness_phaseControllerCommands.2.2.2.2.2.2.2.2.2.2.2.1,
   witness_phaseControllerCommands.2.2.2.2.2.2.2.2.2.2.2.2.1,
   witness_phaseControllerCommands.2.2.2.2.2.2.2.2.2.2.2.2.2.2.2.1,
   witness_feedsAndFuse.1,
   witness_feedsAndFuse.2.1,
   witness_feedsAndFuse.2.2.1,
   witness_feedsAndFuse.2.2.2.1,
   witness_feedsAndFuse.2.2.2.2.1,
   witness_feedsAndFuse.2.2.2.2.2.1,
   witness_feedsAndFuse.2.2.2.2.2.2.1,
   witness_feedsAndFuse.2.2.2.2.2.2.2.1,
   witness_feedsAndFuse.2.2.2.2.2.2.2.2.1,
   witness_feedsAndFuse.2.2.2.2.2.2.2.2.2.1,
   witness_feedsAndFuse.2.2.2.2.2.2.2.2.2.2.1,
   witness_feedsAndFuse.2.2.2.2.2.2.2.2.2.2.2.1,
   witness_feedsAndFuse.2.2.2.2.2.2.2.2.2.2.2.2.1,
   witness_pathAndFeedCommands.1,
   witness_pathAndFeedCommands.2.2.1,
   witness_pathAndFeedCommands.2.2.2.1,
   witness_pathAndFeedCommands.2.2.2.2.1,
   witness_pathAndFeedCommands.2.2.2.2.2.1,
   witness_pathAndFeedCommands.2.2.2.2.2.2.1,
   witness_pathAndFeedCommands.2.2.2.2.2.2.2.1,
   witness_pathAndFeedCommands.2.2.2.2.2.2.2.2.1,
   witness_backupCharger.1,
   witness_backupCharger.2.2.2.1,
   witness_backupCharger.2.2.2.2.1,
   witness_pathAndFeedCommands.2.2.2.2.2.2.2.2.2.2.1,
   witness_pathAndFeedCommands.2.2.2.2.2.2.2.2.2.2.2.1,
   witness_pathAndFeedCommands.2.2.2.2.2.2.2.2.2.1,
   witness_backupCharger.2.2.2.2.2.1,
   witness_backupCharger.2.2.2.2.2.2.1,
   witness_backupCharger.2.2.2.2.2.2.2.1,
   witness_backupCharger.2.2.2.2.2.2.2.2.1,
   witness_backupCharger.2.2.2.2.2.2.2.2.2.1,
   witness_backupCharger.2.2.2.2.2.2.2.2.2.2.1,
   witness_backupCharger.2.2.2.2.2.2.2.2.2.2.2.1,
   witness_backupCharger.2.2.2.2.2.2.2.2.2.2.2.2.1,
   witness_backupCharger.2.2.2.2.2.2.2.2.2.2.2.2.2.1,
   witness_backupCharger.2.2.2.2.2.2.2.2.2.2.2.2.2.2.1,
   witness_backupCharger.2.2.2.2.2.2.2.2.2.2.2.2.2.2.2.1,
   witness_backupCharger.2.2.2.2.2.2.2.2.2.2.2.2.2.2.2.2,
   witness_pathAndFeedCommands.2.2.2.2.2.2.2.2.2.2.2.2,
   witness_contactorCommands.1,
   witness_contactorCommands.2.2.1,
   witness_contactorCommands.2.2.2.1,
   witness_contactorCommands.2.2.2.2.1,
   witness_contactorCommands.2.2.2.2.2.1,
   witness_contactorCommands.2.2.2.2.2.2.2.1,
   witness_contactorCommands.2.2.2.2.2.2.2.2.2.1,
   witness_contactorCommands.2.2.2.2.2.2.2.2.2.2.1,
   witness_contactorCommands.2.2.2.2.2.2.2.2.2.2.2.1,
   witness_contactorCommands.2.2.2.2.2.2.2.2.2.2.2.2.1,
   witness_contactorCommands.2.2.2.2.2.2.2.2.2.2.2.2.2.1,
   witness_contactorCommands.2.2.2.2.2.2.2.2.2.2.2.2.2.2.2.1,
   witness_contactorCommands.2.2.2.2.2.2.2.2.2.2.2.2.2.2.2.2.1,
   witness_contactorCommands.2.2.2.2.2.2.2.2.2.2.2.2.2.2.2.2.2.1,
   witness_contactorCommands.2.2.2.2.2.2.2.2.2.2.2.2.2.2.2.2.2.2.1,
   witness_contactorCommands.2.2.2.2.2.2.2.2.2.2.2.2.2.2.2.2.2.2.2,
   witness_coilsDisconnectAndLoop.1,
   witness_coilsDisconnectAndLoop.2.1,
   witness_coilsDisconnectAndLoop.2.2.1,
   witness_coilsDisconnectAndLoop.2.2.2.1,
   witness_coilsDisconnectAndLoop.2.2.2.2.2.1,
   witness_coilsDisconnectAndLoop.2.2.2.2.2.2.2⟩

/-- measurementAndRingCommandsComplete: each clause's conditions hold of a state. -/
theorem witness_measurementAndRingCommandsComplete :
    (∃ (s : State), s.b AFE_STATUS_REF_RDY = false ∧ s.refOn = true ∧ (s.eng.boot.fresh = true ∨ 3 ≤ s.f RST_BOOT_STEP)) ∧
    (∃ (src : Src) (key : BitVec 16) (s : State), s.takes src AFE_DIAG_CMD (keyed key 1) = true ∧ s.isMgr = false ∧ s.f AFE_STATUS_DIAG = 0) ∧
    (∃ (src : Src) (key : BitVec 16) (s : State), s.takes src AFE_DIAG_CMD (keyed key 2) = true ∧ s.f AFE_STATUS_DIAG = 0 ∧ (s.mode = 4 ∨ s.mode = 5 ∨ s.mode = 7)) ∧
    (∃ (src : Src) (key : BitVec 16) (s : State), s.takes src AFE_DIAG_CMD (keyed key 3) = true ∧ s.f AFE_STATUS_DIAG ≠ 0) ∧
    (∃ (s : State), s.f AFE_DIAG_CFG_AUTO_PER ≠ 0 ∧ s.f AFE_STATUS_DIAG = 0 ∧ s.isMgr = false) ∧
    (∃ (s : State), s.f AFE_STATUS_DIAG = 1 ∧ (s.f BAL_SH_STATUS_STATE = 0 ∨ s.f BAL_SH_STATUS_STATE = 7)) ∧
    (∃ (s : State), s.f AFE_STATUS_DIAG = 1) ∧
    (∃ (s : State), 2 ≤ s.f AFE_STATUS_DIAG ∧ s.f AFE_STATUS_DIAG ≤ 6) ∧
    (∃ (s : State), s.f AFE_STATUS_DIAG = 0) ∧
    (∃ (s : State), s.f AFE_STATUS_DIAG = 8 ∧ s.f AFE_DIAG_STATUS_CHAN < 28) ∧
    (∃ (src : Src) (ch : Fin 32) (w : Word) (s : State), s.takes src (AFE_CAL_U ch.val) w = true ∧ s.accepts 6 = true) ∧
    (∃ (src : Src) (w : Word) (s : State), s.takes src AFE_CFG w = true ∧ s.accepts 6 = true) ∧
    (∃ (s : State), s.eng.epoch.running = true ∧ s.b AFE_STATUS_REF_RDY = true ∧ s.mode = 3 ∧ s.fullRate = false ∧ s.epoch % s.f MODE_ATT_PER_PER = 0 ∧ s.eng.scan.lastTick = none ∧ s.eng.scan.trips = [] ∧ s.eng.scan.burst = 0 ∧ s.eng.scan.skipK = 1 ∧ s.eng.scan.skipNext = none ∧ s.eng.scan.rerun = false ∧ s.fineNext < 2 ^ AFE_STROBE_FINE.wd) ∧
    (∃ (k : Nat) (o : Nat) (c : Nat) (ch : Nat) (s : State), s.grantBarred = false ∧ s.eng.scan.reqs = [⟨k, o, c, 0, ch, 1, 0, false, none, none⟩] ∧ c = 1) ∧
    (∃ (raw : List Int) (x : Flight) (rest : List Flight) (s : State), s.eng.scan.flight = x :: rest ∧ raw.length = 32) ∧
    (∃ (ps : Nat) (fine : Nat) (per : Nat) (s : State), ps < 1000000 ∧ s.eng.scan.flight = [⟨s.epoch, 0, fine, per⟩] ∧ s.eng.scan.trips = [] ∧ s.eng.scan.reqs = [] ∧ overlaps (strikePs s.epoch fine) (s.epoch * 1000000 + ps + 62500, s.epoch * 1000000 + ps + 312500) = true) ∧
    (∃ (trip : Bool), trip = true) ∧
    (∃ (src : Src) (key : BitVec 16) (fw : Option (Bool × Word)) (s : State), fw = none ∧ s.takes src SCAN_REQ (keyed key (2 ^ SCAN_REQ_GO.lo)) = true ∧ s.f SCAN_REQ_CFG_KIND < 2 ∧ s.eng.scan.reqs = []) ∧
    (∃ (entry : Nat) (o : Nat) (c : Nat) (kind : Nat) (ch : Nat) (n : Nat) (g : Nat) (e : Nat) (v : Nat) (p : Bool) (s : State), s.eng.scan.reqs = [⟨entry, o, c, kind, ch, n, g, true, some e, some (v, p)⟩] ∧ entry < 16) ∧
    (∃ (codes : List Int) (k : Nat) (o : Nat) (c : Nat) (ch : Nat) (n : Nat) (g : Nat) (e : Nat) (s : State), s.eng.scan.reqs = [⟨k, o, c, 2, ch, n, g, true, some e, none⟩] ∧ codes.length = n ∧ n < 4096) ∧
    (∃ (src : Src) (key : BitVec 16) (s : State), s.takes src BAL_CMD (keyed key 1) = true ∧ s.accepts 3 = true) ∧
    (∃ (src : Src) (key : BitVec 16) (s : State), s.takes src BAL_CMD (keyed key 2) = true) ∧
    (∃ (src : Src) (key : BitVec 16) (s : State), s.takes src BAL_CMD (keyed key 3) = true ∧ s.accepts 3 = true ∧ s.sh = 7 ∧ s.f BAL_NODE_RB_MAP = 0) ∧
    (∃ (src : Src) (key : BitVec 16) (s : State), s.takes src BAL_CMD (keyed key 4) = true ∧ s.f BAL_POLICY_MODE = 2) ∧
    (∃ (src : Src) (key : BitVec 16) (cell : Fin 32) (s : State), s.takes src BAL_SEL (keyed key (cell.val * 2 ^ BAL_SEL_CELL.lo)) = true ∧ s.accepts 3 = true ∧ s.selCause (src == .core) cell.val = 0 ∧ s.balPermitted = true ∧ s.sh = 0 ∧ cell.val < 24) ∧
    (∃ (src : Src) (w : Word) (s : State), s.takes src BAL_BLEED w = true ∧ s.accepts 3 = true ∧ s.balForeign (src == .core) = false ∧ popcount (BAL_BLEED_MASK.of w) ≤ s.f BAL_PASS_CFG_MAX_ON ∧ BAL_BLEED_MASK.of w < 2 ^ s.cells) ∧
    (∃ (src : Src) (w : Word) (s : State), s.takes src BAL_SH_I w = true ∧ s.accepts 3 = true ∧ s.balForeign (src == .core) = false) ∧
    (∃ (s : State), s.sh = 1) ∧
    (∃ (s : State), s.sh = 2 ∧ s.f BAL_NODE_CMD_MAP = 0) ∧
    (∃ (s : State), s.sh = 2) ∧
    (∃ (s : State), s.sh = 3 ∧ s.f BAL_NODE_RB_MAP = 0 ∧ s.f BAL_SEL_CELL ≤ 23) ∧
    (∃ (s : State), s.sh = 4 ∧ s.eng.bal.closing < 32) ∧
    (∃ (s : State), s.sh = 4) ∧
    (∃ (s : State), s.sh = 5) ∧
    (∃ (rb : BitVec 25) (on : BitVec 25) (us : Nat) (node : Nat) (rest : List Nat) (s : State), s.badNodes rb.toNat on.toNat us = node :: rest) ∧
    (∃ (i : BitVec 16) (us : Nat) (s : State), (s.sh = 1 ∨ s.sh = 5 ∨ s.sh = 6) ∧ 50 * s.f BAL_SH_CFG_ILIM < 4 * (signed 16 i.toNat).natAbs ∧ 10 ≤ us ∧ s.f BAL_SH_STATUS_CELL ≠ 31) ∧
    (∃ (cell : Fin 24) (ma : BitVec 16) (ms : Nat) (s : State), bitOf (s.f BAL_BLEED_ON_MASK) cell.val = true ∧ 2 * ma.toNat < s.bleedI ∧ 10 ≤ ms ∧ 1600000 ≤ s.bleedDrop cell.val) ∧
    (∃ (cell : Fin 24) (s : State), bitOf s.eng.bal.removed cell.val = true ∧ s.bleedSum (withBit (s.f BAL_BLEED_ON_MASK) cell.val true) ≤ s.pmax4) ∧
    (∃ (ms : Nat) (s : State), s.f BAL_POLICY_MODE = 1 ∧ s.b (balFlag 5) = false ∧ s.leaseMs ≤ ms) ∧
    (∃ (ms : Nat) (s : State), s.f BAL_POLICY_MODE = 2 ∧ s.b (balFlag 5) = false ∧ s.leaseMs ≤ ms) ∧
    (∃ (s : State), s.isWrk = true ∧ s.f BAL_POLICY_MODE = 1 ∧ s.mode = 3 ∧ s.b (balFlag 7) = false ∧ s.f BAL_POLICY_METHOD = 0 ∧ s.eng.bal.slot = none) ∧
    (∃ (us : Nat) (s : State), s.eng.bal.slot.isSome = true ∧ s.f BAL_SH_STATUS_OWNER ≠ 2 ∧ (s.eng.bal.slotLen ≤ us ∨ s.slotEarly = true)) ∧
    (∃ (x : EisSlot) (s : State), s.eisState = 1 ∧ s.eisMode = true ∧ s.eng.eis.slot = some x ∧ s.f BAL_SH_STATUS_OWNER ≠ 2 ∧ s.eng.bal.forEis = false ∧ s.f BAL_POLICY_MODE = 2) ∧
    (∃ (s : State), s.f BAL_SH_STATUS_OWNER = 2 ∧ s.eng.bal.yielded = none) ∧
    (∃ (src : Src) (key : BitVec 16) (s : State), s.takes src EIS_CMD (keyed key 1) = true ∧ s.accepts 4 = true) ∧
    (∃ (src : Src) (key : BitVec 16) (s : State), s.takes src EIS_CMD (keyed key 2) = true) ∧
    (∃ (src : Src) (key : BitVec 16) (kind : Fin 4) (cell : Fin 32) (s : State), s.takes src EIS_CMD (keyed key (3 + kind.val * 2 ^ EIS_CMD_KIND.lo + cell.val * 2 ^ EIS_CMD_CELL.lo)) = true ∧ s.accepts 4 = true ∧ kind.val < 2 ∧ cell.val < s.cells) ∧
    (∃ (src : Src) (key : BitVec 16) (cell : Fin 32) (x : Spectrum) (re : Int) (im : Int) (s : State), s.takes src EIS_CMD (keyed key (4 + cell.val * 2 ^ EIS_CMD_CELL.lo)) = true ∧ s.accepts 4 = true ∧ cell.val < s.cells ∧ s.latest cell.val = some x ∧ x.valid (s.f EIS_TEMP_CFG_TRACK_I) = some (re, im) ∧ later s.epoch (x.epoch + 60000000) = false ∧ s.f (AUX_TEMP_STATE (s.f (EIS_TREF_TH cell.val))) = 0) ∧
    (∃ (kd : Nat) (c : Nat) (s : State), s.isWrk = true ∧ s.eisState = 0 ∧ s.mode = 4 ∧ s.eng.boot.cores.getD 1 false = true ∧ s.eng.eis.one = some (kd, c)) ∧
    (∃ (s : State), s.eisState = 2) ∧
    (∃ (s : State), s.eisState = 3) ∧
    (∃ (x : EisSlot) (s : State), s.eisState = 4 ∧ s.eng.eis.slot = some x) ∧
    (∃ (x : EisSlot) (s : State), s.eisState = 5 ∧ s.eng.eis.slot = some x ∧ s.f BAL_SH_STATUS_OWNER = 2 ∧ s.eng.bal.yielded = none) ∧
    (∃ (x : EisSlot) (s : State), s.eng.eis.done = some x ∧ x.fin = some 3 ∧ s.f EIS_VIEW_CELL ≠ x.cell) ∧
    (∃ (src : Src) (w : Word) (s : State), s.takes src EIS_VIEW w = true ∧ s.isMgr = false) ∧
    (∃ (s : State), s.isMgr = true ∧ s.fullRate = true) ∧
    (∃ (port : Fin 2) (p : Pkt) (s : State), s.isWrk = true ∧ later s.epoch (bits64 (pw p 0) 16 48 + 500000) = false ∧ s.hears port.val 0x30 p = true ∧ (s.f EIS_CFG_METHOD = 1 ∨ s.f EIS_CFG_METHOD = 2) ∧ s.fullRate = true ∧ s.eng.eis.ripN + 1 < s.f EIS_QUAL_RIP_AVG) ∧
    (∃ (s : State), s.isWrk = true ∧ (s.f EIS_CFG_METHOD = 1 ∨ s.f EIS_CFG_METHOD = 2) ∧ s.fullRate = true) ∧
    (∃ (s : State), s.isWrk = true ∧ s.released = true ∧ s.eng.boot.cores.getD 1 false = true ∧ s.b EST_CFG_EN = true ∧ 3 ≤ s.mode ∧ s.epoch % s.estU = 0) ∧
    (∃ (ms : Nat) (s : State), s.isWrk = true ∧ s.f EST_CFG_ISRC = 0 ∧ s.b (estFlag 6) = false ∧ 1000 ≤ ms) ∧
    (∃ (src : Src) (key : BitVec 16) (a : Nat) (s : State), s.takes src EST_CMD (keyed key 1) = true ∧ s.isWrk = true ∧ s.eng.est.pend = none ∧ s.f EST_CKPT_SUGGEST = a + 1) ∧
    (∃ (src : Src) (key : BitVec 16) (s : State), s.takes src EST_CMD (keyed key 2) = true ∧ s.isWrk = true ∧ s.eng.est.pend = none ∧ s.rsCells = [] ∧ s.f EST_RS_CRC_CRC = crc32 []) ∧
    (∃ (src : Src) (key : BitVec 16) (s : State), s.takes src EST_CMD (keyed key 3) = true ∧ s.isWrk = true ∧ s.anyUnrestored = false ∧ s.b (estFlag 2) = false ∧ s.eng.recs.cur = none ∧ s.eng.recs.queue = []) ∧
    (∃ (src : Src) (key : BitVec 16) (s : State), s.takes src EST_CMD (keyed key 4) = true ∧ s.isWrk = true) ∧
    (∃ (src : Src) (key : BitVec 16) (s : State), s.takes src EST_CMD (keyed key 5) = true ∧ s.isWrk = true ∧ s.eng.est.pend = none) ∧
    (∃ (poison : Bool) (err : Option Nat) (j : RecJob) (s : State), s.eng.recs.cur = some j ∧ j.kind = 2 ∧ poison = false ∧ err = none) ∧
    (∃ (s : State), s.isWrk = true ∧ s.enumerated = true ∧ later s.epoch (s.second + 10000) = false ∧ s.weldDown = false) ∧
    (∃ (port : Fin 2) (p : Pkt) (s : State), s.isMgr = true ∧ s.hears port.val 0x32 p = true ∧ p.seq ≠ 0x3F000000) ∧
    (∃ (x : Summary) (s : State), s.isMgr = true ∧ s.epoch = s.second + 20000 ∧ s.f RING_ENUM_M = 1 ∧ s.eng.est.sums = [x] ∧ x.worker = 1 ∧ later s.epoch (x.epoch + 3000000) = false ∧ x.loCell < 32 ∧ x.hiCell < 32 ∧ x.lo < 2 ^ 17 ∧ x.hi < 2 ^ 17 ∧ x.d + x.c < 2 ^ 32 ∧ x.d + x.c ≠ 0) ∧
    (∃ (port : Fin 2) (training : Bool) (s : State), s.released = true ∧ 3 ≤ s.mode ∧ s.b CLK_STATUS_LPLL_LOCK = true ∧ s.port port.val ≤ 1 ∧ (training = true ∨ s.beaconQuiet port.val = true)) ∧
    (∃ (port : Fin 2) (s : State), s.port port.val = 2) ∧
    (∃ (port : Fin 2) (rtt : List Nat) (turn : BitVec 16) (s : State), s.port port.val = 3 ∧ rtt.length = 256 ∧ linkDelay rtt turn.toNat < 2 ^ (RING_P_DLY_DLY port.val).wd) ∧
    (∃ (port : Fin 2) (s : State), s.port port.val = 3 ∧ s.eng.ring.alignAt.getD port.val 0 + 1000 ≤ s.now) ∧
    (∃ (port : Fin 2) (bad : Fin 65) (ns : Nat) (s : State), s.port port.val = 4 ∧ (16 ≤ bad.val ∨ 100 ≤ ns)) ∧
    (∃ (src : Src) (key : BitVec 16) (port : Fin 2) (s : State), s.takes src RING_CMD (keyed key (2 + port.val * 2 ^ RING_CMD_PORT.lo)) = true ∧ s.port port.val = 4) ∧
    (∃ (port : Fin 2) (s : State), s.port port.val = 1 ∧ s.isMgr = true) ∧
    (∃ (port : Fin 2) (bits : BitVec 56) (s : State), s.isWrk = true ∧ s.mode = 2 ∧ s.port port.val = 1 ∧ s.port (1 - port.val) = 1 ∧ crc16 (bits.toNat / 65536) 40 = bits.toNat % 65536 ∧ bits64 bits.toNat 52 4 = 0 ∧ bits64 bits.toNat 49 3 < 3) ∧
    (∃ (src : Src) (key : BitVec 16) (s : State), s.takes src RING_CMD (keyed key 1) = true ∧ s.accepts 8 = true ∧ s.isMgr = true ∧ s.port 0 = 4 ∧ s.port 1 = 4) ∧
    (∃ (s : State), s.isMgr = true ∧ s.eng.ring.autoDue = true ∧ s.eng.ring.upAt.getD 0 0 + 100000 ≤ s.now ∧ s.b RING_CFG_AUTO_ENUM = true ∧ s.accepts 8 = true ∧ s.port 0 = 4 ∧ s.port 1 ≠ 4 ∧ s.weldDown = false) ∧
    (∃ (port : Fin 2) (fin : Bool) (s : State), s.isWrk = true ∧ s.port port.val = 4 ∧ fin = false) ∧
    (∃ (port : Fin 2) (fin : Bool) (origin : Fin 2) (s : State), s.isMgr = true ∧ s.port port.val = 4 ∧ s.eng.ring.enumOut = 2 ∧ s.f RING_ENUM_M = 0 ∧ (fin = true ∨ port = origin)) ∧
    (∃ (port : Fin 2) (p : Pkt) (s : State), s.isWrk = true ∧ s.port port.val = 4 ∧ p.kind = 0x01 ∧ p.dst = 0x3E ∧ s.setMine (pw p 0) (pw p 2) = true ∧ pw p 0 < 64 ∧ pw p 1 < 2) ∧
    (∃ (s : State), s.isMgr = true ∧ s.eng.ring.enumOut ≠ 0 ∧ s.f RING_ENUM_M ≠ 0) ∧
    (∃ (port : Fin 2) (p : Pkt) (uid : BitVec 64) (s : State), s.isWrk = true ∧ s.f RING_SELF_INDEX ≠ 0 ∧ p.dst = s.f RING_SELF_INDEX ∧ s.port port.val = 4 ∧ s.b SEC_RNG_OK = true ∧ s.helloOk p (Sha.lowBytes 8 uid.toNat) = true ∧ p.kind = 0x02 ∧ bits64 (pw p 0) 56 8 = 1) ∧
    (∃ (port : Fin 2) (p : Pkt) (uid : BitVec 64) (x : KeySetup) (ks : Nat) (s : State), s.isMgr = true ∧ s.port port.val = 4 ∧ p.dst = 0 ∧ s.portTo p.src < 2 ∧ s.port (s.portTo p.src) = 4 ∧ s.eng.sec.setups = [x] ∧ x.w = p.src ∧ x.await = 2 ∧ x.gen = bits64 (pw p 0) 48 8 ∧ s.helloOk p (Sha.lowBytes 8 uid.toNat) = true ∧ sessionKey x.d x.gen p s.uidBytes (Sha.lowBytes 8 uid.toNat) = some ks ∧ s.eng.rack.readmit = none ∧ s.weldDown = false ∧ p.kind = 0x02 ∧ bits64 (pw p 0) 56 8 = 2) ∧
    (∃ (port : Fin 2) (p : Pkt) (x : KeySetup) (s : State), s.isWrk = true ∧ s.port port.val = 4 ∧ s.f RING_SELF_INDEX ≠ 0 ∧ p.dst = s.f RING_SELF_INDEX ∧ s.eng.sec.setups = [x] ∧ x.await = 3 ∧ x.gen = bits64 (pw p 0) 48 8 ∧ pw p 3 = tagOf x.ks (blockBytes (p.data.take 3)) ∧ p.kind = 0x02 ∧ bits64 (pw p 0) 56 8 = 3) ∧
    (∃ (port : Fin 2) (p : Pkt) (x : KeySetup) (s : State), s.isMgr = true ∧ s.port port.val = 4 ∧ p.dst = 0 ∧ s.eng.sec.setups = [x] ∧ x.w = p.src ∧ x.await = 4 ∧ x.gen = bits64 (pw p 0) 48 8 ∧ pw p 1 = tagOf x.ks (blockBytes (p.data.take 1)) ∧ s.eng.rack.readmit = none ∧ p.kind = 0x02 ∧ bits64 (pw p 0) 56 8 = 4) ∧
    (∃ (worker : Fin 33) (x : KeySetup) (s : State), s.isMgr = true ∧ s.eng.sec.setups = [x] ∧ x.w = worker.val ∧ x.late s.now = true ∧ x.tries < 3 ∧ s.b SEC_RNG_OK = false) ∧
    (∃ (port : Fin 2) (worker : Fin 64) (e14 : BitVec 14) (flags : BitVec 10) (samples : List Nat) (crc : BitVec 32) (s : State), s.isMgr = true ∧ s.port port.val = 4 ∧ frameCrc ⟨rebuildEpoch s.epoch e14.toNat, worker.val, flags.toNat, samples⟩ ≠ crc.toNat ∧ samples.length = 32) ∧
    (∃ (p : Pkt) (rest : List Pkt) (s : State), s.isWrk = true ∧ s.portUp s.outPort = true ∧ s.eng.ring.ctl = p :: rest) ∧
    (∃ (f : Frame) (rest : List Frame) (s : State), s.eng.ring.own = f :: rest ∧ later (f.epoch + 4096) s.epoch = false) ∧
    (∃ (worker : Fin 33) (e : BitVec 48) (s : State), s.isMgr = true ∧ s.liveAt worker.val e.toNat = true ∧ s.expects worker.val e.toNat = true ∧ later (e.toNat + 4200) s.epoch = false ∧ later (e.toNat + 8000) s.epoch = true ∧ (s.eng.ring.rx.any fun x => x.1 == worker.val && x.2.1 == e.toNat) = false ∧ s.eng.ring.missed.contains (worker.val, e.toNat) = false) ∧
    (∃ (port : Fin 2) (p : Pkt) (s : State), s.hears port.val 0x05 p = true ∧ s.isWrk = true) ∧
    (∃ (e : Nat) (arm : Nat) (dec : Nat) (lost : Bool) (s : State), s.eng.ring.arms = some (e, arm, dec, lost) ∧ later e s.epoch = false ∧ arm < 2 ∧ dec < 4) ∧
    (∃ (i : Rat) (s : State), s.isMgr = true ∧ later (s.epoch / 1000 * 1000) (s.eng.rack.iNext * 1000) = true ∧ (s.port 0 = 4 ∨ s.port 1 = 4) ∧ (s.msMean 0 (s.epoch / 1000 - 1)).2 = some i ∧ s.seqFree 0x3F = true) ∧
    (∃ (port : Fin 2) (p : Pkt) (s : State), s.isWrk = true ∧ s.hears port.val 0x31 p = true) ∧
    (∃ (s : State), s.isWrk = true ∧ s.enumerated = true ∧ s.epoch % 1000 = 0) ∧
    (∃ (port : Fin 2) (p : Pkt) (s : State), s.isMgr = true ∧ s.hears port.val 0x34 p = true ∧ p.seq ≠ 0x3F000000 ∧ ((s.eng.ring.rx.filter fun x => x.1 == p.src && bits64 (pw p 0) 16 48 ≤ x.2.1 + 1000 && x.2.1 < bits64 (pw p 0) 16 48).map Prod.snd).length = pw p 1 ∧ digestOf (s.keyWith p.src) ((s.eng.ring.rx.filter fun x => x.1 == p.src && bits64 (pw p 0) 16 48 ≤ x.2.1 + 1000 && x.2.1 < bits64 (pw p 0) 16 48).map Prod.snd) = pw p 2) ∧
    (∃ (s : State), s.isMgr = true ∧ s.eng.epoch.running = true ∧ s.epoch % 64 = 0 ∧ s.port 0 = 4 ∧ s.port 1 = 4) ∧
    (∃ (port : Fin 2) (phi : Int) (s : State), s.isWrk = true ∧ s.port port.val = 4 ∧ port.val = s.outPort ∧ s.b EPOCH_PATH_VALID = true ∧ s.f EPOCH_STATUS_SYNC ≠ 2 ∧ s.eng.epoch.near = 15 ∧ (sigmaOf phi (s.f AFE_STROBE_FINE)).natAbs ≤ 1000 ∧ phi.natAbs ≤ 400000) ∧
    (∃ (s : State), s.isWrk = true ∧ s.f EPOCH_STATUS_SYNC = 2 ∧ s.blocksLost = true ∧ 3 ≤ s.mode ∧ s.heldBy pgEPOCH < 4) ∧
    (∃ (port : Fin 2) (link : Fin 64) (heal : Bool) (s : State), s.isWrk = true ∧ s.port port.val = 4 ∧ s.port (1 - port.val) = 4 ∧ heal = false ∧ s.eng.ring.brk.contains link.val = false) ∧
    (∃ (s : State), s.isWrk = true ∧ s.enumerated = true ∧ s.eng.ring.armDue = true ∧ brokenA s.eng.ring.brk (s.f RING_SELF_POS) = true ∧ brokenB s.eng.ring.brk (s.f RING_SELF_POS) = false ∧ s.f RING_SELF_ARM = 0) ∧
    (∃ (port : Fin 2) (k : Nat) (s : State), s.port port.val = 4 ∧ s.linkAt port.val = some k ∧ s.isWrk = true ∧ s.port (1 - port.val) = 4 ∧ s.eng.ring.upAt.getD port.val 0 + 100000 ≤ s.now ∧ s.eng.ring.brk.contains k = true) ∧
    (∃ (src : Src) (s : State), s.served src = true ∧ s.watchShut src EPOCH_NOW_LO = false) ∧
    (∃ (w : Nat) (s : State), s.isMgr = true ∧ s.liveWorkers = [w] ∧ s.seqFree w = true ∧ s.port (s.portTo w) = 4 ∧ s.weldDown = false) ∧
    (∃ (src : Src) (key : BitVec 16) (s : State), s.takes src EPOCH_CMD (keyed key 1) = true ∧ s.b EPOCH_BRK_EP_HI_SCOPE = false ∧ s.eng.epoch.brk = 0 ∧ s.eng.epoch.snapE = none ∧ s.f EPOCH_BRK_EP_LO_EPOCH + 2 ^ 32 * s.f EPOCH_BRK_EP_HI_EPOCH = 0) ∧
    (∃ (src : Src) (key : BitVec 16) (s : State), s.takes src EPOCH_CMD (keyed key 2) = true ∧ s.eng.epoch.brk ≠ 0 ∧ (s.isMgr = false ∨ s.eng.epoch.brkRack = false)) ∧
    (∃ (s : State), s.eng.epoch.brk = 1 ∧ later (s.eng.epoch.brkE + 2) s.epoch = false ∧ s.eng.epoch.brkSnap = false) ∧
    (∃ (s : State), s.eng.epoch.brk ≠ 0 ∧ later (s.eng.epoch.brkE + 1000 * s.f EPOCH_BRK_EP_HI_TMO) s.epoch = false ∧ (s.isMgr = false ∨ s.eng.epoch.brkRack = false)) ∧
    (∃ (src : Src) (key : BitVec 16) (s : State), s.takes src EPOCH_CMD (keyed key 3) = true ∧ s.eng.epoch.brk = 0 ∧ s.eng.epoch.snapE = none) ∧
    (∃ (s : State), s.f EPOCH_SNAP_CFG_PER ≠ 0 ∧ s.eng.epoch.running = true ∧ s.epoch % (1000 * s.f EPOCH_SNAP_CFG_PER) = 0 ∧ s.eng.epoch.snapAt ≠ some s.epoch ∧ s.eng.epoch.brk = 0 ∧ s.eng.epoch.snapE = none) ∧
    (∃ (e : Nat) (s : State), s.eng.epoch.snapE = some e ∧ s.eng.epoch.brk ≠ 1 ∧ s.snapAll = true ∧ s.eng.epoch.snapBuf < 2) ∧
    (∃ (e : Nat) (s : State), s.eng.epoch.snapE = some e ∧ s.snapAll = false ∧ later (e + 8000) s.epoch = false ∧ s.eng.epoch.snapBuf < 2) ∧
    (∃ (src : Src) (key : BitVec 16) (s : State), s.takes src EPOCH_CMD (keyed key 4) = true ∧ s.accepts 7 = true ∧ later (s.epoch + 200) (s.f EPOCH_CM_EP_LO_EPOCH + 2 ^ 32 * s.f EPOCH_CM_EP_HI_EPOCH) = false ∧ s.eng.epoch.cm = none ∧ s.eng.epoch.holds = [] ∧ s.b EPOCH_CM_EP_HI_SCOPE = false) ∧
    (∃ (src : Src) (key : BitVec 16) (c : CmRun) (s : State), s.takes src EPOCH_CMD (keyed key 5) = true ∧ s.eng.epoch.cm = some c ∧ c.decided = false) ∧
    (∃ (src : Src) (key : BitVec 16) (d : Nat) (e : Nat) (w : Nat) (s : State), s.takes src EPOCH_CMD (keyed key 6) = true ∧ s.isMgr = true ∧ s.eng.epoch.lastDec = some (d, e, true) ∧ ((List.range 32).map (· + 1)).filter (fun w => s.f (cmOut w) == 8 || s.f (cmOut w) == 10) = [w] ∧ s.seqFree w = true ∧ s.port (s.portTo w) = 4 ∧ s.weldDown = false) ∧
    (∃ (port : Fin 2) (p : Pkt) (s : State), s.isWrk = true ∧ s.hears port.val 0x20 p = true ∧ bitOf (pw p 2) (s.f RING_SELF_INDEX - 1) = true ∧ (s.stgTargets (bits64 (pw p 1) 0 40)).all (fun q => !s.b (stageHeld q)) = true ∧ later (s.epoch + 50) (bits64 (pw p 0) 16 48) = false ∧ s.mode ≠ 2 ∧ s.mode ≠ 6 ∧ s.weldDown = false) ∧
    (∃ (port : Fin 2) (p : Pkt) (c : CmRun) (s : State), s.isMgr = true ∧ s.hears port.val 0x21 p = true ∧ p.seq ≠ 0x3F000000 ∧ 1 ≤ p.src ∧ p.src ≤ 32 ∧ bits64 (pw p 0) 8 8 = s.f EPOCH_CM_EP_HI_ID ∧ bits64 (pw p 0) 4 4 = 0 ∧ s.eng.epoch.cm = some c ∧ c.decided = false ∧ c.mem.contains p.src = true) ∧
    (∃ (c : CmRun) (h : CmHold) (s : State), s.eng.epoch.cm = some c ∧ c.decided = false ∧ c.rack = false ∧ c.mem = [] ∧ s.eng.epoch.holds = [h] ∧ h.id = c.id ∧ h.rack = false ∧ later c.e (s.epoch + 50) = false ∧ c.abort = false) ∧
    (∃ (port : Fin 2) (p : Pkt) (h : CmHold) (s : State), s.isWrk = true ∧ s.hears port.val 0x22 p = true ∧ s.eng.epoch.holds = [h] ∧ h.rack = true ∧ h.id = bits64 (pw p 0) 8 8 ∧ bitOf (pw p 0) 0 = false ∧ h.apply = none ∧ later h.e s.epoch = true) ∧
    (∃ (port : Fin 2) (p : Pkt) (h : CmHold) (s : State), s.isWrk = true ∧ s.hears port.val 0x23 p = true ∧ s.eng.epoch.holds = [h] ∧ h.rack = true ∧ h.id = bits64 (pw p 0) 8 8 ∧ s.weldDown = false) ∧
    (∃ (h : CmHold) (x : Nat × Nat) (s : State), s.eng.epoch.holds = [h] ∧ h.rack = false ∧ h.apply = some x ∧ later x.1 s.epoch = false ∧ (s.stgTargets h.pages).contains pgBAL = false) ∧
    (∃ (port : Fin 2) (p : Pkt) (e : Nat) (ok : Bool) (s : State), s.isMgr = true ∧ s.hears port.val 0x24 p = true ∧ p.seq ≠ 0x3F000000 ∧ s.seqFree p.src = true ∧ s.portTo p.src < 2 ∧ s.port (s.portTo p.src) = 4 ∧ s.eng.epoch.lastDec = some (bits64 (pw p 0) 8 8, e, ok) ∧ s.weldDown = false) ∧
    (∃ (h : CmHold) (s : State), s.eng.epoch.holds = [h] ∧ h.rack = true ∧ h.apply = none ∧ h.doubt = false ∧ s.isWrk = true ∧ later (h.e + 50) s.epoch = false ∧ h.asked.all (fun t => !later (t + 1000) s.epoch) = true ∧ s.weldDown = false) ∧
    (∃ (h : CmHold) (s : State), s.eng.epoch.holds = [h] ∧ h.rack = true ∧ h.apply = none ∧ h.doubt = false ∧ s.isWrk = true ∧ later (h.e + 10050) s.epoch = false ∧ s.heldBy pgEPOCH < 4 ∧ s.weldDown = false) ∧
    (∃ (h : CmHold) (s : State), s.eng.epoch.holds = [h] ∧ h.doubt = true ∧ h.apply = none ∧ later (h.e + 10050 + 1000000 * s.f EPOCH_CM_CFG_HOLD) s.epoch = false) ∧
    (∃ (c : CmRun) (s : State), s.eng.epoch.cm = some c ∧ c.rack = true ∧ c.decided = true ∧ later (c.e + 20000) s.epoch = false ∧ (c.mem.all (fun w => decide (1 ≤ w ∧ w ≤ 32)) = true)) ∧
    (∃ (port : Fin 2) (p : Pkt) (ecc : List Nat) (s : State), s.isWrk = true ∧ s.hears port.val 0x10 p = true ∧ ecc.headD 0 = 0 ∧ bits64 (pw p 0) 24 8 = 1 ∧ bits64 (pw p 0) 32 32 = IDENT_ROLE ∧ s.weldDown = false) ∧
    (∃ (port : Fin 2) (p : Pkt) (s : State), s.isWrk = true ∧ s.hears port.val 0x11 p = true ∧ bits64 (pw p 0) 24 8 = 1 ∧ p.data.length = 2 ∧ bits64 (pw p 0) 32 32 = EPOCH_PATH ∧ s.deniedTo (packetSrc p) (s.levelNeed EPOCH_PATH (BitVec.ofNat 32 (pw p 1))) = false ∧ s.weldDown = false) ∧
    (∃ (port : Fin 2) (p : Pkt) (r : MirReq) (s : State), s.isMgr = true ∧ s.hears port.val 0x12 p = true ∧ p.seq ≠ 0x3F000000 ∧ s.eng.epoch.mir = [r] ∧ r.tid = bits64 (pw p 0) 0 16 ∧ r.dead = false ∧ r.worker = p.src ∧ r.use = 0 ∧ s.mirState = 1) ∧
    (∃ (tid : BitVec 16) (r : MirReq) (s : State), s.eng.epoch.mir = [r] ∧ r.tid = tid.toNat ∧ r.at0 + s.f EPOCH_MIR_CFG_TMO ≤ s.now ∧ 1 ≤ r.worker ∧ r.worker ≤ 32 ∧ r.use = 3) ∧
    (∃ (s : State), s.isWrk = true ∧ s.statusDue = true ∧ s.enumerated = true ∧ (s.port 0 = 4 ∨ s.port 1 = 4) ∧ s.weldDown = false) ∧
    (∃ (port : Fin 2) (p : Pkt) (s : State), s.isMgr = true ∧ s.hears port.val 0x33 p = true ∧ p.seq ≠ 0x3F000000 ∧ 1 ≤ p.src ∧ p.src ≤ 32 ∧ s.f RING_STATUS_STATE ≠ 1) ∧
    (∃ (worker : Fin 33) (s : State), s.isMgr = true ∧ s.workers.contains worker.val = true ∧ s.f (ROSTER_W_STAT_STATE worker.val) ≤ 1 ∧ (s.port 0 = 4 ∨ s.port 1 = 4) ∧ s.f RING_STATUS_STATE ≠ 1 ∧ s.statusLate worker.val = true ∧ s.heldBy pgROSTER < 4 ∧ s.f RING_ENUM_M ≤ 32) ∧
    (∃ (s : State), s.isMgr = true ∧ s.f ROSTER_CFG_BLIND_T ≠ 0 ∧ s.anyClosed = true ∧ s.anyBad = true ∧ s.b ROSTER_STATUS_BLIND = false ∧ (s.eng.rack.blindAt.any fun x => decide (x + 1000 * s.f ROSTER_CFG_BLIND_T ≤ s.now)) = true ∧ s.heldBy pgROSTER < 4) ∧
    (∃ (src : Src) (key : BitVec 16) (worker : Fin 64) (s : State), s.takes src ROSTER_CMD (keyed key (1 + worker.val * 2 ^ ROSTER_CMD_W.lo)) = true ∧ s.accepts 8 = true ∧ s.isMgr = true ∧ s.eng.boot.cores.getD 2 false = true ∧ s.workers.contains worker.val = true ∧ s.f (ROSTER_W_STAT_STATE worker.val) = 4) ∧
    (∃ (src : Src) (key : BitVec 16) (worker : Fin 64) (x : Nat × Nat × Nat) (s : State), s.takes src ROSTER_CMD (keyed key (2 + worker.val * 2 ^ ROSTER_CMD_W.lo)) = true ∧ s.accepts 8 = true ∧ s.isMgr = true ∧ s.eng.boot.cores.getD 2 false = true ∧ s.workers.contains worker.val = true ∧ worker.val ≤ 32 ∧ 4 ≤ s.f (ROSTER_W_STAT_STATE worker.val) ∧ (s.eng.rack.seen.find? fun x => x.2.2 == worker.val) = some x) ∧
    (∃ (v : Rat) (i : Rat) (s : State), s.isMgr = true ∧ later (s.eng.rack.resNext * 1000) (s.resMs * 1000) = false ∧ s.msMean 0 s.resMs = (some v, some i) ∧ (s.f (shadowSrc pgRACK)) = 0 ∧ s.b (shadowFrozen pgRACK) = false) ∧
    (∃ (s : State), s.isMgr = true ∧ s.eng.boot.cores.getD 1 false = true ∧ later (s.arcBlock * 100) (s.eng.rack.blockNext * 100) = true ∧ (s.arcEpochs ((s.epoch - 10 * s.f ARC_CFG_WAIT) / 100 - 1)).filterMap s.arcAt = []) ∧
    (∃ (src : Src) (w : Word) (s : State), s.takes src ARC_CTRL w = true ∧ s.isMgr = true) ∧
    (∃ (src : Src) (key : BitVec 16) (s : State), s.takes src ARC_CMD (keyed key 1) = true) ∧
    (∃ (src : Src) (key : BitVec 16) (s : State), s.takes src ARC_CMD (keyed key 2) = true) ∧
    (∃ (src : Src) (w : Word) (s : State), s.takes src ISO_CTRL w = true ∧ s.isMgr = true ∧ 3 ≤ s.mode) ∧
    (∃ (s : State), s.isMgr = true ∧ s.eng.rack.isoAt + 100000 * s.f ISO_CFG_T_HALF ≤ s.now ∧ s.f ISO_STATUS_STATE = 1) :=
  ⟨witness_frontEndDiagnostics.1,
   witness_frontEndDiagnostics.2.2.1,
   witness_frontEndDiagnostics.2.2.2.2.1,
   witness_frontEndDiagnostics.2.2.2.2.2.2.1,
   witness_frontEndDiagnostics.2.2.2.2.2.2.2.1,
   witness_frontEndDiagnostics.2.2.2.2.2.2.2.2.1,
   witness_frontEndDiagnostics.2.2.2.2.2.2.2.2.2.1,
   witness_frontEndDiagnostics.2.2.2.2.2.2.2.2.2.2.1,
   witness_frontEndDiagnostics.2.2.2.2.2.2.2.2.2.2.2.2.1,
   witness_frontEndDiagnostics.2.2.2.2.2.2.2.2.2.2.2.2.2.1,
   witness_frontEndDiagnostics.2.2.2.2.2.2.2.2.2.2.2.2.2.2.1,
   witness_frontEndDiagnostics.2.2.2.2.2.2.2.2.2.2.2.2.2.2.2,
   witness_conversionAndScheduling.1,
   witness_conversionAndScheduling.2.2.1,
   witness_conversionAndScheduling.2.2.2.1,
   witness_conversionAndScheduling.2.2.2.2.1,
   witness_conversionAndScheduling.2.2.2.2.2.1,
   witness_conversionAndScheduling.2.2.2.2.2.2.2.1,
   witness_conversionAndScheduling.2.2.2.2.2.2.2.2.2.2.1,
   witness_conversionAndScheduling.2.2.2.2.2.2.2.2.2.2.2,
   witness_balancingCommands.1,
   witness_balancingCommands.2.1,
   witness_balancingCommands.2.2.1,
   witness_balancingCommands.2.2.2.1,
   witness_balancingCommands.2.2.2.2.1,
   witness_balancingCommands.2.2.2.2.2.2.1,
   witness_balancingCommands.2.2.2.2.2.2.2.2.1,
   witness_shuttleSequence.1,
   witness_shuttleSequence.2.1,
   witness_shuttleSequence.2.2.1,
   witness_shuttleSequence.2.2.2.2.2.1,
   witness_shuttleSequence.2.2.2.2.2.2.2.1,
   witness_shuttleSequence.2.2.2.2.2.2.2.2.1,
   witness_shuttleSequence.2.2.2.2.2.2.2.2.2.1,
   witness_shuttleSequence.2.2.2.1,
   witness_shuttleSequence.2.2.2.2.2.2.2.2.2.2.1,
   witness_shuttleSequence.2.2.2.2.2.2.2.2.2.2.2.1,
   witness_shuttleSequence.2.2.2.2.2.2.2.2.2.2.2.2.1,
   witness_shuttleSequence.2.2.2.2.2.2.2.2.2.2.2.2.2.1,
   witness_shuttleSequence.2.2.2.2.2.2.2.2.2.2.2.2.2.2.1,
   witness_shuttleSequence.2.2.2.2.2.2.2.2.2.2.2.2.2.2.2.2.1,
   witness_shuttleSequence.2.2.2.2.2.2.2.2.2.2.2.2.2.2.2.2.2.1,
   witness_impedanceEngine.2.2.2.2.2.2.2.2.2.2.2.2.2.2.2.1,
   witness_shuttleSequence.2.2.2.2.2.2.2.2.2.2.2.2.2.2.2.2.2.2,
   witness_impedanceEngine.1,
   witness_impedanceEngine.2.1,
   witness_impedanceEngine.2.2.1,
   witness_impedanceEngine.2.2.2.2.1,
   witness_impedanceEngine.2.2.2.2.2.1,
   witness_impedanceEngine.2.2.2.2.2.2.1,
   witness_impedanceEngine.2.2.2.2.2.2.2.1,
   witness_impedanceEngine.2.2.2.2.2.2.2.2.1,
   witness_impedanceEngine.2.2.2.2.2.2.2.2.2.1,
   witness_impedanceEngine.2.2.2.2.2.2.2.2.2.2.1,
   witness_impedanceEngine.2.2.2.2.2.2.2.2.2.2.2.1,
   witness_impedanceEngine.2.2.2.2.2.2.2.2.2.2.2.2.1,
   witness_impedanceEngine.2.2.2.2.2.2.2.2.2.2.2.2.2.1,
   witness_impedanceEngine.2.2.2.2.2.2.2.2.2.2.2.2.2.2.1,
   witness_stateEstimation.1,
   witness_stateEstimation.2.1,
   witness_stateEstimation.2.2.2.1,
   witness_stateEstimation.2.2.2.2.1,
   witness_stateEstimation.2.2.2.2.2.2.2.1,
   witness_stateEstimation.2.2.2.2.2.2.2.2.1,
   witness_stateEstimation.2.2.2.2.2.2.2.2.2.1,
   witness_stateEstimation.2.2.2.2.2.2.2.2.2.2.2.2.1,
   witness_stateEstimation.2.2.2.2.2.2.2.2.2.2.2.2.2.1,
   witness_stateEstimation.2.2.2.2.2.2.2.2.2.2.2.2.2.2.1,
   witness_stateEstimation.2.2.2.2.2.2.2.2.2.2.2.2.2.2.2.2.1,
   witness_ringPortsAndBeacons.1,
   witness_ringPortsAndBeacons.2.1,
   witness_ringPortsAndBeacons.2.2.1,
   witness_ringPortsAndBeacons.2.2.2.1,
   witness_ringPortsAndBeacons.2.2.2.2.1,
   witness_ringPortsAndBeacons.2.2.2.2.2.1,
   witness_ringPortsAndBeacons.2.2.2.2.2.2.1,
   witness_ringPortsAndBeacons.2.2.2.2.2.2.2.1,
   witness_ringEnumerationAndKeys.1,
   witness_ringEnumerationAndKeys.2.2.1,
   witness_ringEnumerationAndKeys.2.2.2.1,
   witness_ringEnumerationAndKeys.2.2.2.2.1,
   witness_ringEnumerationAndKeys.2.2.2.2.2.2.1,
   witness_ringEnumerationAndKeys.2.2.2.2.2.2.2.2.1,
   witness_ringEnumerationAndKeys.2.2.2.2.2.2.2.2.2.2.2.1,
   witness_ringEnumerationAndKeys.2.2.2.2.2.2.2.2.2.2.2.2.2.1,
   witness_ringEnumerationAndKeys.2.2.2.2.2.2.2.2.2.2.2.2.2.2.1,
   witness_ringEnumerationAndKeys.2.2.2.2.2.2.2.2.2.2.2.2.2.2.2.1,
   witness_ringEnumerationAndKeys.2.2.2.2.2.2.2.2.2.2.2.2.2.2.2.2.1,
   witness_streamFramesAndRackPackets.1,
   witness_streamFramesAndRackPackets.2.2.1,
   witness_streamFramesAndRackPackets.2.2.2.2.1,
   witness_streamFramesAndRackPackets.2.2.2.2.2.1,
   witness_ringEnumerationAndKeys.2.2.2.2.2.2.2.2.2.1,
   witness_ringEnumerationAndKeys.2.2.2.2.2.2.2.2.2.2.1,
   witness_rosterAndRackMeans.2.2.2.2.2.2.2.2.2,
   witness_streamFramesAndRackPackets.2.2.2.2.2.2.2.1,
   witness_streamFramesAndRackPackets.2.2.2.2.2.2.2.2.1,
   witness_streamFramesAndRackPackets.2.2.2.2.2.2.2.2.2,
   witness_epochDistribution.1,
   witness_epochDistribution.2.2.1,
   witness_epochDistribution.2.2.2.2.1,
   witness_ringPortsAndBeacons.2.2.2.2.2.2.2.2.1,
   witness_ringPortsAndBeacons.2.2.2.2.2.2.2.2.2.2.2.1,
   witness_ringPortsAndBeacons.2.2.2.2.2.2.2.2.2.2.1,
   witness_epochDistribution.2.2.2.2.2.2.1,
   witness_epochDistribution.2.2.2.2.2.2.2,
   witness_bracketsAndSnapshots.1,
   witness_bracketsAndSnapshots.2.2.2.2.1,
   witness_bracketsAndSnapshots.2.2.2.2.2.1,
   witness_bracketsAndSnapshots.2.2.2.2.2.2.1,
   witness_bracketsAndSnapshots.2.2.2.2.2.2.2.1,
   witness_bracketsAndSnapshots.2.2.2.2.2.2.2.2.2.1,
   witness_bracketsAndSnapshots.2.2.2.2.2.2.2.2.2.2.1,
   witness_bracketsAndSnapshots.2.2.2.2.2.2.2.2.2.2.2,
   witness_stagedCommit.1,
   witness_stagedCommit.2.2.2.2.1,
   witness_stagedCommit.2.2.2.2.2.1,
   witness_stagedCommit.2.2.2.2.2.2.1,
   witness_stagedCommit.2.2.2.2.2.2.2.2.2.2.1,
   witness_stagedCommit.2.2.2.2.2.2.2.2.2.2.2.2.2.1,
   witness_stagedCommit.2.2.2.2.2.2.2.2.2.2.2.2.2.2.2.1,
   witness_stagedCommit.2.2.2.2.2.2.2.2.2.2.2.2.2.2.2.2.2.2.1,
   witness_stagedCommit.2.2.2.2.2.2.2.2.2.2.2.2.2.2.2.2.2.2.2.2.1,
   witness_stagedCommit.2.2.2.2.2.2.2.2.2.2.2.2.2.2.2.2.2.2.2.2.2.1,
   witness_stagedCommit.2.2.2.2.2.2.2.2.2.2.2.2.2.2.2.2.2.2.2.2.2.2.1,
   witness_stagedCommit.2.2.2.2.2.2.2.2.2.2.2.2.2.2.2.2.2.2.2.2.2.2.2.1,
   witness_stagedCommit.2.2.2.2.2.2.2.2.2.2.2.2.2.2.2.2.2.2.2.2.2.2.2.2.1,
   witness_stagedCommit.2.2.2.2.2.2.2.2.2.2.2.2.2.2.2.2.2.2.2.2.2.2.2.2.2,
   witness_mirrorPackets.1,
   witness_mirrorPackets.2.1,
   witness_mirrorPackets.2.2.1,
   witness_mirrorPackets.2.2.2.2,
   witness_rosterAndRackMeans.1,
   witness_rosterAndRackMeans.2.2.1,
   witness_rosterAndRackMeans.2.2.2.1,
   witness_rosterAndRackMeans.2.2.2.2.1,
   witness_rosterAndRackMeans.2.2.2.2.2.1,
   witness_rosterAndRackMeans.2.2.2.2.2.2.2.1,
   witness_rosterAndRackMeans.2.2.2.2.2.2.2.2.1,
   witness_arcIsolationAndCapture.1,
   witness_arcIsolationAndCapture.2.2.2.1,
   witness_arcIsolationAndCapture.2.2.2.2.1,
   witness_arcIsolationAndCapture.2.2.2.2.2.1,
   witness_arcIsolationAndCapture.2.2.2.2.2.2.1,
   witness_arcIsolationAndCapture.2.2.2.2.2.2.2.1⟩

/-- hostAndSafetyCommandsComplete: each clause's conditions hold of a state. -/
theorem witness_hostAndSafetyCommandsComplete :
    (∃ (src : Src) (key : BitVec 16) (s : State), s.takes src CAP_CMD (keyed key 1) = true ∧ s.accepts 5 = true ∧ s.isWrk = true) ∧
    (∃ (src : Src) (key : BitVec 16) (s : State), s.takes src CAP_CMD (keyed key 2) = true ∧ s.capState = 1) ∧
    (∃ (src : Src) (key : BitVec 16) (s : State), s.takes src CAP_CMD (keyed key 3) = true) ∧
    (∃ (src : Src) (key : BitVec 16) (s : State), s.takes src CAP_CMD (keyed key 4) = true ∧ 1 ≤ s.capState ∧ s.capState ≤ 3) ∧
    (∃ (s : State), s.capState = 2 ∧ later ((s.eng.cap.trig + s.eng.cap.post) * s.eng.cap.stride) s.epoch = false) ∧
    (∃ (s : State), s.capState = 3 ∧ later (s.eng.cap.settleAt + 4200) s.epoch = false) ∧
    (∃ (a : BitVec 32) (n : Nat) (ecc : List Nat) (s : State), s.hostOpen = true ∧ n = 1 ∧ ecc.headD 0 = 0 ∧ s.watchShut .xspi a.toNat = false ∧ pageOf a.toNat ∉ [pgSVC, pgRTC, pgICU, pgSEC, pgEPOCH, pgHOST] ∧ s.windowOf a.toNat = some .local ∧ a.toNat % 4 = 0 ∧ mapped a.toNat = true) ∧
    (∃ (a : BitVec 32) (words : List Word) (cut : Bool) (w : Word) (s : State), words = [w] ∧ cut = false ∧ s.windowOf a.toNat = some .local ∧ a.toNat % 4 = 0 ∧ [pgEST, pgCONT, pgEIS].contains (pageOf a.toNat) = true ∧ a.toNat ≠ EIS_VIEW ∧ ((rowAt a.toNat).map fun r => r.acc) = some .rwl ∧ s.takes .xspi a.toNat w = true) ∧
    (∃ (s : State), s.hostOpen = true) ∧
    (∃ (s : State), s.hostOpen = true) ∧
    (∃ (s : State), s.hostOpen = true) ∧
    (∃ (s : State), s.mirState = 2 ∧ s.eng.host.mirAt + 10000 ≤ s.now) ∧
    (∃ (a : BitVec 32) (words : List Word) (w : Word) (s : State), s.b MODE_STATUS_DESCENDING = true ∧ s.f MODE_STATUS_ENTERING ≤ 1 ∧ words = [w] ∧ s.windowOf a.toNat = some .local ∧ a.toNat % 4 = 0 ∧ [pgEST, pgCONT, pgEIS].contains (pageOf a.toNat) = true ∧ a.toNat ≠ EIS_VIEW ∧ ((rowAt a.toNat).map fun r => r.acc) = some .rwl ∧ s.takes .xspi a.toNat w = true) ∧
    (∃ (src : Src) (key : BitVec 16) (s : State), s.takes src HOST_EXP_CMD (keyed key 1) = true ∧ s.accepts 5 = true) ∧
    (∃ (src : Src) (key : BitVec 16) (s : State), s.takes src HOST_EXP_CMD (keyed key 2) = true) ∧
    (∃ (src : Src) (key : BitVec 16) (s : State), s.takes src HOST_EXP_CMD (keyed key 3) = true) ∧
    (∃ (dev : BitVec 7) (a : BitVec 32) (words : List Word) (cut : Bool) (w : Word) (s : State), s.served .i2c = true ∧ dev.toNat = 0x3A + s.f HOST_STATUS_I2C_A0 ∧ words = [w] ∧ cut = false ∧ s.windowOf a.toNat = some .local ∧ a.toNat % 4 = 0 ∧ [pgEST, pgCONT, pgEIS].contains (pageOf a.toNat) = true ∧ a.toNat ≠ EIS_VIEW ∧ ((rowAt a.toNat).map fun r => r.acc) = some .rwl ∧ s.takes .i2c a.toNat w = true) ∧
    (∃ (dev : BitVec 7) (a : BitVec 32) (n : Nat) (ecc : List Nat) (s : State), s.served .i2c = true ∧ dev.toNat = 0x3A + s.f HOST_STATUS_I2C_A0 ∧ n = 1 ∧ ecc.headD 0 = 0 ∧ s.watchShut .i2c a.toNat = false ∧ pageOf a.toNat ∉ [pgSVC, pgRTC, pgICU, pgSEC, pgEPOCH, pgHOST] ∧ s.windowOf a.toNat = some .local ∧ a.toNat % 4 = 0 ∧ mapped a.toNat = true) ∧
    (∃ (src : Src) (w : Word) (s : State), s.takes src GPIO_OUT w = true) ∧
    (∃ (src : Src) (w : Word) (s : State), s.takes src GPIO_OUT_SET w = true) ∧
    (∃ (src : Src) (w : Word) (s : State), s.takes src GPIO_OUT_CLR w = true) ∧
    (∃ (src : Src) (n : Fin 16) (w : Word) (s : State), s.takes src (GPIO_CFG n.val) w = true ∧ bitOf s.gpioOwner n.val = false) ∧
    (∃ (n : Fin 16) (high : Bool) (s : State), bitOf s.balls.gpio n.val ≠ high ∧ s.mode ≠ 0 ∧ s.f (GPIO_CFG_EDGE n.val) = 3) ∧
    (∃ (line : Fin 256) (u : Nat) (s : State), s.lineOn line.val = true ∧ s.lineMask line.val ≠ 0 ∧ s.inService line.val = false ∧ (s.eng.icu.pend.any fun x => x.1 == line.val) = false ∧ s.icuTarget line.val = some u) ∧
    (∃ (line : Fin 256) (u : Nat) (s : State), s.eng.icu.pend = [(line.val, u)] ∧ s.lineOn line.val = false) ∧
    (∃ (src : Src) (tg : Fin 5) (l : Nat) (s : State), src = .core ∧ tg.val < 3 ∧ s.presentable tg.val = some l ∧ (s.stack tg.val).length < 8 ∧ s.eng.icu.claims.length = 5 ∧ l < 256) ∧
    (∃ (src : Src) (tg : Fin 5) (line : BitVec 8) (q : Nat) (r : List (Nat × Nat)) (s : State), s.takes src (ICU_T_DONE tg.val) (line.zeroExtend 32) = true ∧ src = .core ∧ tg.val < 3 ∧ s.stack tg.val = (line.toNat, q) :: r ∧ s.eng.icu.claims.length = 5 ∧ s.lineOn line.toNat = false) ∧
    (∃ (src : Src) (w : Word) (s : State), s.takes src ICU_SWI w = true) ∧
    (∃ (src : Src) (line : Fin 256) (w : Word) (s : State), s.takes src (ICU_LINE line.val) w = true ∧ src = .core) ∧
    (∃ (tg : Fin 5) (s : State), s.gateDue tg.val = true ∧ s.eng.icu.gate.length = 5 ∧ s.eng.icu.shown.getD tg.val false = false) ∧
    (∃ (s : State), s.startUpOver = true) ∧
    (∃ (m : Msg) (s : State), s.released = true ∧ s.fltNext = some m ∧ (s.fltClass m + b2n (s.fltCount m).1) ≤ 3 ∧ 1 ≤ (s.fltClass m + b2n (s.fltCount m).1) ∧ s.heldBy pgREC < 4) ∧
    (∃ (s : State), s.mode = 6 ∧ s.fltMayQuiet = true ∧ s.quietOver = true ∧ s.fltGrave = false) ∧
    (∃ (src : Src) (key : BitVec 16) (s : State), s.takes src FLT_CMD (keyed key 1) = true ∧ s.accepts 9 = true ∧ s.mode = 6 ∧ s.fltHold % 64 = 0 ∧ s.fltGrave = false) ∧
    (∃ (src : Src) (key : BitVec 16) (s : State), s.takes src FLT_CMD (keyed key 2) = true) ∧
    (∃ (src : Src) (w : Word) (s : State), s.takes src FLT_PEND w = true) ∧
    (∃ (src : Src) (w : Word) (s : State), s.takes src FLT_FIRST_INFO w = true ∧ FLT_FIRST_INFO_VALID.of w = 1) ∧
    (∃ (src : Src) (w : Word) (s : State), s.takes src FLT_INJ w = true ∧ s.mode = 7 ∧ s.heldBy (getBits w 24 8) < 4) ∧
    (∃ (src : Src) (n : Fin 4) (w : Word) (s : State), s.takes src (WDG_SVC n.val) w = true ∧ src ≠ .core ↔ n = 3 ∧ (s.eng.wdg.sync.filter fun x => x.n == n.val).length < 2) ∧
    (∃ (n : Fin 4) (t0 : Nat) (s : State), s.eng.wdg.sync = [⟨n.val, 0xA5C3, t0⟩] ∧ 2 ≤ s.wdgSince n.val t0 ∧ s.wdgRuns n.val = true ∧ s.b WDG_STATUS_COMPAT = false ∧ s.wdgCnt n.val < s.wdgPeriod n.val) ∧
    (∃ (n : Fin 4) (s : State), s.armOver n.val = true) ∧
    (∃ (n : Fin 4) (s : State), s.wdgOver n.val = true ∧ s.f (WDG_CFG_ACT n.val) = 0) ∧
    (∃ (n : Fin 4) (cnt : Nat) (s : State), s.wdgRuns n.val = true ∧ cnt ≤ s.wdgCnt n.val ∧ s.f (WDG_CFG_ACT n.val) = 0) ∧
    (∃ (src : Src) (n : Fin 4) (w : Word) (s : State), s.takes src (WDG_CFG n.val) w = true) ∧
    (∃ (src : Src) (key : BitVec 16) (slot : Fin 16) (s : State), s.takes src WDG_TM_CHECKIN (keyed key (slot.val * 2 ^ WDG_TM_CHECKIN_SLOT.lo)) = true ∧ src ≠ .core) ∧
    (∃ (s : State), s.tmOver = true ∧ s.b WDG_TM_CFG_TO_WD3 = false) ∧
    (∃ (s : State), s.coreRuns 0 = true ∧ (s.mode = 3 ∨ s.mode = 4) ∧ s.keep = 0 ∧ s.keepTries < 3 ∧ s.heldBy pgKEEP < 4) ∧
    (∃ (s : State), s.keep = 1 ∧ s.keepFor 1000 = true ∧ s.keepTries < 3) ∧
    (∃ (s : State), s.keep = 2 ∧ s.keepFor (s.f KEEP_CFG_PROB * 1000) = true ∧ 1 ≤ s.keepTries ∧ s.heldBy pgKEEP < 4) ∧
    (∃ (s : State), s.keep = 0 ∧ s.keepTries ≠ 0 ∧ s.keepFor 600000000 = true) ∧
    (∃ (src : Src) (key : BitVec 16) (s : State), s.takes src KEEP_CMD (keyed key 1) = true ∧ s.accepts 9 = true ∧ s.keep = 3) ∧
    (∃ (ts : List (List Int)) (a : Int) (b : Int) (c : Int) (d : Int) (e : Int) (g : Int) (s : State), s.thmSamples = true ∧ s.eng.boot.hold = 0 ∧ ts = [[a, b, c, d, e, g]] ∧ s.f THM_CFG_EN = 63 ∧ (List.range 6).all (fun k => !s.b (THM_T_FAULT k)) = true ∧ [a, b, c, d, e, g].all (fun x => -550 ≤ x && x ≤ 1750) = true ∧ s.eng.thm.conds = [⟨false, 3⟩, {}, {}, {}, {}] ∧ 10 * (s.f THM_THR_WARN : Int) ≤ max (max a b) c ∧ s.b (THM_STATUS_WARN.bit 0) = false ∧ s.b (THM_STATUS_WARN.bit 1) = false ∧ s.f THM_STATUS_LEVEL = 0 ∧ s.f THM_STATUS_UNMON = 0 ∧ s.heldBy pgTHM < 4) ∧
    (∃ (ts : List (List Int)) (a : Int) (b : Int) (c : Int) (d : Int) (e : Int) (g : Int) (s : State), s.thmSamples = true ∧ s.eng.boot.hold = 0 ∧ ts = [[a, b, c, d, e, g]] ∧ s.f THM_CFG_EN = 63 ∧ (List.range 6).all (fun k => !s.b (THM_T_FAULT k)) = true ∧ [a, b, c, d, e, g].all (fun x => -550 ≤ x && x ≤ 1750) = true ∧ s.eng.thm.conds = [{}, {}, ⟨false, 3⟩, {}, {}] ∧ 10 * (s.f THM_THR_THR : Int) ≤ max (max (max a b) c) (max (max d e) g) ∧ s.f THM_STATUS_LEVEL = 0 ∧ s.f THM_STATUS_UNMON = 0 ∧ s.heldBy pgTHM < 4) ∧
    (∃ (k : Nat) (s : State), s.eng.scan.skipNext = some k ∧ s.epoch % 64 = 0) ∧
    (∃ (ts : List (List Int)) (k : Nat) (a : Int) (b : Int) (c : Int) (d : Int) (e : Int) (g : Int) (s : State), s.thmSamples = true ∧ s.eng.boot.hold = 0 ∧ ts = [[a, b, c, d, e, g]] ∧ s.f THM_CFG_EN = 63 ∧ s.eng.thm.conds = [{}, {}, {}, {}, {}] ∧ s.f THM_STATUS_LEVEL = 0 ∧ s.f THM_STATUS_UNMON = 0 ∧ k < 6 ∧ s.eng.thm.odd = (List.range 6).map (fun j => if j = k then 9 else 0) ∧ (List.range 6).all (fun j => !s.b (THM_T_FAULT j)) = true ∧ ((List.range 6).all (fun j => decide (-550 ≤ [a, b, c, d, e, g].getD j 0 ∧ [a, b, c, d, e, g].getD j 0 ≤ 1750) == decide (j ≠ k)) = true) ∧ s.b (THM_STATUS_WARN.bit 0) = false ∧ s.b (THM_STATUS_WARN.bit 1) = false ∧ s.heldBy pgTHM < 4) ∧
    (∃ (ts : List (List Int)) (x : Int) (a : Int) (b : Int) (c : Int) (d : Int) (e : Int) (g : Int) (s : State), s.thmSamples = true ∧ s.eng.boot.hold = 0 ∧ ts = [[a, b, c, d, e, g]] ∧ s.f THM_CFG_EN = 63 ∧ (List.range 6).all (fun k => !s.b (THM_T_FAULT k)) = true ∧ [a, b, c, d, e, g].all (fun x => -550 ≤ x && x ≤ 1750) = true ∧ s.released = true ∧ s.eng.thm.conds = [{}, {}, {}, {}, ⟨false, 1⟩] ∧ [a, b, c, d, e, g] = [x, x, x, x, x, x] ∧ 10 * (s.f THM_THR_SHUT : Int) ≤ x) ∧
    (∃ (ts : List (List Int)) (a : Int) (b : Int) (c : Int) (d : Int) (e : Int) (g : Int) (n : Nat) (s : State), ts = [[a, b, c, d, e, g]] ∧ s.f THM_CFG_EN = 63 ∧ (List.range 6).all (fun k => !s.b (THM_T_FAULT k)) = true ∧ [a, b, c, d, e, g].all (fun x => -550 ≤ x && x ≤ 1750) = true ∧ s.eng.boot.hold = 2 ∧ max (max (max a b) c) (max (max d e) g) ≤ 10 * (s.f THM_THR_SHUT : Int) - 10 * (s.f THM_CFG_HYS : Int) ∧ s.eng.thm.cool = some n ∧ n + 100000 ≤ s.now) ∧
    (∃ (s : State), 32768 ≤ s.rtcCount ∧ s.b RTC_ALM_CFG_EN = false ∧ 1 ≤ s.mode ∧ s.f RTC_SEC_SEC + 1 < 2 ^ 32) ∧
    (∃ (s : State), s.perDue = true ∧ 1 ≤ s.mode ∧ s.mode ≤ 4) ∧
    (∃ (s : State), s.calDue = true) ∧
    (∃ (src : Src) (r : Fin 4) (s : State), s.served src = true ∧ s.watchShut src (RTC_SUB + 4 * r.val) = false ∧ r.val ≠ 3) ∧
    (∃ (src : Src) (u : Nat) (v : Nat) (n : Nat) (s : State), s.eng.rtc.frozen = [⟨pathOf src, u, v, n⟩] ∧ n + 1000000 ≤ s.now) ∧
    (∃ (src : Src) (key : BitVec 16) (s : State), s.takes src RTC_CMD (keyed key 1) = true ∧ s.b RTC_ALM_CFG_EN = false) ∧
    (∃ (src : Src) (key : BitVec 16) (s : State), s.takes src RTC_CMD (keyed key 2) = true) ∧
    (∃ (src : Src) (cfg : Bool) (w : Word) (s : State), s.takes src (if cfg then RTC_ALM_CFG else RTC_ALARM) w = true ∧ cfg = false) ∧
    (∃ (src : Src) (w : Word) (s : State), s.takes src RTC_PWRON w = true) ∧
    (∃ (s : State), s.pulseOver = true) ∧
    (∃ (s : State), s.heldBy pgMEM < 3) ∧
    (∃ (poison : Bool) (err : Option Nat) (j : RecJob) (s : State), s.eng.recs.cur = some j ∧ s.eng.recs.queue = [] ∧ j.kind = 3 ∧ j.words.length = 7 ∧ poison = false ∧ err = none) ∧
    (∃ (src : Src) (key : BitVec 16) (s : State), s.takes src REC_CMD (keyed key 1) = true) ∧
    (∃ (src : Src) (key : BitVec 16) (s : State), s.takes src REC_CMD (keyed key 2) = true) ∧
    (∃ (src : Src) (key : BitVec 16) (margin : Fin 4) (s : State), s.takes src OTP_CMD (keyed key (1 + margin.val * 2 ^ OTP_CMD_MARGIN.lo)) = true ∧ margin.val = 0 ∧ s.b OTP_STATUS_BUSY = false ∧ isProtected (s.f OTP_ADDR_ROW) = false) ∧
    (∃ (src : Src) (key : BitVec 16) (margin : Fin 4) (s : State), s.takes src OTP_CMD (keyed key (2 + margin.val * 2 ^ OTP_CMD_MARGIN.lo)) = true ∧ margin.val ≠ 3 ∧ s.accepts 6 = true ∧ s.b OTP_STATUS_BUSY = false ∧ s.f OTP_ADDR_ROW ≤ 0x3FF ∧ (isSealed (s.f OTP_ADDR_ROW) = false ∨ (regionOfRow (s.f OTP_ADDR_ROW)).all (fun r => s.regionState r == 0) = true) ∧ s.lowSupply = false) ∧
    (∃ (src : Src) (key : BitVec 16) (margin : Fin 4) (e : Nat) (s : State), s.takes src OTP_CMD (keyed key (3 + margin.val * 2 ^ OTP_CMD_MARGIN.lo)) = true ∧ margin.val ≠ 3 ∧ s.accepts 6 = true ∧ s.b OTP_STATUS_BUSY = false ∧ s.f OTP_ADDR_ROW ≤ 0x3FF ∧ (isSealed (s.f OTP_ADDR_ROW) = false ∨ s.f OTP_WDATA_DATA = s.otpRead (s.f OTP_ADDR_ROW)) ∧ s.lowSupply = false ∧ s.freeSpare = some e) ∧
    (∃ (src : Src) (key : BitVec 16) (margin : Fin 4) (region : Fin 8) (s : State), s.takes src OTP_CMD (keyed key (4 + margin.val * 2 ^ OTP_CMD_MARGIN.lo + region.val * 2 ^ OTP_CMD_REGION.lo)) = true ∧ margin.val ≠ 3 ∧ s.accepts 6 = true ∧ s.b OTP_STATUS_BUSY = false ∧ s.regionState region.val = 0 ∧ s.lowSupply = false) ∧
    (∃ (fail : Word) (j : OtpJob) (q : Nat) (data : Nat) (s : State), s.eng.otp.job = some j ∧ j.op = 2 ∧ j.rows = [(q, data)] ∧ data < 2 ^ 32 ∧ BitVec.ofNat 32 data &&& fail = 0 ∧ j.retries ≤ 8 ∧ j.most ≤ 8) ∧
    (∃ (src : Src) (key : BitVec 16) (l : Nat) (rs : List Nat) (s : State), s.takes src SEC_CMD (keyed key (1)) = true ∧ s.accepts 6 = true ∧ lcNeeds s.lc = some (l, rs) ∧ l ≤ s.sessionOf src ∧ (rs.all fun r => s.regionState r == 1) = true ∧ s.b OTP_STATUS_BUSY = false ∧ s.lowSupply = false) ∧
    (∃ (src : Src) (key : BitVec 16) (s : State), s.takes src SEC_CMD (keyed key (2)) = true ∧ s.accepts 6 = true ∧ s.lc ≠ 4 ∧ 2 ≤ s.sessionOf src ∧ s.b OTP_STATUS_BUSY = false ∧ s.lowSupply = false) ∧
    (∃ (src : Src) (key : BitVec 16) (worker : Fin 64) (s : State), s.takes src SEC_CMD (keyed key (3 + worker.val * 2 ^ SEC_CMD_W.lo)) = true ∧ s.accepts 8 = true ∧ s.isMgr = true ∧ worker.val ≠ 0 ∧ s.eng.ring.keys.contains worker.val = true) ∧
    (∃ (src : Src) (key : BitVec 16) (s : State), s.takes src SEC_CMD (keyed key (4)) = true) ∧
    (∃ (s : State), s.heldBy pgSEC < 4) ∧
    (∃ (src : Src) (key : BitVec 16) (level : Fin 4) (s : State), s.takes src SVC_CMD (keyed key (1 + level.val * 2 ^ SVC_CMD_LEVEL.lo)) = true ∧ s.lockedOut = false ∧ lcOffers s.lc level.val = true ∧ s.keyUsable (keyRow level.val) = true ∧ s.b SEC_RNG_OK = true) ∧
    (∃ (src : Src) (key : BitVec 16) (s : State), s.takes src SVC_CMD (keyed key (2)) = true ∧ s.eng.sec.nonce = true) ∧
    (∃ (src : Src) (key : BitVec 16) (level : Fin 4) (s : State), s.takes src SVC_CMD (keyed key (3 + level.val * 2 ^ SVC_CMD_LEVEL.lo)) = true ∧ s.lockedOut = false ∧ s.b SEC_POLICY_PW_DIS = false ∧ (level.val = 1 ∨ level.val = 2) ∧ s.keyUsable (pwRow level.val) = true) ∧
    (∃ (src : Src) (key : BitVec 16) (s : State), s.takes src SVC_CMD (keyed key (4)) = true ∧ s.lc = 2) ∧
    (∃ (src : Src) (key : BitVec 16) (s : State), s.takes src SVC_CMD (keyed key (5)) = true ∧ s.lc = 2 ∧ 2 ≤ s.sessionOf src ∧ s.b SEC_POLICY_DEBUG_FIELD = true ∧ s.heldBy pgSVC < 4) ∧
    (∃ (src : Src) (key : BitVec 16) (s : State), s.takes src SVC_CMD (keyed key (6)) = true ∧ s.lc = 2) ∧
    (∃ (s : State), s.nonceOld = true) ∧
    (∃ (s : State), s.lockOver = true) ∧
    (∃ (s : State), s.lapseDue = true ∧ s.lc = 2) ∧
    (∃ (port : Fin 2) (s : State), s.isWrk = true ∧ s.port port.val = 4 ∧ s.port (1 - port.val) = 4) ∧
    (∃ (hdr : Fin 4), hdr ≠ 1 ∧ hdr ≠ 2) ∧
    (∃ (p0 : Nat) (p1 : Nat) (p2 : Nat), p0 < 1024 ∧ p1 < 1024 ∧ p2 < 1024) ∧
    (∃ (ok : Bool) (s : State), s.b SEC_RNG_STARTUP_DONE = false ∧ ok = true) :=
  ⟨witness_arcIsolationAndCapture.2.2.2.2.2.2.2.2.2.2.1,
   witness_arcIsolationAndCapture.2.2.2.2.2.2.2.2.2.2.2.2.2.1,
   witness_arcIsolationAndCapture.2.2.2.2.2.2.2.2.2.2.2.2.2.2.2.1,
   witness_arcIsolationAndCapture.2.2.2.2.2.2.2.2.2.2.2.2.2.2.2.2.1,
   witness_arcIsolationAndCapture.2.2.2.2.2.2.2.2.2.2.2.2.2.2.2.2.2.1,
   witness_arcIsolationAndCapture.2.2.2.2.2.2.2.2.2.2.2.2.2.2.2.2.2.2,
   witness_hostPortTransactions.1,
   witness_hostPortTransactions.2.2.2.2.1,
   witness_hostPortTransactions.2.2.2.2.2.2.2.1,
   witness_hostPortTransactions.2.2.2.2.2.2.2.2.1,
   witness_hostPortTransactions.2.2.2.2.2.2.2.2.2.1,
   witness_hostPortTransactions.2.2.2.2.2.2.2.2.2.2.1,
   witness_hostPortTransactions.2.2.2.2.2.2.2.2.2.2.2.1,
   witness_exportAndPins.1,
   witness_exportAndPins.2.2.1,
   witness_exportAndPins.2.2.2.1,
   witness_hostPortTransactions.2.2.2.2.2.2.2.2.2.2.2.2.2.2.1,
   witness_hostPortTransactions.2.2.2.2.2.2.2.2.2.2.2.2.1,
   witness_exportAndPins.2.2.2.2.1,
   witness_exportAndPins.2.2.2.2.2.1,
   witness_exportAndPins.2.2.2.2.2.2.1,
   witness_exportAndPins.2.2.2.2.2.2.2.1,
   witness_exportAndPins.2.2.2.2.2.2.2.2.2.1,
   witness_interruptController.1,
   witness_interruptController.2.1,
   witness_interruptController.2.2.1,
   witness_interruptController.2.2.2.2.2.1,
   witness_interruptController.2.2.2.2.2.2.2.1,
   witness_interruptController.2.2.2.2.2.2.2.2.1,
   witness_interruptController.2.2.2.2.2.2.2.2.2.2.1,
   witness_interruptController.2.2.2.2.2.2.2.2.2.2.2,
   witness_faultCollector.1,
   witness_faultCollector.2.2.2.1,
   witness_faultCollector.2.2.2.2.1,
   witness_faultCollector.2.2.2.2.2.2.2.1,
   witness_faultCollector.2.2.2.2.2.2.2.2.1,
   witness_faultCollector.2.2.2.2.2.2.2.2.2.1,
   witness_faultCollector.2.2.2.2.2.2.2.2.2.2.1,
   witness_watchdogsAndTaskMonitor.1,
   witness_watchdogsAndTaskMonitor.2.1,
   witness_watchdogsAndTaskMonitor.2.2.2.2.2.1,
   witness_watchdogsAndTaskMonitor.2.2.2.2.2.2.1,
   witness_watchdogsAndTaskMonitor.2.2.2.2.2.2.2.2.1,
   witness_watchdogsAndTaskMonitor.2.2.2.2.2.2.2.2.2.1,
   witness_watchdogsAndTaskMonitor.2.2.2.2.2.2.2.2.2.2.2.1,
   witness_watchdogsAndTaskMonitor.2.2.2.2.2.2.2.2.2.2.2.2,
   witness_keeper.1,
   witness_keeper.2.2.1,
   witness_keeper.2.2.2.1,
   witness_keeper.2.2.2.2.1,
   witness_keeper.2.2.2.2.2,
   witness_thermalManagement.1,
   witness_thermalManagement.2.2.2.2.2.2.1,
   witness_thermalManagement.2.2.2.2.2.2.2.2.2.1,
   witness_thermalManagement.2.2.2.2.2.2.2.2.2.2.1,
   witness_thermalManagement.2.2.2.2.2.2.2.2.2.2.2.2.1,
   witness_thermalManagement.2.2.2.2.2.2.2.2.2.2.2.2.2.1,
   witness_calendarAndPowerOn.1,
   witness_calendarAndPowerOn.2.2.2.1,
   witness_calendarAndPowerOn.2.2.2.2.1,
   witness_calendarAndPowerOn.2.2.2.2.2.1,
   witness_calendarAndPowerOn.2.2.2.2.2.2.2.1,
   witness_calendarAndPowerOn.2.2.2.2.2.2.2.2.2.1,
   witness_calendarAndPowerOn.2.2.2.2.2.2.2.2.2.2.1,
   witness_calendarAndPowerOn.2.2.2.2.2.2.2.2.2.2.2.1,
   witness_calendarAndPowerOn.2.2.2.2.2.2.2.2.2.2.2.2.2.1,
   witness_calendarAndPowerOn.2.2.2.2.2.2.2.2.2.2.2.2.2.2,
   witness_memoryAndRecords.1,
   witness_memoryAndRecords.2.1,
   witness_memoryAndRecords.2.2.2.1,
   witness_memoryAndRecords.2.2.2.2,
   witness_oneTimeProgrammableMemory.1,
   witness_oneTimeProgrammableMemory.2.2.2.1,
   witness_oneTimeProgrammableMemory.2.2.2.2.2.2.2.1,
   witness_oneTimeProgrammableMemory.2.2.2.2.2.2.2.2.2.1,
   witness_oneTimeProgrammableMemory.2.2.2.2.2.2.2.2.2.2.2.1,
   witness_lifecycleAndEntropy.1,
   witness_lifecycleAndEntropy.2.2.1,
   witness_lifecycleAndEntropy.2.2.2.2.1,
   witness_lifecycleAndEntropy.2.2.2.2.2.1,
   witness_lifecycleAndEntropy.2.2.2.2.2.2.1,
   witness_sessionsAndPorts.1,
   witness_sessionsAndPorts.2.2.2.2.1,
   witness_sessionsAndPorts.2.2.2.2.2.2.1,
   witness_sessionsAndPorts.2.2.2.2.2.2.2.2.1,
   witness_sessionsAndPorts.2.2.2.2.2.2.2.2.2.2.1,
   witness_sessionsAndPorts.2.2.2.2.2.2.2.2.2.2.2.2.1,
   witness_sessionsAndPorts.2.2.2.2.2.2.2.2.2.2.2.2.2.1,
   witness_sessionsAndPorts.2.2.2.2.2.2.2.2.2.2.2.2.2.2.2.1,
   witness_sessionsAndPorts.2.2.2.2.2.2.2.2.2.2.2.2.2.2.2.2.2.1,
   witness_streamFramesAndRackPackets.2.2.2.2.2.2.1,
   witness_ringPortsAndBeacons.2.2.2.2.2.2.2.2.2.2.2.2.1,
   witness_contactorCommands.2.2.2.2.2.2.1,
   witness_lifecycleAndEntropy.2.2.2.2.2.2.2.1⟩


end Sys2Proof.Machine
end

section
/-!
PROOF. The canonical form of the tables over a step.
-/
namespace Sys2Proof.Machine

/-- Settles O51: a step runs one program from tables that are as they were, and each primitive change keeps the canonical form. -/
theorem tablesStayCanonical : Obligations.tablesStayCanonical := by
  intro s t hs h
  obtain ⟨p, u, rfl, hregs, hshadow, hstaged, hmem, hmarks, hotp, -, -⟩ := step_run h
  have hu : u.tablesOk = true := by
    simpa only [State.tablesOk, hregs, hshadow, hstaged, hmem, hmarks, hotp] using hs
  exact Prog.run_keeps (fun v => v.tablesOk = true) Act.apply_tablesOk p u hu

end Sys2Proof.Machine
end

section
/-!
SUPPORT. Fields after a write, and frames of programs that touch registers, engines and the outcome alone.
-/
namespace Sys2Proof.Machine

/-! ### Fields after a write -/

theorem b_set_true {x : Fld} (h : x.lo + x.wd ≤ 32) (hw : 1 < 2 ^ x.wd) (s : State) : ((set x 1).run s).b x = true := by
  simp only [State.b, f_set_same x h, Nat.mod_eq_of_lt hw, beq_self_eq_true]

theorem b_set_false {x : Fld} (h : x.lo + x.wd ≤ 32) (s : State) : ((set x 0).run s).b x = false := by
  simp only [State.b, f_set_same x h, Nat.zero_mod]
  rfl

theorem f_set_apart {x y : Fld} (h : x.apart y = true) (v : Nat) (s : State) : ((set x v).run s).f y = s.f y := (fixes_f_set h v).eq s

theorem b_set_apart {x y : Fld} (h : x.apart y = true) (v : Nat) (s : State) : ((set x v).run s).b y = s.b y := (fixes_f_set h v).b s

theorem b_incSat_apart {x y : Fld} (h : x.apart y = true) (s : State) : ((incSat x).run s).b y = s.b y := (fixes_f_incSat h).b s

theorem satInc_lt (w v : Nat) : satInc w v < 2 ^ w := by
  have := Nat.two_pow_pos w
  unfold satInc
  split <;> omega

theorem f_incSat_same {x : Fld} (h : x.lo + x.wd ≤ 32) (s : State) : ((incSat x).run s).f x = satInc x.wd (s.f x) :=
  (f_set_same x h _ s).trans (Nat.mod_eq_of_lt (satInc_lt _ _))

theorem setB_eq (x : Fld) (c : Bool) : setB x c = set x (b2n c) := rfl

theorem b_set_b2n {x : Fld} (h : x.lo + x.wd ≤ 32) (hw : 1 < 2 ^ x.wd) (c : Bool) (s : State) : ((set x (b2n c)).run s).b x = c := by
  cases c
  · exact b_set_false h s
  · exact b_set_true h hw s

theorem b_setB_same {x : Fld} (h : x.lo + x.wd ≤ 32) (hw : 1 < 2 ^ x.wd) (c : Bool) (s : State) : ((setB x c).run s).b x = c :=
  b_set_b2n h hw c s

theorem reg_set_ne {x : Fld} {a : Nat} (h : x.reg ≠ a) (v : Nat) (s : State) : ((set x v).run s).reg a = s.reg a :=
  (fixes_reg_set h v).eq s

theorem f_set_fit {x : Fld} (h : x.lo + x.wd ≤ 32) {v : Nat} (hv : v < 2 ^ x.wd) (s : State) : ((set x v).run s).f x = v := by
  rw [f_set_same x h, Nat.mod_eq_of_lt hv]

theorem b_clkEng (g : ClkEng → ClkEng) (s : State) (y : Fld) : ((clkEng g).run s).b y = s.b y := rfl
theorem f_clkEng (g : ClkEng → ClkEng) (s : State) (y : Fld) : ((clkEng g).run s).f y = s.f y := rfl
theorem clk_clkEng (g : ClkEng → ClkEng) (s : State) : ((clkEng g).run s).eng.clk = g s.eng.clk := rfl
theorem clk_set (x : Fld) (v : Nat) (s : State) : ((set x v).run s).eng.clk = s.eng.clk := rfl
theorem clk_incSat (x : Fld) (s : State) : ((incSat x).run s).eng.clk = s.eng.clk := rfl

theorem mode_set_off {x : Fld} (hx : x.reg ≠ MODE_CUR) (v : Nat) (s : State) : ((set x v).run s).mode = s.mode := f_set_reg hx v s

theorem mode_incSat_off {x : Fld} (hx : x.reg ≠ MODE_CUR) (s : State) : ((incSat x).run s).mode = s.mode := by
  simp only [incSat, upd, run_dyn, mode_set_off hx]

/-- Dropping what an error left behind a register changes the recorder's engine alone. -/
theorem rawDrop_run (a : Nat) (s : State) : ∃ r : RecEng, (rawDrop a).run s = { s with eng := { s.eng with recs := r } } := by
  unfold rawDrop
  simp only [run_whenS]
  split
  · exact ⟨_, rfl⟩
  · exact ⟨s.eng.recs, rfl⟩

/-! ### What looks at neither registers nor engines -/

/-- `g` looks at neither the registers, nor the engines, nor the outcome. -/
structure RegFree {β : Type} (g : State → β) : Prop where
  regs : ∀ s l, g { s with regs := l } = g s
  eng : ∀ s e, g { s with eng := e } = g s
  outcome : ∀ s o, g { s with outcome := o } = g s

namespace RegFree
variable {β : Type} {g : State → β} (h : RegFree g)
include h

theorem wakeFree : WakeFree g := ⟨h.regs, fun _ _ _ _ => h.eng _ _⟩
theorem set (x : Fld) (v : Nat) : (set x v).Fixes g := fixes_set h.regs v
theorem setB (x : Fld) (b : Bool) : (setB x b).Fixes g := h.set x _
theorem incSat (x : Fld) : (incSat x).Fixes g := fixes_dyn fun _ => h.set x _
theorem engine (f : Engines → Engines) : (Machine.eng f).Fixes g := fun s => h.eng s _
theorem outc (o : Outc) : (setOutc o).Fixes g := fun s => h.outcome s o
theorem event (x : Fld) : (event x).Fixes g := h.wakeFree.event x
theorem rawDrop (a : Nat) : (rawDrop a).Fixes g := fixes_whenS (h.engine _)
theorem rtcClocks : rtcClocks.Fixes g :=
  fixes_dyn fun _ => fixes_blk_cons (h.setB _ _) (fixes_blk_cons (fixes_whenB (h.set _ _)) (fixes_blk_cons (h.engine _) fixes_blk_nil))

end RegFree

/-- The frame of a program that leaves the other registers and all that looks at no register. -/
theorem sameBut_of_regFree {l pg : List Nat} {p : Prog} (hr : ∀ a, a ∉ l → pageOf a ∉ pg → p.Fixes (State.reg · a))
    (hg : ∀ {β : Type} {g : State → β}, RegFree g → p.Fixes g) (s : State) : sameBut l pg s (p.run s.linksQuiet) :=
  sameBut_of_fixes hr (hg ⟨fun _ _ => rfl, fun _ _ => rfl, fun _ _ => rfl⟩) (hg ⟨fun _ _ => rfl, fun _ _ => rfl, fun _ _ => rfl⟩)
    (hg ⟨fun _ _ => rfl, fun _ _ => rfl, fun _ _ => rfl⟩) (hg ⟨fun _ _ => rfl, fun _ _ => rfl, fun _ _ => rfl⟩)
    (hg ⟨fun _ _ => rfl, fun _ _ => rfl, fun _ _ => rfl⟩) s

/-- When the clocks have changed the calendar shows it in RTC_STATUS alone. -/
theorem fixes_reg_rtcClocks {a : Nat} (h : RTC_STATUS ≠ a) : rtcClocks.Fixes (State.reg · a) :=
  fixes_dyn fun _ => fixes_blk_cons (fixes_reg_setB h _) (fixes_blk_cons (fixes_whenB (fixes_reg_set h _)) (fixes_blk_cons (fixes_reg_eng _)
    fixes_blk_nil))

theorem rtcClocks_clk (s : State) : (rtcClocks.run s).eng.clk = s.eng.clk :=
  (fixes_dyn fun _ => fixes_blk_cons (fun _ => rfl) (fixes_blk_cons (fixes_whenB fun _ => rfl) (fixes_blk_cons (fun _ => rfl) fixes_blk_nil)) :
    rtcClocks.Fixes fun s => s.eng.clk) s

theorem rtcClocks_b {y : Fld} (h : RTC_STATUS ≠ y.reg) (s : State) : (rtcClocks.run s).b y = s.b y :=
  (fixes_reg_rtcClocks h).field.b s

theorem Fld.reg_ne {l : List Nat} {a : Nat} (ha : a ∉ l) {x : Fld} (hx : x.reg ∈ l) : x.reg ≠ a := fun e => ha (e ▸ hx)

/-- The frame of a write that the register takes is that of its effect. -/
theorem sameBut_access_takes {l pg : List Nat} {src : Src} {a : Nat} {w : Word} {s : State} (h : s.takes src a w = true)
    (hr : ∀ b, b ∉ l → pageOf b ∉ pg → (writeEffect src a w).Fixes (State.reg · b))
    (hg : ∀ {β : Type} {g : State → β}, RegFree g → (writeEffect src a w).Fixes g) :
    sameBut l pg s ((access src a w).run s.linksQuiet) := by
  rw [run_access_takes (s := s.linksQuiet) h]
  exact sameBut_of_regFree (p := .seq (.seq (setOutc .ok) (rawDrop a)) (writeEffect src a w))
    (fun b hb hp => fixes_seq (fixes_seq (fixes_reg_outc _) fun u => rawDrop_reg a b u) (hr b hb hp))
    (fun h => fixes_seq (fixes_seq (h.outc _) (h.rawDrop _)) (hg h)) s

end Sys2Proof.Machine
end

section
/-!
PROOF. Pages absent in the present role (R12, R63): what a host read of them and a write to them do.
-/
namespace Sys2Proof.Machine

/-- The present role has no page `p` (R12). -/
def State.lacks (s : State) (p : Nat) : Prop :=
  (s.isWrk = true ∧ p ∈ [pgCONT, pgARC, pgISO, pgROSTER, pgRACK]) ∨ (s.isMgr = true ∧ p ∈ [pgCELL, pgBAL])

/-- A page that the role lacks shows no register. -/
theorem State.lacks.not_shown {s : State} {p : Nat} (h : s.lacks p) : s.pageShown p = false := by
  have hp : s.present p = false := by
    rcases h with ⟨hr, hp⟩ | ⟨hr, hp⟩
    · simp only [State.present, hr, List.contains_iff_mem.2 hp, Bool.and_true, Bool.not_true, Bool.and_false, Bool.false_and]
    · simp only [State.present, hr, List.contains_iff_mem.2 hp, Bool.and_true, Bool.not_true, Bool.and_false]
  simp [State.pageShown, hp]

/-- Nothing stands behind the addresses of a page that the role lacks. -/
theorem State.lacks.inert {s : State} {a : Nat} (h : s.lacks (pageOf a)) : s.inert a = true := by
  simp [State.inert, h.not_shown]

/-- A read where the page shows nothing hands on 0, whatever its memory finds, and changes at most what an error left behind the register. -/
theorem run_regRead_hidden {s : State} {src : Src} {a : Nat} (f : Nat) (k : Word → Prog) (hm : mapped a = true)
    (hw : s.watchShut src a = false) (hp : s.pageShown (pageOf a) = false) :
    (regRead src a f k).run s = (k 0).run ((rawDrop a).run ((Act.outc .ok).apply s)) := by
  have hp' : ((rawDrop a).run ((Act.outc .ok).apply s)).pageShown (pageOf a) = false := by
    unfold rawDrop
    simp only [run_whenS]
    split <;> exact hp
  simp [regRead, readReg, hm, hw, hp, hp']

/-- A transaction that completes OK leaves the response, the windows and every register but HOST_LAST. -/
theorem xspiEnd_ok_frame (n : Nat) (err : Option Nat) (s : State) : ((xspiEnd 0 n err).run s).resp = s.resp ∧
    keptReg [HOST_LAST] [] s ((xspiEnd 0 n err).run s) ∧ keptMem s ((xspiEnd 0 n err).run s) := by
  obtain ⟨h, hrun⟩ : ∃ h : HostEng, (xspiEnd 0 n err).run s =
      (Act.reg HOST_LAST (BitVec.ofNat 32 (statusWord 0 h.seq n))).apply { s with eng := { s.eng with host := h } } := ⟨_, rfl⟩
  rw [hrun]
  refine ⟨Act.reg_resp _ _ _, fun a ha _ => ?_, fun a => ?_, fun a => ?_⟩
  · rw [reg_apply_reg_ne fun e => ha (List.mem_singleton.2 e.symm)]
    rfl
  · rw [State.byte, Act.reg_mem]
    rfl
  · rw [State.mark, Act.reg_marks]
    rfl

/-- After the only word of a transaction the collector takes no message. -/
theorem run_fltBetween_last (s : State) : (fltBetween (decide (0 < 0))).run s = s := by
  rw [fltBetween, run_whenS_neg]
  rfl

/-- A one-word host READ of a page that shows nothing answers 0 and completes OK, from the state that its touch and its word leave. -/
theorem run_xspiRead_hidden {s : State} {a : Nat} (ecc : List Nat) (ho : s.hostOpen = true) (hw : s.watchShut .xspi a = false)
    (hl : s.windowOf a = some .local) (h4 : a % 4 = 0) (hm : mapped a = true) (hp : s.pageShown (pageOf a) = false) :
    (xspiRead a 1 ecc).run s =
      (xspiEnd 0 1 (some a)).run ((respond [0]).run ((rawDrop a).run ((Act.outc .ok).apply (xspiTouch.run s)))) := by
  have hl' : (xspiTouch.run s).windowOf a = some .local := hl
  have hw' : (xspiTouch.run s).watchShut .xspi a = false := hw
  have hp' : (xspiTouch.run s).pageShown (pageOf a) = false := hp
  have hout : ((rawDrop a).run ((Act.outc .ok).apply (xspiTouch.run s))).outcome = .ok := by
    obtain ⟨r, hr⟩ := rawDrop_run a ((Act.outc .ok).apply (xspiTouch.run s))
    rw [hr]
    rfl
  have hcode : (worstOf [Outc.ok]).code = 0 := rfl
  have herr : firstErr a [Outc.ok] = a := rfl
  simp only [xspiRead, onXspi, run_whenS, ho, if_true, run_seq, run_dyn, h4, beq_self_eq_true, hl', burstRead, wordRead, bne_self_eq_false,
    Bool.false_eq_true, if_false, run_regRead_hidden _ _ hm hw' hp', hout, run_fltBetween_last, List.reverse_singleton, hcode, herr]

/-- Beside engines, outcome and response that state is the one before. -/
theorem hiddenRead_state (a : Nat) (s : State) : ∃ e : Engines,
    (respond [0]).run ((rawDrop a).run ((Act.outc .ok).apply (xspiTouch.run s))) = { s with eng := e, outcome := .ok, resp := [0] } := by
  obtain ⟨r, hr⟩ := rawDrop_run a ((Act.outc .ok).apply (xspiTouch.run s))
  rw [hr]
  exact ⟨_, rfl⟩

/-- Settles O55: a page that the role lacks shows nothing, so that a read hands on 0, and what is written there meets nothing. -/
theorem absentPages : Obligations.absentPages := by
  refine ⟨fun a n ecc s ho hn hw hl h4 hm hr => ?_, fun src a w s hs hm hd hw hr => ?_⟩
  · subst hn
    obtain ⟨e, he⟩ := hiddenRead_state a.toNat s.linksQuiet
    obtain ⟨hresp, hreg, hmem⟩ := xspiEnd_ok_frame 1 (some a.toNat) { s.linksQuiet with eng := e, outcome := .ok, resp := [0] }
    refine ⟨_, rfl, ?_⟩
    rw [run_xspiRead_hidden (s := s.linksQuiet) ecc ho hw hl h4 hm (State.lacks.not_shown hr), he]
    exact ⟨hresp, hreg, hmem⟩
  · exact ⟨_, rfl, run_access_inert (s := s.linksQuiet) (by simpa using hs) hm hd hw (State.lacks.inert hr)⟩

end Sys2Proof.Machine
end

section
/-!
SUPPORT. What leaves the clocks alone: the ports, the ring, the key setups, the roster, messages and event flags.
-/
namespace Sys2Proof.Machine

theorem holds_upTo {P : State → Prop} {n : Nat} {f : Nat → Prog} (h : ∀ i, i < n → (f i).Holds P) : (upTo n f).Holds P :=
  holds_forEach fun i hi => h i (List.mem_range.1 hi)

/-! ### What speaks of the clocks alone

The failure of the root and the loss of the link PLL set off the ports, the ring, the key setups, the roster and messages. None of these
writes a register of page CLK, the mode in force or the clock engine, except that a wake event in DORMANT starts the root. -/

/-- The register is none of page CLK, nor one that shows the mode in force or a port's state. -/
def offClock (a : Nat) : Bool :=
  decide (pageOf a ≠ pgCLK) && decide (a ≠ MODE_CUR) && decide (a ≠ RING_P_STATUS 0) && decide (a ≠ RING_P_STATUS 1)

theorem offClock_iff {a : Nat} : offClock a = true ↔ ((a / 0x1000 ≠ 2 ∧ a ≠ 0x1040) ∧ a ≠ 0x1D080) ∧ a ≠ 0x1D0C0 := by
  simp only [offClock, Bool.and_eq_true, decide_eq_true_eq]
  rfl

theorem offClock_dly (p : Nat) : offClock (RING_P_DLY p) = true := offClock_iff.2 (by simp only [RING_P_DLY]; omega)
theorem offClock_down (p : Nat) : offClock (RING_P_CNT_DOWN p) = true := offClock_iff.2 (by simp only [RING_P_CNT_DOWN]; omega)
theorem offClock_stat (w : Nat) : offClock (ROSTER_W_STAT w) = true := offClock_iff.2 (by simp only [ROSTER_W_STAT]; omega)
theorem offClock_stales (w : Nat) : offClock (ROSTER_W_CNT w) = true := offClock_iff.2 (by simp only [ROSTER_W_CNT]; omega)

/-- `P` speaks of page CLK, the mode in force, the ports' states and the clock engine alone, and an ascent from DORMANT keeps it. -/
structure ClockOnly (P : State → Prop) : Prop where
  set : ∀ (x : Fld) (v : Nat), offClock x.reg = true → (set x v).Holds P
  eng : ∀ g : Engines → Engines, (∀ e, (g e).clk = e.clk) → (eng g).Holds P
  draw : ∀ s, P s → P (Act.draw.apply s)
  rise : dormantUp.Holds P

/-- What a port that leaves UP in state `s` sets off once its own state has moved (R341, R342, R345, R357). -/
def portLostTail (p : Nat) (speak : Bool) (s : State) : Prog :=
  blk [set (RING_P_DLY_VALID p) 0, incSat (RING_P_CNT_DOWN_COUNT p), ringEvent 0, ringMsg 0 p,
    (s.linkAt p).elim .skip fun k => .seq (whenB (speak && s.isWrk) (tx (.block (1 - p) 0x66 (breakBlock k false)))) (breakLearn k),
    whenS State.enumRuns (enumFail 5), ringShow]

theorem portLost_run (p st : Nat) (speak : Bool) (s : State) :
    (portLost p st speak).run s = (portLostTail p speak s).run ((portTo p st).run s) := by
  unfold portLost portLostTail
  rw [run_dyn, run_blk_cons]
  cases s.linkAt p <;> rfl

namespace ClockOnly
variable {P : State → Prop}

section basic
variable (h : ClockOnly P)
include h

theorem setB (x : Fld) (b : Bool) (hx : offClock x.reg = true) : (setB x b).Holds P := h.set x _ hx
theorem upd (x : Fld) (f : Nat → Nat) (hx : offClock x.reg = true) : (upd x f).Holds P := holds_dyn fun _ => h.set x _ hx
theorem incSat (x : Fld) (hx : offClock x.reg = true) : (incSat x).Holds P := h.upd x _ hx
theorem incWrap (x : Fld) (hx : offClock x.reg = true) : (incWrap x).Holds P := h.upd x _ hx
theorem modeEng (g : ModeEng → ModeEng) : (modeEng g).Holds P := h.eng _ fun _ => rfl
theorem ringEng (g : RingEng → RingEng) : (ringEng g).Holds P := h.eng _ fun _ => rfl
theorem secEng (g : SecEng → SecEng) : (secEng g).Holds P := h.eng _ fun _ => rfl
theorem rackEng (g : RackEng → RackEng) : (rackEng g).Holds P := h.eng _ fun _ => rfl
theorem rtcEng (g : RtcEng → RtcEng) : (rtcEng g).Holds P := h.eng _ fun _ => rfl
theorem withFree {k : Nat → Prog} (hk : ∀ n, (k n).Holds P) : (withFree k).Holds P :=
  holds_dyn fun _ => holds_seq (holds_act h.draw) (hk _)

theorem withFrees (n : Nat) (k : List Nat → Prog) (hk : ∀ l, (k l).Holds P) : (withFrees n k).Holds P := by
  induction n generalizing k with
  | zero => exact hk []
  | succ n ih => exact h.withFree fun _ => ih _ fun _ => hk _

/-! #### Flags, evaluations of the mode, wake events, messages -/

theorem eventQ (x : Fld) (hx : offClock x.reg = true) : (eventQ x).Holds P :=
  holds_blk_cons (h.set _ _ hx) (holds_blk_cons (holds_whenS (holds_blk_cons (h.set _ _ rfl) (holds_blk_cons (h.set _ _ rfl)
    (holds_blk_cons (holds_whenS (h.modeEng _)) holds_blk_nil)))) holds_blk_nil)

theorem startTrans (m : Nat) (up : Bool) (c : Nat) : (startTrans m up c).Holds P :=
  holds_blk_cons (h.setB _ _ rfl) (holds_blk_cons (h.setB _ _ rfl) (holds_blk_cons (h.set _ _ rfl) (holds_blk_cons (h.modeEng _)
    (holds_blk_cons (holds_whenB h.rise) holds_blk_nil))))

theorem modeEval (c : Nat) : (modeEval c).Holds P := by
  refine holds_dyn fun s0 => holds_blk_cons (holds_dyn fun s => ?_) (holds_blk_cons (holds_dyn fun s => ?_) (holds_blk_cons
    (holds_dyn fun s1 => holds_seq (holds_dyn fun s => ?_) (holds_dyn fun s => ?_)) holds_blk_nil))
  all_goals
    try dsimp only
    repeat' first
      | with_reducible apply h.set
      | with_reducible apply h.setB
      | with_reducible apply h.eventQ
      | with_reducible apply h.startTrans
      | with_reducible apply h.modeEng
      | with_reducible apply holds_skip
      | with_reducible apply holds_blk_nil
      | with_reducible apply holds_blk_cons
      | with_reducible apply holds_whenB
      | with_reducible apply holds_ite
      | rfl

theorem wake (x : Fld) (hx : offClock x.reg = true) : (wake x).Holds P :=
  holds_blk_cons (h.set _ _ hx) (holds_blk_cons (h.eventQ _ rfl) (holds_blk_cons
    (holds_whenS (holds_blk_cons (h.modeEng _) (holds_blk_cons (h.modeEval _) holds_blk_nil))) holds_blk_nil))

/-- What an event flag sets off beside its own bit. -/
theorem flagTail (x : Fld) : (blk [whenS (fun s => s.b ⟨x.reg + 8, x.lo, 1⟩) (Machine.wake MODE_WAKE_SRC_EVENT)]).Holds P :=
  holds_blk_cons (holds_whenS (h.wake _ rfl)) holds_blk_nil

/-- An event flag, of page CLK or not, leaves what `P` says where setting its own bit does. -/
theorem event {x : Fld} (hx : (Machine.set x 1).Holds P) : (event x).Holds P := holds_blk_cons hx (h.flagTail x)

theorem send (pg i k d : Nat) : (send pg i k d).Holds P :=
  holds_ifS (h.eng _ fun _ => rfl) (holds_blk_cons (h.incSat _ rfl) (holds_blk_cons (h.event (h.set _ _ rfl)) holds_blk_nil))

theorem ringEvent (k : Nat) : (ringEvent k).Holds P := h.event (h.set _ _ (show offClock RING_EVT_RAW = true from rfl))

/-- A first-fault record of register `a`. -/
theorem firstRec {a : Nat} (ha : offClock a = true) {valid : Fld} {l : List (Fld × Nat)} (hv : valid.reg = a) (hl : ∀ p ∈ l, p.1.reg = a) :
    (firstRec valid l).Holds P :=
  holds_whenS (holds_blk_cons (holds_forEach fun p hp => h.set _ _ ((hl p hp).symm ▸ ha)) (holds_blk_cons (h.set _ _ (hv.symm ▸ ha))
    holds_blk_nil))

theorem ringMsg (k i : Nat) : (ringMsg k i).Holds P :=
  holds_seq (h.firstRec (a := RING_FIRST) rfl rfl (by simp [RING_FIRST_KIND, RING_FIRST_INST])) (h.send _ _ _ _)

theorem rtcClocks : rtcClocks.Holds P :=
  holds_dyn fun _ => holds_blk_cons (h.setB _ _ rfl) (holds_blk_cons (holds_whenB (h.set _ _ rfl))
    (holds_blk_cons (h.rtcEng _) holds_blk_nil))

/-! #### Packets and key setups -/

theorem ringShow : ringShow.Holds P :=
  holds_dyn fun _ => holds_blk_cons (h.set _ _ rfl) (holds_blk_cons (h.setB _ _ rfl) (holds_blk_cons (h.setB _ _ rfl)
    (holds_blk_cons (h.setB _ _ rfl) (holds_blk_cons (h.set _ _ rfl) (holds_blk_cons (h.setB _ _ rfl) holds_blk_nil)))))

theorem tx (x : Tx) : (tx x).Holds P := holds_whenS (h.ringEng _)

theorem keyPkt (port dst step gen : Nat) (l : List Nat) : (keyPkt port dst step gen l).Holds P :=
  holds_dyn fun _ => holds_ifS (h.ringEng _) (h.tx _)

theorem keyTry (w gen tries : Nat) : (keyTry w gen tries).Holds P := by
  refine holds_dyn fun s => ?_
  split
  · exact h.withFrees _ _ fun _ => holds_seq (h.secEng _) (h.keyPkt _ _ _ _ _)
  · exact h.secEng _

theorem keyRepeat (l : List Nat) : (keyRepeat l).Holds P :=
  holds_blk_cons (h.incWrap _ rfl) (holds_blk_cons (h.secEng _) (holds_blk_cons
    (holds_dyn fun _ => holds_forEach fun _ _ => h.keyTry _ _ _) holds_blk_nil))

theorem keyWorn (peer q : Nat) : (keyWorn peer q).Holds P :=
  holds_dyn fun _ => holds_whenB (holds_ite (holds_seq (h.withFrees _ _ fun _ => h.ringEng _) (h.keyRepeat _)) (h.keyRepeat _))

theorem pktOut (dst kind : Nat) (data : List Nat) : (pktOut dst kind data).Holds P :=
  holds_dyn fun _ => holds_blk_cons (h.ringEng _) (holds_blk_cons (holds_ite (h.tx _) (h.ringEng _))
    (holds_blk_cons (h.keyWorn _ _) holds_blk_nil))

theorem sendPkt (dst kind : Nat) (data : List Nat) : (sendPkt dst kind data).Holds P := holds_ifS (h.ringEng _) (h.pktOut _ _ _)

/-! #### Arms, breaks, ports -/

theorem armsSend : armsSend.Holds P := by
  refine holds_dyn fun s => ?_
  repeat' first
    | with_reducible exact holds_blk_nil
    | with_reducible exact h.ringShow
    | with_reducible apply h.set
    | with_reducible apply h.sendPkt
    | with_reducible apply h.ringEng
    | with_reducible apply h.ringEvent
    | with_reducible apply holds_blk_cons
    | exact holds_whenS (h.eng _ fun _ => rfl)
    | rfl

theorem enumFail (r : Nat) : (enumFail r).Holds P :=
  holds_blk_cons (h.ringEng _) (holds_blk_cons (h.set _ _ rfl) (holds_blk_cons (h.ringEvent _) (holds_blk_cons (h.ringMsg _ _)
    (holds_blk_cons h.ringShow holds_blk_nil))))

theorem breakLearn (link : Nat) : (breakLearn link).Holds P :=
  holds_dyn fun _ => holds_whenB (holds_blk_cons (h.ringEng _) (holds_blk_cons (h.ringEvent _) (holds_blk_cons (h.ringMsg _ _)
    (holds_blk_cons h.ringShow (holds_blk_cons (holds_whenB (holds_ite (h.enumFail _) (holds_whenB h.armsSend))) holds_blk_nil)))))

theorem portLostTail (p : Nat) (speak : Bool) (s : State) : (portLostTail p speak s).Holds P := by
  refine holds_blk_cons (h.set _ _ (offClock_dly p)) (holds_blk_cons (h.incSat _ (offClock_down p)) (holds_blk_cons (h.ringEvent _)
    (holds_blk_cons (h.ringMsg _ _) (holds_blk_cons ?_ (holds_blk_cons (holds_whenS (h.enumFail _))
    (holds_blk_cons h.ringShow holds_blk_nil))))))
  cases s.linkAt p with
  | none => exact holds_skip
  | some k => exact holds_seq (holds_whenB (h.tx _)) (h.breakLearn _)

/-- A port's move keeps `P` where the write of its state does. -/
theorem portTo {p st : Nat} (hp : (Machine.set (RING_P_STATUS_STATE p) st).Holds P) : (portTo p st).Holds P :=
  holds_seq hp (holds_whenB (holds_dyn fun _ => h.ringEng _))

/-- So does all that its leaving UP sets off. -/
theorem portLost {p st : Nat} (hp : (Machine.set (RING_P_STATUS_STATE p) st).Holds P) (speak : Bool) : (portLost p st speak).Holds P := by
  intro s hs
  rw [portLost_run]
  exact h.portLostTail p speak s _ (h.portTo hp s hs)

/-- Both ports go down: what speaks of no port's state is kept. -/
theorem portsDown (hp : ∀ p, p < 2 → ∀ v, (Machine.set (RING_P_STATUS_STATE p) v).Holds P) : portsDown.Holds P :=
  holds_upTo fun p h2 => holds_seq (holds_ifS (h.portLost (hp p h2 _) _) (hp p h2 _)) h.ringShow

/-! #### The roster -/

theorem rosterShow : rosterShow.Holds P := by
  refine holds_dyn fun s => ?_
  repeat' first
    | with_reducible exact holds_blk_nil
    | with_reducible apply h.set
    | with_reducible apply h.setB
    | with_reducible apply holds_whenB
    | with_reducible apply holds_blk_cons
    | exact holds_dyn fun _ => h.rackEng _
    | rfl

theorem rosterEvent (k : Nat) : (rosterEvent k).Holds P := h.event (h.set _ _ (show offClock ROSTER_EVT_RAW = true from rfl))

theorem rosterMsg (k i : Nat) : (rosterMsg k i).Holds P :=
  holds_seq (h.firstRec (a := ROSTER_FIRST) rfl rfl (by simp [ROSTER_FIRST_KIND, ROSTER_FIRST_INST])) (h.send _ _ _ _)

theorem rosterTo (w st : Nat) : (rosterTo w st).Holds P := by
  refine holds_dyn fun s => holds_whenB (holds_blk_cons (h.set _ _ (offClock_stat w)) (holds_blk_cons ?_
    (holds_blk_cons h.rosterShow holds_blk_nil)))
  split
  · exact holds_whenB (h.rosterEvent _)
  · exact holds_blk_cons (h.rosterEvent _) (holds_blk_cons (h.incSat _ rfl) (holds_blk_cons (h.incSat _ (offClock_stales w))
      (holds_blk_cons (h.rosterMsg _ _) holds_blk_nil)))
  · exact holds_seq (h.rosterEvent _) (h.rosterMsg _ _)
  · exact holds_seq (h.rosterEvent _) (h.rosterMsg _ _)
  · exact holds_skip

theorem rosterSync : rosterSync.Holds P :=
  holds_whenS (holds_dyn fun _ => holds_blk_cons (holds_forEach fun _ _ => h.rosterTo _ _) (holds_blk_cons
    (holds_forEach fun _ _ => h.rosterTo _ _) (holds_blk_cons h.rosterShow holds_blk_nil)))

end basic
end ClockOnly

end Sys2Proof.Machine
end

section
/-!
SUPPORT. The clock part of the state: page CLK, the mode in force and the clock engine, and what leaves it as it is.
-/
namespace Sys2Proof.Machine

/-- From `s` to `t` the registers of page CLK, the mode in force and the clock engine stay as they are. -/
structure SameClock (s t : State) : Prop where
  reg : ∀ a, pageOf a = pgCLK → t.reg a = s.reg a
  mode : t.mode = s.mode
  clk : t.eng.clk = s.eng.clk

namespace SameClock
variable {s t u : State}

theorem refl (s : State) : SameClock s s := ⟨fun _ _ => rfl, rfl, rfl⟩

theorem trans (h1 : SameClock s t) (h2 : SameClock t u) : SameClock s u :=
  ⟨fun a h => (h2.reg a h).trans (h1.reg a h), h2.mode.trans h1.mode, h2.clk.trans h1.clk⟩

theorem f (h : SameClock s t) {y : Fld} (hy : pageOf y.reg = pgCLK) : t.f y = s.f y := by
  unfold State.f
  rw [h.reg _ hy]

theorem b (h : SameClock s t) {y : Fld} (hy : pageOf y.reg = pgCLK) : t.b y = s.b y := by
  unfold State.b
  rw [h.f hy]

/-- A mode other than DORMANT stays so. -/
theorem awake (h : SameClock s t) (hs : s.mode ≠ 1) : t.mode ≠ 1 := h.mode ▸ hs

/-- The same write to page CLK on both sides. -/
theorem set (h : SameClock s t) {x : Fld} (hx : pageOf x.reg = pgCLK) (v : Nat) :
    SameClock ((Machine.set x v).run s) ((Machine.set x v).run t) where
  reg a ha := by
    simp only [run_set, reg_apply_reg, h.reg _ hx, h.reg _ ha]
  mode := by
    have hm : x.reg ≠ MODE_CUR_MODE.reg := by
      intro e
      rw [e] at hx
      exact absurd hx (by decide)
    exact (f_set_reg hm v t).trans (h.mode.trans (f_set_reg hm v s).symm)
  clk := h.clk

theorem incSat (h : SameClock s t) {x : Fld} (hx : pageOf x.reg = pgCLK) : SameClock ((incSat x).run s) ((incSat x).run t) := by
  simp only [Machine.incSat, upd, run_dyn, h.f hx]
  exact h.set hx _

end SameClock

/-- A write to a register that is no clock's leaves the clock part. -/
theorem sameClock_set {x : Fld} (hx : pageOf x.reg ≠ pgCLK) (hm : x.reg ≠ MODE_CUR) (v : Nat) (s : State) : SameClock s ((set x v).run s) :=
  ⟨fun a ha => reg_apply_reg_ne (fun e : x.reg = a => hx (e.symm ▸ ha)) _ _, f_set_reg hm v s, rfl⟩

theorem dormantUp_awake {s : State} (h : s.mode ≠ 1) : dormantUp.run s = s :=
  run_whenS_neg (c := fun s => s.mode == 1) (beq_eq_false_iff_ne.2 h) _

/-- Out of DORMANT the clock part is kept by all that keeps what speaks of the clocks alone. -/
theorem clockOnly_sameClock {s : State} (h : s.mode ≠ 1) : ClockOnly (SameClock s) where
  set x v hx t ht := by
    obtain ⟨⟨⟨h1, h2⟩, -⟩, -⟩ := offClock_iff.1 hx
    exact ht.trans (sameClock_set h1 h2 v t)
  eng g hg t ht := ⟨ht.reg, ht.mode, (hg t.eng).trans ht.clk⟩
  draw t ht := ⟨ht.reg, ht.mode, ht.clk⟩
  rise t ht := by
    rw [dormantUp_awake (ht.awake h)]
    exact ht

/-- A write to another register than a port's status leaves the port's state. -/
theorem port_set_ne {p : Nat} (hp : p < 2) {x : Fld} (h0 : x.reg ≠ RING_P_STATUS 0) (h1 : x.reg ≠ RING_P_STATUS 1) (v : Nat) (s : State) :
    ((set x v).run s).port p = s.port p := by
  have hne : x.reg ≠ (RING_P_STATUS_STATE p).reg := by
    rcases (by omega : p = 0 ∨ p = 1) with rfl | rfl
    · exact h0
    · exact h1
  exact f_set_reg hne v s

/-- What is said of a port's state speaks of the clocks alone. -/
theorem clockOnly_port {p : Nat} (hp : p < 2) (v : Nat) : ClockOnly fun t => t.port p = v :=
  have hset : ∀ (x : Fld) (w : Nat), x.reg ≠ RING_P_STATUS 0 → x.reg ≠ RING_P_STATUS 1 → (set x w).Holds fun t => t.port p = v :=
    fun _ w h0 h1 t ht => (port_set_ne hp h0 h1 w t).trans ht
  { set := fun x w hx =>
      have ⟨⟨_, h0⟩, h1⟩ := offClock_iff.1 hx
      hset x w h0 h1
    eng := fun _ _ _ ht => ht
    draw := fun _ ht => ht
    rise := holds_whenS (holds_dyn fun _ => holds_whenB (holds_blk_cons (hset _ _ (by decide) (by decide))
      (holds_blk_cons (hset _ _ (by decide) (by decide)) (holds_blk_cons (fun _ ht => ht) holds_blk_nil)))) }

/-- An event flag changes the clock part by its own bit at most, out of DORMANT. -/
theorem sameClock_event {x : Fld} (hx : x.reg ≠ MODE_CUR) {s : State} (h : s.mode ≠ 1) :
    SameClock ((set x 1).run s) ((event x).run s) :=
  (clockOnly_sameClock ((mode_set_off hx 1 s).symm ▸ h)).flagTail x _ (SameClock.refl _)

/-- What keeps all that speaks of the clocks alone leaves the clock part, out of DORMANT. -/
theorem sameClock_of {p : Prog} (hp : ∀ {P : State → Prop}, ClockOnly P → p.Holds P) {s : State} (h : s.mode ≠ 1) : SameClock s (p.run s) :=
  hp (clockOnly_sameClock h) s (SameClock.refl s)

theorem sameClock_rootLost {s : State} (h : s.mode ≠ 1) : SameClock ((set CLK_EVT_RAW_ROOT_FAIL 1).run s) (rootLost.run s) :=
  have he := sameClock_event (x := CLK_EVT_RAW_ROOT_FAIL) (by decide) h
  (clockOnly_sameClock ((mode_set_off (x := CLK_EVT_RAW_ROOT_FAIL) (by decide) 1 s).symm ▸ h)).send pgCLK 0 0 0 _ he

/-- A port's move is none of the clocks'. -/
theorem sameClock_portState {p : Nat} (hp : p < 2) (v : Nat) (s : State) : SameClock s ((set (RING_P_STATUS_STATE p) v).run s) := by
  rcases (by omega : p = 0 ∨ p = 1) with rfl | rfl
  · exact sameClock_set (by decide) (by decide) v s
  · exact sameClock_set (by decide) (by decide) v s

theorem sameClock_portsDown {s : State} (h : s.mode ≠ 1) : SameClock s (portsDown.run s) :=
  (clockOnly_sameClock h).portsDown (fun _ hp v t ht => ht.trans (sameClock_portState hp v t)) s (SameClock.refl s)

end Sys2Proof.Machine
end

section
/-!
PROOF. The root clock, its failure and return, and the two PLLs (R16, R19, R20, R24, R591).

The programs are unrolled by `rw`, part by part: closed by conversion, the same equations would have the kernel run the ports' programs.
-/
namespace Sys2Proof.Machine

/-! ### The failure of the root (R19) -/

/-- Where the oscillator is supplied the mode is not DORMANT (R74). -/
theorem State.clocksOn_awake {s : State} (h : s.clocksOn = true) : s.mode ≠ 1 := by
  have : 2 ≤ s.mode := of_decide_eq_true h
  omega

theorem State.rootXo_awake {s : State} (h : s.rootXo = true) : s.mode ≠ 1 :=
  State.clocksOn_awake (Bool.and_eq_true_iff.1 h).1

/-- The status bits and the stop of the link PLL at a root failure. -/
def rootFailStatus : Prog :=
  blk [set CLK_STATUS_HOLDOVER 1, set CLK_STATUS_MPLL_LOCK 0, set CLK_STATUS_ROOT_RC 1, clkEng fun e => { e with lpllOn := false },
    set CLK_STATUS_LPLL_LOCK 0]

/-- The clock part of a root failure: the status bits, the count and the event flag. -/
def rootFailClock : Prog := blk [rootFailStatus, incSat CLK_FAIL_CNT_ROOT_FAILS, set CLK_EVT_RAW_ROOT_FAIL 1]

theorem rootFailStatus_mode (s : State) : (rootFailStatus.run s).mode = s.mode := by
  unfold rootFailStatus
  exact (fixes_blk_cons (fixes_f_set (by decide) _) (fixes_blk_cons (fixes_f_set (by decide) _) (fixes_blk_cons (fixes_f_set (by decide) _)
    (fixes_blk_cons (fixes_f_eng _) (fixes_blk_cons (fixes_f_set (by decide) _) fixes_blk_nil)))) : Prog.Fixes (State.f · MODE_CUR_MODE) _) s

theorem rootFail_run (s : State) : rootFail.run s =
    rtcClocks.run (rootLost.run ((incSat CLK_FAIL_CNT_ROOT_FAILS).run (portsDown.run (rootFailStatus.run s)))) := by
  rw [rootFail, rootFailStatus, lpllStop]
  repeat rw [run_blk_cons]
  repeat rw [run_blk_nil]

theorem rootFailClock_eq (s : State) : rootFailClock.run s =
    (set CLK_EVT_RAW_ROOT_FAIL 1).run ((incSat CLK_FAIL_CNT_ROOT_FAILS).run (rootFailStatus.run s)) := by
  rw [rootFailClock]
  repeat rw [run_blk_cons]
  rw [run_blk_nil]

/-- A root failure does to the clocks what its straight line says; the ports, the messages and the calendar leave them alone. -/
theorem sameClock_rootFail {s : State} (h : s.mode ≠ 1) : SameClock (rootFailClock.run s) (rootFail.run s) := by
  have hm : (rootFailStatus.run s).mode ≠ 1 := (rootFailStatus_mode s).symm ▸ h
  have h1 := (sameClock_portsDown hm).incSat (x := CLK_FAIL_CNT_ROOT_FAILS) rfl
  have hm1 := h1.awake (Eq.symm (mode_incSat_off (x := CLK_FAIL_CNT_ROOT_FAILS) (by decide) _) ▸ hm)
  have h2 := (h1.set (x := CLK_EVT_RAW_ROOT_FAIL) rfl 1).trans (sameClock_rootLost hm1)
  have hm2 := (sameClock_rootLost hm1).awake (Eq.symm (mode_set_off (x := CLK_EVT_RAW_ROOT_FAIL) (by decide) _ _) ▸ hm1)
  rw [rootFail_run, rootFailClock_eq]
  exact h2.trans (sameClock_of ClockOnly.rtcClocks hm2)

/-- What a root failure leaves (R19). -/
theorem rootFailClock_run (s : State) : (rootFailClock.run s).b CLK_STATUS_HOLDOVER = true ∧
    (rootFailClock.run s).b CLK_STATUS_MPLL_LOCK = false ∧ (rootFailClock.run s).b CLK_STATUS_ROOT_RC = true ∧
    (rootFailClock.run s).b CLK_STATUS_LPLL_LOCK = false ∧
    (rootFailClock.run s).f CLK_FAIL_CNT_ROOT_FAILS = satInc CLK_FAIL_CNT_ROOT_FAILS.wd (s.f CLK_FAIL_CNT_ROOT_FAILS) ∧
    (rootFailClock.run s).b CLK_EVT_RAW_ROOT_FAIL = true ∧ (rootFailClock.run s).eng.clk.lpllOn = false := by
  unfold rootFailClock rootFailStatus
  simp (disch := decide) only [run_blk_cons, run_blk_nil, b_set_true, b_set_false, b_set_apart, b_incSat_apart, f_set_apart, f_incSat_same,
    b_clkEng, f_clkEng, clk_set, clk_incSat, clk_clkEng, true_and]

/-- ROOT_MISSING_EDGE leaves the clock part of the failure: the roster has no share in it. -/
theorem sameClock_rootMissingEdge {s : State} (h : s.rootXo = true) :
    SameClock (rootFailClock.run s) ((Prog.seq rootMissing rosterSync).run s) := by
  have hf := sameClock_rootFail (State.rootXo_awake h)
  have hm : (rootFailClock.run s).mode ≠ 1 := by
    rw [rootFailClock_eq, mode_set_off (by decide), mode_incSat_off (by decide), rootFailStatus_mode]
    exact State.rootXo_awake h
  rw [run_seq, rootMissing, run_whenS_pos h]
  exact hf.trans (sameClock_of ClockOnly.rosterSync (hf.awake hm))

/-- ROOT_MISSING_EDGE: every status bit, the count and the flag of R19. -/
theorem rootMissingEdge_post {s t : State} (ht : SameClock (rootFailClock.run s) t) : t.b CLK_STATUS_HOLDOVER = true ∧
    t.b CLK_STATUS_MPLL_LOCK = false ∧ t.b CLK_STATUS_ROOT_RC = true ∧ t.b CLK_STATUS_LPLL_LOCK = false ∧
    t.f CLK_FAIL_CNT_ROOT_FAILS = satInc CLK_FAIL_CNT_ROOT_FAILS.wd (s.f CLK_FAIL_CNT_ROOT_FAILS) ∧
    t.b CLK_EVT_RAW_ROOT_FAIL = true ∧ t.eng.clk.lpllOn = false := by
  rw [ht.b rfl, ht.b rfl, ht.b rfl, ht.b rfl, ht.f rfl, ht.b rfl, ht.clk]
  exact rootFailClock_run s

/-! ### The root monitor (R19, R27) -/

/-- What a measurement window leaves in CLK_MON_MEAS. -/
def rootMeasClock (freq : Nat) : Prog := .dyn fun s =>
  blk [setB CLK_MON_MEAS_REF_XO s.eng.clk.lfXo, set CLK_MON_MEAS_VALID 1, setSat CLK_MON_MEAS_FREQ freq]

theorem monLimit_le (xo : Bool) (tol : Nat) : monLimit xo tol ≤ 160000 := by
  unfold monLimit
  split
  · rcases tol with _ | _ | _ | _ | n <;> simp [nth]
  · exact Nat.le_refl _

/-- A reading within the monitor's limit is recorded, and nothing else is done. -/
theorem rootMeasured_within {freq : Nat} {s : State} (hc : s.clocksOn = true)
    (h1 : monLimit s.eng.clk.lfXo (s.f CLK_ROOT_CFG_MON_TOL) + 4000000 ≥ freq)
    (h2 : freq + monLimit s.eng.clk.lfXo (s.f CLK_ROOT_CFG_MON_TOL) ≥ 4000000) :
    (rootMeasured freq).run s = (rootMeasClock freq).run s := by
  have hn : (decide (freq + monLimit s.eng.clk.lfXo (s.f CLK_ROOT_CFG_MON_TOL) < 4000000) ||
      decide (4000000 + monLimit s.eng.clk.lfXo (s.f CLK_ROOT_CFG_MON_TOL) < freq)) = false := by
    rw [Bool.or_eq_false_iff, decide_eq_false_iff_not, decide_eq_false_iff_not]
    omega
  rw [rootMeasured, run_dyn, run_whenB, if_pos hc, rootMeasClock, run_dyn]
  repeat rw [run_blk_cons]
  rw [run_whenB, hn]
  rfl

theorem rootMeasClock_eq {freq : Nat} (hf : freq < 2 ^ 22) (s : State) : (rootMeasClock freq).run s =
    (set CLK_MON_MEAS_FREQ freq).run ((set CLK_MON_MEAS_VALID 1).run ((set CLK_MON_MEAS_REF_XO (b2n s.eng.clk.lfXo)).run s)) := by
  rw [rootMeasClock, run_dyn, setSat, if_pos (show freq < 2 ^ CLK_MON_MEAS_FREQ.wd from hf), setB_eq]
  repeat rw [run_blk_cons]
  rw [run_blk_nil]

theorem rootMeasClock_run {freq : Nat} (hf : freq < 2 ^ 22) (s : State) :
    ((rootMeasClock freq).run s).b CLK_MON_MEAS_VALID = true ∧ ((rootMeasClock freq).run s).b CLK_MON_MEAS_REF_XO = s.eng.clk.lfXo ∧
    ((rootMeasClock freq).run s).f CLK_MON_MEAS_FREQ = freq ∧ ((rootMeasClock freq).run s).reg CLK_STATUS = s.reg CLK_STATUS ∧
    ((rootMeasClock freq).run s).reg CLK_FAIL_CNT = s.reg CLK_FAIL_CNT ∧ ((rootMeasClock freq).run s).mode = s.mode := by
  have hfit : ∀ u, ((set CLK_MON_MEAS_FREQ freq).run u).f CLK_MON_MEAS_FREQ = freq := f_set_fit (by decide) hf
  rw [rootMeasClock_eq hf]
  simp (disch := decide) only [b_set_apart, b_set_true, b_set_b2n, hfit, reg_set_ne, mode_set_off, and_self]

/-- ROOT_MEAS_WINDOW_END within the limit: the reading is shown, and the status and the counts stay (R19, R27). -/
theorem rootMeasWindowEnd_post {freq : Nat} {s : State} (hc : s.clocksOn = true)
    (h1 : monLimit s.eng.clk.lfXo (s.f CLK_ROOT_CFG_MON_TOL) + 4000000 ≥ freq)
    (h2 : freq + monLimit s.eng.clk.lfXo (s.f CLK_ROOT_CFG_MON_TOL) ≥ 4000000) {t : State}
    (ht : t = (Prog.seq (rootMeasured freq) rosterSync).run s) : t.b CLK_MON_MEAS_VALID = true ∧
    t.b CLK_MON_MEAS_REF_XO = s.eng.clk.lfXo ∧ t.f CLK_MON_MEAS_FREQ = freq ∧ t.reg CLK_STATUS = s.reg CLK_STATUS ∧
    t.reg CLK_FAIL_CNT = s.reg CLK_FAIL_CNT := by
  have hf : freq < 2 ^ 22 := by
    have := monLimit_le s.eng.clk.lfXo (s.f CLK_ROOT_CFG_MON_TOL)
    omega
  obtain ⟨hv, hx, hq, hst, hcnt, hm⟩ := rootMeasClock_run hf s
  have hmode : ((rootMeasClock freq).run s).mode ≠ 1 := hm.symm ▸ State.clocksOn_awake hc
  have hsame := sameClock_of ClockOnly.rosterSync hmode
  rw [run_seq, rootMeasured_within hc h1 h2] at ht
  rw [← ht] at hsame
  exact ⟨(hsame.b rfl).trans hv, (hsame.b rfl).trans hx, (hsame.f rfl).trans hq, (hsame.reg _ rfl).trans hst, (hsame.reg _ rfl).trans hcnt⟩

/-! ### Reacquisition, lock, and the end of the start (R16, R19, R20, R591) -/

theorem mpllReacquired_run {s : State} (hc : s.clocksOn = true) (hh : s.b CLK_STATUS_HOLDOVER = true) :
    mpllReacquired.run s = (set CLK_STATUS_MPLL_LOCK 1).run ((set CLK_STATUS_HOLDOVER 0).run s) := by
  rw [mpllReacquired, run_whenS_pos (c := fun s => s.clocksOn && s.b CLK_STATUS_HOLDOVER) (by rw [hc, hh]; rfl), run_seq]

theorem mpllReacquired_post {s : State} (hc : s.clocksOn = true) (hh : s.b CLK_STATUS_HOLDOVER = true) :
    (mpllReacquired.run s).b CLK_STATUS_HOLDOVER = false ∧ (mpllReacquired.run s).b CLK_STATUS_MPLL_LOCK = true ∧
    (mpllReacquired.run s).b CLK_STATUS_ROOT_RC = s.b CLK_STATUS_ROOT_RC := by
  rw [mpllReacquired_run hc hh]
  simp (disch := decide) only [b_set_apart, b_set_true, b_set_false, and_self]

theorem sameBut_mpllReacquired (s : State) : sameBut [CLK_STATUS] [] s (mpllReacquired.run s.linksQuiet) := by
  refine sameBut_of_regFree (p := mpllReacquired) (fun a ha _ => ?_) (fun h => fixes_whenS (fixes_seq (h.set _ _) (h.set _ _))) s
  exact fixes_whenS (fixes_seq (fixes_reg_set (Fld.reg_ne ha (by decide)) _) (fixes_reg_set (Fld.reg_ne ha (by decide)) _))

/-- The step of bring-up after the clocks touches RST_BOOT alone among the registers (R104). -/
theorem fixes_reg_bootLook {a : Nat} (h : RST_BOOT ≠ a) : bootLook.Fixes (State.reg · a) :=
  fixes_dyn fun _ => fixes_whenB (fixes_ite (fixes_seq (fixes_reg_set h _) (fixes_reg_eng _)) (fixes_reg_set h _))

theorem bootLook_clk (s : State) : (bootLook.run s).eng.clk = s.eng.clk :=
  (fixes_dyn fun _ => fixes_whenB (fixes_ite (fixes_seq (fun _ => rfl) (fun _ => rfl)) (fun _ => rfl)) : bootLook.Fixes fun s => s.eng.clk) s

/-- What follows the clocks' part `p` of bring-up, the epoch unit and the step, touches no register but RST_BOOT. -/
theorem bootClock_reg (p : Prog) {a : Nat} (h : RST_BOOT ≠ a) (s : State) : ((bootClock p).run s).reg a = (p.run s).reg a := by
  rw [bootClock, run_dyn]
  repeat rw [run_blk_cons]
  rw [run_blk_nil, (fixes_reg_bootLook h).eq, (fixes_whenB (fixes_reg_eng _) : Prog.Fixes (State.reg · a) (whenB _ epochGo)).eq]

theorem bootClock_clk (p : Prog) (s : State) : ((bootClock p).run s).eng.clk = (p.run s).eng.clk := by
  rw [bootClock, run_dyn]
  repeat rw [run_blk_cons]
  rw [run_blk_nil, bootLook_clk, (fixes_whenB (fun _ => rfl) : Prog.Fixes (fun s => s.eng.clk) (whenB _ epochGo)).eq]

theorem bootClock_b (p : Prog) {y : Fld} (h : RST_BOOT ≠ y.reg) (s : State) : ((bootClock p).run s).b y = (p.run s).b y := by
  unfold State.b State.f
  rw [bootClock_reg p h]

/-- The clocks when the wait of R591 ends, on the root or on the HFRC. -/
def startEndsClock (onRoot : Bool) : Prog :=
  blk [set CLK_STATUS_MPLL_LOCK 1, set PHC_STATUS_CLK_RC 0, setB CLK_STATUS_ROOT_RC (!onRoot), clkEng fun e => { e with
      startWait := false
      lpllOn := onRoot }]

theorem startEndsClock_eq (onRoot : Bool) (s : State) : (startEndsClock onRoot).run s =
    (clkEng fun e => { e with startWait := false, lpllOn := onRoot }).run ((set CLK_STATUS_ROOT_RC (b2n !onRoot)).run
      ((set PHC_STATUS_CLK_RC 0).run ((set CLK_STATUS_MPLL_LOCK 1).run s))) := by
  rw [startEndsClock]
  repeat rw [run_blk_cons]
  rw [run_blk_nil, setB_eq]

theorem startEndsClock_run (onRoot : Bool) (s : State) : ((startEndsClock onRoot).run s).b CLK_STATUS_MPLL_LOCK = true ∧
    ((startEndsClock onRoot).run s).b CLK_STATUS_ROOT_RC = !onRoot ∧ ((startEndsClock onRoot).run s).b PHC_STATUS_CLK_RC = false ∧
    ((startEndsClock onRoot).run s).eng.clk.startWait = false ∧ ((startEndsClock onRoot).run s).eng.clk.lpllOn = onRoot ∧
    ((startEndsClock onRoot).run s).mode = s.mode := by
  rw [startEndsClock_eq]
  simp (disch := decide) only [b_clkEng, b_set_apart, b_set_true, b_set_false, b_set_b2n, clk_clkEng, true_and]
  exact (mode_set_off (by decide) _ _).trans ((mode_set_off (by decide) _ _).trans (mode_set_off (by decide) _ _))

theorem startEnds_run (onRoot : Bool) (s : State) : (startEnds onRoot).run s =
    rtcClocks.run ((whenB (!onRoot) rootLost).run ((startEndsClock onRoot).run s)) := by
  rw [startEnds, startEndsClock]
  repeat rw [run_blk_cons]
  repeat rw [run_blk_nil]

/-- The main PLL locks on the root at the end of a start (R16, R591). -/
theorem mpllLock_post {s : State} (h : s.eng.clk.startWait = true) {t : State} (ht : t = (bootClock mpllLock).run s) :
    t.b CLK_STATUS_MPLL_LOCK = true ∧ t.b CLK_STATUS_ROOT_RC = false ∧ t.b PHC_STATUS_CLK_RC = false ∧ t.eng.clk.startWait = false ∧
    t.eng.clk.lpllOn = true := by
  have hrun : mpllLock.run s = rtcClocks.run ((startEndsClock true).run s) := by
    rw [mpllLock, run_ifS, if_pos h, startEnds_run]
    rfl
  obtain ⟨hl, hr, hp, hw, ho, -⟩ := startEndsClock_run true s
  have hb : ∀ y : Fld, RST_BOOT ≠ y.reg → RTC_STATUS ≠ y.reg → t.b y = ((startEndsClock true).run s).b y := by
    intro y h1 h2
    rw [ht, bootClock_b _ h1, hrun, rtcClocks_b h2]
  have hc : t.eng.clk = ((startEndsClock true).run s).eng.clk := by rw [ht, bootClock_clk, hrun, rtcClocks_clk]
  rw [hb _ (by decide) (by decide), hb _ (by decide) (by decide), hb _ (by decide) (by decide), hc]
  exact ⟨hl, hr, hp, hw, ho⟩

/-- The wait of 20 ms ends without lock: the main PLL is on the HFRC, and the root counts as failed (R591). -/
theorem rootStartTimeout_post {s : State} (h : s.eng.clk.startWait = true) (hm : s.mode ≠ 1) {t : State}
    (ht : t = (bootClock rootStartTimeout).run s) : t.b CLK_STATUS_MPLL_LOCK = true ∧ t.b CLK_STATUS_ROOT_RC = true ∧
    t.b CLK_EVT_RAW_ROOT_FAIL = true ∧ t.eng.clk.startWait = false ∧ t.eng.clk.lpllOn = false := by
  have hrun : rootStartTimeout.run s = rtcClocks.run (rootLost.run ((startEndsClock false).run s)) := by
    rw [rootStartTimeout, run_whenS_pos (c := fun s => s.eng.clk.startWait) h, startEnds_run]
    rfl
  obtain ⟨hl, hr, -, hw, ho, hmode⟩ := startEndsClock_run false s
  have hlost := sameClock_rootLost (hmode.symm ▸ hm)
  have hb : ∀ y : Fld, pageOf y.reg = pgCLK → t.b y = ((set CLK_EVT_RAW_ROOT_FAIL 1).run ((startEndsClock false).run s)).b y := by
    intro y hy
    have h1 : RST_BOOT ≠ y.reg := fun e => absurd (e ▸ hy) (by decide)
    have h2 : RTC_STATUS ≠ y.reg := fun e => absurd (e ▸ hy) (by decide)
    rw [ht, bootClock_b _ h1, hrun, rtcClocks_b h2, hlost.b hy]
  have hc : t.eng.clk = ((startEndsClock false).run s).eng.clk := by
    rw [ht, bootClock_clk, hrun, rtcClocks_clk, hlost.clk, clk_set]
  rw [hb _ rfl, hb _ rfl, hb _ rfl, hc, b_set_apart (by decide), b_set_apart (by decide), b_set_true (by decide) (by decide)]
  exact ⟨hl, hr, rfl, hw, ho⟩

/-! ### Lock and loss of lock of the two PLLs (R16, R24, R106) -/

theorem lpllLock_run {s : State} (hh : s.b RST_BOOT_HALTED = false) (ho : s.eng.clk.lpllOn = true) (hx : s.rootXo = true) (hm : 3 ≤ s.mode) :
    lpllLock.run s = (set CLK_STATUS_LPLL_LOCK 1).run s := by
  have hc : (!s.b RST_BOOT_HALTED && s.eng.clk.lpllOn && s.rootXo && decide (3 ≤ s.mode)) = true := by
    simp only [hh, ho, hx, hm, decide_true, Bool.not_false, Bool.and_self]
  rw [lpllLock, run_whenS_pos (c := fun s => !s.b RST_BOOT_HALTED && s.eng.clk.lpllOn && s.rootXo && decide (3 ≤ s.mode)) hc]

theorem sameBut_lpllLock (s : State) : sameBut [CLK_STATUS] [] s (lpllLock.run s.linksQuiet) :=
  sameBut_of_regFree (p := lpllLock) (fun _ ha _ => fixes_whenS (fixes_reg_set (Fld.reg_ne ha (by decide)) _))
    (fun h => fixes_whenS (h.set _ _)) s

theorem mpllUnlock_run {s : State} (hx : s.rootXo = true) (hl : s.b CLK_STATUS_MPLL_LOCK = true) :
    mpllUnlock.run s = (event CLK_EVT_RAW_MPLL_UNLOCK).run ((set CLK_STATUS_MPLL_LOCK 0).run s) := by
  rw [mpllUnlock, run_whenS_pos (c := fun s => s.rootXo && s.b CLK_STATUS_MPLL_LOCK) (by rw [hx, hl]; rfl), run_seq]

/-- The main PLL loses lock: its bit falls and its event flag stands (R24). -/
theorem mpllUnlock_post {s : State} (hx : s.rootXo = true) (hl : s.b CLK_STATUS_MPLL_LOCK = true) :
    (mpllUnlock.run s).b CLK_STATUS_MPLL_LOCK = false ∧ (mpllUnlock.run s).b CLK_EVT_RAW_MPLL_UNLOCK = true := by
  rw [mpllUnlock_run hx hl]
  exact ⟨((fixes_f_event (by decide) (by decide)).b _).trans (b_set_false (by decide) s),
    event_flag _ (by decide) (by decide) (by decide) (by decide) _⟩

theorem sameBut_mpllUnlock (s : State) : sameBut (CLK_EVT_RAW :: wakeRegs) [pgMODE] s (mpllUnlock.run s.linksQuiet) := by
  refine sameBut_of_regFree (p := mpllUnlock) (fun a ha hm => ?_) (fun h => fixes_whenS (fixes_seq (h.set _ _) (h.event _))) s
  have hw : a ∉ wakeRegs := fun h => ha (List.mem_cons_of_mem _ h)
  exact fixes_whenS (fixes_seq (fixes_reg_set (Fld.reg_ne ha (by decide)) _)
    (fixes_reg_event (Fld.reg_ne ha (by decide)) (fun e => hm (List.mem_singleton.2 e)) hw))

/-- A port after the loss of the link PLL: from UP to SEEK (R342). -/
def unlockedPort (v : Nat) : Nat := if v = 4 then 2 else v

/-- The loss of the link PLL at port `p`. -/
def portUnlock (p : Nat) : Prog := whenS (fun s => s.portUp p) (portLost p 2 true)

theorem portsUnlock_run (s : State) : portsUnlock.run s = (portUnlock 1).run ((portUnlock 0).run s) := by
  rw [portsUnlock, upTo, show List.range 2 = [0, 1] from rfl, List.map_cons, List.map_cons, List.map_nil, run_blk_cons, run_blk_cons,
    run_blk_nil]
  rfl

theorem port_portTo_same (p st : Nat) (hst : st < 8) (s : State) : ((portTo p st).run s).port p = st := by
  have hv : ((set (RING_P_STATUS_STATE p) st).run s).port p = st := f_set_fit (x := RING_P_STATUS_STATE p) (by simp [RING_P_STATUS_STATE]) hst s
  exact ((fixes_whenB (fixes_dyn fun _ => fun _ => rfl) : Prog.Fixes (State.port · p) _).eq _).trans hv

theorem port_portTo_ne {p q : Nat} (h : p ≠ q) (st : Nat) (s : State) : ((portTo p st).run s).port q = s.port q := by
  have hne : (RING_P_STATUS_STATE p).reg ≠ (RING_P_STATUS_STATE q).reg := by
    simp only [RING_P_STATUS_STATE, RING_P_STATUS]
    omega
  have hv : ((set (RING_P_STATUS_STATE p) st).run s).port q = s.port q := f_set_reg hne st s
  exact ((fixes_whenB (fixes_dyn fun _ => fun _ => rfl) : Prog.Fixes (State.port · q) _).eq _).trans hv

theorem port_portLost {p q : Nat} (hq : q < 2) (st : Nat) (hst : st < 8) (speak : Bool) (s : State) :
    ((portLost p st speak).run s).port q = if q = p then st else s.port q := by
  rw [portLost_run]
  refine (clockOnly_port hq _).portLostTail p speak s _ ?_
  split
  · next e => rw [e, port_portTo_same p st hst]
  · next e => rw [port_portTo_ne (Ne.symm e)]

theorem port_portUnlock {p q : Nat} (hq : q < 2) (s : State) :
    ((portUnlock p).run s).port q = if q = p then unlockedPort (s.port q) else s.port q := by
  rw [portUnlock, run_whenS]
  by_cases hu : s.port p = 4
  · rw [if_pos (show s.portUp p = true from beq_iff_eq.2 hu), port_portLost hq 2 (by decide)]
    split
    · next e => rw [e, unlockedPort, if_pos hu]
    · rfl
  · rw [if_neg (fun h : s.portUp p = true => hu (beq_iff_eq.1 h))]
    split
    · next e => rw [e, unlockedPort, if_neg hu]
    · rfl

theorem port_portsUnlock (s : State) : (portsUnlock.run s).port 0 = unlockedPort (s.port 0) ∧
    (portsUnlock.run s).port 1 = unlockedPort (s.port 1) := by
  rw [portsUnlock_run]
  simp [port_portUnlock]

theorem sameClock_portUnlock {p : Nat} (hp : p < 2) {s : State} (h : s.mode ≠ 1) : SameClock s ((portUnlock p).run s) := by
  have hP := clockOnly_sameClock h
  exact holds_whenS (hP.portLost (fun t ht => ht.trans (sameClock_portState hp 2 t)) true) s (SameClock.refl s)

theorem lpllUnlock_run {s : State} (hx : s.rootXo = true) (hl : s.b CLK_STATUS_LPLL_LOCK = true) :
    lpllUnlock.run s = portsUnlock.run ((event CLK_EVT_RAW_LPLL_UNLOCK).run ((set CLK_STATUS_LPLL_LOCK 0).run s)) := by
  rw [lpllUnlock, run_whenS_pos (c := fun s => s.rootXo && s.b CLK_STATUS_LPLL_LOCK) (by rw [hx, hl]; rfl)]
  repeat rw [run_blk_cons]
  rw [run_blk_nil]

/-- The link PLL loses lock: its bit falls, its event flag stands, the main PLL's bit stays, and each port in UP is in SEEK (R24, R342). -/
theorem lpllUnlock_post {s : State} (hx : s.rootXo = true) (hl : s.b CLK_STATUS_LPLL_LOCK = true) {t : State}
    (ht : t = (Prog.seq lpllUnlock rosterSync).run s) : t.b CLK_STATUS_LPLL_LOCK = false ∧ t.b CLK_EVT_RAW_LPLL_UNLOCK = true ∧
    t.b CLK_STATUS_MPLL_LOCK = s.b CLK_STATUS_MPLL_LOCK ∧ t.port 0 = unlockedPort (s.port 0) ∧ t.port 1 = unlockedPort (s.port 1) := by
  obtain ⟨u, hu⟩ : ∃ u, u = (set CLK_STATUS_LPLL_LOCK 0).run s := ⟨_, rfl⟩
  have hm0 : u.mode ≠ 1 := by
    rw [hu, mode_set_off (by decide)]
    exact State.rootXo_awake hx
  obtain ⟨v, hv⟩ : ∃ v, v = (event CLK_EVT_RAW_LPLL_UNLOCK).run u := ⟨_, rfl⟩
  have he : SameClock ((set CLK_EVT_RAW_LPLL_UNLOCK 1).run u) v := hv ▸ sameClock_event (by decide) hm0
  have hm1 : v.mode ≠ 1 := he.awake ((mode_set_off (x := CLK_EVT_RAW_LPLL_UNLOCK) (by decide) 1 u).symm ▸ hm0)
  have hp0 := sameClock_portUnlock (p := 0) (by decide) hm1
  have hp1 := sameClock_portUnlock (p := 1) (by decide) (hp0.awake hm1)
  have hp := hp0.trans hp1
  have hr := sameClock_of ClockOnly.rosterSync (hp.awake hm1)
  rw [run_seq, lpllUnlock_run hx hl, ← hu, ← hv] at ht
  have hall := he.trans (hp.trans hr)
  rw [← portsUnlock_run, ← ht] at hall
  have hport : ∀ q, q < 2 → v.port q = s.port q := fun q hq => by
    rw [hv]
    exact (clockOnly_port hq (s.port q)).event (fun w hw => (port_set_ne hq (by decide) (by decide) 1 w).trans hw) u
      (hu ▸ port_set_ne hq (by decide) (by decide) 0 s)
  have hsync : ∀ q, q < 2 → t.port q = (portsUnlock.run v).port q := fun q hq => by
    rw [ht]
    exact (clockOnly_port hq _).rosterSync _ rfl
  rw [hall.b rfl, hall.b rfl, hall.b rfl, hsync 0 (by decide), hsync 1 (by decide), (port_portsUnlock v).1, (port_portsUnlock v).2,
    hport 0 (by decide), hport 1 (by decide), hu]
  simp (disch := decide) only [b_set_apart, b_set_true, b_set_false, and_self]

/-- Settles O5, clause by clause from what each row's program leaves of the clock part. -/
theorem rootAndLinkClock : Obligations.rootAndLinkClock := by
  refine ⟨fun s h => ⟨_, rfl, ?_⟩, fun freq s hc h1 h2 => ⟨_, rfl, ?_⟩, fun s hc hh => ⟨_, rfl, ?_⟩, fun s h => ⟨_, rfl, ?_⟩,
    fun s h hm => ⟨_, rfl, ?_⟩, fun s hh ho hx hm => ⟨_, rfl, ?_⟩, fun s hx hl => ⟨_, rfl, ?_⟩, fun s hx hl => ⟨_, rfl, ?_⟩⟩
  · exact rootMissingEdge_post (s := s.linksQuiet) (sameClock_rootMissingEdge h)
  · exact rootMeasWindowEnd_post (s := s.linksQuiet) hc h1 h2 rfl
  · obtain ⟨h1, h2, h3⟩ := mpllReacquired_post (s := s.linksQuiet) hc hh
    exact ⟨h1, h2, h3, sameBut_mpllReacquired s⟩
  · exact mpllLock_post (s := s.linksQuiet) h rfl
  · exact rootStartTimeout_post (s := s.linksQuiet) h hm rfl
  · refine ⟨?_, ?_, sameBut_lpllLock s⟩
    · rw [lpllLock_run (s := s.linksQuiet) hh ho hx hm, b_set_true (by decide) (by decide)]
    · rw [lpllLock_run (s := s.linksQuiet) hh ho hx hm, b_set_apart (by decide)]
      rfl
  · obtain ⟨h1, h2⟩ := mpllUnlock_post (s := s.linksQuiet) hx hl
    exact ⟨h1, h2, sameBut_mpllUnlock s⟩
  · exact lpllUnlock_post (s := s.linksQuiet) hx hl rfl

end Sys2Proof.Machine
end

section
/-!
PROOF. The return to the crystal, the LF clock and steering (R17, R20, R21).
-/
namespace Sys2Proof.Machine

/-! ### The return to the crystal (R20) -/

theorem cmdWrite_clk (src : Src) (w : Word) : cmdWrite src CLK_CMD w = clkCmd (CLK_CMD_ROOT_RETRY.of w == 1) := by
  simp [cmdWrite]

theorem retry_of_keyed (key : BitVec 16) : CLK_CMD_ROOT_RETRY.of (keyed key (2 ^ CLK_CMD_ROOT_RETRY.lo)) = 1 :=
  getBits_keyed key _ _ _ (by decide) (by decide)

theorem rowAt_clkCmd : ∃ r, rowAt CLK_CMD = some r ∧ r.acc = .wk := ⟨_, rfl, rfl⟩

theorem rootRetry_run {s : State} (hc : s.clocksOn = true) (hr : s.b CLK_STATUS_ROOT_RC = true) (hw : s.eng.clk.startWait = false) :
    rootRetry.run s = (clkEng fun e => { e with retry := true }).run s := by
  have hcond : (s.clocksOn && s.b CLK_STATUS_ROOT_RC && !s.eng.clk.startWait) = true := by rw [hc, hr, hw]; rfl
  rw [rootRetry, run_whenS_pos (c := fun s => s.clocksOn && s.b CLK_STATUS_ROOT_RC && !s.eng.clk.startWait) hcond]

theorem writeEffect_rootRetry (src : Src) (key : BitVec 16) :
    writeEffect src CLK_CMD (keyed key (2 ^ CLK_CMD_ROOT_RETRY.lo)) = rootRetry := by
  obtain ⟨r, hr, hk⟩ := rowAt_clkCmd
  rw [writeEffect_cmd hr hk, cmdWrite_clk, retry_of_keyed]
  rfl

/-- A retry command that is taken starts the attempt (R20). -/
theorem rootRetry_post {s : State} {src : Src} {key : BitVec 16}
    (h : s.takes src CLK_CMD (keyed key (2 ^ CLK_CMD_ROOT_RETRY.lo)) = true) (hc : s.clocksOn = true)
    (hr : s.b CLK_STATUS_ROOT_RC = true) (hw : s.eng.clk.startWait = false) :
    ((access src CLK_CMD (keyed key (2 ^ CLK_CMD_ROOT_RETRY.lo))).run s).outcome = .ok ∧
    ((access src CLK_CMD (keyed key (2 ^ CLK_CMD_ROOT_RETRY.lo))).run s).eng.clk.retry = true := by
  obtain ⟨x, hx⟩ := rawDrop_run CLK_CMD ((Act.outc .ok).apply s)
  rw [run_access_takes h, writeEffect_rootRetry, hx, rootRetry_run (by exact hc) (by exact hr) (by exact hw)]
  exact ⟨rfl, rfl⟩

theorem sameBut_rootRetry {s : State} {src : Src} {key : BitVec 16}
    (h : s.takes src CLK_CMD (keyed key (2 ^ CLK_CMD_ROOT_RETRY.lo)) = true) :
    sameBut [] [] s ((access src CLK_CMD (keyed key (2 ^ CLK_CMD_ROOT_RETRY.lo))).run s.linksQuiet) := by
  refine sameBut_access_takes h (fun b _ _ => ?_) fun hg => ?_
  · rw [writeEffect_rootRetry]
    exact fixes_whenS (fixes_reg_eng _)
  · rw [writeEffect_rootRetry]
    exact fixes_whenS (hg.engine _)

theorem retrySuccess_run {s : State} (h : s.eng.clk.retry = true) : retrySuccess.run s =
    rtcClocks.run ((set CLK_STATUS_MPLL_LOCK 0).run ((set CLK_STATUS_HOLDOVER 1).run ((set CLK_STATUS_ROOT_RC 0).run
      ((clkEng fun e => { e with retry := false, lpllOn := true }).run s)))) := by
  rw [retrySuccess, run_whenS_pos (c := fun s => s.eng.clk.retry) h]
  repeat rw [run_blk_cons]
  rw [run_blk_nil]

/-- The attempt succeeds: the reference is the crystal again, and the main PLL slews to it in holdover (R20). -/
theorem retrySuccess_post {s : State} (h : s.eng.clk.retry = true) : (retrySuccess.run s).eng.clk.retry = false ∧
    (retrySuccess.run s).eng.clk.lpllOn = true ∧ (retrySuccess.run s).b CLK_STATUS_ROOT_RC = false ∧
    (retrySuccess.run s).b CLK_STATUS_HOLDOVER = true ∧ (retrySuccess.run s).b CLK_STATUS_MPLL_LOCK = false := by
  rw [retrySuccess_run h, rtcClocks_clk, rtcClocks_b (by decide), rtcClocks_b (by decide), rtcClocks_b (by decide)]
  simp (disch := decide) only [b_set_apart, b_set_true, b_set_false, clk_set, clk_clkEng, and_self]

theorem sameBut_retrySuccess (s : State) : sameBut [CLK_STATUS, RTC_STATUS] [] s (retrySuccess.run s.linksQuiet) := by
  refine sameBut_of_regFree (p := retrySuccess) (fun a ha _ => fixes_whenS ?_) (fun h => fixes_whenS ?_) s
  · exact fixes_blk_cons (fixes_reg_eng _) (fixes_blk_cons (fixes_reg_set (Fld.reg_ne ha (by decide)) _)
      (fixes_blk_cons (fixes_reg_set (Fld.reg_ne ha (by decide)) _) (fixes_blk_cons (fixes_reg_set (Fld.reg_ne ha (by decide)) _)
      (fixes_blk_cons (fixes_reg_rtcClocks fun e => ha (by simp [← e])) fixes_blk_nil))))
  · exact fixes_blk_cons (h.engine _) (fixes_blk_cons (h.set _ _) (fixes_blk_cons (h.set _ _) (fixes_blk_cons (h.set _ _)
      (fixes_blk_cons h.rtcClocks fixes_blk_nil))))

/-- The attempt fails: it is over, its event flag stands, and the root stays on the HFRC (R20). -/
theorem retryFail_post {s : State} (h : s.eng.clk.retry = true) (hc : s.clocksOn = true) : (retryFail.run s).eng.clk.retry = false ∧
    (retryFail.run s).b CLK_EVT_RAW_ROOT_FAIL = true ∧ (retryFail.run s).b CLK_STATUS_ROOT_RC = s.b CLK_STATUS_ROOT_RC := by
  have hm : ((clkEng fun e => { e with retry := false }).run s).mode ≠ 1 := State.clocksOn_awake hc
  have he := sameClock_event (x := CLK_EVT_RAW_ROOT_FAIL) (by decide) hm
  rw [retryFail, run_whenS_pos (c := fun s => s.eng.clk.retry) h, run_seq, he.clk, he.b rfl, he.b rfl]
  exact ⟨rfl, b_set_true (by decide) (by decide) _, b_set_apart (by decide) _ _⟩

theorem sameBut_retryFail (s : State) : sameBut (CLK_EVT_RAW :: wakeRegs) [pgMODE] s (retryFail.run s.linksQuiet) := by
  refine sameBut_of_regFree (p := retryFail) (fun a ha hm => ?_) (fun h => fixes_whenS (fixes_seq (h.engine _) (h.event _))) s
  exact fixes_whenS (fixes_seq (fixes_reg_eng _) (fixes_reg_event (Fld.reg_ne ha (by decide)) (fun e => hm (List.mem_singleton.2 e))
    fun hw => ha (List.mem_cons_of_mem _ hw)))

/-! ### The LF clock (R21) -/

/-- A move of the AON domain to or from LFXO. -/
theorem lfTo_run (xo again : Bool) (s : State) : (lfTo xo again).run s =
    rtcClocks.run ((setB CLK_STATUS_LF_XO xo).run ((clkEng fun e => { e with lfXo := xo, lfTry := again }).run s)) := by
  rw [lfTo]
  repeat rw [run_blk_cons]
  rw [run_blk_nil]

theorem lfTo_clk (xo again : Bool) (s : State) : ((lfTo xo again).run s).eng.clk = { s.eng.clk with lfXo := xo, lfTry := again } := by
  rw [lfTo_run, rtcClocks_clk]
  rfl

theorem lfTo_status (xo again : Bool) (s : State) : ((lfTo xo again).run s).b CLK_STATUS_LF_XO = xo := by
  rw [lfTo_run, rtcClocks_b (by decide), b_setB_same (by decide) (by decide)]

/-- The calendar shows the source of the LF clock. -/
theorem rtcClocks_lfXo (s : State) : (rtcClocks.run s).b RTC_STATUS_LF_XO = s.eng.clk.lfXo := by
  have htail : ∀ c g, (blk [whenB c (set RTC_STATUS_CAL 0), rtcEng g]).Fixes (State.f · RTC_STATUS_LF_XO) := fun c g =>
    fixes_blk_cons (fixes_whenB (fixes_f_set (by decide) _)) (fixes_blk_cons (fixes_f_eng _) fixes_blk_nil)
  rw [rtcClocks, run_dyn, run_blk_cons, (htail _ _).b, b_setB_same (by decide) (by decide)]

theorem lfTo_calendar (xo again : Bool) (s : State) : ((lfTo xo again).run s).b RTC_STATUS_LF_XO = xo := by
  rw [lfTo_run, rtcClocks_lfXo]
  rfl

theorem fixes_reg_lfTo {a : Nat} (h1 : CLK_STATUS ≠ a) (h2 : RTC_STATUS ≠ a) (xo again : Bool) : (lfTo xo again).Fixes (State.reg · a) :=
  fixes_blk_cons (fixes_reg_eng _) (fixes_blk_cons (fixes_reg_setB h1 _) (fixes_blk_cons (fixes_reg_rtcClocks h2) fixes_blk_nil))

theorem RegFree.lfTo {β : Type} {g : State → β} (h : RegFree g) (xo again : Bool) : (lfTo xo again).Fixes g :=
  fixes_blk_cons (h.engine _) (fixes_blk_cons (h.setB _ _) (fixes_blk_cons h.rtcClocks fixes_blk_nil))

theorem lfxoQualified_run {s : State} (ht : s.eng.clk.lfTry = true) (hs : s.b CLK_LF_CFG_SEL_RC = false) :
    lfxoQualified.run s = (lfTo true true).run s := by
  rw [lfxoQualified, run_whenS_pos (c := fun s => s.eng.clk.lfTry && !s.b CLK_LF_CFG_SEL_RC) (by rw [ht, hs]; rfl)]

theorem sameBut_lfxoQualified (s : State) : sameBut [CLK_STATUS, RTC_STATUS] [] s (lfxoQualified.run s.linksQuiet) :=
  sameBut_of_regFree (p := lfxoQualified)
    (fun _ ha _ => fixes_whenS (fixes_reg_lfTo (fun e => ha (by simp [← e])) (fun e => ha (by simp [← e])) _ _))
    (fun h => fixes_whenS (h.lfTo _ _)) s

theorem lfxoLoss_run {s : State} (h : s.eng.clk.lfXo = true) : lfxoLoss.run s =
    (incSat CLK_FAIL_CNT_LF_FAILS).run ((event CLK_EVT_RAW_LF_FAIL).run ((lfTo false false).run s)) := by
  rw [lfxoLoss, run_whenS_pos (c := fun s => s.eng.clk.lfXo) h]
  repeat rw [run_blk_cons]
  rw [run_blk_nil]

/-- What is said of the LF source in the clock engine speaks of the clocks alone: an ascent from DORMANT starts the root only. -/
theorem clockOnly_lfXo (v : Bool) : ClockOnly fun s => s.eng.clk.lfXo = v :=
  have hset : ∀ (x : Fld) (n : Nat), (set x n).Holds fun s => s.eng.clk.lfXo = v := fun _ _ _ h => h
  { set := fun x n _ => hset x n
    eng := fun _ hg s h => (congrArg ClkEng.lfXo (hg s.eng)).trans h
    draw := fun _ h => h
    rise := holds_whenS (holds_dyn fun _ => holds_whenB (holds_blk_cons (hset _ _) (holds_blk_cons (hset _ _)
      (holds_blk_cons (fun _ h => h) holds_blk_nil)))) }

/-- LFXO is lost: the AON domain is on the LFRC, the flag stands, and the loss is counted (R21). -/
theorem lfxoLoss_post {s : State} (h : s.eng.clk.lfXo = true) : (lfxoLoss.run s).eng.clk.lfXo = false ∧
    (lfxoLoss.run s).b CLK_STATUS_LF_XO = false ∧ (lfxoLoss.run s).b CLK_EVT_RAW_LF_FAIL = true ∧
    (lfxoLoss.run s).f CLK_FAIL_CNT_LF_FAILS = satInc CLK_FAIL_CNT_LF_FAILS.wd (s.f CLK_FAIL_CNT_LF_FAILS) := by
  have hxo : ((event CLK_EVT_RAW_LF_FAIL).run ((lfTo false false).run s)).eng.clk.lfXo = false :=
    (clockOnly_lfXo false).event (fun _ hs => hs) _ (congrArg ClkEng.lfXo (lfTo_clk false false s))
  have hcnt : ((event CLK_EVT_RAW_LF_FAIL).run ((lfTo false false).run s)).f CLK_FAIL_CNT_LF_FAILS = s.f CLK_FAIL_CNT_LF_FAILS :=
    ((fixes_f_event (by decide) (by decide)).eq _).trans ((fixes_reg_lfTo (by decide) (by decide) _ _).field s)
  rw [lfxoLoss_run h, clk_incSat, hxo, b_incSat_apart (by decide), b_incSat_apart (by decide), f_incSat_same (by decide), hcnt]
  exact ⟨rfl, ((fixes_f_event (by decide) (by decide)).b _).trans (lfTo_status _ _ _),
    event_flag _ (by decide) (by decide) (by decide) (by decide) _, rfl⟩

theorem sameBut_lfxoLoss (s : State) :
    sameBut ([CLK_EVT_RAW, CLK_FAIL_CNT, RTC_STATUS] ++ wakeRegs) [pgMODE] s (lfxoLoss.run s.linksQuiet) := by
  refine sameBut_of_regFree (p := lfxoLoss) (fun a ha hm => fixes_whenS ?_)
    (fun h => fixes_whenS (fixes_blk_cons (h.lfTo _ _) (fixes_blk_cons (h.event _) (fixes_blk_cons (h.incSat _) fixes_blk_nil)))) s
  exact fixes_blk_cons (fixes_reg_lfTo (fun e => ha (by simp [← e, wakeRegs])) (fun e => ha (by simp [← e])) _ _)
    (fixes_blk_cons (fixes_reg_event (Fld.reg_ne ha (by decide)) (fun e => hm (List.mem_singleton.2 e))
      fun hw => ha (List.mem_append_right _ hw))
    (fixes_blk_cons (fixes_reg_incSat (Fld.reg_ne ha (by decide))) fixes_blk_nil))

theorem rowAt_lfCfg : ∃ r, rowAt CLK_LF_CFG = some r ∧ r.acc = .rw := ⟨_, rfl, rfl⟩

theorem rowAt_steer : ∃ r, rowAt CLK_STEER = some r ∧ r.acc = .rwMgr := ⟨_, rfl, rfl⟩

/-- A write that CLK_LF_CFG takes selects the source (R21). -/
theorem writeEffect_lfCfg (src : Src) (w : Word) : writeEffect src CLK_LF_CFG w = lfCfgWrite w := by
  obtain ⟨r, hr, hk⟩ := rowAt_lfCfg
  simp only [writeEffect, hr, hk]
  simp [rwWrite, offOf, CLK_LF_CFG, MODE_REQ]

/-- A write that CLK_STEER takes sets the trim asked for (R17). -/
theorem writeEffect_steer (src : Src) (w : Word) : writeEffect src CLK_STEER w = steerWrite w := by
  obtain ⟨r, hr, hk⟩ := rowAt_steer
  simp only [writeEffect, hr, hk]
  simp [rwWrite, offOf, CLK_STEER, CLK_LF_CFG, MODE_REQ]

/-- A one-bit field of a word is 0 or 1. -/
theorem selRc_cases (w : Word) : CLK_LF_CFG_SEL_RC.of w = 0 ∨ CLK_LF_CFG_SEL_RC.of w = 1 := by
  have : CLK_LF_CFG_SEL_RC.of w < 2 ^ 1 := getBits_toNat_lt w _ _
  omega

theorem lfCfgWrite_run (w : Word) (s : State) : (lfCfgWrite w).run s =
    (lfTo (s.eng.clk.lfXo && !(CLK_LF_CFG_SEL_RC.of w == 1)) (!(CLK_LF_CFG_SEL_RC.of w == 1))).run
      ((set CLK_LF_CFG_SEL_RC (b2n (CLK_LF_CFG_SEL_RC.of w == 1))).run s) := by
  rw [lfCfgWrite, run_dyn, run_seq, setB_eq]

theorem lfCfgWrite_post (w : Word) (s : State) : ((lfCfgWrite w).run s).f CLK_LF_CFG_SEL_RC = CLK_LF_CFG_SEL_RC.of w ∧
    ((lfCfgWrite w).run s).eng.clk.lfTry = (CLK_LF_CFG_SEL_RC.of w == 0) ∧
    ((lfCfgWrite w).run s).eng.clk.lfXo = (s.eng.clk.lfXo && CLK_LF_CFG_SEL_RC.of w == 0) := by
  have hf : ((lfCfgWrite w).run s).f CLK_LF_CFG_SEL_RC = b2n (CLK_LF_CFG_SEL_RC.of w == 1) % 2 ^ 1 := by
    rw [lfCfgWrite_run, (fixes_reg_lfTo (by decide) (by decide) _ _).f, f_set_same _ (by decide)]
    rfl
  rw [hf, lfCfgWrite_run, lfTo_clk]
  rcases selRc_cases w with h | h <;> rw [h] <;> exact ⟨rfl, rfl, rfl⟩

theorem sameBut_lfCfgWrite {s : State} {src : Src} {w : Word} (h : s.takes src CLK_LF_CFG w = true) :
    sameBut [CLK_LF_CFG, CLK_STATUS, RTC_STATUS] [] s ((access src CLK_LF_CFG w).run s.linksQuiet) := by
  refine sameBut_access_takes h (fun b hb _ => ?_) fun hg => ?_
  · rw [writeEffect_lfCfg]
    exact fixes_dyn fun _ => fixes_seq (fixes_reg_setB (Fld.reg_ne hb (by decide)) _)
      (fixes_reg_lfTo (fun e => hb (by simp [← e])) (fun e => hb (by simp [← e])) _ _)
  · rw [writeEffect_lfCfg]
    exact fixes_dyn fun _ => fixes_seq (hg.setB _ _) (hg.lfTo _ _)

/-! ### Steering (R17) -/

/-- A value within the range of `w` bits is the two's complement reading of its low `w` bits. -/
theorem signed_unsigned {w : Nat} (hw : 1 ≤ w) {v : Int} (h1 : -2 ^ (w - 1) ≤ v) (h2 : v < 2 ^ (w - 1)) : signed w (unsigned w v) = v := by
  obtain ⟨n, hn⟩ : ∃ n : Nat, n = 2 ^ (w - 1) := ⟨_, rfl⟩
  have hI : (2 : Int) ^ (w - 1) = n := by rw [hn]; norm_cast
  have hN : 2 ^ w = 2 * n := by rw [hn, ← Nat.pow_succ', Nat.succ_eq_add_one, Nat.sub_add_cancel hw]
  have hIN : (2 : Int) ^ w = 2 * n := by exact_mod_cast hN
  rw [hI] at h1 h2
  unfold signed unsigned
  rw [hIN, hN, ← hn]
  by_cases hv : 0 ≤ v
  · have hm : v % (2 * n) = v := Int.emod_eq_of_lt hv (by omega)
    have hl : v.toNat % (2 * n) = v.toNat := Nat.mod_eq_of_lt (by omega)
    rw [hm, if_pos (by omega), Int.toNat_of_nonneg hv, hm]
  · have hm : v % (2 * n) = v + 2 * n := by
      rw [← Int.add_emod_right, Int.emod_eq_of_lt (by omega) (by omega)]
    have hl : (v + 2 * n).toNat % (2 * n) = (v + 2 * n).toNat := Nat.mod_eq_of_lt (by omega)
    rw [hm, if_neg (by omega), Int.toNat_of_nonneg (by omega), Int.emod_eq_of_lt (by omega) (by omega)]
    omega

theorem unsigned_lt (w : Nat) (v : Int) : unsigned w v < 2 ^ w := by
  have h : (0 : Int) < 2 ^ w := Int.pow_pos (by decide)
  have h2 : v % 2 ^ w < ((2 ^ w : Nat) : Int) := by
    rw [Int.natCast_pow]
    exact Int.emod_lt_of_pos v h
  exact (Int.toNat_lt (Int.emod_nonneg v (Int.ne_of_gt h))).mpr h2

theorem clampInt_mem {lo hi : Int} (h : lo ≤ hi) (i : Int) : lo ≤ clampInt lo hi i ∧ clampInt lo hi i ≤ hi := by
  unfold clampInt
  split
  · omega
  · split <;> omega

theorem clampInt_of_mem {lo hi i : Int} (h1 : lo ≤ i) (h2 : i ≤ hi) : clampInt lo hi i = i := by
  unfold clampInt
  rw [if_neg (by omega), if_neg (by omega)]

/-- A value within the range of a two's complement field reads back. -/
theorem i_setI_same {x : Fld} (h : x.lo + x.wd ≤ 32) (hw : 1 ≤ x.wd) {v : Int} (h1 : -2 ^ (x.wd - 1) ≤ v) (h2 : v < 2 ^ (x.wd - 1)) (s : State) :
    ((setI x v).run s).i x = v := by
  rw [State.i, setI, clampInt_of_mem h1 (by omega), f_set_fit h (unsigned_lt _ _), signed_unsigned hw h1 h2]

theorem steerTo_run (lim v : Int) (s : State) : (steerTo lim v).run s =
    (whenB (v < -lim || lim < v) (event CLK_EVT_RAW_STEER_LIMIT)).run ((setI CLK_STEER_STEER (clampInt (-lim) lim v)).run s) := by
  rw [steerTo, run_seq]

/-- A steering value is held within the limit (R17). -/
theorem steerTo_post {lim : Int} (h0 : 0 ≤ lim) (h : lim < 2 ^ 19) (v : Int) (s : State) :
    ((steerTo lim v).run s).i CLK_STEER_STEER = clampInt (-lim) lim v := by
  obtain ⟨h1, h2⟩ := clampInt_mem (show -lim ≤ lim by omega) v
  have he : (whenB (decide (v < -lim) || decide (lim < v)) (event CLK_EVT_RAW_STEER_LIMIT)).Fixes (State.reg · CLK_STEER_STEER.reg) :=
    fixes_whenB (fixes_reg_event (by decide) (by decide) (by decide))
  rw [steerTo_run, State.i, he.f]
  exact i_setI_same (by decide) (by decide) (show -2 ^ 19 ≤ _ by omega) (show _ < (2 : Int) ^ 19 by omega) s

theorem sameBut_steerWrite {s : State} {src : Src} {w : Word} (h : s.takes src CLK_STEER w = true) :
    sameBut ([CLK_STEER, CLK_EVT_RAW] ++ wakeRegs) [pgMODE] s ((access src CLK_STEER w).run s.linksQuiet) := by
  refine sameBut_access_takes h (fun b hb hm => ?_) fun hg => ?_
  · rw [writeEffect_steer]
    exact fixes_seq (fixes_reg_setI (Fld.reg_ne hb (by decide)) _) (fixes_whenB (fixes_reg_event (Fld.reg_ne hb (by decide))
      (fun e => hm (List.mem_singleton.2 e)) fun hw => hb (List.mem_append_right _ hw)))
  · rw [writeEffect_steer]
    exact fixes_seq (hg.set _ _) (fixes_whenB (hg.event _))

/-- Settles O6, clause by clause from what each row's program runs and leaves alone. -/
theorem rootReturnAndLfClock : Obligations.rootReturnAndLfClock := by
  refine ⟨fun src key s h hc hr hw => ⟨_, rfl, ?_⟩, fun s h => ⟨_, rfl, ?_⟩, fun s h hc => ⟨_, rfl, ?_⟩, fun s ht hs => ⟨_, rfl, ?_⟩,
    fun s h => ⟨_, rfl, ?_⟩, fun src w s h => ⟨_, rfl, ?_⟩, fun src w s h => ⟨_, rfl, ?_⟩⟩
  · obtain ⟨h1, h2⟩ := rootRetry_post (s := s.linksQuiet) h hc hr hw
    exact ⟨h1, h2, sameBut_rootRetry h⟩
  · obtain ⟨h1, h2, h3, h4, h5⟩ := retrySuccess_post (s := s.linksQuiet) h
    exact ⟨h1, h2, h3, h4, h5, sameBut_retrySuccess s⟩
  · obtain ⟨h1, h2, h3⟩ := retryFail_post (s := s.linksQuiet) h hc
    exact ⟨h1, h2, h3, sameBut_retryFail s⟩
  · refine ⟨?_, ?_, ?_, sameBut_lfxoQualified s⟩
    · rw [lfxoQualified_run (s := s.linksQuiet) ht hs, lfTo_clk]
    · rw [lfxoQualified_run (s := s.linksQuiet) ht hs, lfTo_status]
    · rw [lfxoQualified_run (s := s.linksQuiet) ht hs, lfTo_calendar]
  · obtain ⟨h1, h2, h3, h4⟩ := lfxoLoss_post (s := s.linksQuiet) h
    exact ⟨h1, h2, h3, h4, sameBut_lfxoLoss s⟩
  · obtain ⟨r, hr⟩ := rawDrop_run CLK_LF_CFG ((Act.outc .ok).apply s.linksQuiet)
    obtain ⟨h1, h2, h3⟩ := lfCfgWrite_post w ((rawDrop CLK_LF_CFG).run ((Act.outc .ok).apply s.linksQuiet))
    rw [← writeEffect_lfCfg src, ← run_access_takes (s := s.linksQuiet) h] at h1 h2 h3
    rw [hr] at h3
    exact ⟨h1, h2, h3, sameBut_lfCfgWrite h⟩
  · refine ⟨?_, sameBut_steerWrite h⟩
    rw [run_access_takes (s := s.linksQuiet) h, writeEffect_steer]
    exact steerTo_post (by decide) (by decide) _ _

end Sys2Proof.Machine
end

section
/-!
PROOF. SHADOW written (R55, R56): a REQ that comes with SRC = 0b11 is judged against the SRC that the write leaves, and latches under HOST.
-/
namespace Sys2Proof.Machine

/-- Every page's SHADOW is an RW register, by the page's own row or by that of the common header (R49). -/
theorem acc_hdrShadow (page : Fin 40) : ∃ r, rowAt (hdrShadow page.val) = some r ∧ r.acc = .rw := by
  have h : ∀ p : Fin 40, ((rowAt (hdrShadow p.val)).map fun r => r.acc) = some .rw := by decide
  simpa using h page

theorem pageOf_hdrShadow (p : Nat) : pageOf (hdrShadow p) = p := by
  simp only [pageOf, hdrShadow]
  omega

theorem offOf_hdrShadow (p : Nat) : offOf (hdrShadow p) = 0x01C := by
  simp only [offOf, hdrShadow]
  omega

/-- A write that SHADOW takes is judged as R56 says. -/
theorem writeEffect_hdrShadow (src : Src) (page : Fin 40) (w : Word) :
    writeEffect src (hdrShadow page.val) w = shadowWrite page.val w := by
  obtain ⟨r, hr, hacc⟩ := acc_hdrShadow page
  simp [writeEffect, hr, hacc, rwWrite, pageOf_hdrShadow, offOf_hdrShadow]

/-- A latch increments SEQ, which wraps from 0xFF to 0x00 (R55, R57). -/
theorem f_latch_shadowSeq (p : Nat) (s : State) : ((latch p).run s).f (shadowSeq p) = (s.f (shadowSeq p) + 1) % 256 := by
  have hcopies : (forEach (shdAddrs p) fun a => .act (.shd a (s.reg a))).Fixes (State.f · (shadowSeq p)) :=
    fixes_forEach fun _ _ => fixes_act fun _ => rfl
  simp only [latch, run_seq, incWrap, upd, run_dyn]
  rw [f_set_same (shadowSeq p) (show 16 + 8 ≤ 32 by decide), hcopies.eq]
  rfl

/-- SRC = 0b11 is not accepted: with REQ, the SRC that stands being HOST and the shadow not frozen, the write is a latch (R56). -/
theorem run_shadowWrite_keptHost {p : Nat} {w : Word} {s : State} (hp : hasShd p = true) (hw : getBits w 0 2 = 3)
    (hreq : bitOf w.toNat 2 = true) (hsrc : s.f (shadowSrc p) = 1) (hfrozen : s.b (shadowFrozen p) = false) :
    (shadowWrite p w).run s = (latch p).run s := by
  simp [shadowWrite, hp, hw, hreq, hsrc, hfrozen]

/-- SEQ after SHADOW is written SRC = 0b11 with REQ while SRC is HOST. -/
theorem f_exec_shadowWrite_keptHost {src : Src} {page : Fin 40} {w : Word} {s t : State} (ht : exec (.shadowWrite src page w) s = .next t)
    (h : s.takes src (hdrShadow page.val) w = true) (hp : hasShd page.val = true) (hw : getBits w 0 2 = 3)
    (hreq : bitOf w.toNat 2 = true) (hsrc : s.f (shadowSrc page.val) = 1) (hfrozen : s.b (shadowFrozen page.val) = false) :
    t.f (shadowSeq page.val) = (s.f (shadowSeq page.val) + 1) % 256 := by
  have hrun : t = (access src (hdrShadow page.val) w).run s.linksQuiet := (Host.Outcome.next.inj ht).symm
  have hf (x : Fld) : ((rawDrop (hdrShadow page.val)).run ((Act.outc .ok).apply s.linksQuiet)).f x = s.f x := by
    rw [State.f, rawDrop_reg]
    rfl
  have hfrozen' : ((rawDrop (hdrShadow page.val)).run ((Act.outc .ok).apply s.linksQuiet)).b (shadowFrozen page.val) = false := by
    rwa [State.b, hf]
  rw [hrun, run_access_takes (s := s.linksQuiet) h, writeEffect_hdrShadow,
    run_shadowWrite_keptHost hp hw hreq ((hf _).trans hsrc) hfrozen', f_latch_shadowSeq, hf]

/-- Refutes O27, by its second clause on SHADOW: a write of SRC = 0b11 is said to leave SEQ, but with REQ it latches where SRC stands at
HOST (R56).  On page CELL of a worker in ATTEND, SRC being HOST, a core writes 7, and SEQ goes from 0 to 1. -/
theorem not_registerBusWrites : ¬ Obligations.registerBusWrites := by
  unfold Obligations.registerBusWrites
  intro h
  obtain ⟨-, -, -, -, -, -, -, hshadow, -⟩ := h
  obtain ⟨t, ht, hkept, -⟩ := hshadow .core ⟨pgCELL, by decide⟩ 7
    { State.reset with regs := [(IDENT_ROLE, 1), (MODE_CUR, 3), (RST_BOOT, 8), (hdrShadow pgCELL, 1)] }
    (by decide) (by decide) (.inl (by decide))
  have hlatched := f_exec_shadowWrite_keptHost ht (by decide) (by decide) (by decide) (by decide) (by decide) (by decide)
  exact absurd (hkept.symm.trans hlatched) (by decide)

end Sys2Proof.Machine
end
